-- ==== Sys2Proof/Word.lean ====
section
/-! DEFINITION. The word types of the module (00_scope R8, R9) and their plainest operations. -/

namespace Sys2Proof

/-- A byte. -/
abbrev Byte := BitVec 8
/-- A 32-bit register or lane. -/
abbrev Word := BitVec 32
/-- A 64-bit scalar, step index or package time. -/
abbrev Word64 := BitVec 64
/-- A W36 value (03_tensor_number_formats R108): sign, 10-bit exponent, 25-bit fraction. -/
abbrev W36 := BitVec 36
/-- A cause code (00_scope R16). -/
abbrev Cause := BitVec 8

/-- Bits `[lo + n - 1 : lo]` of a number. -/
def bitsOf (w lo n : Nat) : Nat := (w >>> lo) % 2 ^ n

/-- One bit of a number. -/
def bitOf (w i : Nat) : Bool := w.testBit i

/-- A Bool as a bit. -/
def b2n (b : Bool) : Nat := if b then 1 else 0

namespace Cause
/-! The cause codes of 00_scope R16. -/
def none : Cause := 0x00
def dieReset : Cause := 0x01
def computeReset : Cause := 0x02
def linkDown : Cause := 0x03
def pathChanged : Cause := 0x04
def memUncorrectable : Cause := 0x05
def sramUncorrectable : Cause := 0x06
def timeout : Cause := 0x07
def nonfiniteUpdate : Cause := 0x08
def normLimit : Cause := 0x09
def digestMismatch : Cause := 0x0A
def streamSkew : Cause := 0x0B
def authFail : Cause := 0x0C
def keyErased : Cause := 0x0D
def counterExhausted : Cause := 0x0E
def tableBusy : Cause := 0x0F
def powerLoss : Cause := 0x10
def thermal : Cause := 0x11
def planReject : Cause := 0x12
def quorumLost : Cause := 0x13
def staleDropped : Cause := 0x14
def targetResetting : Cause := 0x15
def partnerSameFeed : Cause := 0x16
def deferralLimit : Cause := 0x17
end Cause

end Sys2Proof
end

