-- ==== Sys2Proof/Image.lean ====
section
/-! DEFINITION. The content of a configuration image (18_configuration R618, R619). R619 says what each
section holds and gives no byte layout of the sections, so the content is held as data (log entry 6,
DESIGN CHOICE). Values an image may hold out of range stay representable: the checks that refuse an
image are the machine's (Sys2Proof/Machine/ImageCheck.lean). -/

namespace Sys2Proof

/-- A launch slot's settings (02_dataflow R80). -/
structure LaunchCfg where
  slot : Nat
  participants : List Nat
  lead : Nat := 1000
  spacing : Nat := 0
  groupSize : Nat := 16
  groupSpacing : Nat := 8
  /-- true: DIE_SEQUENTIAL; false: DIE_INTERLEAVED -/
  sequential : Bool := false
  deriving DecidableEq, Repr

/-- A scale recipe (09_training R302, R303). -/
structure RecipeCfg where
  index : Nat
  kind : Nat
  scale : Byte
  deriving DecidableEq, Repr

/-- One entry of a layer's patch list (09_training R310): a step-list entry and, per gradient format
code, the descriptor address. -/
structure PatchCfg where
  entry : Nat
  layer : Nat
  addrs : List (Nat × Nat)
  deriving DecidableEq, Repr

/-- The update rules whose kernels Ivzimos supplies (10_parameter R355). -/
inductive InnerRule where
  | sgd | momentum | adamw
  deriving DecidableEq, Repr

/-- One CORE section (18_configuration R619). -/
structure CoreCfg where
  core : Nat
  stepList : Nat := 0
  /-- start index of each queue, none: unused -/
  queues : List (Option Nat) := []
  /-- wait limit of each queue in ns (02_dataflow R76) -/
  waits : List Nat := []
  kernel : List (Nat × BitVec 64) := []
  /-- starts in the kernel region at which a supplied update kernel stands (10_parameter R355) -/
  supplied : List (Nat × InnerRule) := []
  recipes : List RecipeCfg := []
  /-- SRAM load list: offset and bytes -/
  sram : List (Nat × List Byte) := []
  gateRing : Nat := 0
  gateCtr : Nat := 0
  selectorCtr : Nat := 0
  commitCtr : Nat := 0
  /-- some FIRST for a contributing core (09_training R313) -/
  gateFirst : Option Nat := none
  patches : List PatchCfg := []
  /-- arrival counters saved at the seal (14_checkpoint R513) -/
  ckCounters : List Nat := []
  deriving DecidableEq, Repr

/-- A shard descriptor (10_parameter R325). -/
structure ShardCfg where
  tid : Nat
  pool : Bool
  nslot : Nat
  moments : Nat
  momBf16 : Bool
  omFmt : Nat
  rank : Nat
  dims : List Nat
  boxStart : List Nat
  boxExt : List Nat
  slotBase : List Nat
  anchorBase : Nat
  omBase : Nat
  commitBase : Nat
  parkBase : Nat
  windowBase : Nat
  segCount : Nat
  deferMax : Nat
  replicaSet : Nat
  deriving DecidableEq, Repr

/-- One model layer of the LAYERS section (09_training R309 to R323). -/
structure LayerCfg where
  layer : Nat
  /-- tap sets of the contributing cores that map to this layer (set numbers) -/
  tapSets : List Nat
  /-- gradient format code 0x0, 0x1, 0x2 or 0x4 -/
  format : Nat
  /-- layer limit, FP32 bits, 0 for none -/
  limit : Word
  vf : Nat := 10
  n : Nat := 100
  /-- 0 CONTINUE, 1 WIDEN, 2 HALT -/
  policy : Nat := 0
  elements : Nat := 0
  deriving DecidableEq, Repr

/-- A pool window entry (11_memory R381). -/
structure PoolCfg where
  base : Nat
  size : Nat
  hpa : Nat
  /-- true: HOST; false: FAM -/
  host : Bool
  deriving DecidableEq, Repr

/-- A checkpoint target (14_checkpoint R497, R498). KIND 0 PARTNER, 1 POOL, 2 HOST, 3 REMOTE. -/
structure TargetCfg where
  kind : Nat
  base : Nat
  size : Nat
  site : Nat
  every : Nat
  deriving DecidableEq, Repr

/-- The outer rule (13_freyn R458, R472): one of the two supplied, or a kernel of the image. -/
inductive OuterRule where
  | avg | nesterov | custom
  deriving DecidableEq, Repr

/-- A route of a remote site (13_freyn R450). `nextHop` is a static MAC address (6 bytes) or the next hop's IP address (R449). -/
structure RouteCfg where
  site : Nat
  second : Bool
  port : Nat
  localAddr : List Byte
  remoteAddr : List Byte
  nextHop : List Byte
  vlan : Option Nat
  deriving DecidableEq, Repr

/-- The association (13_freyn R458). -/
structure AssocCfg where
  assoc : Nat
  site : Nat
  members : Nat
  q : Nat
  h : Nat
  serial : Bool := false
  deadline : Nat := 300
  closeWait : Nat := 60
  fetchLimit : Nat := 600
  rate : Nat := 4
  carried : Nat := 9
  tableId : Nat := 0x0904
  cslot : Nat := 0
  staleness : List Word := [0x3F800000, 0x3F000000, 0x3E800000]
  priority : List Nat := []
  outerRule : OuterRule := .nesterov
  /-- kernel entry of a custom outer rule -/
  outerKernel : Nat := 0
  roundShards : List Nat := []
  offcutBase0 : Nat := 0
  offcutBase1 : Nat := 0
  sendBase : Nat := 0
  recvBases : List (Nat × Nat) := []
  pendingBase : Nat := 0
  journalBase : Nat := 0
  routes : List RouteCfg := []
  /-- RATE in Mb/s -/
  mbps : Nat := 10000
  weights : List Nat := [4, 4, 1]
  dscp : List Nat := []
  udpPort : Nat := 47710
  keyBits256 : Bool := true
  joinFull : Bool := false
  deriving DecidableEq, Repr

/-- An intake ring (18_configuration R636). -/
structure RingCfg where
  nb : Nat
  bufSize : Nat
  consumers : List (Nat × Nat)
  releaseCore : Nat
  releaseCtr : Nat
  deriving DecidableEq, Repr

/-- A PLAN result ring (18_configuration R640, R644). -/
structure PlanRingCfg where
  ring : Nat
  base : Nat
  recSize : Nat
  nr : Nat
  core : Nat
  written : Nat
  free : Nat
  freeCount : Nat
  deriving DecidableEq, Repr

/-- The content of an image: R618's header fields and the sections of R619. -/
structure Image where
  magic : Nat := 0x4943444B
  format : Nat := 1
  /-- TYPE of every entry of the section table, in order -/
  sectionTypes : List Nat := []
  length : Nat := 0
  job : Nat := 0
  imageSeq : Nat := 0
  variant : Nat := 0
  ownerKey : Nat := 0
  startHold : Bool := false
  ownerPub : List Byte := []
  -- MODULE
  site : Nat := 0
  node : Nat := 0
  axes : List Nat := [1, 1, 1, 1]
  floors : List Nat := [8, 8, 8, 8]
  detours : List Bool := [true, true, true, true]
  axesUsed : List Bool := [true, true, true, true]
  seed : Nat := 0
  m : Nat := 1
  flushed : Bool := true
  lag : Nat := 0
  lsInit : Nat := 16
  lsMin : Nat := 0
  lsMax : Nat := 32
  growth : Nat := 2000
  /-- global limit G, FP32 bits -/
  globalLimit : Word := 0
  gateSets : Nat := 1
  gateWait : Nat := 10000000000
  tableWait : Nat := 10000000
  deferWait : Nat := 10000000000
  poolTimeout : Nat := 50000000
  fabricTimeout : Nat := 100000000
  drainLimit : Nat := 1000000
  retryWindow : List Nat := [0, 0, 0, 500000000]
  linkWait : Nat := 60000000000
  tcWeights : List Nat := [4, 4, 1]
  /-- true: HOLD; false: RESTORE -/
  haltHold : Bool := false
  restoreLimit : Nat := 3
  skewRefuse : Bool := false
  verifyTrust : Bool := false
  startRestore : Bool := false
  digestInterval : Nat := 0
  /-- members of the digest replica sets: set and node (10_parameter R359 names no layout) -/
  replicaCoord : List (Nat × Nat) := []
  layerEvery : Nat := 1
  telemetry : Nat := 60
  -- GOVERNOR: target in M tokens/s and junction target per die, none: the default of 02_dataflow R47 and R50
  targets : List (Option Nat) := []
  junctions : List (Option Nat) := []
  launch : List LaunchCfg := []
  cores : List CoreCfg := []
  shards : List ShardCfg := []
  layers : List LayerCfg := []
  pool : List PoolCfg := []
  -- CHECKPOINT
  ckInterval : Nat := 0
  ckTargets : List TargetCfg := []
  partnerPorts : List Nat := []
  copyRegion : Nat := 0
  partnerForce : Bool := false
  assoc : Option AssocCfg := none
  keys : List (List Byte) := []
  -- HOST
  intakeBase : Nat := 0
  intakeSize : Nat := 0
  rings : List RingCfg := []
  planRings : List PlanRingCfg := []
  stepLimit : Nat := 0
  deriving DecidableEq, Repr

end Sys2Proof
end

