-- ==== Sys2Proof/Syntax.lean ====
section
/-! DEFINITION. The commands the module takes: one constructor per row of spec/opcode_table.json, in its
order. The table gives no operands; each constructor carries the acting engine (core, queue, port, ...)
and what arrives from outside (log entry 1, DESIGN CHOICE). What an engine works on (step-list entry,
descriptor, kernel instruction, packet) is read from State. Where the spec gives a message no byte
layout (13_freyn R454, firmware messages on TC0), its fields come as data. -/

namespace Sys2Proof

/-- One layer's gate totals (09_training R314, R320): gradient sum of squares and vanished count, and the
WEIGHT and UPDATE sums that the layer record carries. -/
structure LayerTotals where
  layer : Nat
  gradient : W36
  vanished : Nat
  weight : W36
  update : W36
  deriving DecidableEq, Repr

/-- A TC0 axis-stage message of gate totals (09_training R314). -/
structure GateTotals where
  step : Word64
  layers : List LayerTotals
  deriving DecidableEq, Repr

/-- Status of a CXL completion (11_memory R384). -/
inductive PoolStatus where
  | success | poisoned | unsupported
  deriving DecidableEq, Repr

/-- Identity sent in EXCHANGE (12_torus R404). -/
structure PortIdentity where
  site : Nat
  job : Nat
  node : Nat
  port : Nat
  feed : Nat
  serial : Nat
  deriving DecidableEq, Repr

/-- A lane's test at LANE_MAP or in service (12_torus R402): bits received and bit errors before FEC. -/
structure LaneTest where
  bits : Nat
  errors : Nat
  deriving DecidableEq, Repr

/-- Tests of a port's lanes at this end, and the mask of those that pass at the other (12_torus R402). -/
structure LaneResults where
  tests : List LaneTest
  goodOut : Nat
  deriving DecidableEq, Repr

/-- What the module's converter sees of a strap pin (17_module_signals R609): nothing connected to it, or its voltage and VSTBY in
microvolts. -/
inductive StrapPin where
  | unconnected
  | level (pin vstby : Nat)
  deriving DecidableEq, Repr

/-- The IP and UDP headers of a received packet (13_freyn R448): its addresses, whether it carries an IPv6 extension header, its
ports and its UDP checksum. -/
structure NetHeader where
  source : List Byte
  dest : List Byte
  extension : Bool := false
  srcPort : Nat
  destPort : Nat
  sum : Nat
  deriving DecidableEq, Repr

/-- A Freyn packet as it arrives on a WAN port: the headers around it, its header (13_freyn R453), its payload as encrypted and its
tag (R485). The command's body is what the payload says. -/
structure FrnHeader where
  wanPort : Nat
  net : NetHeader
  version : Nat
  type : Nat
  resend : Bool
  second : Bool
  rekey : Bool
  flagsReserved : Nat
  src : Nat
  dst : Nat
  keyEpoch : Nat
  assoc : Nat
  ctr : Nat
  ctrPort : Nat
  ctrReserved : Nat
  seq : Nat
  length : Nat
  reserved5 : Nat := 0
  reserved30 : Nat := 0
  cipher : List Byte
  tag : List Byte
  deriving DecidableEq, Repr

/-- HEARTBEAT payload (13_freyn R454). `kind` of the last closed round: 0 FULL, 1 PARTIAL, 2 ORPHAN. -/
structure HeartbeatBody where
  openRound : Nat
  lastClosed : Option Nat
  lastKind : Nat
  state : Nat
  active : Nat
  held : Nat
  deriving DecidableEq, Repr

/-- DELTA fragment header (13_freyn R456). -/
structure DeltaFragment where
  round : Nat
  baseRound : Nat
  firstBlock : Nat
  totalBlocks : Nat
  blocks : Nat
  tableId : Nat
  rate : Nat
  pending : Bool
  streamCrc : Word64
  reserved38 : Nat := 0
  reserved48 : Nat := 0
  deriving DecidableEq, Repr

/-- A range of SEQ in an ACK: first and count (13_freyn R454). -/
structure SeqRange where
  first : Nat
  count : Nat
  deriving DecidableEq, Repr

/-- One included delta of a proposal (13_freyn R454). -/
structure Included where
  site : Nat
  baseRound : Nat
  weight : Word
  crc : Word64
  deriving DecidableEq, Repr

/-- PROPOSE payload (13_freyn R454). -/
structure ProposeBody where
  round : Nat
  mask : Nat
  included : List Included
  deriving DecidableEq, Repr

/-- CLOSE payload (13_freyn R454). -/
structure CloseBody where
  proposal : ProposeBody
  accepting : Nat
  nextActive : Nat
  deriving DecidableEq, Repr

/-- Objects a FETCH may name (13_freyn R454, R471, R479, R481; checkpoint pieces R451). -/
inductive FetchObject where
  | deltaOf (site : Nat)
  | anchor
  | momentum
  | slotImage
  | openRound
  | checkpoint (target : Nat)
  deriving DecidableEq, Repr

/-- FETCH payload. -/
structure FetchBody where
  object : FetchObject
  round : Nat
  first : Nat
  length : Nat
  deriving DecidableEq, Repr

/-- DATA payload. -/
structure DataBody where
  object : FetchObject
  round : Nat
  offset : Nat
  data : List Byte
  deriving DecidableEq, Repr

/-- JOIN payload: a rebase in progress, a join request, or a completed join (13_freyn R479, R481, R475). -/
inductive JoinBody where
  | rebasing | request | complete
  deriving DecidableEq, Repr

/-- A manifest copy read at a target (14_checkpoint R508, R515): copy 0 or 1 and its bytes, and at a PARTNER the round with which its
round state is tagged (R499). -/
structure ManifestCopy where
  target : Nat
  copy : Nat
  bytes : List Byte
  roundTag : Nat
  deriving DecidableEq, Repr

/-- A shard piece loaded from a target (14_checkpoint R515 step 4): the bytes of its export (10_parameter R360). At a PARTNER the anchor and
the outer momentum lie outside the piece (R499). -/
structure PieceLoad where
  target : Nat
  bytes : List Byte
  anchor : List Byte
  momentum : List Byte
  deriving DecidableEq, Repr

/-- A core record (14_checkpoint R512). -/
structure CoreRecord where
  core : Nat
  counters : List (Nat × Word)
  /-- per queue: head index, JUMP remaining counts with their entries, retired -/
  queues : List (Nat × List (Nat × Nat) × Bool)
  updStep : Nat
  deriving DecidableEq, Repr

/-- The module record (14_checkpoint R512) with the core records of the same checkpoint. -/
structure ModuleRecord where
  step : Nat
  ls : List Nat
  growthRun : Nat
  /-- layer, format in force at `step`, silent run, vanishing run -/
  layers : List (Nat × Nat × Nat × Nat)
  /-- widenings decided and not yet in force: layer, and the step and format of each -/
  pending : List (Nat × List (Nat × Nat)) := []
  openRound : Nat
  lastApplied : Option Nat
  cur : Bool
  anchorRound : Nat
  cores : List CoreRecord
  deriving DecidableEq, Repr

/-- What firmware loads into a cipher slot (15_security R549, R552, R553). Usage 0 SEND, 1 RECV, 2 KDF,
3 GENERAL. -/
structure SlotLoad where
  key : List Byte
  usage : Nat
  site : Nat
  epoch : Nat
  fixed : Nat
  deriving DecidableEq, Repr

/-- What an owner command carries (15_security R537): nonce, the signer's public key and OWNER_KEY_HASH entry,
and the signature r ‖ s. -/
structure OwnerAuth where
  nonce : List Byte
  keyEntry : Nat
  pub : List Byte
  sig : List Byte
  deriving DecidableEq, Repr

/-- Source of a reset (16_power R597, PWR.LAST_RESET SOURCE). -/
inductive ResetSource where
  | input | resetInput | i3c | mailbox | firmware | restore | thermalTrip
  deriving DecidableEq, Repr

/-- The commands. Every constructor's line cites its rule. -/
inductive Instr where
  /-- WAIT (R70). A WAIT entry issues once its counters and fence conditions hold; it has no other action. -/
  | wait (core : Nat) (q : Nat)
  /-- ADD_ENTRY (R70). An ADD entry advances a local arrival counter by its increment. -/
  | addEntry (core : Nat) (q : Nat)
  /-- JUMP (R71). A JUMP entry jumps to its target LOOP − 1 times, then continues, keeping its own remaining count. -/
  | jump (core : Nat) (q : Nat)
  /-- END_ENTRY (R70). An END entry retires its queue. -/
  | endEntry (core : Nat) (q : Nat)
  /-- QUEUE_TIMEOUT (R76). A queue whose head entry has waited past its wait limit halts with TIMEOUT. -/
  | queueTimeout (core : Nat) (q : Nat)
  /-- LAUNCH_ARRIVAL (R82). A LAUNCH entry whose conditions 1, 2, 3 and 5 hold sends one arrival for its slot to the launch unit. -/
  | launchArrival (core : Nat) (q : Nat)
  /-- SET_LAUNCH_INSTANT (R83). When the last participant's arrival reaches the launch unit, it sets L, advances the generation and broadcasts L. -/
  | setLaunchInstant (slot : Nat)
  /-- LAUNCH_BROADCAST_RECEIVE (R84). A participant receives the broadcast L, and its die's governor begins holding its setpoint. -/
  | launchBroadcastReceive (slot : Nat) (die : Nat)
  /-- LAUNCH_ISSUE (R72). When package time reaches L plus the core's bevel offset, an on-time LAUNCH entry issues within 5 ns. -/
  | launchIssue (core : Nat) (q : Nat)
  /-- LATE_LAUNCH_ISSUE (R72). A late LAUNCH entry issues once its conditions hold again and advances TIME.LAUNCH_LATE. -/
  | lateLaunchIssue (core : Nat) (q : Nat)
  /-- RAMP_END (R86). ARMED clears once the instant of the slot's last bevel-ramp group has passed. -/
  | rampEnd (slot : Nat)
  /-- SETPOINT_HOLD_END (R52). 2 µs after the die's last group has issued, the governor's setpoint hold ends. -/
  | setpointHoldEnd (die : Nat)
  /-- GOVERNOR_COMPARE (R48). Every 1 µs the governor compares the monitor rate with the target and moves the setpoint by 5 mV. -/
  | governorCompare (die : Nat) (rate : Nat)
  /-- POWER_AVERAGE (R50). Every 10 µs the die power average is updated, and the working target is lowered while the power or thermal cap is exceeded. -/
  | powerAverage (die : Nat) (watts : Nat) (junction : Int)
  /-- WORKING_TARGET_RAISE (R51). Every 100 µs with neither cap exceeded, the working target rises by 1 % toward the configured target. -/
  | workingTargetRaise (die : Nat)
  /-- OSC_FAULT (R59). An oscillator that stops or leaves ±200 ppm freezes package time, stops launches and halts every queue with TIMEOUT. -/
  | oscFault
  /-- TIME_NOW_LO_READ (R61). A read of TIME.NOW_LO latches package time bits [63:32] into TIME.NOW_HI. -/
  | timeNowLoRead
  /-- MM (R157). A MATRIX entry of kind MM is checked and queued, reading A and B direct. -/
  | mm (core : Nat) (q : Nat)
  /-- MM_TA (R157). A MATRIX entry of kind MM_TA is checked and queued, reading A transposed. -/
  | mmTa (core : Nat) (q : Nat)
  /-- MM_TB (R157). A MATRIX entry of kind MM_TB is checked and queued, reading B transposed. -/
  | mmTb (core : Nat) (q : Nat)
  /-- GRAD_W (R157). A MATRIX entry of kind GRAD_W is checked and queued, reading both operands transposed. -/
  | gradW (core : Nat) (q : Nat)
  /-- GRAD_X (R157). A MATRIX entry of kind GRAD_X is checked and queued, reading B transposed. -/
  | gradX (core : Nat) (q : Nat)
  /-- TILE_COMPLETE (R169). A tile's last block pair completes; the tile is converted, its outputs, accumulators and taps are written, and then its status word. -/
  | tileComplete (core : Nat)
  /-- EXPANDER_STALL (R183). A port stalls until its expander delivers the next token's operands; the wait is counted in CD.MX_STALL_A or CD.MX_STALL_B. -/
  | expanderStall (core : Nat) (port : Nat)
  /-- MX_TOKENS_LO_READ (R189). A read of CD.MX_TOKENS_LO latches bits [63:32] into CD.MX_TOKENS_HI. -/
  | mxTokensLoRead (core : Nat)
  /-- CAUSE_OR_CLEAR (R189). Writing 1s to CD.MX_ARITH CAUSE_OR clears those bits. -/
  | causeOrClear (core : Nat) (value : Word)
  /-- LOAD (R201). A table LOAD writes the table into every targeted slot when all are free, or fails TABLE_BUSY, or waits when WAIT is set. -/
  | load (core : Nat) (q : Nat)
  /-- LOAD_WAIT_WAKE (R201). A waiting LOAD finds all its targeted slots free at one moment and writes them. -/
  | loadWaitWake (core : Nat)
  /-- TABLE_WAIT_LIMIT (R201). A waiting LOAD whose table wait limit expires ends Failed with TABLE_BUSY. -/
  | tableWaitLimit (core : Nat)
  /-- HOLD (R203). A HOLD adds COUNT to the explicit holds of each targeted slot. -/
  | hold (core : Nat) (q : Nat)
  /-- RELEASE (R203). A RELEASE subtracts COUNT from the explicit holds of each targeted slot. -/
  | release (core : Nat) (q : Nat)
  /-- KERNEL_START (R226). A queued kernel starts when the vector engine is free, loading S0–S31 and capturing its item settings. -/
  | kernelStart (core : Nat)
  /-- VECTOR (R225). A VECTOR entry checks the kernel index and argument block and queues one kernel. -/
  | vector (core : Nat) (q : Nat)
  /-- ADD (R234). Vector instruction ADD writes T[A] + B. -/
  | vAdd (core : Nat)
  /-- SUB (R234). Vector instruction SUB writes T[A] − B. -/
  | vSub (core : Nat)
  /-- MUL (R234). Vector instruction MUL writes T[A] × B. -/
  | vMul (core : Nat)
  /-- FMA (R234). Vector instruction FMA writes T[A] × B + T[IMM] with one rounding. -/
  | vFma (core : Nat)
  /-- MAX (R234). Vector instruction MAX writes the IEEE maximum. -/
  | vMax (core : Nat)
  /-- MIN (R234). Vector instruction MIN writes the IEEE minimum. -/
  | vMin (core : Nat)
  /-- ABS (R234). Vector instruction ABS writes |T[A]|. -/
  | vAbs (core : Nat)
  /-- NEG (R234). Vector instruction NEG writes −T[A]. -/
  | vNeg (core : Nat)
  /-- RCP (R238). Vector instruction RCP writes 1 / T[A], correctly rounded. -/
  | vRcp (core : Nat)
  /-- RSQRT (R238). Vector instruction RSQRT writes 1 / √T[A], correctly rounded. -/
  | vRsqrt (core : Nat)
  /-- EXP2 (R238). Vector instruction EXP2 writes 2^T[A], correctly rounded. -/
  | vExp2 (core : Nat)
  /-- LOG2 (R238). Vector instruction LOG2 writes log2 T[A], correctly rounded. -/
  | vLog2 (core : Nat)
  /-- CVT (R239). Vector instruction CVT converts between element types, optionally with stochastic rounding. -/
  | vCvt (core : Nat)
  /-- CMP (R234). Vector instruction CMP writes a predicate tile from a comparison. -/
  | vCmp (core : Nat)
  /-- SEL (R234). Vector instruction SEL selects per lane between T[A] and B by a predicate. -/
  | vSel (core : Nat)
  /-- AND (R234). Vector instruction AND writes the bitwise AND. -/
  | vAnd (core : Nat)
  /-- OR (R234). Vector instruction OR writes the bitwise OR. -/
  | vOr (core : Nat)
  /-- XOR (R234). Vector instruction XOR writes the bitwise XOR. -/
  | vXor (core : Nat)
  /-- SHL (R234). Vector instruction SHL shifts left. -/
  | vShl (core : Nat)
  /-- SHR (R234). Vector instruction SHR shifts right logically. -/
  | vShr (core : Nat)
  /-- SAR (R234). Vector instruction SAR shifts right arithmetically. -/
  | vSar (core : Nat)
  /-- PLOG (R234). Vector instruction PLOG combines two predicate tiles. -/
  | vPlog (core : Nat)
  /-- PSET (R234). Vector instruction PSET sets a rectangular predicate tile. -/
  | vPset (core : Nat)
  /-- TRN (R234). Vector instruction TRN transposes a tile. -/
  | vTrn (core : Nat)
  /-- BROW (R234). Vector instruction BROW broadcasts a row. -/
  | vBrow (core : Nat)
  /-- BCOL (R234). Vector instruction BCOL broadcasts a column. -/
  | vBcol (core : Nat)
  /-- IOTA (R234). Vector instruction IOTA writes lane numbers plus a scalar. -/
  | vIota (core : Nat)
  /-- LD (R242). Vector instruction LD loads 16 rows of 64 bytes from SRAM. -/
  | vLd (core : Nat)
  /-- ST (R242). Vector instruction ST stores 16 rows of 64 bytes to SRAM. -/
  | vSt (core : Nat)
  /-- LDX (R243). Vector instruction LDX loads 16 block-format blocks converted to FP32. -/
  | vLdx (core : Nat)
  /-- STX (R244). Vector instruction STX stores two tiles as 16 block-format blocks, re-converting after a recipe overflow. -/
  | vStx (core : Nat)
  /-- LDG (R234). Vector instruction LDG gathers words by lane index. -/
  | vLdg (core : Nat)
  /-- STG (R245). Vector instruction STG scatters words by lane index, the higher lane winning a collision. -/
  | vStg (core : Nat)
  /-- LDP (R234). Vector instruction LDP loads a predicate tile. -/
  | vLdp (core : Nat)
  /-- STP (R234). Vector instruction STP stores a predicate tile. -/
  | vStp (core : Nat)
  /-- SSET (R234). Scalar instruction SSET sets a scalar to a sign-extended immediate. -/
  | vSset (core : Nat)
  /-- SSETH (R234). Scalar instruction SSETH sets a scalar's upper 32 bits. -/
  | vSseth (core : Nat)
  /-- SADD (R234). Scalar instruction SADD adds an immediate. -/
  | vSadd (core : Nat)
  /-- SADDR (R234). Scalar instruction SADDR adds two scalars. -/
  | vSaddr (core : Nat)
  /-- SMUL (R234). Scalar instruction SMUL multiplies by an immediate. -/
  | vSmul (core : Nat)
  /-- SGET (R234). Scalar instruction SGET reads one tile lane into a scalar. -/
  | vSget (core : Nat)
  /-- SLD (R234). Scalar instruction SLD loads 8 bytes. -/
  | vSld (core : Nat)
  /-- SST (R234). Scalar instruction SST stores 8 bytes. -/
  | vSst (core : Nat)
  /-- JMP (R234). Control instruction JMP continues at an immediate index. -/
  | vJmp (core : Nat)
  /-- BNZ (R234). Control instruction BNZ branches when a scalar is nonzero. -/
  | vBnz (core : Nat)
  /-- LOOP (R234). Control instruction LOOP decrements a scalar and branches while it is nonzero. -/
  | vLoop (core : Nat)
  /-- END (R229). Vector instruction END writes the status word, ends the kernel Done and advances its counter. -/
  | vEnd (core : Nat)
  /-- RCLR (R234). Instruction RCLR empties a reduction bank and sets its operation. -/
  | vRclr (core : Nat)
  /-- RFEED (R246). Instruction RFEED offers a tile's lanes to a reduction bank. -/
  | vRfeed (core : Nat)
  /-- RGET (R249). Instruction RGET reads a reduction bank into a tile. -/
  | vRget (core : Nat)
  /-- RTAP (R251). Instruction RTAP adds the squares of a tile's active lanes to a tap set. -/
  | vRtap (core : Nat)
  /-- KERNEL_TIMEOUT (R230). A kernel that runs past its queue's wait limit ends Failed with TIMEOUT. -/
  | kernelTimeout (core : Nat)
  /-- VX_TOKENS_LO_READ (R261). A read of CD.VX_TOKENS_LO latches bits [63:32]. -/
  | vxTokensLoRead (core : Nat)
  /-- FLAGS_OR_CLEAR (R261). Writing 1s to CD.VX_FLAGS clears those bits. -/
  | flagsOrClear (core : Nat) (value : Word)
  /-- TREE (R254). REDUCE TREE combines chunk partials by the pairwise tree, then converts and writes the tiles with status words. -/
  | tree (core : Nat) (q : Nat)
  /-- SUM (R254). REDUCE SUM adds COUNT arrays element-wise by a fixed pairwise tree. -/
  | sum (core : Nat) (q : Nat)
  /-- ROWS (R254). REDUCE ROWS applies a row operation to each row and writes a 64-byte record per row. -/
  | rows (core : Nat) (q : Nat)
  /-- TAPREAD (R254). REDUCE TAPREAD writes tap-set records, optionally clearing each set. -/
  | tapread (core : Nat) (q : Nat)
  /-- DISPATCH (R272). DISPATCH admits route entries against capacity and sends one bundle to every expert's home. -/
  | dispatch (core : Nat) (q : Nat)
  /-- DISPATCH_DONE (R278). DISPATCH ends Done once every bundle is visible at every home core. -/
  | dispatchDone (core : Nat) (item : Nat)
  /-- COMBINE (R282). COMBINE checks the headers and returns each expert output row to its source's return buffer. -/
  | combine (core : Nat) (q : Nat)
  /-- GATE_CONTRIBUTION (R313). A core's tap records arrive in its gate-area region and count as its contribution to the next step. -/
  | gateContribution (core : Nat)
  /-- GATE_TOTALS_MESSAGE (R314). A TC0 axis-stage message of gate totals is taken, and a completed stage leads to the next. -/
  | gateTotalsMessage (axis : Nat) (coord : Nat) (totals : GateTotals)
  /-- SELECTOR_ADVANCE (R311). Once its conditions hold, the gate unit advances each core's selector counter for the next step. -/
  | selectorAdvance (core : Nat)
  /-- GATE_TIMEOUT (R319). A gate not closed within its wait limit ends Failed with TIMEOUT, latched into the gate and selector counters. -/
  | gateTimeout
  /-- STEP_LO_READ (R324). A read of HS.STEP_LO latches bits [63:32]. -/
  | stepLoRead
  /-- INNER_SEGMENT (R339). An UPDATE entry of op INNER reads the gate record and skips, parks or runs its chunks. -/
  | innerSegment (core : Nat) (q : Nat)
  /-- PREVIOUS_STEP_RESUME (R339). A segment waiting for its shard's previous step resumes once that step is committed or skipped. -/
  | previousStepResume (core : Nat)
  /-- SLOT_RELEASE_RESUME (R336). A segment waiting on a hold writes an element once it is released in the target slot. -/
  | slotReleaseResume (core : Nat)
  /-- STAGED_RESUME (R354). A segment waiting at DEFER_MAX proceeds once its shard is STAGED. -/
  | stagedResume (core : Nat)
  /-- CHUNK_WRITEBACK (R342). After a chunk's kernel ends, P′, moments and the working copy are written back. -/
  | chunkWriteback (core : Nat)
  /-- SEGMENT_FAIL_REPORT (R349). A failed segment leaves its shard UNCOMMITTED with the cause. -/
  | segmentFailReport (core : Nat)
  /-- SHARD_COMMIT (R347). With all SEG_COUNT reports held, the commit unit writes the commit record copy. -/
  | shardCommit (shard : Nat)
  /-- DIGEST_EXCHANGE (R359). A TC0 digest message is taken; once all are held, divergent shards are marked DIVERGED. -/
  | digestExchange (shard : Nat) (coord : Nat) (digest : Word64)
  /-- DEFERRAL_LIMIT (R354). A segment waiting for staging past the deferral wait limit ends Failed with DEFERRAL_LIMIT. -/
  | deferralLimit (core : Nat)
  /-- UPD_STEP_LO_READ (R361). A read of CD.UPD_STEP_LO latches bits [63:32]. -/
  | updStepLoRead (core : Nat)
  /-- SHARD_STEP_LO_READ (R362). A read of HS.SHARD_STEP_LO latches bits [63:32]. -/
  | shardStepLoRead
  /-- COPY (R389). A COPY transfer moves or converts LEN units from SRC to DST, compressing or decoding as named. -/
  | copy (core : Nat) (q : Nat)
  /-- STAGE (R393). STAGE copies a POOL shard's committed slot into its window under a hold and sets STAGED. -/
  | stage (core : Nat) (q : Nat)
  /-- WRITEBACK (R393). WRITEBACK copies the window's output half into the shard's target pool slot. -/
  | writeback (core : Nat) (q : Nat)
  /-- SRAM_SCRUB (R366). The background scrub reads each SRAM word, writes back corrected words and reports uncorrectable ones. -/
  | sramScrub (addr : Nat)
  /-- PATROL_SCRUB (R375). The patrol scrub reads tier lines and conditionally writes back corrected ones. -/
  | patrolScrub (addr : Nat)
  /-- STROBE_STEP (R377). Every 100 µs a channel takes a strobe-timing step. -/
  | strobeStep (channel : Nat)
  /-- CHANNEL_RETRAIN (R377). More than 64 corrections within 1 s retrain a channel fully, or mark it FAILED. -/
  | channelRetrain (channel : Nat) (ok : Bool)
  /-- REFRESH (R378). A DRAM bank is refreshed at its required rate, and accesses wait by handshake. -/
  | refresh (channel : Nat) (bank : Nat)
  /-- DRAM_TEMPERATURE_REPORT (R378). A DRAM reporting a temperature outside its refresh range triggers the thermal actions. -/
  | dramTemperatureReport (channel : Nat) (aboveOperating : Bool)
  /-- POOL_COMPLETION (R384). A CXL completion for a pool request continues or fails the item according to its status. -/
  | poolCompletion (tag : Nat) (line : Nat) (status : PoolStatus) (bytes : List Byte)
  /-- POOL_TIMEOUT (R384). A pool request with no completion within the pool timeout ends Failed with TIMEOUT. -/
  | poolTimeout (tag : Nat)
  /-- UE_ADDR_LO_READ (R394). A read of MEM.UE_ADDR_LO latches bits [55:32]. -/
  | ueAddrLoRead
  /-- DETECT (R401). A port detecting the neighbour on at least 8 lanes moves to EQUALIZE. -/
  | detect (port : Nat) (lanes : Nat)
  /-- EQUALIZE (R401). Equalisation completes and the port moves to LANE_MAP. -/
  | equalize (port : Nat) (ok : Bool)
  /-- LANE_MAP (R402). The PRBS test and mask exchange set the port width and move it to ALIGN or fail the attempt. -/
  | laneMap (port : Nat) (tests : List LaneTest) (goodOut : Nat)
  /-- ALIGN (R401). Deskew and FEC lock complete and the port moves to EXCHANGE. -/
  | align (port : Nat) (ok : Bool)
  /-- EXCHANGE (R404). A neighbour's identity is taken and checked; the port goes UP or MISCABLED. -/
  | exchange (port : Nat) (id : PortIdentity)
  /-- IDENTITY_SEND (R406). An unconfigured port sends its identity with job 0 every 100 µs. -/
  | identitySend (port : Nat)
  /-- CONFIGURED_WAIT_LIMIT (R406). A port that has waited 600 s for its neighbour to become configured returns to DETECT. -/
  | configuredWaitLimit (port : Nat)
  /-- ATTEMPT_TIMEOUT (R401). A training attempt past its bound returns the port to DETECT 100 ms later. -/
  | attemptTimeout (port : Nat)
  /-- MISCABLED_RETRY (R401). 1 s after MISCABLED, the port returns to DETECT. -/
  | miscabledRetry (port : Nat)
  /-- NO_VALID_FRAME (R407). An UP port with no valid frame for 1 µs goes down. -/
  | noValidFrame (port : Nat)
  /-- LANE_ERROR_LIMIT (R408). A lane whose symbol corrections exceed 1 in 10^4 over 1 ms is taken out of service. -/
  | laneErrorLimit (port : Nat) (lane : Nat) (corrections : Nat) (symbols : Nat)
  /-- LANE_RETEST (R408). Every 10 s a port below 17 lanes retests its failed lanes in service. -/
  | laneRetest (port : Nat) (results : LaneResults)
  /-- LANE_PROPOSE (R408). A link slot with LANE_CMD PROPOSE offers a new lane mask. -/
  | lanePropose (port : Nat) (mask : Nat) (switchSeq : Nat)
  /-- LANE_ACCEPT (R408). A link slot with LANE_CMD ACCEPT accepts the proposed mask. -/
  | laneAccept (port : Nat) (mask : Nat) (switchSeq : Nat)
  /-- LANE_SWITCH (R408). At the agreed frame number both directions change lane mapping. -/
  | laneSwitch (port : Nat)
  /-- LANE_SWITCH_TIMEOUT (R407). A lane switch without valid frames 10 µs after its frame number takes the port down. -/
  | laneSwitchTimeout (port : Nat)
  /-- FRAME (R412). A received frame is checked; a valid one delivers packets and credits, an invalid one sets NAK. `sent` is
  the neighbour's frame, sent in the block of number `count`, and `errors` what the way adds to each of the block's symbols. -/
  | frame (port : Nat) (count : Nat) (sent : List Byte) (errors : List Nat)
  /-- IN_SERVICE_RETRAIN (R413). After 8 replays of one frame, the port retrains in service or goes down. -/
  | inServiceRetrain (port : Nat) (ok : Bool)
  /-- TC0_WINDOW (R420). A 10 µs window whose TC0 load exceeded 2 % advances TOR.PORT_TC0_OVER. -/
  | tc0Window (port : Nat) (tc0Bytes : Nat)
  /-- WRITE (R424). A WRITE packet's payload is written at its destination, and a completed transfer advances DCTR and sends COMPLETION. -/
  | write (port : Nat)
  /-- COMPLETION (R426). A COMPLETION ends the source item with its cause. -/
  | completion (port : Nat)
  /-- REFUSED (R440). A REFUSED packet starts the retry window, or ends the item with its cause. -/
  | refused (port : Nat)
  /-- REFUSED_RETRY (R440). Every 100 µs within the retry window, the source resends the whole transfer. -/
  | refusedRetry (tag : Nat)
  /-- RETRY_WINDOW_END (R440). When the retry window passes, the item ends Failed with TARGET_RESETTING. -/
  | retryWindowEnd (tag : Nat)
  /-- EPOCH_END (R434). An EPOCH_END is received, and the destination answers with EPOCH_ACK. -/
  | epochEnd (port : Nat)
  /-- EPOCH_ACK (R434). An EPOCH_ACK is received; when all have arrived, the source sends on the new route in the new epoch. -/
  | epochAck (port : Nat)
  /-- EPOCH_CLOSE (R436). An EPOCH_CLOSE discards every open transfer of that source and epoch. -/
  | epochClose (port : Nat)
  /-- DRAIN_LIMIT (R435). Acknowledgements missing at the drain limit declare the epoch lost and fail its items with PATH_CHANGED. -/
  | drainLimit (node : Nat)
  /-- LINK_STATE (R431). A LINK_STATE is forwarded once and applied; routes are recomputed and changed epochs begin draining. -/
  | linkState (arrived : Nat) (node : Nat) (port : Nat) (up : Bool) (seq : Nat)
  /-- OPEN_TRANSFER_TIMEOUT (R425). An open transfer with no packet for the fabric transfer timeout is discarded. -/
  | openTransferTimeout (edge : Nat) (src : Nat) (tag : Nat)
  /-- SOURCE_TRANSFER_TIMEOUT (R425). A source item with no COMPLETION or REFUSED within the timeout ends Failed with TIMEOUT. -/
  | sourceTransferTimeout (tag : Nat)
  /-- LINK_WAIT_EXPIRY (R442). Ports not UP at floor by the end of the link wait fail the job start with LINK_DOWN. -/
  | linkWaitExpiry
  /-- HALT_MESSAGE (R522). A flooded HALT message stops issuing on the module and applies the halted-queue policy. -/
  | haltMessage (arrived : Nat) (node : Nat) (seq : Nat)
  /-- WAKE_MESSAGE (R589). A wake message from another module wakes the module from Rest. -/
  | wakeMessage (node : Nat)
  /-- PARTNER_CLAIM (R510). A partner claim is accepted if it is the first, and refused otherwise. -/
  | partnerClaim (port : Nat) (node : Nat)
  /-- PARTNER_REFUSAL (R510). A refused module tries its next partner candidate. -/
  | partnerRefusal (port : Nat)
  /-- ROUND_LO_READ (R495). A read of FRN.ROUND_LO latches bits [63:32]. -/
  | roundLoRead
  /-- HEARTBEAT (R467). A HEARTBEAT updates reachability, route state and site states, and may start a rebase or a rekey. -/
  | heartbeat (hdr : FrnHeader) (body : HeartbeatBody)
  /-- HEARTBEAT_SEND (R467). Every 1 s the module sends a HEARTBEAT on each route. -/
  | heartbeatSend
  /-- REACHABILITY_LAPSE (R467). A site with no HEARTBEAT for 5 s becomes unreachable, and the coordinator is chosen again. -/
  | reachabilityLapse (site : Nat)
  /-- ROUTE_DOWN (R483). A route with no HEARTBEAT for 5 s is down, and CONTROL moves to the second route. -/
  | routeDown (site : Nat) (second : Bool)
  /-- DELTA (R456). A DELTA fragment is stored, and a coordinator holding all deltas proposes. -/
  | delta (hdr : FrnHeader) (frag : DeltaFragment) (blocks : List Byte)
  /-- ACK (R457). An ACK marks SEQ ranges as received. -/
  | ack (hdr : FrnHeader) (ranges : List SeqRange)
  /-- ACK_SEND (R457). A receiver sends an ACK after 256 packets or 10 ms of a stream. -/
  | ackSend (site : Nat)
  /-- PACKET_RESEND (R457). A packet unacknowledged for four round trips is re-sent under the current epoch. -/
  | packetResend (site : Nat) (seq : Nat)
  /-- STREAM_PAUSE (R457). With no ACK from a destination for 1 s, its streams pause. -/
  | streamPause (site : Nat)
  /-- PROPOSE (R469). A module accepts the first PROPOSE it receives for a round. -/
  | propose (hdr : FrnHeader) (body : ProposeBody)
  /-- ACCEPT (R469). A coordinator holding ACCEPTs from Q sites sends CLOSE. -/
  | accept (hdr : FrnHeader) (round : Nat) (crc : Word64)
  /-- CLOSE (R471). A CLOSE updates the ACTIVE set and starts fetching missing deltas and the outer update. -/
  | close (hdr : FrnHeader) (body : CloseBody)
  /-- FETCH (R454). A FETCH request is answered with DATA packets of the object requested. -/
  | fetch (hdr : FrnHeader) (req : FetchBody)
  /-- DATA (R454). A DATA packet's bytes are stored toward a fetch or a remote checkpoint. -/
  | data (hdr : FrnHeader) (body : DataBody)
  /-- DIGEST (R482). An anchor DIGEST is taken and compared as for replicas. -/
  | digest (hdr : FrnHeader) (round : Nat) (digest : Word64)
  /-- JOIN (R481). A JOIN is taken as a join request or a rebase in progress. -/
  | join (hdr : FrnHeader) (body : JoinBody)
  /-- DELTA_FORM (R463). The round unit forms a shard's delta stream and new offcut through the compressor. -/
  | deltaForm (shard : Nat) (core : Nat)
  /-- WAN_SEND (R465). After DELTA_FORM, one copy of the stream is sent to every other member site. -/
  | wanSend (site : Nat)
  /-- WAN_FETCH (R471). A fetch of deltas or reference state runs and checks its stream CRC. -/
  | wanFetch (site : Nat)
  /-- FETCH_LIMIT (R493). A WAN_FETCH not complete after FETCH_LIMIT ends Failed with TIMEOUT. -/
  | fetchLimit
  /-- OUTER_SEGMENT (R473). An OUTER segment applies the outer update and journals anchor and momentum. -/
  | outerSegment (shard : Nat) (core : Nat)
  /-- ANCHOR_DIGEST (R482). After a FULL close commits, the module digests its anchors and sends DIGEST. -/
  | anchorDigest
  /-- ROUND_DEADLINE (R468). At D after its boundary, a coordinator holding Q deltas proposes. -/
  | roundDeadline
  /-- ROUND_ORPHAN (R470). Without CLOSE by D + CLOSE_WAIT, the round is orphaned with QUORUM_LOST. -/
  | roundOrphan
  /-- RECOVERY_FAILOVER (R484). A RECOVERY stream with no ACK for 3 ms moves to the other route. -/
  | recoveryFailover (site : Nat)
  /-- RECOVERY_ROUTES_DOWN (R484). With both routes down for 1 s, a RECOVERY item ends Failed with LINK_DOWN. -/
  | recoveryRoutesDown (site : Nat)
  /-- KEY_EPOCH_START (R487). After 1 h, or at a 2^40 count, the sender starts a new key epoch and records it in flash. -/
  | keyEpochStart
  /-- GRACE_PERIOD_END (R489). 2 s after a new epoch becomes current, the previous receive key is dropped. -/
  | gracePeriodEnd (site : Nat)
  /-- RATE_TOKENS (R452). A waiting packet is sent once the token bucket holds its bytes. -/
  | rateTokens
  /-- NEIGHBOR_SOLICITATION (R449). A Neighbor Solicitation for the module's address is answered. -/
  | neighborSolicitation (port : Nat) (target : List Byte) (sender : List Byte)
  /-- ARP_REQUEST (R449). An ARP request for the module's address is answered. -/
  | arpRequest (port : Nat) (target : List Byte) (sender : List Byte)
  /-- ECHO_REQUEST (R449). An echo request is answered, at most 10 per second. -/
  | echoRequest (port : Nat) (sender : List Byte) (payload : List Byte)
  /-- PACKET_TOO_BIG (R449). A received Packet Too Big or fragmentation-needed message writes an event record. -/
  | packetTooBig (port : Nat) (mtu : Nat)
  /-- CK_SHARD (R502). CK_SHARD holds the committed slot and sends its range to every due target. -/
  | ckShard (core : Nat) (q : Nat)
  /-- CK_STATE (R505). CK_STATE captures the core record, failing when a cause latch is set. -/
  | ckState (core : Nat) (q : Nat)
  /-- TARGET_WRITE_DONE (R507). The last piece write to a target completes, and the module record and manifest are written. -/
  | targetWriteDone (target : Nat)
  /-- TARGET_WRITE_FAIL (R506). A failed target write abandons that target's checkpoint and writes an event record. -/
  | targetWriteFail (target : Nat) (cause : Cause)
  /-- CHECKPOINT_SEAL (R507). The manifest copy write ends and the checkpoint is sealed. -/
  | checkpointSeal (target : Nat)
  /-- CK_SEALED_LO_READ (R525). A read of HS.CK_SEALED_LO latches bits [63:32]. -/
  | ckSealedLoRead
  /-- RESTORE (R514). The mailbox RESTORE starts a site-wide restore. -/
  | restore
  /-- RESTORE_MANIFESTS_READ (R515). With the manifests read, modules exchange sealed steps. -/
  | restoreManifestsRead (found : List ManifestCopy)
  /-- SEALED_STEP_EXCHANGE (R515). A sealed-step message is taken; with all held, S is chosen and loading begins. -/
  | sealedStepExchange (coord : Nat) (steps : List Nat)
  /-- RESTORE_LOADED (R517). With the pieces loaded, partner selection and the cursor and grain checks run. -/
  | restoreLoaded (pieces : List PieceLoad) (moduleRec : ModuleRecord)
  /-- RESTORE_COMMITTED (R518). With each shard written to slot 0 and committed, verification starts. -/
  | restoreCommitted
  /-- RESTORE_VERIFIED (R520). With verification passed, records load, queues start and READY is reported. -/
  | restoreVerified
  /-- VOLTAGE_ALARM (R556). An edge-die supply outside ±10 % raises the VOLTAGE alarm. -/
  | voltageAlarm
  /-- TEMPERATURE_ALARM (R556). An edge-die junction out of range raises the TEMPERATURE alarm. -/
  | temperatureAlarm
  /-- GLITCH_ALARM (R556). A security handshake chain out of bounds raises the GLITCH alarm. -/
  | glitchAlarm
  /-- ALARM_RECOVERY (R557). A group 1 or 2 condition clear for 1 s leads to the key blobs being unwrapped again. -/
  | alarmRecovery
  /-- ALARM_CLEAR (R559). Writing 1s to SEC.ALARM clears the latched alarm bits. -/
  | alarmClear (value : Word)
  /-- CHANGE_WINDOW_END (R546). 60 s after a new KM, the previous KM is erased. -/
  | changeWindowEnd
  /-- ENCRYPT (R553). A cipher ENCRYPT job runs, forming the nonce on SEND slots or refusing with COUNTER_EXHAUSTED. -/
  | encrypt (engine : Nat) (desc : BitVec 512)
  /-- DECRYPT (R555). A cipher DECRYPT job releases plaintext only after the tag verifies. -/
  | decrypt (engine : Nat) (desc : BitVec 512)
  /-- MAC (R551). A cipher MAC job computes a CMAC tag. -/
  | mac (engine : Nat) (desc : BitVec 512)
  /-- KEY_SLOT_LOAD (R552). A key slot is loaded once no job naming it is queued or running. -/
  | keySlotLoad (engine : Nat) (slot : Nat) (load : SlotLoad)
  /-- SLOT_CTR_LO_READ (R560). A read of CIP.SLOT_CTR_LO latches bits [63:32]. -/
  | slotCtrLoRead (engine : Nat)
  /-- KEY_WR_COMMIT (R548). Writing COMMIT to CIP.KEY_WR_CTL installs the written key on the KD960-M as an unwrap. -/
  | keyWrCommit (value : Word)
  /-- GET_VERSION (R538). SPDM GET_VERSION reports version 1.3. -/
  | getVersion
  /-- GET_CAPABILITIES (R538). SPDM GET_CAPABILITIES reports the capabilities. -/
  | getCapabilities
  /-- NEGOTIATE_ALGORITHMS (R539). SPDM NEGOTIATE_ALGORITHMS selects SHA-384 and the brainpool ExtAsym entry. -/
  | negotiateAlgorithms (offersExtAsym : Bool)
  /-- GET_DIGESTS (R538). SPDM GET_DIGESTS returns the digest of certificate slot 0. -/
  | getDigests
  /-- GET_CERTIFICATE (R538). SPDM GET_CERTIFICATE returns the slot 0 chain. -/
  | getCertificate (slot : Nat) (offset : Nat) (length : Nat)
  /-- CHALLENGE (R538). SPDM CHALLENGE returns a response signed by the alias key. -/
  | challenge (slot : Nat) (nonce : List Byte)
  /-- GET_MEASUREMENTS (R541). SPDM GET_MEASUREMENTS returns measurement blocks, signed when requested. -/
  | getMeasurements (index : Nat) (signed : Bool) (nonce : List Byte)
  /-- SPDM_UNSUPPORTED (R538). Any other SPDM request is answered ERROR, UnsupportedRequest. -/
  | spdmUnsupported (code : Nat)
  /-- NONCE_GET (R537). NONCE_GET issues a 32-byte nonce for an owner command. -/
  | nonceGet
  /-- NONCE_LAPSE (R537). A nonce lapses 60 s after issue. -/
  | nonceLapse
  /-- LOCK (R533). An owner LOCK command sets the owner lock. -/
  | lock (auth : OwnerAuth)
  /-- UNLOCK (R533). An owner UNLOCK command clears the owner lock. -/
  | unlock (auth : OwnerAuth)
  /-- ENROL (R532). An owner ENROL command writes a free OWNER_KEY_HASH entry. -/
  | enrol (auth : OwnerAuth) (entry : Nat) (key : List Byte)
  /-- REVOKE (R532). An owner REVOKE command sets an owner revocation bit, unless no key would remain. -/
  | revoke (auth : OwnerAuth) (entry : Nat)
  /-- RETIRE (R530). An owner RETIRE command moves LIFECYCLE to RETIRED. -/
  | retire (auth : OwnerAuth)
  /-- RECORDER_CLEAR (R672). An owner RECORDER_CLEAR clears the ring, and the mirror when its scope says so, and writes CLEARED. -/
  | recorderClear (auth : OwnerAuth) (scope : Nat)
  /-- PROVISION (R531). PROVISION decrypts the owner key hash and KEK and moves the module to OWNED. -/
  | provision (qe : List Byte) (ct : List Byte) (tag : List Byte)
  /-- KEY_INSTALL (R544). KEY_INSTALL unwraps a key blob and installs KM. -/
  | keyInstall (blob : List Byte)
  /-- INPUT_START (R575). An input at or above 48.0 V for 10 ms starts a Cold start by charging the bulk. -/
  | inputStart (mv : Nat)
  /-- BULK_CHARGED (R575). With the bulk charged, the standby and headstock rails rise and package time is released. -/
  | bulkCharged (capUf : Nat) (straps : List StrapPin) (straps2 : List StrapPin)
  /-- HEADSTOCK_RAILS_GOOD (R575). The boot ROM reads fuses, derives identity keys and starts the chosen firmware slot. -/
  | headstockRailsGood
  /-- FIRMWARE_RUNNING (R575). The tailstock, bed and memory rails rise and every channel and port starts training. -/
  | firmwareRunning
  /-- CHANNELS_TRAINED (R620). The configuration slot is chosen and read into the image copy and verified, and zeroing begins. -/
  | channelsTrained (failed : List Nat)
  /-- IMAGE_VERIFIED (R575). Key blobs are unwrapped and the bring-up waves begin. -/
  | imageVerified
  /-- WAVE (R577). A wave powers one logical cluster of every die, zeroes its SRAM and loads its image content. -/
  | wave
  /-- LAST_WAVE_DONE (R575). After the last wave, the pool window entries are checked. -/
  | lastWaveDone (unbound : List Nat)
  /-- ZEROING_COMPLETE (R575). With every channel zeroed, PWR.STATUS enters READY. -/
  | zeroingComplete
  /-- FULL_RESET (R585). A Full reset request fails every item, keeps the DRAMs in self-refresh and repeats cold-start steps 3 to 7. -/
  | fullReset (source : ResetSource)
  /-- COMPUTE_RESET (R583). A Compute reset request stops the queues of all Drehal dies, ends their items and drops their compute rails. -/
  | computeReset (source : ResetSource)
  /-- DIE_RESET (R583). A Die reset request stops one die's queues, ends its items and drops its compute rails. -/
  | dieReset (die : Nat) (source : ResetSource)
  /-- COMPUTE_RAILS_OFF (R576). The image copy is checked, and read again from flash on a mismatch. -/
  | computeRailsOff
  /-- RESET_WAVES_DONE (R583). After the reset waves, package time is aligned and the dies return to READY. -/
  | resetWavesDone
  /-- OVERCURRENT (R566). Input current above 100 A for 1 µs opens the hot-swap switch and latches the fault. -/
  | overcurrent (ma : Nat)
  /-- OVERVOLTAGE (R564). Overvoltage opens the hot-swap switch and proceeds as input loss. -/
  | overvoltage (mv : Nat)
  /-- FAULT_LATCH_CLEAR (R566). An input below 10 V for 1 s clears the hot-swap fault latch. -/
  | faultLatchClear (mv : Nat)
  /-- INPUT_LOW (R563). An input between 46.0 V and 50.0 V sets INPUT_LOW and caps input power at 2.4 kW. -/
  | inputLow (mv : Nat)
  /-- INPUT_LOSS (R592). An input or bulk below 46.0 V for 2 µs stops issuing, fails items with POWER_LOSS and throttles. -/
  | inputLoss (mv : Nat)
  /-- HOLDUP_THROTTLED (R592). At the throttle bound, the POWER_LOSS record is written and critical records are flushed. -/
  | holdupThrottled
  /-- HOLDUP_FLUSH_DONE (R592). With the flush done, every rail except standby falls. -/
  | holdupFlushDone
  /-- HOLDUP_RAILS_OFF (R592). With the rails off, active discharge runs. -/
  | holdupRailsOff
  /-- EDGE_THERMAL_SHUTDOWN (R595). An edge-die junction at 110 °C drops the rails and latches the fault. -/
  | edgeThermalShutdown (die : Nat) (junction : Int)
  /-- THERMAL_TRIP (R595). A Drehal die at 110 °C, or a DRAM over its limit, makes a Compute reset with THERMAL and holds the rails off. -/
  | thermalTrip (die : Nat) (junction : Int)
  /-- THERMAL_HOLD_EXIT (R595). All sensors at 85 °C or below for 1 s run the waves again. -/
  | thermalHoldExit (hottest : Int)
  /-- THERMAL_THROTTLE (R595). A die at 105 °C for 100 µs drops its working target to 0.90 G tokens/s. -/
  | thermalThrottle (die : Nat) (junction : Int)
  /-- REST (R587). The REST command enters Rest when the module is READY and idle. -/
  | rest
  /-- WAKE (R589). The mailbox WAKE command raises VSRAM and runs the wake waves. -/
  | wake
  /-- WAKE_WAVE (R589). A wake wave switches in one logical cluster of every die, 300 µs after the previous one. -/
  | wakeWave
  /-- RESET_N_LOW (R606). RESET_N low for 1 µs requests a Full reset. -/
  | resetNLow
  /-- RESET_N_HELD (R606). RESET_N still low after 1 s makes a Cold reset that holds the rails off. -/
  | resetNHeld
  /-- RESET_N_RELEASE (R606). A released RESET_N runs the Cold start from step 2. -/
  | resetNRelease
  /-- TAMPER (R607). TAMPER above 2.0 V for 1 µs raises the TAMPER alarm. -/
  | tamper (mv : Nat)
  /-- PERST_N (R608). A PERST_N assertion holds the CXL port in fundamental reset and takes its link down. -/
  | perstN
  /-- REFCLK_CHANGE (R602). A CXL reference appearing or leaving ±300 ppm sets REFCLK_OK and gates link training. -/
  | refclkChange (present : Bool) (ppm : Int)
  /-- I3C_READ (R651). I3C READ sets the register offset for the next private read. -/
  | i3cRead (offset : Nat)
  /-- I3C_ARM (R651). I3C ARM arms one command for 100 ms. -/
  | i3cArm (key : Nat)
  /-- I3C_COLD (R651). An armed I3C COLD requests a Cold reset by opening the hot-swap switch for 100 ms. -/
  | i3cCold
  /-- I3C_FULL (R651). An armed I3C FULL requests a Full reset. -/
  | i3cFull
  /-- I3C_WAKE (R651). An armed I3C WAKE wakes the module from Rest. -/
  | i3cWake
  /-- RSTDAA (R650). The I3C CCC RSTDAA resets the dynamic address. -/
  | rstdaa
  /-- SETDASA (R650). The I3C CCC SETDASA assigns the dynamic address from the static address. -/
  | setdasa (static : Nat) (addr : Nat)
  /-- ENTDAA (R650). The I3C CCC ENTDAA assigns a dynamic address. -/
  | entdaa (addr : Nat)
  /-- GETPID (R650). The I3C CCC GETPID returns the provisioned identifier. -/
  | getpid
  /-- GETBCR (R650). The I3C CCC GETBCR returns the bus characteristics register. -/
  | getbcr
  /-- GETDCR (R650). The I3C CCC GETDCR returns the device characteristics register. -/
  | getdcr
  /-- GETSTATUS (R650). The I3C CCC GETSTATUS returns the target status. -/
  | getstatus
  /-- GETMXDS (R650). The I3C CCC GETMXDS returns the maximum data speed. -/
  | getmxds
  /-- TRANSFER_FW_FULL (R624). Transfer FW action Full checks and writes a whole firmware image in one part. -/
  | transferFwFull (slot : Nat) (offset : Nat) (bytes : List Byte)
  /-- TRANSFER_FW_INITIATE (R624). Transfer FW action Initiate checks the refusals and the header and opens a transfer. -/
  | transferFwInitiate (slot : Nat) (offset : Nat) (bytes : List Byte)
  /-- TRANSFER_FW_CONTINUE (R627). Transfer FW action Continue writes the next in-order part. -/
  | transferFwContinue (slot : Nat) (offset : Nat) (bytes : List Byte)
  /-- TRANSFER_FW_END (R624). Transfer FW action End checks length and signature and writes the slot header. -/
  | transferFwEnd (slot : Nat) (offset : Nat) (bytes : List Byte)
  /-- TRANSFER_FW_ABORT (R627). Transfer FW action Abort closes the open transfer. -/
  | transferFwAbort
  /-- CFG_TRANSFER_FULL (R648). CFG_TRANSFER action Full writes a whole configuration image in one part. -/
  | cfgTransferFull (slot : Nat) (offset : Nat) (bytes : List Byte) (content : Image)
  /-- CFG_TRANSFER_INITIATE (R648). CFG_TRANSFER action Initiate opens a configuration transfer. -/
  | cfgTransferInitiate (slot : Nat) (offset : Nat) (bytes : List Byte)
  /-- CFG_TRANSFER_CONTINUE (R627). CFG_TRANSFER action Continue writes the next in-order part. -/
  | cfgTransferContinue (slot : Nat) (offset : Nat) (bytes : List Byte)
  /-- CFG_TRANSFER_END (R648). CFG_TRANSFER action End checks LENGTH, signature and IMAGE_SEQ and writes the header. -/
  | cfgTransferEnd (slot : Nat) (offset : Nat) (bytes : List Byte) (content : Image)
  /-- CFG_TRANSFER_ABORT (R627). CFG_TRANSFER action Abort closes the open transfer. -/
  | cfgTransferAbort
  /-- TRANSFER_IDLE_TIMEOUT (R627). 30 s without a part closes the open transfer. -/
  | transferIdleTimeout
  /-- ACTIVATE_FW (R624). Activate FW on next reset verifies the slot and writes the boot record for a trial. -/
  | activateFw (slot : Nat) (online : Bool)
  /-- FW_CONFIRM (R625). FW_CONFIRM ends the trial and sets ROLLBACK bits up to SVN. -/
  | fwConfirm
  /-- TRIAL_TIMEOUT (R625). An unconfirmed trial after 10 min requests a Full reset, which rolls back. -/
  | trialTimeout
  /-- GET_FW_INFO (R647). Get FW Info reports the firmware slots. -/
  | getFwInfo
  /-- GET_TIMESTAMP (R647). Get Timestamp returns the host timestamp. -/
  | getTimestamp
  /-- SET_TIMESTAMP (R647). Set Timestamp stores the host timestamp and writes a HOST_TIME record. -/
  | setTimestamp (value : Word64)
  /-- GET_SUPPORTED_LOGS (R647). Get Supported Logs reports the Command Effects Log. -/
  | getSupportedLogs
  /-- GET_LOG (R647). Get Log returns the Command Effects Log. -/
  | getLog
  /-- UNSUPPORTED_OPCODE (R647). Any other standard opcode returns Unsupported. -/
  | unsupportedOpcode (opcode : Nat)
  /-- JOB_START (R630). JOB_START begins the job from WAIT_START. -/
  | jobStart
  /-- JOB_STOP (R631). JOB_STOP ends the job after the current step commits, or at once when HALTED. -/
  | jobStop
  /-- CFG_INFO (R648). CFG_INFO returns the configuration slot status. -/
  | cfgInfo
  /-- INTAKE_POLL (R639). Every 5 µs the intake unit reads the next expected buffer's generation and takes it when the header matches. -/
  | intakePoll (ring : Nat)
  /-- INTAKE_RELEASE (R639). A release counter advancing past a buffer releases its slot to host software. -/
  | intakeRelease (ring : Nat)
  /-- PLAN_RECORD_READY (R644). WRITTEN passing index i makes PLAN record i READY. -/
  | planRecordReady (ring : Nat)
  /-- RES_CONSUMED_WRITE (R646). A write to CFG.RES_CONSUMED consumes records, or is ignored and sets HOST_ERR. -/
  | resConsumedWrite (ring : Nat) (value : Word)
  /-- HOST_ERR_CLEAR (R652). Writing 1 to CFG.STATUS HOST_ERR clears it. -/
  | hostErrClear
  /-- REGISTER_WRITE (R12). A write to a register without a row of its own acts by its access code. -/
  | registerWrite (offset : Nat) (value : Word)
  /-- EVENT_REPORT (R655). The recorder accepts a reported event, assigns SEQ and TIME and writes it to the ring. -/
  | eventReport
  /-- LOST (R657). When the full input queue drains below 128, a LOST record reports the discarded records. -/
  | lost
  /-- MIRROR_APPEND (R659). A critical record is appended to the flash mirror of F0 and then F1. -/
  | mirrorAppend (f0Ok : Bool) (f1Ok : Bool)
  /-- TELEMETRY (R667). At each telemetry interval, a TELEMETRY record of key registers is written. -/
  | telemetry
  /-- REC_READ (R669). REC_READ copies whole records from the ring or mirror from FROM_SEQ. -/
  | recRead (source : Nat) (fromSeq : Word) (maxBytes : Nat)
  /-- COMBINE_DONE (R282). COMBINE ends Done once every return bundle has been made visible at its source, and the home core's counter advances. -/
  | combineDone (core : Nat) (item : Nat)
  /-- WAN_PORT_DOWN (R484). A WAN port's link goes down, so FRN.PORT_STATUS leaves UP and RECOVERY streams on it fail over. -/
  | wanPortDown (port : Nat) (localFault : Bool) (remoteFault : Bool)
  /-- WAN_PORT_UP (R494). A WAN port finishes training and its link comes UP. -/
  | wanPortUp (port : Nat)
  /-- CXL_LINK_DOWN (R384). The CXL link goes down, so pool requests end Failed with LINK_DOWN and BAR0 becomes unreachable. -/
  | cxlLinkDown
  /-- CXL_LINK_UP (R635). The CXL link trains and returns, after which host software must program BAR0, HDM and MSI-X again. -/
  | cxlLinkUp
  /-- PERST_N_DEASSERT (R608). PERST_N is released, ending the CXL port's fundamental reset so the link may train. -/
  | perstNDeassert
  /-- INPUT_LOW_CLEAR (R563). The input rises back to 50.0 V or above, so INPUT_LOW clears and the 2.4 kW cap is lifted. -/
  | inputLowClear (mv : Nat)
  /-- PARTNER_ACCEPTANCE (R509). A claiming module receives its neighbour's TC0 acceptance and takes that port as its partner, setting PARTNER_PORT. -/
  | partnerAcceptance (port : Nat)
  /-- COPY_REGION_REQUEST (R515). A partner receives a TC0 request during a restore and serves its copy region by TC3 writes. -/
  | copyRegionRequest (port : Nat)
  /-- SHARD_EXPORT_REQUEST (R520). A majority replica member receives a request from a minority module and sends it the shard as an export over TC3. -/
  | shardExportRequest (node : Nat) (shard : Nat)
  /-- DOE_DISCOVERY (R633). A DOE Discovery request is answered with the supported data object protocols. -/
  | doeDiscovery (index : Nat)
  /-- TABLE_ACCESS (R633). A DOE Table Access request for CDAT is answered with the DSMAS entry of the intake area. -/
  | tableAccess (handle : Nat)
  deriving DecidableEq, Repr

end Sys2Proof
end

