-- ==== Sys2Proof/Message.lean ====
section
/-! DEFINITION. Messages that modules of a site send one another: KIND 0x07 MESSAGE and 0x08 LINK_STATE packets (12_torus R423, R431;
14_checkpoint R509, R522), and the identities of EXCHANGE (12_torus R404). -/

namespace Sys2Proof

/-- A message that this module sends. -/
inductive Message where
  | linkState (node port : Nat) (up : Bool) (seq : Nat)
  | halt (node seq : Nat)
  | gateTotals (axis coord : Nat) (totals : GateTotals)
  | digest (shard coord : Nat) (digest : Word64)
  | claim (node : Nat)
  | claimAccepted (node : Nat)
  | claimRefused (node : Nat)
  | sealedSteps (coord : Nat) (steps : List Nat)
  | copyRegionRequest
  | identity (id : PortIdentity)
  | exportRequest (node shard : Nat)
  deriving DecidableEq, Repr

end Sys2Proof
end

