-- ==== Sys2Proof/Config.lean ====
section
/-! DEFINITION. What the spec leaves open: constants without a body, applied to the counter `free` of State.
Nothing can evaluate them, so a statement about them holds for every value. -/

namespace Sys2Proof.Config

/-- DETAIL byte of an event: "Ivzimos publishes the DETAIL codes of each firmware release" (19_event_recorder R665). -/
opaque detail : Nat → BitVec 8
/-- Bytes drawn at random by the module: the owner nonce (15_security R537) and SPDM nonces. -/
opaque random : Nat → Nat → BitVec 8
/-- Secret number of one of the module's own signatures (15_security R535, R538). -/
opaque signSecret : Nat → Nat
/-- Bytes that the signature of an SPDM response covers, from the request's nonce and the response: DSP0274 forms them from the
messages so far (15_security R538). -/
opaque spdmSigned : Nat → List (BitVec 8) → List (BitVec 8)
/-- Certificates the firmware forms at bring-up, as bytes (15_security R534): the spec gives no encoding. -/
opaque certificate : Nat → BitVec 8
/-- Contents of a reply whose standard gives the layout and whose field values the spec does not state
(I3C CCCs of 18_configuration R650, Command Effects Log of R647, CDAT of R633). -/
opaque reply : Nat → Nat → BitVec 8

/-- Tokens a kernel takes to start, reduced to 0 to 16: "within 16 tokens" (07_vector R227). -/
opaque startTokens : Nat → Nat
/-- Tokens for which a transfer waits for its cluster's compressor: they follow from how the handshakes of several cores meet
(06_fixed_rate R210, R222). -/
opaque compressorWait : Nat → BitVec 32
/-- Lanes that RGET reads from a bank of operation NONE: no rule states them (07_vector R249). -/
opaque bankNone : Nat → Nat → BitVec 32

/-- STATE_DIGEST of a manifest: it covers records whose byte layout the spec does not give (14_checkpoint R508, R512). -/
opaque stateDigest : Nat → BitVec 64
/-- Device address at a partner or replica member to which a served copy is written: no rule names it (14_checkpoint
R515, R520). -/
opaque copyDest : Nat → Nat
/-- Cause with which a module halts on another module's HALT message, reduced to a code 0x01 to 0x17 (00_scope R15, R17): the
message carries none (14_checkpoint R522). -/
opaque remoteHalt : Nat → BitVec 8
/-- Cause of the records that a job leaves open when it ends without a failure, reduced to a code 0x01 to 0x17: "the ending cause"
(18_configuration R631), where R15 lets no FAILED record carry NONE. -/
opaque endCause : Nat → BitVec 8
/-- Payload bytes of a firmware message or LINK_STATE, reduced to at most 224: the spec gives them no layout (12_torus R415, R423). -/
opaque messageBytes : Message → List (BitVec 8)
/-- Frame number that a port proposes for a lane switch: "an agreed frame number" (12_torus R408). -/
opaque switchSeq : Nat → BitVec 16

/-- TYPE of an event record that R664 lists for no event: an intake header that does not pass (18_configuration R639), and a
result record dropped at a full ring (R643). -/
opaque eventType : Nat → BitVec 16

/-- Input power in W over the averaging time (16_power R563, R597): a measurement that no command carries. -/
opaque inputPower : Nat → Nat
/-- Bulk voltage after the active discharge, reduced to below 40.8 V, in 10 mV (16_power R565). -/
opaque bulk : Nat → Nat

/-- Difference of the die copies of package time when a die is aligned, reduced to at most 2 ns, in 0.1 ns (02_dataflow R56, R61). -/
opaque skew : Nat → Nat

/-- Base, in the module's own far tier, of the area that takes a remote site's checkpoint pieces: "Area that the association
member at site t names for this module" (14_checkpoint R497). -/
opaque remoteArea : Nat → Nat

/-- MAC address with which a next hop answers a WAN port's Neighbor Solicitation or ARP request: no command carries the answer
(13_freyn R449). -/
opaque neighborMac : Nat → List (BitVec 8) → List (BitVec 8)
/-- Place of a checkpoint piece in a target's area, by target, buffer and shard: the spec lays out only the
manifests (14_checkpoint R497, R508). -/
opaque piecePlace : Nat → Nat → Nat → Nat

/-- Place, in the module's own far tier, at which an export that it asked for arrives, by shard (14_checkpoint R520). -/
opaque exportPlace : Nat → Nat

end Sys2Proof.Config
end

