-- ==== Sys2Proof/Machine/State.lean ====
section
/-! DEFINITION. The state of the module as plain data. Sparse tables (`Tab`) are association lists with
strictly rising keys; an unlisted key has the type's default. INVENTORY.md lists every piece with the rule
that names it. Fields named `free` or commented MODEL are the model's own. -/

namespace Sys2Proof.Machine

open Sys2Proof

/-- A sparse table: keys strictly rising, no entry equal to the default (Machine/Ops.lean `Tab.set`). -/
abbrev Tab (α : Type) := List (Nat × α)

/-- Bytes by address: strictly rising addresses, no byte 0 listed; an unlisted address reads 0. -/
abbrev Memory := List Host.Cell

/-! ## A core (01_five_levels R21) -/

/-- An arrival counter and its cause latch (02_dataflow R63). -/
structure Counter where
  value : Word := 0
  cause : Cause := 0
  deriving DecidableEq, Repr, Inhabited

/-- A step-list queue (02_dataflow R62, R71, R76, R82, R512). -/
structure Queue where
  pos : Nat := 0
  active : Bool := false
  halted : Bool := false
  retired : Bool := false
  /-- JUMP entries inside their loop, innermost first: entry index and remaining count -/
  loops : List (Nat × Nat) := []
  /-- the head LAUNCH entry has sent its arrival -/
  arrived : Bool := false
  /-- condition 4 of R72 became true while another did not hold -/
  late : Bool := false
  /-- condition 4 of R72 became true while every other one held -/
  onTime : Bool := false
  /-- package time from which the head entry's wait counts -/
  waitFrom : Nat := 0
  deriving DecidableEq, Repr, Inhabited

/-- A queued or running matrix operation (05_matrix_engine R161, R188). -/
structure MatOp where
  desc : BitVec 512 := 0
  queue : Nat := 0
  entry : Nat := 0
  /-- tiles done, in the order of R167 -/
  done : Nat := 0
  /-- the array was idle when the operation began (R181) -/
  fill : Bool := true
  rateA : Nat := 0
  rateB : Nat := 0
  /-- slots on which the operation places the hold of R199 -/
  holdA : List Nat := []
  holdB : List Nat := []
  /-- the running tile's stall of a port is already counted (R216) -/
  stalledA : Bool := false
  stalledB : Bool := false
  deriving DecidableEq, Repr, Inhabited

/-- Matrix engine of a core (05_matrix_engine R189). The first operation runs; the others are queued. -/
structure MatrixEngine where
  ops : List MatOp := []
  lastFail : Cause := 0
  causeOr : Byte := 0
  ended : Word := 0
  tokens : Word64 := 0
  tokensHi : Word := 0
  stallA : Word := 0
  stallB : Word := 0
  skipped : Word := 0
  rescaled : Word := 0
  deriving DecidableEq, Repr, Inhabited

/-- One row of a reduction bank (07_vector R246). -/
structure BankRow where
  acc : W36 := 0
  pairs : List (Word × Word) := []
  deriving DecidableEq, Repr, Inhabited

/-- A reduction bank: operation 0 NONE to 6 TOPK (07_vector R234, R246). -/
structure Bank where
  op : Nat := 0
  k : Nat := 0
  rows : List BankRow := []
  deriving DecidableEq, Repr, Inhabited

/-- A kernel named by a VECTOR entry or run by an update segment (07_vector R225, 10_parameter R341). -/
structure Kernel where
  index : Nat := 0
  /-- argument block, offset in the core's SRAM -/
  args : Nat := 0
  queue : Nat := 0
  entry : Nat := 0
  /-- run by an update segment -/
  segment : Bool := false
  deriving DecidableEq, Repr, Inhabited

/-- The running kernel (07_vector R226 to R230, R241). -/
structure Running where
  kernel : Kernel := {}
  pc : Nat := 0
  counter : Nat := 0
  increment : Nat := 0
  statusEn : Bool := false
  statusOff : Nat := 0
  started : Nat := 0
  flags : BitVec 7 := 0
  firstInstr : Nat := 0
  /-- the instruction directly before took one or more tokens (R235) -/
  took : Bool := false
  deriving DecidableEq, Repr, Inhabited

/-- Vector engine of a core (07_vector R223, R261). Tile `t` holds 256 lanes, lane 16r + c at place 16r + c;
an unlisted tile is all 0. Bit 16r + c of a predicate tile governs lane (r, c). -/
structure VectorEngine where
  tiles : Tab (List Word) := []
  preds : Tab (BitVec 256) := []
  scalars : Tab Word64 := []
  banks : Tab Bank := []
  queue : List Kernel := []
  run : Option Running := none
  /-- outcome of a segment's kernel that has ended: NONE or a cause (10_parameter R341) -/
  segEnd : Option Cause := none
  lastFail : Cause := 0
  failInstr : Nat := 0
  flagsOr : BitVec 7 := 0
  ended : Word := 0
  tokens : Word64 := 0
  tokensHi : Word := 0
  deriving DecidableEq, Repr, Inhabited

/-- One kind of one tap set (07_vector R250). -/
structure Tap where
  sum : W36 := 0
  vanished : Word := 0
  count : Word := 0
  deriving DecidableEq, Repr, Inhabited

/-- Reduction unit of a core (07_vector R250, R262). Taps are keyed 4 × set + kind. Each REDUCE operation
is one indivisible command, so none waits in the unit between commands. -/
structure ReduceUnit where
  taps : Tab Tap := []
  lastFail : Cause := 0
  ended : Word := 0
  applied : Word := 0
  deriving DecidableEq, Repr, Inhabited

/-- A KFR codebook table (06_fixed_rate R195). -/
structure Table where
  rate : Nat
  carried : Nat
  id : Nat
  entries : List Byte
  deriving DecidableEq, Repr, Inhabited

/-- A table slot with its explicit holds (06_fixed_rate R198, R199). -/
structure Slot where
  table : Option Table := none
  explicit : Nat := 0
  deriving DecidableEq, Repr, Inhabited

/-- A LOAD waiting for free slots (06_fixed_rate R201). -/
structure WaitingLoad where
  desc : BitVec 256 := 0
  queue : Nat := 0
  entry : Nat := 0
  deadline : Nat := 0
  deriving DecidableEq, Repr, Inhabited

/-- The expanders of a core: slot 4p + s of expander p (06_fixed_rate R221). -/
structure Expanders where
  slots : Tab Slot := []
  rough : Tab Word := []
  busy : Word := 0
  waiting : List WaitingLoad := []
  deriving DecidableEq, Repr, Inhabited

/-- What an open transfer does (11_memory R388). -/
inductive XferKind where
  | remote | pool | dispatch | combine | ckShard
  | stage | writeback
  deriving DecidableEq, Repr, Inhabited

/-- A write that an open transfer makes once its data is held: device address and bytes. -/
structure Chunk where
  addr : Nat := 0
  bytes : List Byte := []
  deriving DecidableEq, Repr, Inhabited

/-- An open transfer of a core: issued and not ended (11_memory R387). -/
structure Xfer where
  id : Nat := 0
  kind : XferKind := .remote
  op : Nat := 0
  queue : Nat := 0
  entry : Nat := 0
  counter : Nat := 0
  increment : Nat := 0
  /-- descriptor, so that a pool transfer can go on when its data is held -/
  desc : BitVec 256 := 0
  /-- source transfers (tags) or pool lines still outstanding -/
  outstanding : List Nat := []
  /-- POOL lines received so far, or being written: address and bytes -/
  got : List (Nat × List Byte) := []
  /-- tag that pool completions carry -/
  tag : Nat := 0
  /-- the pool request is a write -/
  writing : Bool := false
  shard : Nat := 0
  bytes : Nat := 0
  started : Nat := 0
  deriving DecidableEq, Repr, Inhabited

/-- Transfer engine of a core (11_memory R395). -/
structure TransferEngine where
  open_ : List Xfer := []
  nextId : Nat := 0
  lastFail : Cause := 0
  bytes : Nat := 0
  deriving DecidableEq, Repr, Inhabited

/-- Where an update segment stands (10_parameter R339, R336, R354). -/
inductive SegPhase where
  | queued | waitPrev | waitStage | waitSlot | kernel
  | failed (cause : Cause)
  deriving DecidableEq, Repr, Inhabited

/-- An update segment in the unit (10_parameter R337 to R342). -/
structure Segment where
  desc : BitVec 256 := 0
  queue : Nat := 0
  entry : Nat := 0
  step : Nat := 0
  chunk : Nat := 0
  phase : SegPhase := .queued
  /-- times the segment was issued before (10_parameter R349, 14_checkpoint R523) -/
  issues : Nat := 0
  /-- package time at which the present wait began -/
  since : Nat := 0
  /-- CD.UPD_STEP and COUNTER were advanced by an earlier issue (14_checkpoint R523) -/
  advanced : Bool := false
  deriving DecidableEq, Repr, Inhabited

/-- Update engine of a core (10_parameter R361). The first segment runs. -/
structure UpdateEngine where
  segs : List Segment := []
  /-- segments of an uncommitted step kept for re-issue (14_checkpoint R523) -/
  kept : List Segment := []
  lastFail : Cause := 0
  step : Nat := 0
  stepHi : Word := 0
  ended : Word := 0
  parked : Word := 0
  slotWaitUs : Nat := 0
  deriving DecidableEq, Repr, Inhabited

/-- Routing counters (08_experts R287). -/
structure Routing where
  lastFail : Cause := 0
  requested : Word := 0
  admitted : Word := 0
  dropped : Word := 0
  noneCount : Word := 0
  unserved : Word := 0
  bundlesIn : Word := 0
  deriving DecidableEq, Repr, Inhabited

/-- A scale recipe with its feedback (09_training R302, R304). KIND 7 is NONE. -/
structure Recipe where
  kind : Nat := 7
  scale : Byte := 0
  highest : Byte := 0
  rescales : Nat := 0
  /-- RESCALES at the previous gate -/
  atGate : Nat := 0
  deriving DecidableEq, Repr, Inhabited

/-- A logical core. -/
structure CoreSt where
  queues : Tab Queue := []
  haltCause : Cause := 0
  counters : Tab Counter := []
  mx : MatrixEngine := {}
  vx : VectorEngine := {}
  rd : ReduceUnit := {}
  xp : Expanders := {}
  xf : TransferEngine := {}
  up : UpdateEngine := {}
  rt : Routing := {}
  recipes : Tab Recipe := []
  kernelRegion : Tab (BitVec 64) := []
  sramCe : Word := 0
  sramUe : Word := 0
  deriving DecidableEq, Repr, Inhabited

/-- A cluster's compressor (06_fixed_rate R222). -/
structure Compressor where
  slots : Tab Slot := []
  blocks : Word := 0
  rough : Word := 0
  nan : Word := 0
  wait : Word := 0
  deriving DecidableEq, Repr, Inhabited

/-- A die's rate governor (02_dataflow R47 to R53). Target and measured rate in M tokens/s, the
working target in hundredths of that, so that 1 % of the target is whole; supply in mV. -/
structure Governor where
  target : Nat := 0
  working : Nat := 0
  vset : Nat := 700
  rate : Nat := 0
  junctionTarget : Int := 95
  junction : Int := 0
  powerOver : Bool := false
  thermalOver : Bool := false
  thermalLimited : Bool := false
  powerLimited : Bool := false
  atTarget : Bool := false
  limitedUs : Nat := 0
  /-- setpoint holds of R52: launch slot, the instant L it begins at and the time it ends at -/
  holds : List (Nat × Nat × Nat) := []
  deriving DecidableEq, Repr, Inhabited

/-! ## Package time and launches -/

/-- A launch slot of the launch unit (02_dataflow R82 to R87, R91). -/
structure LaunchSlot where
  /-- arrivals for the pending launch: core and queue -/
  arrived : List (Nat × Nat) := []
  /-- package time of the last arrival -/
  lastAt : Nat := 0
  /-- L, from its setting to the end of the ramp -/
  instant : Option Nat := none
  /-- arrivals that counted toward the launch whose L is set -/
  counted : List (Nat × Nat) := []
  /-- L of the last launch not cancelled, for the minimum spacing, and the one before a pending L -/
  previous : Option Nat := none
  older : Option Nat := none
  generation : Nat := 0
  cancelled : Bool := false
  /-- dies whose participants hold the broadcast (R84) -/
  received : List Nat := []
  deriving DecidableEq, Repr, Inhabited

/-- The package time base (02_dataflow R54 to R61). -/
structure TimeBase where
  released : Bool := false
  /-- the ten copies of package time (R55): dies 0-7, tailstock 8, headstock 9 -/
  copies : List Nat := [0, 0, 0, 0, 0, 0, 0, 0, 0, 0]
  hiLatch : Word := 0
  oscFault : Bool := false
  skewMax : Nat := 0
  aligned : BitVec 10 := 0x3FF
  launchLate : Word := 0
  slots : Tab LaunchSlot := []
  deriving DecidableEq, Repr, Inhabited

/-! ## Gate unit (09_training R313 to R324) -/

/-- Per-layer state of the gate unit (09_training R309, R321). -/
structure LayerSt where
  /-- newest format decided -/
  format : Nat := 0
  /-- format in force before the first of `pending` -/
  base : Nat := 0
  silent : Nat := 0
  vanishing : Nat := 0
  /-- widenings decided: the step each takes effect and the new format -/
  pending : List (Nat × Nat) := []
  deriving DecidableEq, Repr, Inhabited

/-- The gate unit. -/
structure GateUnit where
  /-- the job's first step n0 -/
  first : Nat := 0
  step : Nat := 0
  stepHi : Word := 0
  /-- landed transfers into a core's region that GATE_CONTRIBUTION has not taken -/
  landed : Tab Nat := []
  /-- contributions taken, per core (k of R313) -/
  taken : Tab Nat := []
  /-- records of the contribution of the present step: core, and its GS records as (sum, vanished, weight,
      update) in tap-set order -/
  records : List (Nat × List (W36 × Nat × W36 × W36)) := []
  /-- axis stage: 0 contributions outstanding, 1 to 4 the stage W, X, Y, Z, 5 decided -/
  stage : Nat := 0
  vector : List LayerTotals := []
  /-- messages held: step, stage axis and coordinate -/
  held : List (Nat × Nat × Nat × List LayerTotals) := []
  /-- package time of the first contribution of the step, and of the last -/
  firstAt : Option Nat := none
  lastAt : Nat := 0
  /-- ls(t) by step -/
  ls : Tab Nat := []
  growthRun : Nat := 0
  lsSet : Nat := 0
  lastDecision : Nat := 0
  lastCause : Cause := 0
  halted : Bool := false
  /-- no further gate of this job: one ended Failed (R319, R323) -/
  stopped : Bool := false
  skipped : Word := 0
  worst : Nat := 0
  /-- gate records of steps whose commits are outstanding -/
  closed : Tab (List Byte) := []
  gatesClosed : Nat := 0
  layers : Tab LayerSt := []
  /-- selector advances made, per core -/
  selector : Tab Nat := []
  /-- step up to which each core's patches are written, and one more (R311, R318) -/
  patched : Tab Nat := []
  deriving DecidableEq, Repr, Inhabited

/-! ## Commit unit (10_parameter R332 to R362) -/

/-- A hold on a slot (10_parameter R335): slot, holder and release mark. -/
structure SlotHold where
  slot : Nat
  /-- 0 checkpoint, 1 digest, 2 export, 3 round, 4 staging; with the core or unit -/
  holder : Nat
  mark : Nat
  deriving DecidableEq, Repr, Inhabited

/-- A read that waits for a hold on a committed slot (10_parameter R335): a digest of a step, or an export to a node. -/
inductive HoldWait where
  | digest (step : Nat)
  | exportTo (node : Nat)
  deriving DecidableEq, Repr

/-- The commit unit's state of one shard. -/
structure ShardSt where
  hasState : Bool := false
  slot : Nat := 0
  seq : Nat := 0
  version : Nat := 0
  step : Nat := 0
  count : Nat := 0
  /-- VERSION of the last commit of each slot, unlisted: never committed -/
  slotVersion : List (Nat × Nat) := []
  /-- last step processed (committed, skipped or parked), and its successor as the next step -/
  processed : Option Nat := none
  target : Option (Nat × Nat) := none
  reports : Nat := 0
  lastReportAt : Nat := 0
  parkReports : Nat := 0
  /-- segments that reported a SKIP, by step -/
  skipReports : Tab Nat := []
  park : Nat := 0
  staged : Bool := false
  written : Bool := false
  uncommitted : Bool := false
  cause : Cause := 0
  diverged : Bool := false
  /-- a module whose digest the majority holds, and whether its export has been asked for (14_checkpoint R520) -/
  good : Option Nat := none
  repair : Bool := false
  issues : Nat := 0
  /-- its update has failed three times (14_checkpoint R523) -/
  gaveUp : Bool := false
  holds : List SlotHold := []
  waiting : List HoldWait := []
  /-- CK_SHARD ranges of the step that have placed their hold (14_checkpoint R502) -/
  ckHeld : Nat := 0
  outerReports : Nat := 0
  deriving DecidableEq, Repr, Inhabited

/-- The commit unit. -/
structure CommitUnit where
  shards : Tab ShardSt := []
  lastCause : Cause := 0
  lastShard : Nat := 0
  commits : Word := 0
  worst : Nat := 0
  divergedCount : Word := 0
  sel : Nat := 0
  stepHi : Word := 0
  /-- the step whose commit counters advance next -/
  advanced : Nat := 0
  /-- digests in progress: shard, step and the digests held by coordinate -/
  digests : List (Nat × Nat × List (Nat × Word64)) := []
  deriving DecidableEq, Repr, Inhabited

/-! ## Memory (11_memory_tiers) -/

/-- Errors of a 16-byte SRAM word (11_memory R364). -/
inductive WordErr where
  | none | single | double
  deriving DecidableEq, Repr, Inhabited

/-- A memory channel (11_memory R376, R377, R394). STATE 0 TRAINING, 1 UP, 2 RETRAINING, 3 FAILED. -/
structure Channel where
  state : Nat := 0
  ce : Nat := 0
  /-- times of the corrections of the last 1 s (R377) -/
  recent : List Nat := []
  strobes : Nat := 0
  refreshes : Nat := 0
  hot : Bool := false
  deriving DecidableEq, Repr, Inhabited

/-- The memory block. -/
structure MemUnit where
  channels : Tab Channel := []
  ueCount : Word := 0
  ueAddr : Nat := 0
  ueCause : Cause := 0
  ueHi : Nat := 0
  scrubPasses : Word := 0
  hsCe : Word := 0
  poolTimeouts : Word := 0
  /-- pool windows: VALID and UNBOUND masks -/
  poolValid : Nat := 0
  poolUnbound : Nat := 0
  /-- errors by word number (address / 16) and by line number (address / 64): bad bytes with their XOR -/
  wordErrs : Tab WordErr := []
  lineErrs : Tab (List (Nat × Byte)) := []
  /-- next tag of a pool request item -/
  poolTag : Nat := 0
  deriving DecidableEq, Repr, Inhabited

/-! ## Torus (12_torus_fabric) -/

/-- A packet (12_torus R422) with its payload bytes. -/
structure Packet where
  kind : Nat := 1
  tc : Nat := 0
  vc : Nat := 0
  copiesM1 : Nat := 0
  units : Nat := 0
  cause : Cause := 0
  dst : Nat := 0
  src : Nat := 0
  increment : Nat := 0
  dctr : Nat := 0
  dctrEn : Bool := false
  epoch : Nat := 0
  route : Nat := 0
  tag : Nat := 0
  total : Nat := 0
  dstAddr : Nat := 0
  pad : Nat := 0
  payload : List Byte := []
  deriving DecidableEq, Repr, Inhabited

/-- A frame held in a replay buffer: whether it carries TC0, and how often it has been replayed in a row (12_torus R412,
R420). -/
structure HeldFrame where
  seq : Nat := 0
  bytes : List Byte := []
  tc0 : Bool := false
  replays : Nat := 0
  /-- how often it has been replayed at all (R420) -/
  times : Nat := 0
  deriving DecidableEq, Repr, Inhabited

/-- A torus port (12_torus R401 to R420, R444). STATE as R444. -/
structure Port where
  state : Nat := 0
  width : Nat := 0
  good : Nat := 0
  belowFloor : Bool := false
  downReason : Nat := 0
  downs : Word := 0
  replays : Word := 0
  fecFixed : Word := 0
  fecLost : Word := 0
  tc0Over : Word := 0
  tc0Late : Word := 0
  badPkt : Word := 0
  nbrPort : Nat := 0
  nbrNode : Nat := 0
  nbrFeed : Nat := 0
  /-- identity the neighbour sent last -/
  nbrId : Option PortIdentity := none
  /-- package time at which the present state was entered, and the identity last sent -/
  since : Nat := 0
  idSentAt : Nat := 0
  retryAt : Nat := 0
  /-- the attempt has failed and waits for its retry time (R401) -/
  failing : Bool := false
  /-- the configured identity has been sent, and when both ends had sent one (R406) -/
  ownSent : Bool := false
  bothAt : Option Nat := none
  txSeq : Nat := 0
  rxSeq : Nat := 0xFFFF
  nak : Bool := false
  replay : List HeldFrame := []
  /-- credits held, units of 32 bytes, by 4 × TC + VC -/
  credits : Tab Nat := []
  /-- credits to give back to the neighbour -/
  owed : Tab Nat := []
  /-- bytes of a packet not yet whole -/
  partBytes : List Byte := []
  /-- lane command that the next frame carries: LANE_CMD, LANE_MASK and SWITCH_SEQ (R410); ACK and NAK as last sent; blocks sent -/
  laneCmd : Option (Nat × Nat × Nat) := none
  toldAck : Nat := 0xFFFF
  toldNak : Bool := false
  txBlock : Nat := 0
  /-- packets waiting for credits or for room in the replay buffer -/
  waiting : List Packet := []
  /-- deficit round robin of TC1 to TC3 (R418): deficits in bytes and the class whose turn it is -/
  deficits : List Nat := [0, 0, 0]
  turn : Nat := 1
  /-- packets delivered and not yet taken -/
  inbox : List Packet := []
  lastFrameAt : Nat := 0
  lastRetest : Nat := 0
  /-- lane switch: mask, frame number, agreed by both ends -/
  switch : Option (Nat × Nat × Bool) := none
  /-- the mapping has changed and valid frames have not resumed -/
  switching : Bool := false
  retraining : Bool := false
  deriving DecidableEq, Repr, Inhabited

/-- An open transfer at an edge die (12_torus R424). Key: edge die, source node and tag. -/
structure OpenIn where
  edge : Nat := 0
  src : Nat := 0
  tag : Nat := 0
  epoch : Nat := 0
  got : Nat := 0
  lastAt : Nat := 0
  /-- the transfer has failed here: its remaining packets are discarded (R424) -/
  dead : Bool := false
  deriving DecidableEq, Repr, Inhabited

/-- A transfer this module sends over the torus, keyed by its tag (12_torus R425, R426, R440). -/
structure Source where
  tag : Nat := 0
  core : Nat := 0
  item : Nat := 0
  dst : Nat := 0
  tc : Nat := 0
  epoch : Nat := 0
  packets : List Packet := []
  sent : Bool := false
  lastSent : Nat := 0
  /-- first refusal, and the last resend -/
  refusedAt : Option Nat := none
  resentAt : Nat := 0
  deriving DecidableEq, Repr, Inhabited

/-- Path state to one destination (12_torus R433, R434). -/
structure Path where
  epoch : Nat := 0
  route : Nat := 0
  /-- 0 SELF, 1 NORMAL, 2 DETOUR, 3 UNREACHABLE -/
  state : Nat := 1
  known : Bool := false
  held : Bool := false
  heldAt : Nat := 0
  /-- epochs and classes whose EPOCH_ACK is awaited, and the epochs being drained -/
  awaiting : List (Nat × Nat) := []
  draining : List Nat := []
  oldRoute : Nat := 0
  /-- packets of the module's own protocol that wait for the hold to end -/
  holdQ : List Packet := []
  deriving DecidableEq, Repr, Inhabited

/-- The torus block. -/
structure Torus where
  ports : Tab Port := []
  openIn : List OpenIn := []
  sources : List Source := []
  nextTag : Nat := 1
  paths : Tab Path := []
  /-- links out of service: node and port, and the newest LINK_STATE sequence of each -/
  linksDown : List (Nat × Nat) := []
  linkSeq : List (Nat × Nat × Nat) := []
  ownLinkSeq : Nat := 0
  haltSeq : List (Nat × Nat) := []
  ownHaltSeq : Nat := 0
  /-- newest epoch accepted from each source -/
  rxEpoch : Tab Nat := []
  routeSel : Nat := 0
  epochsLost : Word := 0
  refusedSent : Word := 0
  /-- what the module has sent: packets by port, and messages by port -/
  sentPackets : List (Nat × Packet) := []
  /-- FEC blocks sent, by port: symbols in order (R409) -/
  sentBlocks : List (Nat × List Nat) := []
  sentMessages : List (Nat × Message) := []
  /-- MESSAGE and LINK_STATE packets received, by port: what the firmware reads of them comes with its commands -/
  msgIn : List (Nat × Packet) := []
  deriving DecidableEq, Repr, Inhabited

/-! ## Freyn (13_freyn) -/

/-- A WAN port (13_freyn R494). STATE 0 DOWN, 1 TRAINING, 2 UP, 3 ABSENT. -/
structure WanPort where
  state : Nat := 0
  remoteFault : Bool := false
  localFault : Bool := false
  tx : Word := 0
  rx : Word := 0
  drop : Word := 0
  /-- echo answers in the present second and its start (R449) -/
  echoes : Nat := 0
  echoAt : Nat := 0
  /-- send count CTR[39:0] of the present key epoch (R487) -/
  count : Nat := 0
  /-- MAC addresses of the next hops resolved, by IP address (R449) -/
  neighbors : List (List Byte × List Byte) := []
  deriving DecidableEq, Repr, Inhabited

/-- A packet of a stream, kept to be re-sent: type, sequence number, class and payload; a checkpoint piece's packet names the
target and the write that it belongs to (14_checkpoint R507). -/
structure FrnOut where
  type : Nat := 0
  seq : Nat := 0
  service : Nat := 0
  payload : List Byte := []
  piece : Option (Nat × Nat × Nat) := none
  sentAt : Nat := 0
  sent : Bool := false
  acked : Bool := false
  deriving DecidableEq, Repr, Inhabited

/-- A receive window (13_freyn R490): highest count accepted and the counts seen below it. -/
structure RxWindow where
  highest : Nat := 0
  seen : List Nat := []
  any : Bool := false
  deriving DecidableEq, Repr, Inhabited

/-- What the module keeps for one member site (13_freyn R467, R474, R483, R489 to R491). -/
structure SiteSt where
  state : Nat := 0
  lastHeartbeat : Option Nat := none
  reachable : Bool := false
  primaryUp : Bool := false
  secondUp : Bool := false
  primaryAt : Nat := 0
  secondAt : Nat := 0
  rxEpoch : Option Nat := none
  prevEpoch : Option Nat := none
  epochAt : Nat := 0
  newerSinceReset : Bool := false
  windows : Tab RxWindow := []
  prevWindows : Tab RxWindow := []
  out : List FrnOut := []
  paused : Bool := false
  lastAck : Nat := 0
  rtt : Nat := 0
  msgCount : Nat := 0
  /-- SEQ ranges received and not yet acknowledged, and packets since the last ACK -/
  rxSeqs : List Nat := []
  rxSinceAck : Nat := 0
  rxFirstAt : Nat := 0
  /-- a packet of a RECOVERY stream is among them -/
  rxRecovery : Bool := false
  /-- SEQ of every message held from the site -/
  heldSeqs : List Nat := []
  /-- round whose delta copy was sent to the site -/
  sentRound : Option Nat := none
  /-- a RECOVERY stream on the second route, with the time of its last ACK -/
  recoverySecond : Bool := false
  recovering : Bool := false
  recoveryAck : Nat := 0
  routesDownAt : Option Nat := none
  closedRound : Option Nat := none
  join : Bool := false
  deriving DecidableEq, Repr, Inhabited

/-- A delta held for a round (13_freyn R456, R468). -/
structure HeldDelta where
  site : Nat := 0
  round : Nat := 0
  baseRound : Nat := 0
  pending : Bool := false
  total : Nat := 0
  crc : Word64 := 0
  /-- first block of each packet held, with its number of blocks -/
  got : List (Nat × Nat) := []
  deriving DecidableEq, Repr, Inhabited

/-- A fetch in progress (13_freyn R471, R479, R481). -/
structure FetchSt where
  object : FetchObject := .anchor
  site : Nat := 0
  round : Nat := 0
  got : List (Nat × List Byte) := []
  total : Nat := 0
  crc : Word64 := 0
  tries : Nat := 0
  tagFails : Nat := 0
  started : Nat := 0
  done : Bool := false
  deriving DecidableEq, Repr, Inhabited

/-- A packet that waits for tokens (13_freyn R452): class 0 CONTROL, 1 SERVICE, 2 RECOVERY, 3 BULK. -/
structure WanOut where
  cls : Nat := 0
  site : Nat := 0
  type : Nat := 0
  seq : Nat := 0
  payload : List Byte := []
  resend : Bool := false
  /-- a HEARTBEAT's route; the route of other packets follows from their class -/
  second : Bool := false
  since : Nat := 0
  deriving DecidableEq, Repr, Inhabited

/-- A packet that the module has sent: port, type, destination site, SEQ, and the whole Ethernet frame. -/
structure SentFrame where
  port : Nat := 0
  type : Nat := 0
  site : Nat := 0
  seq : Nat := 0
  frame : List Byte := []
  deriving DecidableEq, Repr, Inhabited

/-- The round unit (13_freyn R460 to R482). -/
structure RoundUnit where
  openRound : Nat := 0
  roundHi : Word := 0
  /-- boundaries reached: round and time -/
  boundaries : List (Nat × Nat) := []
  /-- shards whose DELTA_FORM of the open round has ended Done -/
  formed : List Nat := []
  /-- slot of each round shard on which the open round's hold stands (R463) -/
  formSlots : List (Nat × Nat) := []
  sentDelta : Bool := false
  streamCrc : Word64 := 0
  cur : Bool := false
  anchorRound : Nat := 0
  lastApplied : Option Nat := none
  ownSite : Nat := 0
  ownState : Nat := 0
  active : Nat := 0
  deltas : List HeldDelta := []
  /-- the proposal accepted for each round (R469) -/
  accepted : List ProposeBody := []
  proposal : Option ProposeBody := none
  proposedRound : Option Nat := none
  accepts : Nat := 0
  closing : Option CloseBody := none
  /-- sites whose stream has passed its STREAM_CRC in the present close, and those whose stream has failed it once (R471) -/
  checked : List Nat := []
  failed : List Nat := []
  /-- shards whose OUTER segments have committed in the present close -/
  outerDone : List Nat := []
  lastMask : Nat := 0
  lastKind : Nat := 0
  lastCause : Cause := 0
  orphans : List Nat := []
  rebaseStep : Nat := 0
  rebaseSite : Nat := 0
  joinStep : Nat := 0
  /-- the reference's open round, as fetched -/
  refRound : Nat := 0
  /-- site whose CLOSE is being applied -/
  closeFrom : Nat := 0
  /-- a pending delta is formed and to be sent to the reference -/
  pendingSend : Bool := false
  /-- the round state comes from a restored checkpoint and no close has been applied since -/
  restored : Bool := false
  fetch : Option FetchSt := none
  /-- anchor and momentum of the reference, as fetched -/
  refAnchor : List Byte := []
  refMomentum : List Byte := []
  rebases : Word := 0
  staleDropped : Word := 0
  failovers : Word := 0
  resends : Word := 0
  authFails : Word := 0
  /-- nanoseconds that packets waited for tokens -/
  rateWaitNs : Nat := 0
  /-- token bucket in thousandths of a bit, and the time it was last filled -/
  bucket : Nat := 0
  bucketAt : Nat := 0
  /-- packets waiting for tokens; deficits of SERVICE, RECOVERY, BULK in bytes and the class whose turn it is -/
  queue : List WanOut := []
  deficits : List Nat := [0, 0, 0]
  turn : Nat := 1
  txEpoch : Nat := 0
  epochAt : Nat := 0
  epochStarted : Bool := false
  rekeyAt : Option Nat := none
  rekeyWanted : Bool := false
  exhausted : Bool := false
  lastHeartbeatAt : Nat := 0
  digests : List (Nat × Nat × Word64) := []
  ownDigest : Option (Nat × Word64) := none
  /-- shards and cores whose OUTER segments have been issued in the present close or rebase -/
  outerIssued : List (Nat × Nat) := []
  /-- the sites of the last round known to have closed with quorum (R478) -/
  majority : Nat := 0
  /-- round of the last CLOSE received or sent (R470) -/
  closeSeen : Option Nat := none
  /-- what the module has sent -/
  sent : List SentFrame := []
  /-- answers to Neighbor Solicitations (1), ARP (2) and echo requests (3), and its own solicitations (4) and ARP requests (5):
  port, kind, bytes -/
  answers : List (Nat × Nat × List Byte) := []
  deriving DecidableEq, Repr, Inhabited

/-! ## Checkpoint unit (14_checkpoint) -/

/-- The manifest of a checkpoint sealed at a target (14_checkpoint R508). -/
structure Manifest where
  target : Nat
  seq : Nat
  step : Nat
  round : Nat
  dataCursor : Nat
  grain : Nat
  node : Nat
  buffer : Nat
  pieces : Nat
  mbPerStep : Nat
  deriving DecidableEq, Repr

/-- What a restore writes for a shard, from the pieces that hold its elements (14_checkpoint R515, R519). -/
structure ShardLoad where
  shard : Nat
  step : Nat
  version : Nat
  count : Nat
  park : Nat
  /-- the arrays of R328, as a slot holds them -/
  slotBytes : List Byte
  anchor : List Byte
  momentum : List Byte
  parking : List Byte
  offcut : List Byte
  deriving DecidableEq, Repr

/-- A checkpoint target's state (14_checkpoint R496 to R507, R525). -/
structure Target where
  buffer : Nat := 0
  sealed : Bool := false
  lastCause : Cause := 0
  sealedStep : Nat := 0
  seq : Nat := 0
  /-- step of the checkpoint due or being written, and the time of its cut -/
  due : Option Nat := none
  dueAt : Nat := 0
  /-- elements of each shard not yet read, and cores whose record is not yet captured -/
  piecesLeft : List (Nat × Nat) := []
  coresLeft : List Nat := []
  /-- writes outstanding, oldest first: core and open item of a CK_SHARD, or 1024 + core for a core record -/
  writes : List (Nat × Nat) := []
  /-- DIGEST of each piece -/
  digests : List (Nat × Word64) := []
  /-- open round and data cursor at the cut, the module record of the cut and the core records captured -/
  cutRound : Nat := 0
  cutCursor : Nat := 0
  modRec : Option ModuleRecord := none
  records : List CoreRecord := []
  /-- the manifest copy written last, and the one being written -/
  manifest : List Byte := []
  manifestNext : List Byte := []
  /-- writes outstanding over CXL: of which item, device address and bytes (R497) -/
  lines : List ((Nat × Nat) × Nat × List Byte) := []
  /-- cause with which a transfer to the target has failed, 0: none -/
  lost : Cause := 0
  /-- PARTNER: the round with which the round state there is tagged, and the last round applied then (R499) -/
  roundTag : Option (Nat × Option Nat) := none
  deriving DecidableEq, Repr, Inhabited

/-- The checkpoint unit. -/
structure CheckpointUnit where
  targets : Tab Target := []
  lastCause : Cause := 0
  /-- newest step whose checkpoint fell due -/
  cutStep : Option Nat := none
  partner : Option Nat := none
  sameFeed : Bool := false
  candidate : Nat := 0
  claiming : Option Nat := none
  claimedBy : Option Nat := none
  sealedStep : Nat := 0
  sealedHi : Word := 0
  skipped : Word := 0
  seals : Word := 0
  restores : Word := 0
  slowest : Nat := 0
  /-- restore sequence step of R515, 0: none -/
  restoring : Nat := 0
  restoreAt : Nat := 0
  manifests : List Manifest := []
  /-- sealed steps of every coordinate held -/
  siteSteps : List (Nat × List Nat) := []
  chosen : Nat := 0
  chosenManifest : Option Manifest := none
  moduleRec : Option ModuleRecord := none
  /-- pieces loaded and not yet written to their shards -/
  pieces : List ShardLoad := []
  /-- the image's boxes differ from those of the pieces (R519) -/
  remap : Bool := false
  /-- a replica set held no majority during a restore's verification -/
  noMajority : Bool := false
  grain : Nat := 0
  dataCursor : Nat := 0
  /-- times of automatic restores in the last hour (R522) -/
  autoRestores : List Nat := []
  deriving DecidableEq, Repr, Inhabited

/-! ## Security (15_security) -/

/-- The fuses (15_security R527, 16_power R573). -/
structure Fuses where
  variantM : Bool := false
  lifecycle : Nat := 1
  debugOpen : Bool := false
  serial : Nat := 0
  uds : List Byte := []
  vendorKeyHash : List (List Byte) := [[], []]
  vendorRevoke : Nat := 0
  /-- entries 0 to 3, [] when empty -/
  ownerKeyHash : List (List Byte) := [[], [], [], []]
  ownerRevoke : Nat := 0
  kek : List Byte := []
  /-- number of set ROLLBACK bits -/
  rollback : Nat := 0
  /-- FUSE_CRC and REPAIR_CRC: those of blank fuses -/
  crc : Nat := 0x8bc5bd50
  repairCrc : Nat := 0x8bff08f2
  clusterGood : List Nat := []
  coreGood : List (List Nat) := []
  laneFail : List Nat := []
  wanLaneFail : List Nat := []
  /-- MAC address of each WAN port (13_freyn R446) -/
  wanMac : List (List Byte) := [[2, 0, 0, 0, 0, 0], [2, 0, 0, 0, 0, 1], [2, 0, 0, 0, 0, 2], [2, 0, 0, 0, 0, 3]]
  rowReplacements : List (Nat × Nat) := []
  deriving DecidableEq, Repr

/-- A cipher key slot (15_security R549, R552 to R554). -/
structure KeySlot where
  key : List Byte := []
  usage : Nat := 0
  site : Nat := 0
  epoch : Nat := 0
  fixed : Nat := 0
  nextCtr : Nat := 0
  loadedAt : Nat := 0
  encryptions : Nat := 0
  deriving DecidableEq, Repr, Inhabited

/-- A cipher engine (15_security R549, R560). -/
structure Engine where
  slots : Tab KeySlot := []
  lastFail : Cause := 0
  jobs : Word := 0
  tagFails : Word := 0
  refused : Word := 0
  sel : Nat := 0
  ctrHi : Word := 0
  /-- times of tag failures within the last second (R556) -/
  recentFails : List Nat := []
  deriving DecidableEq, Repr, Inhabited

/-- A key of the store (15_security R542): the master key and its association. -/
structure MasterKey where
  key : List Byte := []
  assoc : Nat := 0
  deriving DecidableEq, Repr, Inhabited

/-- The security record in flash (18_configuration R615). -/
structure SecurityRecord where
  seq : Nat := 0
  ownerLock : Bool := false
  fingerprint : List Byte := []
  sendEpoch : Nat := 0
  rxEpochs : Tab Nat := []
  deriving DecidableEq, Repr, Inhabited

/-- The security core. -/
structure Security where
  km : Option MasterKey := none
  prevKm : Option MasterKey := none
  windowEnd : Nat := 0
  identityKeys : Bool := false
  identityErased : Bool := false
  kekClosed : Bool := false
  alarm : BitVec 6 := 0
  alarms : Word := 0
  authFails : Word := 0
  /-- the AUTH condition of failed unwraps, commits and signatures, counted since Cold reset (R556) -/
  authCount : Nat := 0
  nonce : Option (List Byte × Nat) := none
  /-- group of the alarm being recovered from, and when its condition cleared -/
  recovering : Option Nat := none
  alarmAt : Nat := 0
  spdmVersion : Bool := false
  spdmAlgos : Option Bool := none
  keyWr : List Word := [0, 0, 0, 0, 0, 0, 0, 0]
  keyWrAssoc : Word := 0
  /-- words 0 to 7 and ASSOC (bit 8) that an alarm erased and no write has set since -/
  keyWrLost : Nat := 0
  keyWrStatus : Option Cause := none
  /-- a LOCK waits for the firmware update in progress (R533) -/
  lockWaiting : Bool := false
  /-- last SPDM or owner response -/
  response : List Byte := []
  deriving DecidableEq, Repr, Inhabited

/-! ## Flash (18_configuration R614 to R628) -/

/-- A firmware slot's header fields (18_configuration R622) and whether its signature verifies. -/
structure FwSlot where
  bytes : Tab Byte := []
  /-- the header of the first 4 KiB has been written (R617) -/
  header : Bool := false
  deriving DecidableEq, Repr, Inhabited

/-- A configuration slot: bytes, whether its header is written, and the content the bytes spell (log entry 6). -/
structure CfgSlot where
  bytes : Tab Byte := []
  header : Bool := false
  content : Option Image := none
  deriving DecidableEq, Repr, Inhabited

/-- The boot record (18_configuration R628). Slots 0 A, 1 B. -/
structure BootRecord where
  seq : Nat := 0
  active : Nat := 0
  previous : Nat := 0
  trial : Bool := false
  boots : Nat := 0
  deriving DecidableEq, Repr, Inhabited

/-- A record in the mirror or waiting to be accepted. -/
structure EventRecord where
  type : Nat := 0
  payload : List Byte := []
  deriving DecidableEq, Repr, Inhabited

/-- A record of the ring or the mirror (19_event_recorder R654). -/
structure RingRecord where
  seq : Word := 0
  off : Nat := 0
  len : Nat := 0
  type : Nat := 0
  bytes : List Byte := []
  deriving DecidableEq, Repr, Inhabited

/-- The flash devices F0 (A) and F1 (B). Mirror sectors are listed oldest first; each is its records. -/
structure Flash where
  fwA : FwSlot := {}
  fwB : FwSlot := {}
  cfgA : CfgSlot := {}
  cfgB : CfgSlot := {}
  boot0 : Option BootRecord := none
  boot1 : Option BootRecord := none
  mirror0 : List (List RingRecord) := []
  mirror1 : List (List RingRecord) := []
  security : SecurityRecord := {}
  certChain : List Byte := []
  deriving DecidableEq, Repr, Inhabited

/-! ## Power, reset, pins (16_power, 17_module_signals) -/

/-- PWR.STATUS STATE (16_power R597). -/
inductive PwrState where
  | bringup | ready | rest | resetting | holdup | thermalHold | fault
  deriving DecidableEq, Repr, Inhabited

/-- Where a Cold start or a Full reset stands: the step of R575 that is done. -/
inductive Boot where
  | off | charging | standby | headstock | firmware | channels | verified | waves | pool | ready
  deriving DecidableEq, Repr, Inhabited

/-- A Compute or Die reset in progress (16_power R583). -/
structure ResetRun where
  /-- dies affected -/
  dies : List Nat := []
  compute : Bool := false
  /-- step done: 1 requested, 2 rails off, 3 copy good and waves running -/
  phase : Nat := 1
  wavesDone : Nat := 0
  startedAt : Nat := 0
  thermal : Bool := false
  deriving DecidableEq, Repr, Inhabited

/-- The power block and the pins. Voltages in 10 mV, current in 10 mA units as PWR.INPUT. -/
structure Power where
  state : PwrState := .bringup
  boot : Boot := .off
  /-- the present bring-up is a Full reset: no zeroing (R585) -/
  full : Bool := false
  wave : Nat := 0
  waveAt : Nat := 0
  diesUp : BitVec 8 := 0
  inputLow : Bool := false
  thermalCapped : Bool := false
  faultLatched : Bool := false
  /-- FAULT_LATCHED came from a thermal shutdown: only a Cold reset restarts (R595) -/
  latchThermal : Bool := false
  switchOpen : Bool := true
  vin : Nat := 0
  iin : Nat := 0
  vbulk : Nat := 0
  cap : Nat := 0
  pin : Nat := 0
  hotDie : Nat := 0
  hotC : Int := 0
  lastSource : ResetSource := .input
  lastDie : Nat := 0
  lastKind : Nat := 0
  fullCount : Byte := 0
  computeCount : Byte := 0
  dieCount : Byte := 0
  trips : Byte := 0
  /-- issuing stopped for the whole module (02_dataflow R76; 14_checkpoint R522, 16_power R592) -/
  stopIssue : Bool := false
  powerCap : Bool := false
  resets : List ResetRun := []
  /-- hold-up phase of R592: 0 none, 1 declared, 2 flushed, 3 rails off, 4 discharged -/
  holdup : Nat := 0
  holdupAt : Nat := 0
  /-- Rest: 0 out, 1 in Rest, 2 waking; wake waves done -/
  restPhase : Nat := 0
  wakeWaves : Nat := 0
  zeroing : Bool := false
  /-- a Cold reset was requested by I3C or RESET_N: PWR.LAST_RESET holds its source (16_power R581) -/
  coldAsked : Bool := false
  -- pins and straps
  resetNLow : Option Nat := none
  resetHeld : Bool := false
  tamper : Bool := false
  perstLow : Bool := false
  refclkOk : Bool := false
  feed : Nat := 0
  slot : Nat := 0
  role : Nat := 0
  readyN : Bool := true
  faultN : Bool := true
  throttleN : Bool := true
  deriving DecidableEq, Repr, Inhabited

/-! ## Host, firmware and I3C (18_configuration) -/

/-- JOB_STATE (18_configuration R629). -/
inductive JobState where
  | noJob | waitStart | running | halted | ended | restoring
  deriving DecidableEq, Repr, Inhabited

/-- An open firmware or configuration transfer (18_configuration R624, R627). -/
structure OpenXfer where
  firmware : Bool := true
  slot : Nat := 0
  sum : Nat := 0
  lastAt : Nat := 0
  head : List Byte := []
  deriving DecidableEq, Repr, Inhabited

/-- State of a result record (00_scope R18) kept beside its bytes in headstock SRAM. -/
structure ResultRec where
  index : Nat := 0
  state : Nat := 0
  tag : Nat := 0
  deriving DecidableEq, Repr, Inhabited

/-- A result ring (18_configuration R643 to R646). -/
structure ResultRing where
  issued : Word := 0
  consumed : Word := 0
  recs : List ResultRec := []
  /-- PLAN: value of WRITTEN up to which records are READY, and MB_INDEX of the next record issued -/
  ready : Word := 0
  mbNext : Nat := 0
  deriving DecidableEq, Repr, Inhabited

/-- An intake ring (18_configuration R638 to R641). -/
structure IntakeRing where
  next : Nat := 0
  released : Nat := 0
  baseGen : Nat := 1
  mbBase : Nat := 0
  lastGen : Nat := 0
  skew : Bool := false
  badHeader : Bool := false
  waiting : Bool := false
  relBase : Word := 0
  seq : Nat := 0
  deriving DecidableEq, Repr, Inhabited

/-- The host side. -/
structure HostIf where
  job : JobState := .noJob
  /-- end requested: the step in progress completes (R631) -/
  ending : Bool := false
  /-- a job start waits for links (12_torus R442), since -/
  starting : Option Nat := none
  lastCause : Cause := 0
  cfgSlot : Bool := false
  cfgFallback : Bool := false
  fwSlot : Bool := false
  fwTrial : Bool := false
  /-- no firmware slot passed: the module runs no firmware (18_configuration R628) -/
  noFirmware : Bool := false
  trialAt : Nat := 0
  hostErr : Bool := false
  resLost : Word := 0
  rings : Tab ResultRing := []
  intake : Tab IntakeRing := []
  jobSeq : Nat := 0
  xfer : Option OpenXfer := none
  /-- a firmware update has verified its end part and is not activated -/
  fwReady : Bool := false
  cxlUp : Bool := false
  /-- host software has programmed BAR0 and HDM again since the link came up (R635) -/
  timestamp : Word64 := 0
  /-- last mailbox reply: return code and output payload -/
  reply : Nat := 0
  output : List Byte := []
  /-- MSI-X messages sent, the time from which each vector may send again, and the vectors that wait for it (R633) -/
  msix : List Nat := []
  msixAt : List Nat := [0, 0, 0, 0]
  msixWait : List Nat := []
  ibi : List Nat := []
  -- I3C target
  i3cAddr : Option Nat := none
  i3cArmedAt : Option Nat := none
  i3cOffset : Option Nat := none
  i3cOut : List Byte := []
  /-- last DOE response -/
  doe : List Byte := []
  deriving DecidableEq, Repr, Inhabited

/-! ## Recorder (19_event_recorder) -/

/-- The event recorder. -/
structure Recorder where
  /-- accepted reports waiting for a place in the ring (R657), oldest first -/
  input : List EventRecord := []
  /-- critical reports waiting at their source while the queue is full -/
  waiting : List EventRecord := []
  ring : List RingRecord := []
  writeOff : Nat := 0
  wrapped : Bool := false
  next : Word := 1
  start : Word := 1
  /-- newest reserved limit held by both devices, and by F0 (R663) -/
  limit : Word := 0
  limit0 : Word := 0
  /-- a SEQ_MARK is written and not yet held -/
  markPending : Bool := false
  firstMark : Bool := true
  dropped : Word := 0
  lostCount : Nat := 0
  lostAt : Nat := 0
  clears : Word := 0
  mirrorFault : Bool := false
  /-- critical records not yet appended to the mirror -/
  toMirror : List RingRecord := []
  /-- mirror records older than this SEQ are skipped (R671) -/
  skipBefore : Option Word := none
  telemetryAt : Nat := 0
  criticalOnly : Bool := false
  deriving DecidableEq, Repr, Inhabited

/-! ## The module -/

/-- The whole module. -/
structure State where
  /-- commands waiting, first in, first out (MODEL) -/
  pending : List Instr := []
  /-- data of the last register read (MODEL: what the read returns) -/
  bus : Nat := 0
  /-- counter applied to Config's free values (MODEL) -/
  free : Nat := 0
  /-- bytes by device address: strictly rising, no byte 0 listed, unlisted reads 0 -/
  mem : Memory := []
  cores : Tab CoreSt := []
  clusters : Tab Compressor := []
  governors : Tab Governor := []
  time : TimeBase := {}
  gate : GateUnit := {}
  commit : CommitUnit := {}
  tiers : MemUnit := {}
  torus : Torus := {}
  wan : Tab WanPort := []
  sites : Tab SiteSt := []
  round : RoundUnit := {}
  ck : CheckpointUnit := {}
  fuses : Fuses := {}
  sec : Security := {}
  engines : Tab Engine := []
  flash : Flash := {}
  power : Power := {}
  host : HostIf := {}
  recorder : Recorder := {}
  /-- the image copy with the configuration's content (16_power R576) -/
  image : Option Image := none
  /-- the copy's SHA-384 still equals measurement 3 -/
  copyGood : Bool := true
  deriving DecidableEq, Repr

/-- The machine stops with a fault. The module has no such stop: every fault the spec names is an outcome,
an alarm or a state of PWR.STATUS, and the machine goes on. Nothing raises it (safe). -/
inductive Fault where
  /-- raised by no command; kept because the host's interface needs a type (safe) -/
  | unreachable
  deriving DecidableEq, Repr

/-- The machine refuses a command. -/
inductive Refusal where
  /-- raised by Dispatch for a command whose meaning is not written (safe): no result is claimed -/
  | notModelled (mnemonic : String)
  deriving DecidableEq, Repr

/-- The machine right after Cold reset, before any input (16_power R582, R597; the registers' Cold column).
Flash is erased and the fuses are those of log entry 5; log entry 7 says how a job comes to run. -/
def State.reset : State := {}

end Sys2Proof.Machine
end

