-- ==== Sys2Proof/Machine/Ops.lean ====
section
/-! DEFINITION. Shared operations over State: sparse tables, bytes, memory, package time, event reports, cores,
arrival counters, job state, result records. -/

namespace Sys2Proof.Machine

open Sys2Proof

/-- What a command's meaning answers. -/
abbrev Out := Host.Outcome State Fault Refusal

/-! ## Sparse tables -/

/-- The entry of a key, if listed. -/
def Tab.find? {α : Type} : Tab α → Nat → Option α
  | [], _ => none
  | (k', v) :: t, k => if k' = k then some v else Tab.find? t k

/-- The value at a key: the default where none is listed. -/
def Tab.at {α : Type} [Inhabited α] (t : Tab α) (k : Nat) : α := (t.find? k).getD default

/-- Entry `k` removed. -/
def Tab.erase {α : Type} (t : Tab α) (k : Nat) : Tab α := t.filter (fun e => e.1 != k)

/-- Entry `k` set to `v` in its place, whatever `v` is. -/
def Tab.insert {α : Type} (t : Tab α) (k : Nat) (v : α) : Tab α :=
  t.filter (fun e => e.1 < k) ++ (k, v) :: t.filter (fun e => k < e.1)

/-- Entry `k` set to `v`; the default value is not listed. -/
def Tab.set {α : Type} [Inhabited α] [DecidableEq α] (t : Tab α) (k : Nat) (v : α) : Tab α :=
  if v = default then t.erase k else t.insert k v

/-- Entry `k` changed by `f`. -/
def Tab.upd {α : Type} [Inhabited α] [DecidableEq α] (t : Tab α) (k : Nat) (f : α → α) : Tab α :=
  t.set k (f (t.at k))

/-- Keys strictly rise. -/
abbrev Tab.wf {α : Type} (t : Tab α) : Prop := (t.map Prod.fst).Pairwise (· < ·)

/-! ## Lists in ascending order of a key, equal keys as they stood -/

def insertBy {α : Type} (key : α → Nat) (x : α) : List α → List α
  | [] => [x]
  | y :: t => if key x ≤ key y then x :: y :: t else y :: insertBy key x t
def sortBy {α : Type} (key : α → Nat) (xs : List α) : List α := xs.foldr (insertBy key) []

/-! ## Bytes (00_scope R8: little-endian) -/

/-- The low `n` bytes of a number, least significant first. -/
def leBytes : Nat → Nat → List Byte
  | 0, _ => []
  | n + 1, w => BitVec.ofNat 8 w :: leBytes n (w / 256)

/-- The number that bytes spell, least significant first. -/
def leNat : List Byte → Nat
  | [] => 0
  | b :: bs => b.toNat + 256 * leNat bs

/-- The low `n` bytes of a number, most significant first. -/
def beBytes (n w : Nat) : List Byte := (leBytes n w).reverse

/-- The number that bytes spell, most significant first. -/
def beNat (bs : List Byte) : Nat := leNat bs.reverse

/-- `n` bytes 0. -/
def zeros (n : Nat) : List Byte := List.replicate n 0

/-- Bytes cut or padded with 0 to `n`. -/
def fitBytes (n : Nat) (bs : List Byte) : List Byte := bs.take n ++ zeros (n - bs.length)

/-! ## Memory -/

/-- `n` bytes from address `a` of a list of cells that rises and begins at or after `a`. -/
def cellRun : Memory → Nat → Nat → List Byte
  | _, _, 0 => []
  | [], _, n + 1 => zeros (n + 1)
  | (k, b) :: m, a, n + 1 => if k = a then b :: cellRun m (a + 1) n else 0 :: cellRun ((k, b) :: m) (a + 1) n

/-- One byte: 0 where none is listed (log entry 4). -/
def Memory.byte (m : Memory) (a : Nat) : Byte := Tab.at m a

/-- `n` bytes from address `a`. -/
def Memory.read (m : Memory) (a n : Nat) : List Byte := cellRun (m.dropWhile (fun c => c.1 < a)) a n

/-- The cells that list bytes from an address: a byte 0 is not listed. -/
def cells : Nat → List Byte → Memory
  | _, [] => []
  | a, b :: bs => if b = 0 then cells (a + 1) bs else (a, b) :: cells (a + 1) bs

/-- Bytes written from address `a`. -/
def Memory.write (m : Memory) (a : Nat) (bs : List Byte) : Memory :=
  m.filter (fun c => c.1 < a) ++ cells a bs ++ m.filter (fun c => a + bs.length ≤ c.1)

/-- `n` bytes from address `a` set to 0. -/
def Memory.clear (m : Memory) (a n : Nat) : Memory := m.filter (fun c => c.1 < a || a + n ≤ c.1)

/-- The canonical form of memory: addresses strictly rising, no byte 0 listed. -/
abbrev Memory.wf (m : Memory) : Prop := (m.map Prod.fst).Pairwise (· < ·) ∧ ∀ c ∈ m, c.2 ≠ 0

/-- Memory bytes by device address, with no error rule applied. -/
def State.peek (s : State) (a n : Nat) : List Byte := s.mem.read a n
def State.peekNat (s : State) (a n : Nat) : Nat := leNat (s.peek a n)
/-- Memory bytes written by device address, with no error rule applied. -/
def State.poke (s : State) (a : Nat) (bs : List Byte) : State := { s with mem := s.mem.write a bs }

/-! ## Device addresses (00_scope R9) -/

def spaceBase (space : Nat) : Nat := space <<< 52
/-- Device address of an offset in a core's SRAM. -/
def sramAddr (core off : Nat) : Nat := core <<< 42 + off
def nearAddr (off : Nat) : Nat := spaceBase 1 + off
def farAddr (off : Nat) : Nat := spaceBase 2 + off
def poolAddr (off : Nat) : Nat := spaceBase 3 + off
/-- Device address of an offset in headstock SRAM. -/
def hsAddr (off : Nat) : Nat := spaceBase 5 + off
def addrSpace (a : Nat) : Nat := a >>> 52
def addrCore (a : Nat) : Nat := bitsOf a 42 10
def addrOff (a : Nat) : Nat := bitsOf a 0 46
def sramOff (a : Nat) : Nat := bitsOf a 0 25

/-! ## Time (02_dataflow R55) and free values -/

/-- Package time: the headstock's copy. -/
def State.now (s : State) : Nat := s.time.copies.getD 9 0
/-- A Drehal die's copy. -/
def State.dieTime (s : State) (d : Nat) : Nat := s.time.copies.getD d 0
/-- The counter that Config's free values are applied to advances. -/
def State.draw (s : State) : State := { s with free := s.free + 1 }
/-- A change of state under a condition. -/
def State.when (s : State) (p : Bool) (f : State → State) : State := if p then f s else s
/-- A change of state for every member of a list, in order. -/
def State.each {α : Type} (s : State) (xs : List α) (f : State → α → State) : State := xs.foldl f s

/-! ## Identity of the module -/

/-- Logical clusters per die (00_scope R1). -/
def State.clustersPerDie (s : State) : Nat := if s.fuses.variantM then 7 else 8
def coreDie (core : Nat) : Nat := core / 128
def coreCluster (core : Nat) : Nat := core / 16
/-- The logical core number exists (01_five_levels R34, R35). -/
def State.coreExists (s : State) (core : Nat) : Bool := core < 1024 && core / 16 % 8 < s.clustersPerDie
/-- Every logical core, in order. -/
def State.coreList (s : State) : List Nat := (List.range 1024).filter s.coreExists
/-- The image in force: an empty one where none is loaded. -/
def State.img (s : State) : Image := s.image.getD {}
def State.coreCfg (s : State) (core : Nat) : CoreCfg := (s.img.cores.find? (fun c => c.core == core)).getD { core := core }

/-! ## Event reports (19_event_recorder R657, R658) -/

/-- TYPE bit 15 marks a critical record (R654). -/
def critical (type : Nat) : Bool := 0x8000 ≤ type

/-- A report reaches the recorder's input queue of 256: when it is full a critical record waits at its source and any
other is discarded (R657); after input loss only critical records are accepted (R658). -/
def Recorder.offer (r : Recorder) (now : Nat) (e : EventRecord) : Recorder :=
  if r.criticalOnly && !critical e.type then r
  else if r.input.length < 256 && r.waiting.isEmpty then { r with input := r.input ++ [e] }
  else if critical e.type then { r with waiting := r.waiting ++ [e] }
  else { r with dropped := r.dropped + 1, lostCount := r.lostCount + 1,
                lostAt := if r.lostCount = 0 then now else r.lostAt }

/-- An event is reported: TYPE and payload. -/
def State.report (s : State) (type : Nat) (payload : List Byte) : State :=
  { s with recorder := s.recorder.offer s.now { type := type, payload := payload } }

/-- An event with a common payload (R665) whose DETAIL is given. -/
def State.reportDetail (s : State) (type : Nat) (cause : Cause) (detail : Byte) (index arg addr : Nat) : State :=
  s.report type ([cause, detail] ++ leBytes 2 index ++ leBytes 4 arg ++ leBytes 8 addr)

/-- An event with a common payload: DETAIL is a free value (log entry 8). -/
def State.event (s : State) (type : Nat) (cause : Cause) (index arg addr : Nat) : State :=
  (s.reportDetail type cause (Config.detail s.free) index arg addr).draw

/-! ## Cores -/

def State.core (s : State) (c : Nat) : CoreSt := s.cores.at c
def State.setCore (s : State) (c : Nat) (x : CoreSt) : State := { s with cores := s.cores.set c x }
def State.modCore (s : State) (c : Nat) (f : CoreSt → CoreSt) : State := s.setCore c (f (s.core c))
def State.queue (s : State) (c q : Nat) : Queue := (s.core c).queues.at q
def CoreSt.modQueue (x : CoreSt) (q : Nat) (f : Queue → Queue) : CoreSt := { x with queues := x.queues.upd q f }
def State.modQueue (s : State) (c q : Nat) (f : Queue → Queue) : State := s.modCore c (·.modQueue q f)

/-- An arrival counter advances (02_dataflow R64, R65). -/
def CoreSt.advance (x : CoreSt) (n inc : Nat) : CoreSt :=
  { x with counters := x.counters.upd n (fun k => { k with value := k.value + BitVec.ofNat 32 inc }) }
/-- A cause latch takes a Failed item's cause, unless it holds one (R67). -/
def CoreSt.latch (x : CoreSt) (n : Nat) (cause : Cause) : CoreSt :=
  { x with counters := x.counters.upd n (fun k => { k with cause := if k.cause = 0 then cause else k.cause }) }
def State.advance (s : State) (c n inc : Nat) : State := s.modCore c (·.advance n inc)
def State.latch (s : State) (c n : Nat) (cause : Cause) : State := s.modCore c (·.latch n cause)

/-- One of the causes 0x01 to 0x17 that a Failed outcome may carry (00_scope R15 to R17). -/
def failCause (b : Byte) : Cause := BitVec.ofNat 8 (1 + b.toNat % 23)

/-- An item ends: Done advances its counter, Failed latches its cause (R64, R67). -/
def State.endItem (s : State) (c n inc : Nat) (cause : Cause) : State :=
  if cause = 0 then s.advance c n inc else s.latch c n cause

/-- A counter has reached a target (R66). -/
def Counter.reached (k : Counter) (t : Word) : Bool := (k.value - t).toNat < 2 ^ 31

/-! ## Resets in progress and issuing -/

/-- The die's compute domain is up and it is in no reset. -/
def State.dieRunning (s : State) (d : Nat) : Bool :=
  s.power.diesUp.getLsbD d && s.power.resets.all (fun r => !r.dies.contains d)
/-- Queues of the core may issue (02_dataflow R76; 14_checkpoint R522; 16_power R583, R588, R592). -/
def State.mayIssue (s : State) (c : Nat) : Bool :=
  !s.power.stopIssue && s.dieRunning (coreDie c) && s.power.restPhase == 0 && s.power.holdup == 0 && s.coreExists c

/-! ## Job state and the job status record (18_configuration R629, R641) -/

def JobState.code : JobState → Nat
  | .noJob => 0 | .waitStart => 1 | .running => 2 | .halted => 3 | .ended => 4 | .restoring => 5

def PwrState.code : PwrState → Nat
  | .bringup => 1 | .ready => 2 | .rest => 3 | .resetting => 4 | .holdup => 5 | .thermalHold => 6 | .fault => 7

/-- Bytes cut at 16-byte words: address and bytes of each. -/
def wordCut : Nat → Nat → List Byte → List (Nat × List Byte)
  | 0, _, _ => []
  | n + 1, a, bs => if bs.isEmpty then [] else (a, bs.take (16 - a % 16)) :: wordCut n (a + (16 - a % 16)) (bs.drop (16 - a % 16))

/-- A unit of the headstock writes one SRAM word or part of it (11_memory R364, R365, R380): a whole word clears its error; part of one with a
correctable error is corrected and counted, part of an uncorrectable one is counted and left. -/
def State.hsWord (s : State) (w : Nat × List Byte) : State :=
  let k := w.1 / 16
  let written (s : State) : State := let s := s.poke w.1 w.2
                                     { s with tiers := { s.tiers with wordErrs := s.tiers.wordErrs.erase k } }
  match s.tiers.wordErrs.at k with
  | .none => s.poke w.1 w.2
  | .single => written (if w.2.length = 16 then s else { s with tiers := { s.tiers with hsCe := s.tiers.hsCe + 1 } })
  | .double =>
    if w.2.length = 16 then written s
    else { s with tiers := { s.tiers with ueCount := s.tiers.ueCount + 1, ueAddr := 16 * k, ueCause := Cause.sramUncorrectable } }

/-- A unit of the headstock writes bytes of headstock SRAM from a device address on. -/
def State.hsWrite (s : State) (a : Nat) (bs : List Byte) : State :=
  if s.tiers.wordErrs.all (fun e => 16 * e.1 + 16 ≤ a || a + bs.length ≤ 16 * e.1) then s.poke a bs
  else s.each (wordCut (bs.length / 16 + 2) a bs) State.hsWord

/-- The job status record is updated: SEQ is even again and 2 higher (R641). -/
def State.jobStatus (s : State) : State :=
  let s := { s with host := { s.host with jobSeq := s.host.jobSeq + 2 } }
  s.hsWrite (hsAddr 0x1100000) (leBytes 8 s.host.jobSeq ++ leBytes 1 s.host.job.code ++ [s.host.lastCause] ++ zeros 2
    ++ leBytes 4 s.img.job ++ leBytes 8 s.gate.step ++ leBytes 8 s.round.openRound ++ leBytes 8 s.ck.dataCursor
    ++ leBytes 8 s.ck.sealedStep ++ leBytes 8 s.now)

/-- MSI-X vector v sends: at most one message per 10 µs; another waits (R633). -/
def State.msix (s : State) (v : Nat) : State :=
  let h := s.host
  if h.msixAt.getD v 0 ≤ s.now then { s with host := { h with msix := h.msix ++ [v], msixAt := h.msixAt.set v (s.now + 10000) } }
  else if h.msixWait.contains v then s
  else { s with host := { h with msixWait := h.msixWait ++ [v] } }
/-- Messages that have waited long enough are sent. -/
def State.msixDue (s : State) : State :=
  s.each (s.host.msixWait.filter (fun v => s.host.msixAt.getD v 0 ≤ s.now))
    (fun s v => ({ s with host := { s.host with msixWait := s.host.msixWait.erase v } }).msix v)

/-- The STATE record of a change of PWR.STATUS STATE or JOB_STATE (19_event_recorder R664). -/
def State.stateRecord (s : State) (cause : Cause) : State :=
  s.report 0x8003 (leBytes 1 s.power.state.code ++ leBytes 1 s.host.job.code ++ [cause] ++ zeros 5)

/-! ## Result records (18_configuration R640 to R645) -/

/-- Base offset, record size and NR of a result ring. -/
def State.ringGeom (s : State) (ring : Nat) : Nat × Nat × Nat :=
  match ring with
  | 0 => (0x1102000, 128, 1024)
  | 1 => (0x1122000, 128, 64)
  | r => match s.img.planRings.find? (fun p => p.ring == r) with
    | some p => (p.base, p.recSize, p.nr)
    | none => (0, 0, 0)

/-- Device address of record `index` of a ring (R643). -/
def State.recAddr (s : State) (ring index : Nat) : Nat :=
  let (base, size, nr) := s.ringGeom ring
  hsAddr (base + index % nr * size)

/-- A result record header (R642). -/
def recHeader (index state : Nat) (cause : Cause) (ring tag time len : Nat) : List Byte :=
  leBytes 4 index ++ leBytes 1 state ++ [cause] ++ leBytes 2 ring ++ leBytes 8 tag ++ leBytes 8 time ++ leBytes 4 len
    ++ zeros 36

def State.setRing (s : State) (ring : Nat) (r : ResultRing) : State :=
  { s with host := { s.host with rings := s.host.rings.set ring r } }

/-- A record is issued PENDING with its payload 0, or dropped when its ring is full (R643). -/
def State.issueRec (s : State) (ring tag : Nat) : State :=
  let r := s.host.rings.at ring
  let (_, size, nr) := s.ringGeom ring
  if (r.issued - r.consumed).toNat < nr then
    let i := r.issued.toNat
    (s.setRing ring { r with issued := r.issued + 1, recs := r.recs ++ [{ index := i, state := 1, tag := tag }] }).hsWrite
      (s.recAddr ring i) (recHeader i 1 0 ring tag 0 0 ++ zeros (size - 64))
  else { s with host := { s.host with resLost := s.host.resLost + 1 } }

/-- A PENDING record takes a final state: payload first, then the header; MSI-X vector 1 (R645, R633). -/
def State.closeRec (s : State) (ring index st : Nat) (cause : Cause) (payload : List Byte) : State :=
  let r := s.host.rings.at ring
  match r.recs.find? (fun e => e.index == index && e.state == 1) with
  | none => s
  | some e =>
    ((s.setRing ring { r with recs := r.recs.map (fun e => if e.index = index then { e with state := st } else e) }).hsWrite
      (s.recAddr ring index) (recHeader index st cause ring e.tag s.now payload.length ++ payload)).msix 1
/-- A PENDING record completes READY, or FAILED with a cause. -/
def State.completeRec (s : State) (ring index : Nat) (cause : Cause) (payload : List Byte) : State :=
  s.closeRec ring index (if cause = 0 then 2 else 3) cause payload

/-- The PENDING record of a ring that carries a tag. -/
def State.pendingRec (s : State) (ring tag : Nat) : Option Nat :=
  ((s.host.rings.at ring).recs.find? (fun e => e.tag == tag && e.state == 1)).map (·.index)

/-- The record of a tag completes; one that was dropped is carried whole by an event record (R643, log entry 20). -/
def State.finishRec (s : State) (ring tag : Nat) (cause : Cause) (payload : List Byte) : State :=
  match s.pendingRec ring tag with
  | some i => s.completeRec ring i cause payload
  | none => (s.report (Config.eventType s.free).toNat
      (recHeader 0 (if cause = 0 then 2 else 3) cause ring tag s.now payload.length ++ payload)).draw

/-- Every record issued and not complete becomes FAILED with the ending cause (R631). -/
def State.failRecs (s : State) (cause : Cause) : State :=
  s.each (s.host.rings.flatMap (fun r => (r.2.recs.filter (·.state == 1)).map (fun e => (r.1, e.index))))
    (fun s e => s.closeRec e.1 e.2 3 cause [])

/-- A JOB record is issued and complete at once: event 1 START, 2 END, 3 RESTORE (R642, R643). -/
def State.jobRecord (s : State) (ev : Nat) (cause : Cause) : State :=
  (s.issueRec 1 ev).finishRec 1 ev cause (leBytes 8 s.ck.dataCursor ++ leBytes 8 s.gate.step)

/-- JOB_STATE changes: STATE record, job status record, MSI-X vector 3; ending or halting fails the open records. A job that
ends without a failure has no ending cause that R631 names, and R15 lets no FAILED record carry NONE: a free cause (log entry 117). -/
def State.setJob (s : State) (j : JobState) (cause : Cause) : State :=
  if s.host.job = j then s
  else
    let final := j == .halted || j == .ended
    let s := { s with host := { s.host with job := j, lastCause := if final then cause else s.host.lastCause } }
    let s := s.when final (·.failRecs (if cause = 0 then failCause (Config.endCause s.free) else cause))
    let s := s.when (final && cause == 0) State.draw
    ((s.stateRecord cause).jobStatus).msix 3

/-- READY_N, FAULT_N and THROTTLE_N follow the state that drives them (17_module_signals R604); each that changes raises an
In-Band Interrupt (18_configuration R650). -/
def State.settle (s : State) : State :=
  let p := s.power
  let ready := p.state != .ready
  let fault := !(p.state == .fault || p.faultLatched)
  let throttle := !(p.thermalCapped || p.inputLow || p.state == .holdup || p.state == .thermalHold)
  let ibi (changed : Bool) (b : Nat) : List Nat := if changed then [b] else []
  { s with
    power := { p with readyN := ready, faultN := fault, throttleN := throttle }
    host := { s.host with ibi := s.host.ibi ++ ibi (p.readyN != ready) 1 ++ ibi (p.faultN != fault) 2 ++ ibi (p.throttleN != throttle) 3 } }

/-- PWR.STATUS STATE changes: STATE record and pins. -/
def State.setPwr (s : State) (p : PwrState) (cause : Cause) : State :=
  if s.power.state = p then s else (({ s with power := { s.power with state := p } }).stateRecord cause).settle

/-- BAR0 is reachable: its domain is powered and the link is held down neither by PERST_N nor by a Full reset
(18_configuration R635; 16_power R569, R580). -/
def State.barUp (s : State) : Bool :=
  !s.power.perstLow && decide (s.power.holdup < 3) &&
  (match s.power.boot with | .off | .charging => false | .standby | .headstock => s.power.state == .fault | _ => true)

end Sys2Proof.Machine
end

