-- ==== Sys2Proof/Machine/Bed.lean ====
section
/-! DEFINITION. Logical numbering over the repair map, and the mesh of the bed (01_five_levels R26 to R36). The bed changes no
value that a command shows: it forwards through every reset but Cold and Full (R31), and its hop times are out of scope. -/

namespace Sys2Proof.Machine

open Sys2Proof

/-! ## Repair map (R32, R33) -/

/-- Set bits below `n`, ascending. -/
def goodOnes (n mask : Nat) : List Nat := (List.range n).filter (bitOf mask)

/-- Physical cluster of a die's logical cluster. -/
def State.physCluster (s : State) (die cluster : Nat) : Option Nat :=
  if die < 8 ∧ cluster < s.clustersPerDie then (goodOnes 9 (s.fuses.clusterGood.getD die 0))[cluster]? else none
/-- Physical core, within its physical cluster, of a logical core number. -/
def State.physCore (s : State) (core : Nat) : Option Nat :=
  if core < 1024 then
    match s.physCluster (coreDie core) (core / 16 % 8) with
    | some p => if core % 16 < 16 then (goodOnes 18 ((s.fuses.coreGood.getD (coreDie core) []).getD p 0))[core % 16]? else none
    | none => none
  else none

/-! ## The bed (R26, R28, R30; 19_event_recorder R655) -/

/-- A node of the bed: the router of a physical cluster, or an edge die's node of a row. -/
inductive BedNode where
  | router (die cluster : Nat)
  | headstock (row : Nat)
  | tailstock (row : Nat)
  deriving DecidableEq, Repr

/-- Column, with the headstock at 0 in place of −1, and row. -/
def BedNode.place : BedNode → Nat × Nat
  | .router d p => (3 * (d % 4) + p % 3 + 1, 3 * (d / 4) + p / 3)
  | .headstock y => (0, y)
  | .tailstock y => (13, y)
/-- An edge die's node. -/
def BedNode.isEdge : BedNode → Bool
  | .router _ _ => false
  | _ => true
/-- Where a die's control cores, its memory controllers and its power controller attach (R30). -/
def attachNode (die : Nat) : BedNode := .router die 4

/-- Coordinates passed from `a` to `b`, one step at a time, without `a`. -/
def walk (a b : Nat) : List Nat :=
  if a ≤ b then (List.range (b - a)).map (fun i => a + 1 + i) else (List.range (a - b)).map (fun i => a - 1 - i)
/-- A packet's way: along its row first, then along its column (R28). -/
def bedWay (a b : Nat × Nat) : List (Nat × Nat) :=
  (walk a.1 b.1).map (fun x => (x, a.2)) ++ (walk a.2 b.2).map (fun y => (b.1, y))
/-- The same edge die's node of another row. -/
def BedNode.onRow (y : Nat) : BedNode → BedNode
  | .headstock _ => .headstock y
  | .tailstock _ => .tailstock y
  | n => n
/-- Where a packet enters and leaves the bed: an edge die uses its node of the other end's row. -/
def bedEnds (src dst : BedNode) : BedNode × BedNode :=
  if dst.isEdge then (src, dst.onRow src.place.2) else (src.onRow dst.place.2, dst)

/-- Router of a core's cluster. -/
def State.coreNode (s : State) (core : Nat) : BedNode :=
  .router (coreDie core) ((s.physCluster (coreDie core) (core / 16 % 8)).getD (core / 16 % 8))
/-- Row of the headstock node at which a core's reports arrive. -/
def State.reportRow (s : State) (core : Nat) : Nat := (bedEnds (s.coreNode core) (.headstock 0)).2.place.2
/-- Queues in the order in which the recorder accepts what they report at one moment: by headstock node, then by core (R655). -/
def State.recorderOrder (s : State) (qs : List (Nat × Nat)) : List (Nat × Nat) :=
  (List.range 6).flatMap (fun y => qs.filter (fun a => s.reportRow a.1 == y)) ++ qs.filter (fun a => 6 ≤ s.reportRow a.1)

end Sys2Proof.Machine
end

