-- ==== Sys2Proof/Machine/Fec.lean ====
section
/-! DEFINITION. FEC blocks of a torus port (12_torus R409): two RS(544,514) codewords over GF(2^10), interleaved symbol by symbol. The
field, the generator polynomial and the order of a codeword's symbols are those of the standard the rule names, IEEE 802.3 Clause 91
(PRESUMED, log entry 125). -/

namespace Sys2Proof.Machine

open Sys2Proof

/-! ## The field GF(2^10) -/

/-- Times x, modulo x^10 + x^3 + 1. -/
def symX (a : Nat) : Nat := let b := a * 2; if b < 1024 then b else (b ^^^ 0x409) % 1024
/-- The product of two field elements; the factors left are the low bits of `b`. -/
def symMulBits : Nat → Nat → Nat → Nat
  | 0, _, _ => 0
  | n + 1, a, b => (if b % 2 = 1 then a else 0) ^^^ symMulBits n (symX a) (b / 2)
def symMul (a b : Nat) : Nat := symMulBits 10 a b
/-- a to the power 2^k - 1 for k rounds of squaring and multiplying. -/
def symOnes (a : Nat) : Nat → Nat
  | 0 => 1
  | n + 1 => let p := symOnes a n; symMul (symMul p p) a
/-- The inverse: a^1022, the square of a^511. -/
def symInv (a : Nat) : Nat := let p := symOnes a 9; symMul p p
/-- α^n, for α the element 2. -/
def symAlpha : Nat → Nat
  | 0 => 1
  | n + 1 => symX (symAlpha n)
/-- A polynomial's value, coefficients from the highest. -/
def symEval (x : Nat) (p : List Nat) : Nat := p.foldl (fun v c => symMul v x ^^^ c) 0

/-! ## Codewords -/

/-- The generator's coefficients of x^0 to x^29, ten bits each, times x^b of the field, for b from 0 to 9. -/
def fecRows : List Nat :=
  [0x8FE282ECE68A0011B235468F99448417AD07BD81EB9F7DCD69C5262305881FCB927880D0A0B,
   0x1DC595D9CC16402360638D1F22AD082F1A9F7B02D57EEBBED2884CD60B103F9724F100A341F,
   0x3B8B2BB3982C8046C0C6187E455A105E352ED60DA8FD575DAD12D9AC12297F2E49E20044C3E,
   0x771647473959008D818C30BC1AB029BC2ADD8C1353FA3EBB5A25B348045BFE1C13E4098987C,
   0xEE2C8E8A7BB2010B27186138B544527A553B3C26A7B4FD56BD4B26102CB6FE7827C812114F8,
   0xDE599D34FF6642066E39C231FA88A4F4AA665C4C4D697A8D73960CB0596CFEF0DF9024229F0,
   0xBEF32A4DFECC840CD87B8663753548EB545CB8989A92753EE62E5960B2D8FFE13F0448453E0,
   0x7FE6D4BFFC9B480994F60EC67A6A90D4E8A955303764EA79C55CB2C161B9FDC2FE2C908A3C9,
   0xFF8D397BF134D0030DEC1D8CE4F529ABD1D28E606E8954D78AB92512C372F9C5EC7D201679B,
   0xFD5A62D7EB69A0061BD83B19C9EA5255E3A518C9DD12A9AB1D704AB582EDF1CBC8DE402CB3F]

/-- The remainder takes one more symbol of the message: 30 symbols of ten bits, x^29 at the top. -/
def fecStep (r m : Nat) : Nat :=
  let f := r >>> 290 ^^^ m
  (fecRows.zipIdx.foldl (fun v (row, b) => if f.testBit b then v ^^^ row else v) ((r <<< 10) % 2 ^ 300))
/-- The 30 parity symbols of a message of 514, x^29 first. -/
def fecParity (m : List Nat) : List Nat :=
  let r := m.foldl fecStep 0
  (List.range 30).map (fun i => r >>> (290 - 10 * i) % 1024)
/-- A codeword: the message, then its parity. -/
def fecEncode (m : List Nat) : List Nat := m ++ fecParity m

/-- Sum of two polynomials, coefficients from the lowest. -/
def polyAdd : List Nat → List Nat → List Nat
  | [], q => q
  | p, [] => p
  | a :: p, b :: q => (a ^^^ b) :: polyAdd p q
def polyScale (k : Nat) (p : List Nat) : List Nat := p.map (symMul k)

/-- State of Berlekamp and Massey's search: locator, previous locator, length, last discrepancy, shift. -/
structure Locator where
  c : List Nat := [1]
  b : List Nat := [1]
  len : Nat := 0
  d : Nat := 1
  m : Nat := 1

/-- One more syndrome. -/
def Locator.step (s : List Nat) (l : Locator) (n : Nat) : Locator :=
  let d := (List.range (l.len + 1)).foldl (fun v i => v ^^^ symMul (l.c.getD i 0) (s.getD (n - i) 0)) 0
  if d = 0 then { l with m := l.m + 1 }
  else
    let c := polyAdd l.c (List.replicate l.m 0 ++ polyScale (symMul d (symInv l.d)) l.b)
    if 2 * l.len ≤ n then { c := c, b := l.c, len := n + 1 - l.len, d := d, m := 1 }
    else { l with c := c, m := l.m + 1 }

/-- Errors of a word whose remainder is `r`, as positions from the first symbol with their values: none where more than 15 symbols
would have to change. -/
def fecErrors (r : List Nat) : Option (List (Nat × Nat)) :=
  let s := (List.range 30).map (fun j => symEval (symAlpha j) r)
  let l := (List.range 30).foldl (Locator.step s) {}
  let omega := (List.range 30).map (fun n => (List.range (n + 1)).foldl (fun v i => v ^^^ symMul (l.c.getD i 0) (s.getD (n - i) 0)) 0)
  let at' (p : List Nat) (x : Nat) : Nat := symEval x p.reverse
  let found := (List.range 544).filterMap (fun p =>
    let x := symAlpha p
    let y := symInv x
    if at' l.c y ≠ 0 then none
    else
      let slope := at' ((l.c.drop 1).zipIdx.map (fun (k, i) => if i % 2 = 0 then k else 0)) y
      some (543 - p, symMul x (symMul (at' omega y) (symInv slope))))
  if 15 < l.len || found.length ≠ l.len then none else some found

/-- A received word of 544 symbols: its message and how many symbols were corrected, none where it is uncorrectable. -/
def fecDecode (w : List Nat) : Option (List Nat × Nat) :=
  let m := w.take 514
  let r := (fecParity m).zipWith (· ^^^ ·) (w.drop 514)
  if r.all (· == 0) then some (m, 0)
  else match fecErrors r with
    | none => none
    | some es => some ((es.foldl (fun m e => m.modify e.1 (· ^^^ e.2)) w).take 514, es.length)

/-! ## Blocks (R409) -/

/-- Symbols of a number, ten bits each, the lowest first. -/
def symbolsOf : Nat → Nat → List Nat
  | 0, _ => []
  | n + 1, w => w % 1024 :: symbolsOf n (w / 1024)
/-- The number that symbols spell. -/
def symbolsNat : List Nat → Nat
  | [] => 0
  | x :: xs => x % 1024 + 1024 * symbolsNat xs

/-- Every other member of a list, from the first. -/
def evens {α : Type} : List α → List α
  | [] => []
  | [x] => [x]
  | x :: _ :: xs => x :: evens xs
/-- Members of two lists in turn. -/
def interleave {α : Type} : List α → List α → List α
  | x :: xs, y :: ys => x :: y :: interleave xs ys
  | _, _ => []

/-- The control field: the block count below the marker 0xA5_3C96; its bits and the frame's follow in order, lowest first (DESIGN CHOICE,
log entry 125). -/
def fecControl (count : Nat) : Nat := 0xA53C96 * 2 ^ 16 + count % 65536

/-- A block of 1 088 symbols: symbols of the information bits go to the two codewords in turn, and so do the codewords' symbols to the
block. `frame` is the number that the frame's 1 280 bytes spell. -/
def fecBlock (count frame : Nat) : List Nat :=
  let info := symbolsOf 1028 (fecControl count + 2 ^ 40 * frame)
  interleave (fecEncode (evens info)) (fecEncode (evens (info.drop 1)))

/-- What a received block holds: codewords corrected, codewords uncorrectable, and the frame where both decode. -/
structure FecOut where
  fixed : Nat
  lost : Nat
  frame : Option Nat
  deriving DecidableEq, Repr

def fecReceive (symbols : List Nat) : FecOut :=
  let a := fecDecode (evens symbols)
  let b := fecDecode (evens (symbols.drop 1))
  { fixed := (a.toList ++ b.toList).countP (fun x => x.2 != 0), lost := [a, b].countP Option.isNone,
    frame := match a, b with
      | some (x, _), some (y, _) => some (symbolsNat (interleave x y) / 2 ^ 40)
      | _, _ => none }

/-- Symbols of a block that a logical lane carries: the block's symbols go round the lanes of the width (R409). -/
def laneSymbols (width lane : Nat) (block : List Nat) : List Nat :=
  (block.zipIdx.filter (fun e => e.2 % width == lane)).map (·.1)

end Sys2Proof.Machine
end

