-- ==== Sys2Proof/Machine/Route.lean ====
section
/-! DEFINITION. Nodes, links and routes of the torus (12_torus R396, R421, R427 to R430, R441). -/

namespace Sys2Proof.Machine

open Sys2Proof

/-! ## Nodes (R421) -/

def State.axis (s : State) (a : Nat) : Nat := s.img.axes.getD a 1
/-- Product of the axis sizes. -/
def State.nodes (s : State) : Nat := s.axis 0 * s.axis 1 * s.axis 2 * s.axis 3
/-- Weight of an axis in a node number. -/
def State.weight (s : State) (a : Nat) : Nat := ((List.range a).map s.axis).prod
def State.coord (s : State) (node a : Nat) : Nat := node / s.weight a % s.axis a
/-- The node with coordinate `c` on axis `a` and the others of `node`. -/
def State.withCoord (s : State) (node a c : Nat) : Nat := node - s.coord node a * s.weight a + c * s.weight a

/-- Port of an axis and direction: true for − (R396). -/
def portOf (a : Nat) (minus : Bool) : Nat := 2 * a + b2n minus
/-- One step along an axis. -/
def State.stepCoord (s : State) (a : Nat) (minus : Bool) (c : Nat) : Nat :=
  if minus then (c + s.axis a - 1) % s.axis a else (c + 1) % s.axis a
def State.neighbour (s : State) (node port : Nat) : Nat :=
  let a := port / 2
  s.withCoord node a (s.stepCoord a (port % 2 == 1) (s.coord node a))

/-! ## Links -/

/-- The port carries frames and is at or above its axis floor (R441). -/
def State.portInService (s : State) (p : Nat) : Bool :=
  let x := s.torus.ports.at p
  x.state == 6 && !x.belowFloor

/-- The link at a node's port is in service, seen from the site link map and, at this module, from its own ports. -/
def State.linkUp (s : State) (node port : Nat) : Bool :=
  let far := s.neighbour node port
  let back := port ^^^ 1
  let endUp (n p : Nat) : Bool := if n = s.img.node then s.portInService p else !s.torus.linksDown.contains (n, p)
  endUp node port && endUp far back

/-! ## Routes -/

/-- A route: a direction per axis (true for −), and an offset axis with its direction. -/
structure Route where
  minus : List Bool := [false, false, false, false]
  offset : Option (Nat × Bool) := none
  deriving DecidableEq, Repr, Inhabited

/-- ROUTE byte (R428). -/
def Route.byte (r : Route) : Nat :=
  let dirs := (r.minus.zipIdx.map (fun (m, i) => if m then 2 ^ i else 0)).sum
  match r.offset with
  | none => dirs
  | some (a, m) => 128 + 64 * b2n m + 16 * a + dirs
def Route.ofByte (b : Nat) : Route :=
  { minus := (List.range 4).map (bitOf b), offset := if bitOf b 7 then some (fld4 b, bitOf b 6) else none }
where fld4 (b : Nat) : Nat := bitsOf b 4 2

/-- Direction of R427 on an axis from coordinate c to coordinate d. -/
def State.shortWay (s : State) (a c d : Nat) : Bool :=
  let n := s.axis a
  let up := (d + n - c) % n
  let down := (c + n - d) % n
  if up = down then c % 2 == 1 else down < up

/-- Links crossed along one axis from `node` to coordinate `d`, at most `fuel` of them, and the node reached. -/
def State.leg (s : State) (a : Nat) (minus : Bool) (d : Nat) : Nat → Nat → List (Nat × Nat) × Nat
  | 0, node => ([], node)
  | fuel + 1, node =>
    if s.coord node a = d then ([], node)
    else
      let p := portOf a minus
      let (rest, last) := s.leg a minus d fuel (s.neighbour node p)
      ((node, p) :: rest, last)

def State.legUp (s : State) (a : Nat) (minus : Bool) (node dst : Nat) : Bool :=
  (s.leg a minus (s.coord dst a) 64 node).1.all (fun l => s.linkUp l.1 l.2)

/-- Directions on the axes of `order`, each the short way, or the other where the short way crosses a link out of service
and `detour` holds (R429 candidate 2); with whether every link crossed is in service. -/
def State.choose (s : State) (detour : Bool) (dst : Nat) : List Nat → Nat → List (Nat × Bool) × Bool
  | [], _ => ([], true)
  | a :: rest, node =>
    let short := s.shortWay a (s.coord node a) (s.coord dst a)
    let dir := if detour && !s.legUp a short node dst then !short else short
    let (more, ok) := s.choose detour dst rest (s.withCoord node a (s.coord dst a))
    ((a, dir) :: more, ok && s.legUp a dir node dst)

/-- Direction bits; an axis that the route does not travel has bit 0. -/
def State.dirBits (s : State) (frm dst : Nat) (dirs : List (Nat × Bool)) : List Bool :=
  (List.range 4).map (fun a => s.coord frm a != s.coord dst a && dirs.any (fun d => d == (a, true)))

/-- Axes whose leg of R427 crosses a link out of service. -/
def State.brokenAxes (s : State) (src dst : Nat) : List Nat :=
  (s.choose false dst [0, 1, 2, 3] src).1.filterMap (fun (a, m) =>
    let node := (List.range a).foldl (fun n b => s.withCoord n b (s.coord dst b)) src
    if s.legUp a m node dst then none else some a)

/-- The offset candidates in order (R429 candidate 3). -/
def State.offsetRoute (s : State) (src dst : Nat) (broken : List Nat) : Option Route :=
  (([0, 1, 2, 3].filter (fun a => 1 < s.axis a && !broken.contains a)).flatMap (fun a => [(a, false), (a, true)])).findSome?
    (fun (a, m) =>
      let first := s.neighbour src (portOf a m)
      let order := [0, 1, 2, 3].filter (· != a) ++ [a]
      let (dirs, ok) := s.choose true dst order first
      if s.linkUp src (portOf a m) && ok then some { minus := s.dirBits first dst dirs, offset := some (a, m) } else none)

/-- Axes on which a route is not that of R427: those whose leg is broken, those that take the other direction, and the offset axis. -/
def Route.changedAxes (r normal : Route) (broken : List Nat) : List Nat :=
  [0, 1, 2, 3].filter (fun a => broken.contains a || r.minus.getD a false != normal.minus.getD a false || r.offset.any (fun o => o.1 == a))

/-- Route and state to a destination (R429, R441): 0 SELF, 1 NORMAL, 2 DETOUR, 3 UNREACHABLE. A route that leaves that of R427 on an
axis with detours off makes the destination UNREACHABLE. -/
def State.routeTo (s : State) (dst : Nat) : Route × Nat :=
  let src := s.img.node
  if dst = src then ({}, 0)
  else
    let (short, ok) := s.choose false dst [0, 1, 2, 3] src
    let normal : Route := { minus := s.dirBits src dst short }
    if ok then (normal, 1)
    else
      let broken := s.brokenAxes src dst
      let (around, ok2) := s.choose true dst [0, 1, 2, 3] src
      match (if ok2 then some { minus := s.dirBits src dst around } else s.offsetRoute src dst broken) with
      | some r => if (r.changedAxes normal broken).any (fun a => !s.img.detours.getD a true) then (normal, 3) else (r, 2)
      | none => (normal, 3)

/-- The port by which a packet leaves this module: none when this module is its destination (R427, R428). -/
def State.nextPort (s : State) (route src dst : Nat) : Option Nat :=
  let r := Route.ofByte route
  let here := s.img.node
  match r.offset with
  | some (a, m) =>
    if here = src then some (portOf a m)
    else
      ([0, 1, 2, 3].filter (· != a) ++ [a]).findSome? (fun b =>
        if s.coord here b = s.coord dst b then none else some (portOf b (r.minus.getD b false)))
  | none =>
    [0, 1, 2, 3].findSome? (fun b =>
      if s.coord here b = s.coord dst b then none else some (portOf b (r.minus.getD b false)))

/-- The hop by port p from this module crosses its axis's wrap link. -/
def State.wraps (s : State) (p : Nat) : Bool :=
  let c := s.coord s.img.node (p / 2)
  if p % 2 = 1 then c == 0 else c + 1 == s.axis (p / 2)

/-- VC of a packet on its hop by port p (R430); `arrived` is the port it came in by. -/
def State.nextVc (s : State) (route vc p : Nat) (arrived : Option Nat) : Nat :=
  let base := if bitOf route 7 then 2 else 0
  if s.wraps p then base + 1
  else if arrived.any (fun q => q / 2 == p / 2) then vc else base

end Sys2Proof.Machine
end

