-- ==== Sys2Proof/Machine/Packets.lean ====
section
/-! DEFINITION. Packets, frames, credits and replay on a torus port, and the messages of a site (12_torus R409 to R418, R422, R423,
R431). -/

namespace Sys2Proof.Machine

open Sys2Proof

/-! ## Packet header (R422) -/

def Packet.header (p : Packet) : Nat :=
  p.kind + p.tc <<< 8 + p.vc <<< 10 + p.copiesM1 <<< 12 + p.units <<< 16 + p.cause.toNat <<< 24 + p.dst <<< 32 + p.src <<< 48 +
  p.increment <<< 64 + p.dctr <<< 80 + b2n p.dctrEn <<< 86 + p.epoch <<< 88 + p.route <<< 96 + p.tag <<< 104 + p.total <<< 128 +
  p.dstAddr <<< 176 + p.pad <<< 232

def Packet.ofHeader (w : Nat) (payload : List Byte) : Packet :=
  { kind := bitsOf w 0 8, tc := bitsOf w 8 2, vc := bitsOf w 10 2, copiesM1 := bitsOf w 12 4, units := bitsOf w 16 8,
    cause := BitVec.ofNat 8 (bitsOf w 24 8), dst := bitsOf w 32 16, src := bitsOf w 48 16, increment := bitsOf w 64 16,
    dctr := bitsOf w 80 6, dctrEn := bitOf w 86, epoch := bitsOf w 88 8, route := bitsOf w 96 8, tag := bitsOf w 104 24,
    total := bitsOf w 128 48, dstAddr := bitsOf w 176 56, pad := bitsOf w 232 5, payload := payload }

/-- KIND is known and reserved fields are 0 (R423). -/
def pktHeaderOk (w : Nat) : Bool := 1 ≤ bitsOf w 0 8 && bitsOf w 0 8 ≤ 8 && bitsOf w 16 8 ≤ 128 && !bitOf w 87 && bitsOf w 237 19 == 0

/-- The packet's bytes: header and payload units. -/
def Packet.bytes (p : Packet) : List Byte := leBytes 32 p.header ++ fitBytes (32 * p.units) p.payload
/-- Credits that a packet spends (R416): one per 32-byte unit, header included. -/
def Packet.cost (p : Packet) : Nat := p.units + 1
/-- Payload bytes that the packet carries, PAD left out. -/
def Packet.data (p : Packet) : List Byte := p.payload.take (32 * p.units - p.pad)

/-! ## Frames (R410) -/

/-- CRC-32 of the IEEE 802.3 frame check sequence. -/
def crc32Bit (c : Word) : Word := if c.getLsbD 0 then (c >>> 1) ^^^ 0xEDB88320 else c >>> 1
def crc32Byte (c : Word) (b : Byte) : Word :=
  let c := c ^^^ b.setWidth 32
  crc32Bit (crc32Bit (crc32Bit (crc32Bit (crc32Bit (crc32Bit (crc32Bit (crc32Bit c)))))))
/-- The register after some bytes, its value taken as a number at each byte. -/
def crc32From : List Byte → Word → Word
  | [], c => c
  | b :: bs, c => match (crc32Byte c b).toNat with
    | 0 => crc32From bs 0
    | n + 1 => crc32From bs (BitVec.ofNat 32 (n + 1))
def crc32 (bs : List Byte) : Word := ~~~(crc32From bs 0xFFFFFFFF)

/-- The link slot's bytes 0 to 59. -/
def linkSlot (seq ack : Nat) (nak : Bool) (laneCmd switchSeq laneMask : Nat) (credits : List Nat) : List Byte :=
  leBytes 60 (seq + ack <<< 16 + b2n nak <<< 32 + laneCmd <<< 33 + switchSeq <<< 48 +
    ((credits.zipIdx.map (fun (n, f) => n <<< (64 + 12 * f))).sum) + laneMask <<< 256)

/-- A frame: 1 216 payload bytes, the link slot and its CRC. -/
def frameBytes (payload slot : List Byte) : List Byte :=
  let body := fitBytes 1216 payload ++ fitBytes 60 slot
  body ++ leBytes 4 (crc32 body).toNat

def Torus.port (t : Torus) (p : Nat) : Port := t.ports.at p
def Torus.modPort (t : Torus) (p : Nat) (f : Port → Port) : Torus := { t with ports := t.ports.upd p f }
def State.modPort (s : State) (p : Nat) (f : Port → Port) : State := { s with torus := s.torus.modPort p f }
def State.port (s : State) (p : Nat) : Port := s.torus.port p

/-- Receiver buffers in 32-byte units: 4 KiB for TC0, 128 KiB for the others (R416). -/
def fullCredits : Tab Nat := (List.range 16).map (fun f => (f, if f < 4 then 128 else 4096))

/-- Frames that a packet takes: it begins a frame and may span several. -/
def Packet.frames (p : Packet) : Nat := (32 * p.cost + 1215) / 1216

/-- Frame a is at or before b in sequence. -/
def seqLe (a b : Nat) : Bool := (b + 65536 - a % 65536) % 65536 < 32768

/-- Credit is held, the replay buffer of 1 024 frames has room (R412, R416), and no frame of the packet reaches the number from which
an agreed lane switch takes effect (R408). -/
def Port.canSend (x : Port) (p : Packet) : Bool :=
  p.cost ≤ x.credits.at (4 * p.tc + p.vc) && x.replay.length + p.frames ≤ 1024 &&
  x.switch.all (fun w => !w.2.2 || seqLe (x.txSeq + p.frames) w.2.1)

/-- The link slot of the next frame: its number, the last frame received in order, NAK, a lane command and the credits owed. -/
def Port.slot (x : Port) : List Byte :=
  let (cmd, mask, seq) := x.laneCmd.getD (0, 0, 0)
  linkSlot x.txSeq x.rxSeq x.nak cmd seq mask ((List.range 16).map (fun f => min (x.owed.at f) 4095))
/-- What a frame's link slot has told is told. -/
def Port.told (x : Port) : Port :=
  { x with owed := (List.range 16).foldl (fun t f => t.upd f (· - 4095)) x.owed, laneCmd := none, toldAck := x.rxSeq, toldNak := x.nak }
/-- The link slot has something to tell. -/
def Port.mustTell (x : Port) : Bool :=
  x.laneCmd.isSome || x.owed.any (fun e => e.2 != 0) || x.toldAck != x.rxSeq || x.toldNak != x.nak
/-- The port sends frames: it is UP and in no lane switch (R408) and no in-service retrain (R413). -/
def Port.sends (x : Port) : Bool := x.state == 6 && !x.switching && !x.retraining

/-- A frame leaves in an FEC block (R409). -/
def Torus.emit (t : Torus) (p : Nat) (bytes : List Byte) : Torus :=
  ({ t with sentBlocks := t.sentBlocks ++ [(p, fecBlock (t.port p).txBlock (leNat bytes))] }).modPort p
    (fun x => { x with txBlock := (x.txBlock + 1) % 65536 })

/-- One frame of payload is sent and stays in the replay buffer. -/
def Torus.sendFrame (t : Torus) (p : Nat) (tc0 : Bool) (payload : List Byte) : Torus :=
  let x := t.port p
  let bytes := frameBytes payload x.slot
  (t.modPort p (fun x => { x.told with replay := x.replay ++ [{ seq := x.txSeq, bytes := bytes, tc0 := tc0 }],
                                       txSeq := (x.txSeq + 1) % 65536 })).emit p bytes

/-- An idle frame: no payload, and the number of the next frame, which it does not use up (log entry 71). -/
def Torus.sendIdle (t : Torus) (p : Nat) : Torus := (t.modPort p Port.told).emit p (frameBytes [] (t.port p).slot)

/-- A packet's bytes cut into frames. -/
def Torus.sendPacket (t : Torus) (p : Nat) (k : Packet) : Torus :=
  let bs := k.bytes
  (List.range k.frames).foldl (fun t i => t.sendFrame p (k.tc == 0) ((bs.drop (1216 * i)).take 1216))
    (t.modPort p (fun x => { x with credits := x.credits.upd (4 * k.tc + k.vc) (· - k.cost) }))

/-- What sending needs of the rest of the module: its node, package time, class weights and whether it may send. -/
structure TxCtx where
  node : Nat
  now : Nat
  weight : Nat → Nat
  may : Bool

/-- A packet leaves a port; a transfer of this module has sent to here (R425). -/
def Torus.launch (t : Torus) (c : TxCtx) (port : Nat) (k : Packet) : Torus :=
  let t := t.sendPacket port k
  { t with sentPackets := t.sentPackets ++ [(port, k)],
           sources := if k.kind = 1 && k.src = c.node
             then t.sources.map (fun y => if y.tag = k.tag then { y with lastSent := c.now } else y) else t.sources }

/-- Class weight (R418). -/
def State.tcWeight (s : State) (tc : Nat) : Nat := s.img.tcWeights.getD (tc - 1) 1

/-- The packet of a class that goes next: the first that may be sent; no packet passes an earlier one of its class and channel, and
one channel does not hold up another (R414, R416). -/
def firstSendable (may : Packet → Bool) (tc : Nat) : List Nat → List Packet → Option Packet
  | _, [] => none
  | held, p :: rest =>
    if p.tc = tc && !held.contains p.vc && may p then some p
    else firstSendable may tc (if p.tc = tc then p.vc :: held else held) rest
def Port.headOf (x : Port) (tc : Nat) : Option Packet := firstSendable x.canSend tc [] x.waiting

/-- One turn of the output queue: TC0 first; then the class whose turn it is, by deficit round robin with a quantum of
weight × 1 024 bytes (R418). None when nothing waiting can be sent within `turns` turns. -/
def pickPacket (quantum : Nat → Nat) : Nat → Port → Option (Packet × Port)
  | 0, _ => none
  | turns + 1, x =>
    match x.headOf 0 with
    | some p => some (p, x)
    | none =>
      let d := x.deficits.getD (x.turn - 1) 0
      match x.headOf x.turn with
      | some p =>
        if 32 * p.cost ≤ d then some (p, { x with deficits := x.deficits.set (x.turn - 1) (d - 32 * p.cost) })
        else
          let next := x.turn % 3 + 1
          pickPacket quantum turns { x with
            turn := next, deficits := x.deficits.set (next - 1) (x.deficits.getD (next - 1) 0 + quantum next) }
      | none =>
        let next := x.turn % 3 + 1
        pickPacket quantum turns { x with
          turn := next,
          deficits := (x.deficits.set (x.turn - 1) 0).set (next - 1) ((if next = x.turn then 0 else x.deficits.getD (next - 1) 0) + quantum next) }

/-- Waiting packets of a port are sent while any may be. -/
def Torus.drain (c : TxCtx) (port : Nat) : Nat → Torus → Torus
  | 0, t => t
  | fuel + 1, t =>
    let x := t.port port
    if x.waiting.isEmpty || !x.sends || !c.may then t
    else
      match pickPacket (fun tc => 1024 * c.weight tc) 32 x with
      | none => t
      | some (p, x) => Torus.drain c port fuel ((t.modPort port (fun _ => { x with waiting := x.waiting.erase p })).launch c port p)
/-- A port sends what it may, and then an idle frame if its link slot has something to tell. -/
def Torus.run (t : Torus) (c : TxCtx) (port : Nat) : Torus :=
  let t := t.drain c port ((t.port port).waiting.length + 1)
  if (t.port port).sends && (t.port port).mustTell && c.may then t.sendIdle port else t

def State.txCtx (s : State) : TxCtx := { node := s.img.node, now := s.now, weight := s.tcWeight, may := s.power.holdup == 0 }
def State.runPort (s : State) (port : Nat) : State := { s with torus := s.torus.run s.txCtx port }

def Torus.badPacket (t : Torus) (port : Nat) : Torus := t.modPort port (fun x => { x with badPkt := x.badPkt + 1 })
def State.badPacket (s : State) (port : Nat) : State := { s with torus := s.torus.badPacket port }

/-- A packet comes to a port's output queue; one whose next port is not UP is discarded (R432). -/
def Torus.tx (t : Torus) (c : TxCtx) (port : Nat) (p : Packet) : Torus :=
  if (t.port port).state ≠ 6 then t.badPacket port
  else (t.modPort port (fun x => { x with waiting := x.waiting ++ [p] })).run c port
def State.txPacket (s : State) (port : Nat) (p : Packet) : State := { s with torus := s.torus.tx s.txCtx port p }

/-- A packet follows its route from this module (R428, R430); `arrived` is the port it came in by. -/
def State.forward (s : State) (arrived : Option Nat) (p : Packet) : State :=
  match s.nextPort p.route p.src p.dst with
  | none => s
  | some port => s.txPacket port { p with vc := s.nextVc p.route p.vc port arrived }

/-! ## States of a port (R401) -/

/-- A port enters a state; in DISABLED and DETECT it has no lanes in service (R444). -/
def State.portState (s : State) (port st : Nat) : State :=
  s.modPort port (fun x =>
    let x := { x with state := st, since := s.now, failing := false }
    if st ≤ 1 then { x with width := 0, good := 0, belowFloor := false, nbrId := none, ownSent := false, bothAt := none } else x)
/-- A port whose 100 ms have passed is in DETECT again. -/
def State.retryPort (s : State) (port : Nat) : State :=
  if (s.port port).failing && (s.port port).retryAt ≤ s.now then s.portState port 1 else s
/-- Failed attempts whose time has come begin anew. -/
def State.retryPorts (s : State) : State := s.each (List.range 8) State.retryPort

/-! ## Messages of a site (R415, R423, R431) -/

/-- The TC0 packet that carries a message to the neighbour at a port. -/
def State.messagePacket (s : State) (port : Nat) (m : Message) : Packet :=
  let bs := (Config.messageBytes m).take 224
  let units := (bs.length + 31) / 32
  let dst := s.neighbour s.img.node port
  { kind := match m with | .linkState _ _ _ _ => 8 | _ => 7
    tc := 0, dst := dst, src := s.img.node, route := if port % 2 = 1 then 2 ^ (port / 2) else 0, vc := b2n (s.wraps port),
    epoch := (s.torus.paths.at dst).epoch, units := units, pad := 32 * units - bs.length, total := bs.length, payload := bs }

/-- A message leaves by a port; identities go in the frames of EXCHANGE, not in packets. -/
def State.sendMsg (s : State) (port : Nat) (m : Message) : State :=
  let t := { s.torus with sentMessages := s.torus.sentMessages ++ [(port, m)] }
  { s with torus := match m with | .identity _ => t | _ => t.tx s.txCtx port (s.messagePacket port m) }

/-- Ports in state UP (R444). -/
def State.upPorts (s : State) : List Nat := (List.range 8).filter (fun p => (s.torus.ports.at p).state == 6)
/-- A message leaves by every UP port but one. -/
def State.flood (s : State) (but : Option Nat) (m : Message) : State :=
  s.each (s.upPorts.filter (fun p => some p != but)) (fun s p => s.sendMsg p m)

end Sys2Proof.Machine
end

