-- ==== Sys2Proof/Machine/Halt.lean ====
section
/-! DEFINITION. Halted queues and the policy on them (02_dataflow R77; 14_checkpoint R522). -/

namespace Sys2Proof.Machine

open Sys2Proof

/-- Automatic restores in the last hour are below the image's restore limit. -/
def State.restoreAllowed (s : State) : Bool :=
  (s.ck.autoRestores.filter (fun t => s.now < t + 3600000000000)).length < s.img.restoreLimit

/-- The policy acts on this module: no further entry issues; RESTORE starts a restore within the limit (its Compute reset
is the next step of R515), HOLD reports the halt and waits for host software. -/
def State.haltPolicy (s : State) (cause : Cause) : State :=
  let s := { s with power := { s.power with stopIssue := true } }
  if !s.img.haltHold && s.restoreAllowed then
    ({ s with ck := { s.ck with restoring := 1, restoreAt := s.now,
                                autoRestores := s.ck.autoRestores ++ [s.now] } }).setJob .restoring cause
  else s.setJob .halted cause

/-- A queue on this module halted under the policy: the first halt of a running job floods a HALT message. -/
def State.haltSite (s : State) (cause : Cause) : State :=
  if s.host.job = .running && !s.power.stopIssue then
    let s := { s with torus := { s.torus with ownHaltSeq := s.torus.ownHaltSeq + 1 } }
    (s.flood none (.halt s.img.node s.torus.ownHaltSeq)).haltPolicy cause
  else s

/-- A queue halts (R77): no further entry issues and the sequencer writes a QUEUE_HALT record. -/
def State.haltOnly (s : State) (c q : Nat) (cause : Cause) : State :=
  let k := s.queue c q
  (s.modCore c (fun x => { x.modQueue q (fun k => { k with halted := true, active := false }) with haltCause := cause })).report
    0x0010 (leBytes 2 c ++ leBytes 1 q ++ [cause] ++ leBytes 2 k.pos ++ zeros 2)

/-- A queue halts and the halted-queue policy acts. -/
def State.haltQueue (s : State) (c q : Nat) (cause : Cause) : State := (s.haltOnly c q cause).haltSite cause

end Sys2Proof.Machine
end

