-- ==== Sys2Proof/Machine/LineCode.lean ====
section
/-! DEFINITION. The tier line code (11_memory R371, R372): Reed-Solomon RS(72,64) over GF(2^8) with field polynomial
x^8 + x^4 + x^3 + x^2 + 1 and generator roots a^0 to a^7, decoded up to 3 bytes. The code is linear, so what a read
makes of a line depends on its error pattern alone. Byte 0 is the coefficient of x^71 (log entry 9). -/

namespace Sys2Proof.Machine

open Sys2Proof

/-- Product by x in GF(2^8). -/
def gfDouble (a : Nat) : Nat := if a < 128 then 2 * a else (2 * a) ^^^ 0x11D

/-- Product in GF(2^8), over the low `n` bits of the second factor. -/
def gfMulBits : Nat → Nat → Nat → Nat
  | 0, _, _ => 0
  | n + 1, a, b => (if b % 2 = 1 then a else 0) ^^^ gfMulBits n (gfDouble a) (b / 2)
def gfMul (a b : Nat) : Nat := gfMulBits 8 a b

def gfPow (a : Nat) : Nat → Nat
  | 0 => 1
  | n + 1 => gfMul a (gfPow a n)

/-- Inverse: the 254th power. -/
def gfInv (a : Nat) : Nat := gfPow a 254

/-- a^i with a = x. -/
def alpha (i : Nat) : Nat := gfPow 2 (i % 255)

/-- An error pattern: byte number in the 72-byte line and the bits that are wrong. -/
abbrev ErrPattern := List (Nat × Byte)

/-- Locator of byte `i` of the line. -/
def locator (i : Nat) : Nat := alpha (71 - i)

/-- Syndrome j of a pattern. -/
def syndrome (e : ErrPattern) (j : Nat) : Nat :=
  e.foldl (fun acc x => acc ^^^ gfMul x.2.toNat (gfPow (locator x.1) j)) 0

/-- Determinant of an n × n matrix over a field of characteristic 2. -/
def gfDet : Nat → List (List Nat) → Nat
  | 0, _ => 1
  | n + 1, m =>
    match m with
    | [] => 1
    | row :: rest => (List.range (n + 1)).foldl
        (fun acc j => acc ^^^ gfMul (row.getD j 0) (gfDet n (rest.map (fun r => r.eraseIdx j)))) 0

/-- Solution of an n × n system by Cramer's rule, none when singular. -/
def gfSolve (n : Nat) (m : List (List Nat)) (rhs : List Nat) : Option (List Nat) :=
  let d := gfDet n m
  if d = 0 then none
  else some ((List.range n).map (fun j =>
    gfMul (gfInv d) (gfDet n ((m.zip rhs).map (fun (r, b) => r.set j b)))))

/-- The pattern of exactly `v` bytes with the given syndromes, if there is one. -/
def correctionOf (s : List Nat) (v : Nat) : Option ErrPattern :=
  let idx := List.range v
  match gfSolve v (idx.map (fun i => idx.map (fun j => s.getD (i + j) 0))) (idx.map (fun i => s.getD (i + v) 0)) with
  | none => none
  | some lam =>
    -- lam lists the locator polynomial's coefficients: X^v = sum lam_j X^j at every error locator X
    let root (i : Nat) : Bool :=
      (idx.foldl (fun acc j => acc ^^^ gfMul (lam.getD j 0) (gfPow (locator i) j)) 0) == gfPow (locator i) v
    let pos := (List.range 72).filter root
    if pos.length ≠ v then none
    else match gfSolve v (idx.map (fun j => pos.map (fun i => gfPow (locator i) j))) (s.take v) with
      | none => none
      | some ys =>
        let e := (pos.zip ys).map (fun (i, y) => (i, BitVec.ofNat 8 y))
        if (List.range 8).map (syndrome e) = s then some e else none

/-- What the decoder makes of a pattern: none when uncorrectable, else the correction it applies (R372). -/
def lineDecode (e : ErrPattern) : Option ErrPattern :=
  let s := (List.range 8).map (syndrome e)
  if s.all (· == 0) then some []
  else (correctionOf s 1).or ((correctionOf s 2).or (correctionOf s 3))

/-- What remains wrong in byte `i` after a correction. -/
def residual (e c : ErrPattern) (i : Nat) : Byte :=
  (e ++ c).foldl (fun acc x => if x.1 = i then acc ^^^ x.2 else acc) 0

end Sys2Proof.Machine
end

