-- ==== Sys2Proof/Machine/Access.lean ====
section
/-! DEFINITION. Reads and writes of the stores with their error rules (11_memory R364 to R374) and the regions a plan
may name (R10, R370, R380, R390; 16_power R576). -/

namespace Sys2Proof.Machine

open Sys2Proof

/-- A new state with a value, or with the cause of a failure. -/
abbrev Res (α : Type) := State × Except Cause α

/-! ## Regions -/

/-- Slice size S (R369). -/
def nearSlice : Nat := 0x3000000000
def State.farSlice (s : State) : Nat := if s.fuses.variantM then 0x3000000000 else 0x6000000000
/-- First near-tier offset of the image copy (16_power R576). -/
def imageCopyOff : Nat := 0x17FF6000000

/-- The pool window entry that holds a pool offset (R381). -/
def State.poolEntry (s : State) (off : Nat) : Option Nat :=
  s.img.pool.findIdx? (fun p => p.base * 2 ^ 30 ≤ off && off < (p.base + p.size) * 2 ^ 30)

/-- Every entry holding a byte of a pool region, none when a byte lies outside every entry. -/
def State.poolEntries (s : State) (off len : Nat) : Option (List Nat) :=
  let go := ((List.range ((off + len - 1) / 2 ^ 30 + 1 - off / 2 ^ 30)).map (fun g => (off / 2 ^ 30 + g) * 2 ^ 30)).map s.poolEntry
  if go.all Option.isSome then some (go.filterMap id).dedup else none

/-- The region lies inside its space with no reserved address bit (R10, R370, R381). -/
def State.inSpace (s : State) (a len : Nat) : Bool :=
  match addrSpace a with
  | 0 => bitsOf a 25 17 == 0 && s.coreExists (addrCore a) && sramOff a + len ≤ 2 ^ 25
  | 1 => bitsOf a 46 6 == 0 && addrOff a + len ≤ 8 * nearSlice
  | 2 => bitsOf a 46 6 == 0 && addrOff a + len ≤ 8 * s.farSlice
  | 3 => bitsOf a 46 6 == 0 && (s.poolEntries (addrOff a) len).isSome
  | 5 => bitsOf a 46 6 == 0 && addrOff a + len ≤ 0x4000000
  | _ => false

/-- A plan transfer may touch the region (R380, 16_power R576): headstock SRAM only to write the gate area and the
windows, never the image copy, never the register space (log entry 10). -/
def State.planRegion (s : State) (write : Bool) (a len : Nat) : Bool :=
  s.inSpace a len &&
  (match addrSpace a with
   | 1 => addrOff a + len ≤ imageCopyOff
   | 5 => write && 0x1000000 ≤ addrOff a && addrOff a + len ≤ 0x2000000
   | _ => true)

/-- Two regions share a byte. -/
def overlaps (a n b m : Nat) : Bool := a < b + m && b < a + n
/-- A write touches the gate area (09_training R313). -/
def inGateArea (a len : Nat) : Bool := addrSpace a == 5 && overlaps (addrOff a) len 0x1000000 0x100000

/-! ## Tier channels (R370) -/

/-- Module channel number and channel byte of a tier address. -/
def State.channelOf (s : State) (a : Nat) : Nat × Nat :=
  let slice := if addrSpace a = 1 then nearSlice else s.farSlice
  let l := addrOff a % slice
  let u := l / 256
  (12 * (addrOff a / slice) + (if addrSpace a = 1 then 0 else 6) + u % 6, u / 6 * 256 + l % 256)

def State.modTiers (s : State) (f : MemUnit → MemUnit) : State := { s with tiers := f s.tiers }

/-- A channel's CE count advances, saturating; more than 64 within any 1 s start a full retrain (R377). -/
def Channel.correct (c : Channel) (now : Nat) : Channel :=
  let recent := now :: c.recent.filter (fun t => now < t + 1000000000)
  let full := 64 < recent.length
  { c with ce := min (c.ce + 1) 65535, recent := if full then [] else recent, state := if full && c.state = 1 then 2 else c.state }

def State.countCe (s : State) (n : Nat) : State :=
  s.modTiers (fun t => { t with channels := t.channels.upd n (·.correct s.now) })

/-- An uncorrectable line or word is counted and its device address latched (R374, R380). -/
def State.countUe (s : State) (a : Nat) (cause : Cause) : State :=
  s.modTiers (fun t => { t with ueCount := t.ueCount + 1, ueAddr := a, ueCause := cause })

/-- A tier line met uncorrectable: counted, latched and reported (R374). -/
def State.tierUe (s : State) (line : Nat) : State :=
  (s.countUe (line * 64) Cause.memUncorrectable).event 0x0020 Cause.memUncorrectable 0 0 (line * 64)

/-! ## Error entries -/

/-- Entries of a table with lo ≤ key < hi. -/
def Tab.range {α : Type} (t : Tab α) (lo hi : Nat) : Tab α := t.filter (fun e => lo ≤ e.1 && e.1 < hi)
/-- Entries with lo ≤ key < hi removed. -/
def Tab.clearRange {α : Type} (t : Tab α) (lo hi : Nat) : Tab α := t.filter (fun e => e.1 < lo || hi ≤ e.1)

/-- Corrected and uncorrectable SRAM words of a region at `a` are counted where their store has its counters (R364, R365, R380); `bad` is the
address of the last uncorrectable one (R394). -/
def State.countWords (s : State) (a ce ue bad : Nat) : State :=
  if addrSpace a = 0 then
    s.modCore (addrCore a) (fun x => { x with sramCe := x.sramCe + BitVec.ofNat 32 ce,
                                              sramUe := x.sramUe + BitVec.ofNat 32 ue })
  else
    let s := s.modTiers (fun t => { t with hsCe := t.hsCe + BitVec.ofNat 32 ce })
    if ue = 0 then s else s.modTiers (fun t => { t with ueCount := t.ueCount + BitVec.ofNat 32 ue,
                                                        ueAddr := bad / 16 * 16, ueCause := Cause.sramUncorrectable })

/-- A line's stored bytes as the controller delivers them after correction `c` of error `e`. -/
def State.lineBytes (s : State) (line : Nat) (e c : ErrPattern) : List Byte :=
  ((s.peek (line * 64) 64).zipIdx).map (fun (b, i) => b ^^^ residual e c i)

/-- A line is stored with fresh check symbols. -/
def State.storeLine (s : State) (line : Nat) (e c : ErrPattern) : State :=
  (s.poke (line * 64) (s.lineBytes line e c)).modTiers (fun t => { t with lineErrs := t.lineErrs.erase line })

/-- Channels of the lines of a region that are FAILED (R377). -/
def State.channelFailed (s : State) (a len : Nat) : Bool :=
  (s.tiers.channels.any (fun c => c.2.state == 3)) &&
  (List.range ((a + len - 1) / 256 + 1 - a / 256)).any
    (fun i => (s.tiers.channels.at (s.channelOf ((a / 256 + i) * 256)).1).state == 3)

/-! ## Reads -/

/-- Device address of the last uncorrectable word among some, or of a word where there is none. -/
def lastDouble (a : Nat) (es : Tab WordErr) : Nat := (((es.filter (fun e => e.2 == .double)).getLast?).map (fun e => 16 * e.1)).getD a

/-- A read of SRAM words. -/
def State.readWords (s : State) (a len : Nat) : Res (List Byte) :=
  let es := s.tiers.wordErrs.range (a / 16) ((a + len + 15) / 16)
  if es.isEmpty then (s, .ok (s.peek a len))
  else
    let ce := (es.filter (fun e => e.2 == .single)).length
    let ue := (es.filter (fun e => e.2 == .double)).length
    let s := s.countWords a ce ue (lastDouble a es)
    (s, if ue = 0 then .ok (s.peek a len) else .error Cause.sramUncorrectable)

/-- One line met by a read with errors: counted, and its bytes patched in the data read. -/
def State.readBadLine (a : Nat) (r : Res (List Byte)) (e : Nat × ErrPattern) : Res (List Byte) :=
  let (s, out) := r
  match lineDecode e.2 with
  | none => (s.tierUe e.1, .error Cause.memUncorrectable)
  | some c =>
    let s := if c.isEmpty then s else s.countCe (s.channelOf (e.1 * 64)).1
    (s, out.map (fun bs => bs.zipIdx.map (fun (b, i) =>
      if (a + i) / 64 = e.1 then b ^^^ residual e.2 c ((a + i) % 64) else b)))

/-- A read of tier lines. -/
def State.readLines (s : State) (a len : Nat) : Res (List Byte) :=
  if s.channelFailed a len then (s, .error Cause.memUncorrectable)
  else (s.tiers.lineErrs.range (a / 64) ((a + len + 63) / 64)).foldl (State.readBadLine a) (s, .ok (s.peek a len))

/-- A read of any store inside the module. -/
def State.readMem (s : State) (a len : Nat) : Res (List Byte) :=
  if len = 0 then (s, .ok [])
  else if addrSpace a = 1 || addrSpace a = 2 then s.readLines a len else s.readWords a len

/-! ## Writes -/

/-- Units of `u` bytes that a region covers only in part. -/
def partials (u a len : Nat) : List Nat :=
  let lo := a / u
  let hi := (a + len - 1) / u
  ((if a % u ≠ 0 || a + len < (lo + 1) * u then [lo] else []) ++
   (if (a + len) % u ≠ 0 then [hi] else [])).dedup

/-- A write of SRAM words: a partly covered word is read first (R364, R365). -/
def State.writeWords (s : State) (a : Nat) (bs : List Byte) : State × Cause :=
  let es := s.tiers.wordErrs.range (a / 16) ((a + bs.length + 15) / 16)
  if es.isEmpty then (s.poke a bs, 0)
  else
    let part := es.filter (fun e => (partials 16 a bs.length).contains e.1)
    let ce := (part.filter (fun e => e.2 == .single)).length
    let ue := (part.filter (fun e => e.2 == .double)).length
    let s := s.countWords a ce ue (lastDouble a part)
    if ue ≠ 0 then (s, Cause.sramUncorrectable)
    else ((s.poke a bs).modTiers (fun t => { t with wordErrs := t.wordErrs.clearRange (a / 16) ((a + bs.length + 15) / 16) }), 0)

/-- A partly covered line is read first: corrected, counted and stored, or met uncorrectable (R373). -/
def State.fixLine (r : State × Cause) (e : Nat × ErrPattern) : State × Cause :=
  let (s, cause) := r
  match lineDecode e.2 with
  | none => (s.tierUe e.1, Cause.memUncorrectable)
  | some c => ((if c.isEmpty then s else s.countCe (s.channelOf (e.1 * 64)).1).storeLine e.1 e.2 c, cause)

/-- A write of tier lines. -/
def State.writeLines (s : State) (a : Nat) (bs : List Byte) : State × Cause :=
  if s.channelFailed a bs.length then (s, Cause.memUncorrectable)
  else
    let es := s.tiers.lineErrs.range (a / 64) ((a + bs.length + 63) / 64)
    let (s, cause) := (es.filter (fun e => (partials 64 a bs.length).contains e.1)).foldl State.fixLine (s, 0)
    if cause ≠ 0 then (s, cause)
    else ((s.poke a bs).modTiers (fun t => { t with lineErrs := t.lineErrs.clearRange (a / 64) ((a + bs.length + 63) / 64) }), 0)

/-- A write of any store inside the module: the cause NONE, or why nothing was written. -/
def State.writeMem (s : State) (a : Nat) (bs : List Byte) : State × Cause :=
  if bs.isEmpty then (s, 0)
  else if addrSpace a = 1 || addrSpace a = 2 then s.writeLines a bs else s.writeWords a bs

/-- Writes in order, up to the first that fails. -/
def State.writeAll (s : State) : List (Nat × List Byte) → State × Cause
  | [] => (s, 0)
  | (a, bs) :: rest =>
    match s.writeMem a bs with
    | (s, 0) => s.writeAll rest
    | (s, cause) => (s, cause)

/-- Writes of one action: all of them, or none where one meets an uncorrectable word or line; what the checks counted stays. -/
def State.writeWhole (s : State) (ws : List (Nat × List Byte)) : State × Cause :=
  match s.writeAll ws with
  | (t, 0) => (t, 0)
  | (t, c) => ({ t with mem := s.mem, tiers := { t.tiers with wordErrs := s.tiers.wordErrs, lineErrs := s.tiers.lineErrs } }, c)

/-- A descriptor or block in a core's own SRAM: inside that core's SRAM, aligned and readable, else the cause with which
the issuing queue halts at once (02_dataflow R675). -/
def State.readOwn (s : State) (core a len align : Nat) : Res (List Byte) :=
  if addrSpace a = 0 && addrCore a = core && s.inSpace a len && a % align = 0 then s.readMem a len
  else (s, .error Cause.planReject)

end Sys2Proof.Machine
end

