-- ==== Sys2Proof/Machine/Operands.lean ====
section
/-! DEFINITION. Field layouts of what the engines read: step-list entries (02_dataflow R69, R70), MATRIX descriptors
(05_matrix_engine R163), vector instructions (07_vector R231), REDUCE descriptors (R253), transfer descriptors
(11_memory R387), update segment descriptors (10_parameter R337), route parameter blocks (08_experts R270). -/

namespace Sys2Proof.Machine

open Sys2Proof

/-- Field [lo + n - 1 : lo] of a layout held as a number. -/
abbrev fld (w lo n : Nat) : Nat := bitsOf w lo n

/-! ## Step-list entries (R69, R70) -/

/-- A step-list entry. -/
structure Entry where
  kind : Nat
  launch : Bool
  fence : Bool
  aEn : Bool
  ctrA : Nat
  bEn : Bool
  ctrB : Nat
  targetA : Word
  targetB : Word
  slot : Nat
  loop : Nat
  payload : Nat
  reservedZero : Bool
  deriving DecidableEq, Repr

def Entry.ofNat (w : Nat) : Entry :=
  { kind := fld w 0 8, launch := bitOf w 9, fence := bitOf w 10, aEn := bitOf w 23, ctrA := fld w 16 6,
    bEn := bitOf w 30, ctrB := fld w 24 6, targetA := BitVec.ofNat 32 (fld w 32 32),
    targetB := BitVec.ofNat 32 (fld w 64 32), slot := fld w 96 16, loop := fld w 112 16, payload := fld w 128 128,
    reservedZero := !bitOf w 8 && fld w 11 5 == 0 && !bitOf w 22 && !bitOf w 31 }

/-- Device address in the low 56 bits of the payload. -/
def Entry.addr (e : Entry) : Nat := fld e.payload 0 56
/-- VECTOR: kernel entry offset and argument block. -/
def Entry.kernel (e : Entry) : Nat := fld e.payload 0 16
def Entry.argBlock (e : Entry) : Nat := fld e.payload 24 56
/-- ADD: counter index and increment. -/
def Entry.addCtr (e : Entry) : Nat := fld e.payload 0 6
def Entry.addInc (e : Entry) : Nat := fld e.payload 16 16
/-- JUMP: target entry index. -/
def Entry.target (e : Entry) : Nat := fld e.payload 0 16

/-- Reserved payload bits are 0 (R70). -/
def Entry.payloadOk (e : Entry) : Bool :=
  match e.kind with
  | 0 => e.payload == 0
  | 1 => fld e.payload 56 72 == 0
  | 2 => fld e.payload 16 8 == 0 && fld e.payload 80 48 == 0
  | 3 => fld e.payload 56 72 == 0
  | 4 => fld e.payload 56 72 == 0
  | 5 => fld e.payload 56 72 == 0
  | 6 => fld e.payload 6 10 == 0 && fld e.payload 32 96 == 0
  | 7 => fld e.payload 16 112 == 0
  | 8 => e.payload == 0
  | _ => false

end Sys2Proof.Machine
end

