-- ==== Sys2Proof/Machine/Sequencer.lean ====
section
/-! DEFINITION. The step sequencer (02_dataflow R62 to R78): the head entry, its checks and conditions, the entries
WAIT, ADD, JUMP and END, and the wait limit. -/

namespace Sys2Proof.Machine

open Sys2Proof

/-! ## The head entry -/

/-- Items of a queue that have not ended (R69 FENCE): in the matrix and vector engines, the transfer engine, the
expanders' waiting LOADs and the update segments. -/
def CoreSt.fenced (x : CoreSt) (q : Nat) : Bool :=
  x.mx.ops.any (fun o => o.queue == q) || x.vx.queue.any (fun k => k.queue == q && !k.segment) ||
  x.vx.run.any (fun r => r.kernel.queue == q && !r.kernel.segment) || x.xf.open_.any (fun t => t.queue == q) ||
  x.xp.waiting.any (fun w => w.queue == q) || x.up.segs.any (fun g => g.queue == q)

/-- The target engine's input queue has room (R72 condition 5). The running matrix operation, kernel and update segment do not
count; running transfers and waiting LOADs count within the 16 (DEDUCED, log entry 11). -/
def CoreSt.room (x : CoreSt) (kind : Nat) : Bool :=
  match kind with
  | 1 => x.mx.ops.length < 5
  | 2 => x.vx.queue.length < 2
  | 4 => x.xf.open_.length + x.xp.waiting.length < 16
  | 5 => x.up.segs.length < 3
  | _ => true

/-- The cause latch that stops an entry, if a counter it waits on holds one (R67). -/
def CoreSt.latched (x : CoreSt) (e : Entry) : Cause :=
  let a := (x.counters.at e.ctrA).cause
  if e.aEn && a != 0 then a else if e.bEn then (x.counters.at e.ctrB).cause else 0

/-- Conditions 1, 2, 3 and 5 of R72. -/
def State.conditions (s : State) (c q : Nat) (e : Entry) : Bool :=
  let x := s.core c
  (!e.aEn || (x.counters.at e.ctrA).reached e.targetA) && (!e.bEn || (x.counters.at e.ctrB).reached e.targetB) &&
  (!e.fence || !x.fenced q) && x.room e.kind

/-- The launch slot's settings, when the image defines it. -/
def State.launchCfg (s : State) (slot : Nat) : Option LaunchCfg := s.img.launch.find? (fun l => l.slot == slot)

/-- The entry breaks no rule of R78. A JUMP may nest four deep. -/
def State.entryOk (s : State) (c q : Nat) (e : Entry) : Bool :=
  let k := s.queue c q
  e.kind ≤ 8 && e.reservedZero && e.payloadOk && e.slot ≤ 63 &&
  (if e.kind = 7 then e.loop != 0 && (k.loops.length < 4 || k.loops.any (fun l => l.1 == k.pos) || e.loop == 1)
   else e.loop == 0) &&
  (if e.launch then (s.launchCfg e.slot).any (fun l => l.participants.contains c) else e.slot == 0)

/-- A queue that may issue and has not halted or retired. -/
def State.queueLive (s : State) (c q : Nat) : Bool :=
  let k := s.queue c q
  s.mayIssue c && k.active && !k.halted && !k.retired

/-- Step-list bytes of the head entry. -/
def State.headAddr (s : State) (c q : Nat) : Nat := sramAddr c ((s.coreCfg c).stepList + 32 * (s.queue c q).pos)

/-- What the head of a queue does: an entry that cannot be read, breaks R78 or waits on a latched counter halts its
queue; otherwise `f` acts on it. -/
def State.atHead (s : State) (c q : Nat) (f : State → Entry → State) : State :=
  if !s.queueLive c q then s
  else
    match s.readOwn c (s.headAddr c q) 32 1 with
    | (s, .error cause) => s.haltQueue c q cause
    | (s, .ok bs) =>
      let e := Entry.ofNat (leNat bs)
      if !s.entryOk c q e then s.haltQueue c q Cause.planReject
      else if (s.core c).latched e ≠ 0 then s.haltQueue c q ((s.core c).latched e)
      else f s e

/-- The entry has issued: the next entry is at the head. -/
def State.goTo (s : State) (c q pos : Nat) : State :=
  s.modQueue c q (fun k => { k with pos := pos, arrived := false, late := false, onTime := false, waitFrom := s.now })
/-- A queue that goes on past entry 65 535 reads the bytes that follow the list, and CD.QUEUE_POS shows its position modulo 2^16
(DESIGN CHOICE, log entry 115). -/
def State.goNext (s : State) (c q : Nat) : State := s.goTo c q ((s.queue c q).pos + 1)

/-- The head entry as it reads, none where it cannot be read. -/
def State.headEntry (s : State) (c q : Nat) : Option Entry :=
  match s.readOwn c (s.headAddr c q) 32 1 with
  | (_, .ok bs) => some (Entry.ofNat (leNat bs))
  | (_, .error _) => none

/-! ## Launch instants (R82 to R87) -/

def State.slotSt (s : State) (n : Nat) : LaunchSlot := s.time.slots.at n

/-- Participants in logical core order. -/
def LaunchCfg.order (l : LaunchCfg) (s : State) : List Nat := s.coreList.filter l.participants.contains

/-- A core's group number (R87). -/
def LaunchCfg.group (l : LaunchCfg) (s : State) (core : Nat) : Nat :=
  let all := LaunchCfg.order l s
  if l.sequential then all.idxOf core / l.groupSize
  else (all.filter (fun c => coreDie c == coreDie core)).idxOf core / l.groupSize * 8 + coreDie core

/-- A core's bevel offset (R87). -/
def LaunchCfg.offset (l : LaunchCfg) (s : State) (core : Nat) : Nat := LaunchCfg.group l s core * l.groupSpacing

/-- Issue time of a LAUNCH entry whose arrival counted toward the launch that its die's participants hold. -/
def State.launchTime (s : State) (core q slot : Nat) : Option Nat :=
  let x := s.slotSt slot
  match s.launchCfg slot, x.instant with
  | some l, some L =>
    if x.counted.contains (core, q) && x.received.contains (coreDie core) then some (L + LaunchCfg.offset l s core) else none
  | _, _ => none

/-- Condition 4 of R72 for a LAUNCH entry that has sent its arrival: the die's package time has reached the entry's instant. -/
def State.launchDue (s : State) (c q : Nat) (e : Entry) : Bool :=
  let k := s.queue c q
  k.arrived && (k.late || k.onTime || (s.launchTime c q e.slot).any (· ≤ s.dieTime (coreDie c)))

/-- The head entry of a queue is ready: every condition of R72 holds. -/
def State.queueReady (s : State) (c q : Nat) : Bool :=
  s.queueLive c q && (s.headEntry c q).any (fun e =>
    s.entryOk c q e && (s.core c).latched e == 0 && s.conditions c q e && (!e.launch || s.launchDue c q e))

/-- No lower-numbered queue of the core is ready at this moment (R74). -/
def State.firstReady (s : State) (c q : Nat) : Bool := (List.range q).all (fun p => !s.queueReady c p)

/-- An entry of a kind, with LAUNCH clear, issues when its conditions hold (R72) and no lower-numbered queue is ready (R74). -/
def State.issue (s : State) (c q kind : Nat) (act : State → Entry → State) : State :=
  let first := s.firstReady c q
  s.atHead c q (fun s e => if e.kind = kind && !e.launch && first && s.conditions c q e then act s e else s)

/-! ## Actions of the control entries (R70, R71) -/

def State.actWait (s : State) (c q : Nat) : State := s.goNext c q

def State.actAdd (s : State) (c q : Nat) (e : Entry) : State := (s.advance c e.addCtr e.addInc).goNext c q

/-- JUMP jumps LOOP − 1 times and then goes on, keeping its own remaining count (R71). -/
def State.actJump (s : State) (c q : Nat) (e : Entry) : State :=
  let k := s.queue c q
  match k.loops.find? (fun l => l.1 == k.pos) with
  | some (_, 0) =>
    (s.modQueue c q (fun k => { k with loops := k.loops.filter (fun l => l.1 != k.pos) })).goNext c q
  | some (_, n + 1) =>
    (s.modQueue c q (fun k => { k with loops := k.loops.map (fun l => if l.1 = k.pos then (l.1, n) else l) })).goTo c q e.target
  | none =>
    if e.loop ≤ 1 then s.goNext c q
    else (s.modQueue c q (fun k => { k with loops := (k.pos, e.loop - 2) :: k.loops })).goTo c q e.target

/-- END retires the queue. -/
def State.actEnd (s : State) (c q : Nat) : State :=
  s.modQueue c q (fun k => { k with retired := true, active := false, arrived := false, late := false, onTime := false })

/-! ## The commands -/

/-- WAIT (R70). -/
def execWait (core q : Nat) (s : State) : Out := .next (s.issue core q 0 (fun s _ => s.actWait core q))
/-- ADD (R70). -/
def execAddEntry (core q : Nat) (s : State) : Out := .next (s.issue core q 6 (fun s e => s.actAdd core q e))
/-- JUMP (R70, R71). -/
def execJump (core q : Nat) (s : State) : Out := .next (s.issue core q 7 (fun s e => s.actJump core q e))
/-- END (R70). -/
def execEndEntry (core q : Nat) (s : State) : Out := .next (s.issue core q 8 (fun s _ => s.actEnd core q))

/-- The wait limit of a queue in ns: 30 s where the image gives none (R76). -/
def State.waitLimit (s : State) (c q : Nat) : Nat := (s.coreCfg c).waits.getD q 30000000000

/-- A transfer of the queue has waited for a held path since before `t` (12_torus R437). -/
def State.heldSince (s : State) (c q t : Nat) : Bool :=
  (s.core c).xf.open_.any (fun x => x.queue == q && x.started < t && s.torus.sources.any (fun y => y.core == c && y.item == x.id && !y.sent))

/-- QUEUE_TIMEOUT (R76): the head entry, or a transfer that a held path keeps waiting, has waited longer than the limit. -/
def execQueueTimeout (core q : Nat) (s : State) : Out :=
  .next (if s.queueLive core q && (decide ((s.queue core q).waitFrom + s.waitLimit core q < s.now) ||
      s.heldSince core q (s.now - s.waitLimit core q))
    then s.haltQueue core q Cause.timeout else s)

end Sys2Proof.Machine
end

