-- ==== Sys2Proof/Machine/LaunchUnit.lean ====
section
/-! DEFINITION. The launch unit: arrivals, launch instants, the bevel ramp, cancellation (02_dataflow R80 to R91). -/

namespace Sys2Proof.Machine

open Sys2Proof

def State.setSlotSt (s : State) (n : Nat) (x : LaunchSlot) : State :=
  { s with time := { s.time with slots := s.time.slots.set n x } }

/-- Offset of the last group, over the participants on some dies. -/
def LaunchCfg.lastOffset (l : LaunchCfg) (s : State) (on : Nat → Bool) : Nat :=
  ((LaunchCfg.order l s).filter (fun c => on (coreDie c))).foldl (fun m c => max m (LaunchCfg.offset l s c)) 0

/-- LAUNCH_ARRIVAL (R82): one arrival per issue of the entry, once conditions 1, 2, 3 and 5 hold; its time is kept for R83. -/
def execLaunchArrival (core q : Nat) (s : State) : Out :=
  .next (s.atHead core q (fun s e =>
    if e.launch && !(s.queue core q).arrived && s.conditions core q e then
      let x := s.slotSt e.slot
      (s.modQueue core q (fun k => { k with arrived := true })).setSlotSt e.slot { x with arrived := x.arrived ++ [(core, q)], lastAt := s.now }
    else s))

/-- SET_LAUNCH_INSTANT (R83): every participant has arrived. When L is set, ARRIVED returns to 0, since the arrivals then stand
for the launch whose L is set, and CANCELLED returns to 0, since the last pending launch has ended in its L (DEDUCED, log entry
116). A slot without participants has no arrival and sets no L. -/
def execSetLaunchInstant (slot : Nat) (s : State) : Out :=
  .next (match s.launchCfg slot with
    | none => s
    | some l =>
      let x := s.slotSt slot
      if l.participants.all (fun c => x.arrived.any (fun a => a.1 == c)) && !x.arrived.isEmpty && !s.time.oscFault then
        let L := max (x.lastAt + l.lead) ((x.previous.map (· + l.spacing)).getD 0)
        s.setSlotSt slot { x with instant := some L, older := x.previous, previous := some L, counted := x.arrived,
                                  arrived := [], generation := (x.generation + 1) % 65536, cancelled := false, received := [] }
      else s)

/-- LAUNCH_BROADCAST_RECEIVE (R84, R52): a die's participants hold L, and its governor holds the setpoint from L until
2 µs after the die's last group. -/
def execLaunchBroadcastReceive (slot die : Nat) (s : State) : Out :=
  .next (match s.launchCfg slot, (s.slotSt slot).instant with
    | some l, some L =>
      if l.participants.any (fun c => coreDie c == die) && !(s.slotSt slot).received.contains die then
        let x := s.slotSt slot
        let s := s.setSlotSt slot { x with received := x.received ++ [die] }
        { s with governors := s.governors.upd die (fun g =>
            { g with holds := g.holds ++ [(slot, L, L + LaunchCfg.lastOffset l s (· == die) + 2000)] }) }
      else s
    | _, _ => s)

/-- A queue has sent an arrival that no launch has counted yet, or that another slot has counted. -/
def State.waitsElsewhere (s : State) (slot : Nat) (a : Nat × Nat) : Bool :=
  s.time.slots.any (fun e => e.2.arrived.contains a || (e.1 != slot && e.2.counted.contains a))

/-- RAMP_END (R86): the instant of the last group has passed; an entry that has not issued and was not on time is late (R72). -/
def execRampEnd (slot : Nat) (s : State) : Out :=
  .next (match s.launchCfg slot, (s.slotSt slot).instant with
    | some l, some L =>
      if L + LaunchCfg.lastOffset l s (fun _ => true) < s.now then
        let behind := (s.slotSt slot).counted.filter (fun a =>
          (s.queue a.1 a.2).arrived && !(s.queue a.1 a.2).onTime && !s.waitsElsewhere slot a)
        (s.each behind (fun s a => s.modQueue a.1 a.2 (fun k => { k with late := true }))).setSlotSt slot
          { s.slotSt slot with instant := none, counted := [], received := [] }
      else s
    | _, _ => s)

/-- The setpoint holds of a launch of a slot end with its cancellation (R52: a cancelled L is no launch instant). -/
def State.dropHolds (s : State) (slot L : Nat) : State :=
  { s with governors := s.governors.map (fun g => (g.1, { g.2 with holds := g.2.holds.filter (fun h => h.1 != slot || h.2.1 != L) })) }

/-- A pending launch whose L is not set is cancelled (R85): the generation advances, its arrivals are dropped and their queues
halt. -/
def State.cancelPending (s : State) (cause : Cause) (slot : Nat) : State :=
  let x := s.slotSt slot
  if x.arrived.isEmpty then s
  else
    let victims := x.arrived.filter (fun a => (s.queue a.1 a.2).arrived)
    let s := s.setSlotSt slot { x with arrived := [], cancelled := true, generation := (x.generation + 1) % 65536 }
    s.each victims (fun s a => s.haltOnly a.1 a.2 cause)

/-- A launch whose dies enter reset before L is cancelled (R85): the queues whose arrival counted and that have not
issued halt with the reset's cause. At or after L it proceeds (R86); arrivals already sent for the slot's next launch are then a
pending launch of their own, which is cancelled while the slot keeps ARMED for the launch in its ramp (DEDUCED, log entry 116). -/
def State.cancelLaunch (cause : Cause) (dies : List Nat) (s : State) (l : LaunchCfg) : State :=
  let x := s.slotSt l.slot
  if !(l.participants.any (fun c => dies.contains (coreDie c))) then s
  else
    match x.instant with
    | some L =>
      if s.now < L then
        let victims := x.counted.filter (fun a => (s.queue a.1 a.2).arrived)
        let s := (s.setSlotSt l.slot { x with
          arrived := [], counted := [], received := [], cancelled := true, instant := none, previous := x.older }).dropHolds l.slot L
        s.each victims (fun s a => s.haltOnly a.1 a.2 cause)
      else s.cancelPending cause l.slot
    | none => s.cancelPending cause l.slot

/-- Every slot with participants on the reset dies (R85, R86). -/
def State.cancelLaunches (s : State) (cause : Cause) (dies : List Nat) : State :=
  s.each s.img.launch (State.cancelLaunch cause dies)

end Sys2Proof.Machine
end

