-- ==== Sys2Proof/Machine/Governor.lean ====
section
/-! DEFINITION. The rate governors and package time (02_dataflow R47 to R61). -/

namespace Sys2Proof.Machine

open Sys2Proof

def State.modGov (s : State) (die : Nat) (f : Governor → Governor) : State :=
  { s with governors := s.governors.upd die f }

/-- The setpoint hold of R52 is on. -/
def Governor.held (g : Governor) (now : Nat) : Bool := g.holds.any (fun h => h.2.1 ≤ now)

/-- The setpoint after one comparison (R48, R49): 5 mV toward the working target, inside 550 mV to 850 mV. -/
def Governor.compare (g : Governor) (rate now : Nat) : Governor :=
  let v := if g.held now then g.vset
    else if rate * 10000 < g.working * 99 then min (g.vset + 5) 850
    else if g.working * 101 < rate * 10000 then max (g.vset - 5) 550
    else g.vset
  { g with rate := rate, vset := v, atTarget := g.target * 99 ≤ rate * 100 && rate * 100 ≤ g.target * 101 }

/-- The die's compute domain is powered: its rate monitor and its governor run. -/
def State.diePowered (s : State) (die : Nat) : Bool := s.power.diesUp.getLsbD die

/-- GOVERNOR_COMPARE (R48): `rate` is the monitor rate in M tokens/s. -/
def execGovernorCompare (die rate : Nat) (s : State) : Out :=
  .next (if die < 8 && s.diePowered die then s.modGov die (·.compare rate s.now) else s)

/-- A DRAM of the die reports above its nominal refresh range (16_power R595). -/
def State.dramHot (s : State) (die : Nat) : Bool :=
  (List.range 12).any (fun i => (s.tiers.channels.at (12 * die + i)).hot)

/-- A DRAM's report counts for one average (log entry 18). -/
def State.coolDram (s : State) (die : Nat) : State :=
  { s with tiers := { s.tiers with channels := s.tiers.channels.map (fun c =>
      if c.1 / 12 = die then (c.1, { c.2 with hot := false }) else c) } }

/-- The averages of 10 µs act on the working target (R50): 1 % of the configured target down while a cap is exceeded. With the
power cap and the thermal cap exceeded together it goes down by 1 % once (DESIGN CHOICE, log entry 113). -/
def Governor.average (g : Governor) (hungry hot : Bool) (junction : Int) : Governor :=
  let g := { g with junction := junction, powerOver := hungry, thermalOver := hot }
  if hungry || hot then
    { g with working := g.working - g.target, powerLimited := g.powerLimited || hungry,
             thermalLimited := g.thermalLimited || hot, limitedUs := (g.limitedUs + 10) % 2 ^ 32 }
  else g

/-- THERMAL_CAPPED follows the dies under the thermal cap (16_power R595, R597). -/
def State.refreshCapped (s : State) : State :=
  ({ s with power := { s.power with thermalCapped := s.governors.any (fun g => g.2.thermalOver) } }).settle

/-- POWER_AVERAGE (R50; 16_power R563, R595): the die's average power in W and its hottest junction. The module's input
power is a free value, at most the 3.2 kW of 01_five_levels R42 (log entry 42). -/
def execPowerAverage (die watts : Nat) (junction : Int) (s : State) : Out :=
  .next (if die < 8 && s.diePowered die then
      let s := ({ s with power := { s.power with pin := min (Config.inputPower s.free) 3200 } }).draw
      let hungry := 290 < watts || (s.power.powerCap && decide (2400 < s.power.pin))
      let hot := s.dramHot die
      ((s.modGov die (fun g => g.average hungry (decide (g.junctionTarget < junction) || hot) junction)).coolDram die).refreshCapped
    else s)

/-- The working target rises by 1 % of the target until it equals it (R51). -/
def Governor.raise (g : Governor) : Governor :=
  if g.powerOver || g.thermalOver then g
  else
    let w := min (g.working + g.target) (100 * g.target)
    let full := w == 100 * g.target
    { g with working := w, powerLimited := g.powerLimited && !full, thermalLimited := g.thermalLimited && !full }

/-- WORKING_TARGET_RAISE (R51). -/
def execWorkingTargetRaise (die : Nat) (s : State) : Out :=
  .next (if die < 8 && s.diePowered die then s.modGov die (·.raise) else s)

/-- SETPOINT_HOLD_END (R52): holds of the die whose end has come. -/
def execSetpointHoldEnd (die : Nat) (s : State) : Out :=
  .next (s.modGov die (fun g => { g with holds := g.holds.filter (fun h => s.now < h.2.2) }))

/-- Every queue that runs: core and queue, in the order in which their reports are accepted (19_event_recorder R655). -/
def State.runningQueues (s : State) : List (Nat × Nat) :=
  s.recorderOrder (s.cores.flatMap (fun c => (c.2.queues.filter (fun q => q.2.active && !q.2.halted)).map (fun q => (c.1, q.1))))

/-- OSC_FAULT (R59): package time freezes, no further instant is set, every queue halts with TIMEOUT. -/
def execOscFault (s : State) : Out :=
  .next (
    if s.time.oscFault || !s.time.released then s
    else
    let s := ({ s with time := { s.time with oscFault := true } }).event 0x8070 Cause.timeout 0 0 0
    s.each s.runningQueues (fun s a => s.haltQueue a.1 a.2 Cause.timeout))

/-- TIME_NOW_LO_READ (R61). -/
def execTimeNowLoRead (s : State) : Out :=
  .next { s with time := { s.time with hiLatch := BitVec.ofNat 32 (s.now / 2 ^ 32) }, bus := s.now % 2 ^ 32 }

/-- As the moment of its instant passes, a LAUNCH entry is on time when its other conditions hold and late when one does not
(R72). -/
def State.judge (s : State) (c : Nat) (q : Nat × Queue) : Nat × Queue :=
  let k := q.2
  if !k.active || !k.arrived || k.late || k.onTime then q
  else
    match s.headEntry c q.1 with
    | none => q
    | some e =>
      if !e.launch || !(s.launchTime c q.1 e.slot).any (· ≤ s.dieTime (coreDie c)) then q
      else if s.conditions c q.1 e then (q.1, { k with onTime := true }) else (q.1, { k with late := true })

/-- The tick (log entry 2): 1 ns passes on every copy of package time that runs, and queues that may not issue do not
count it as waiting (R55, R59, R76). LAUNCH entries whose instant passes are judged on time or late (R72). -/
def State.tick (s : State) : State :=
  if s.time.released && !s.time.oscFault then
    ({ s with
      time := { s.time with copies := s.time.copies.zipIdx.map (fun (t, i) => if s.time.aligned.getLsbD i then t + 1 else t) }
      cores := s.cores.map (fun (c : Nat × CoreSt) =>
        if s.mayIssue c.1 then (c.1, { c.2 with queues := c.2.queues.map (s.judge c.1) })
        else (c.1, { c.2 with queues := c.2.queues.map (fun (q : Nat × Queue) => (q.1, { q.2 with waitFrom := q.2.waitFrom + 1 })) })) }).msixDue.retryPorts
  else s

end Sys2Proof.Machine
end

