-- ==== Sys2Proof/Machine/Crypto.lean ====
section
/-! DEFINITION. The algorithms that 15_security names: AES (FIPS 197) with the modes of R551, CMAC, RFC 5649 key wrap,
SHA-384, and ECDSA on brainpoolP384r1 (R534, R535). Blocks and digests are byte lists, first byte first. -/

namespace Sys2Proof.Machine

open Sys2Proof

/-- Bitwise XOR of two byte lists. -/
def xorBytes (a b : List Byte) : List Byte := (a.zip b).map (fun (x, y) => x ^^^ y)
/-- Bytes in groups of n. -/
def byteGroups (n : Nat) : Nat → List Byte → List (List Byte)
  | 0, _ => []
  | k + 1, bs => bs.take n :: byteGroups n k (bs.drop n)
/-- Blocks of 16 bytes, the last one as long as what is left. -/
def blocks16 (bs : List Byte) : List (List Byte) := byteGroups 16 ((bs.length + 15) / 16) bs

/-! ## AES (FIPS 197) -/

/-- Multiplication by x in GF(2^8). -/
def xtime (a : Nat) : Nat := if 128 ≤ a then (2 * a - 256) ^^^ 0x1B else 2 * a
/-- Product in GF(2^8): `fuel` bits of the second factor. -/
def aesMulN : Nat → Nat → Nat → Nat
  | 0, _, _ => 0
  | n + 1, a, b => (if b % 2 = 1 then a else 0) ^^^ aesMulN n (xtime a) (b / 2)
/-- The S-box of FIPS 197 and its inverse, byte b at bits 8b + 7 to 8b. -/
def sboxTable : Nat :=
  0x16bb54b00f2d99416842e6bf0d89a18cdf2855cee9871e9b948ed9691198f8e19e1dc186b95735610ef6034866b53e708a8bbd4b1f74dde8c6b4a61c2e2578ba08ae7a65eaf4566ca94ed58d6d37c8e779e4959162acd3c25c2406490a3a32e0db0b5ede14b8ee4688902a22dc4f816073195d643d7ea7c41744975fec130ccdd2f3ff1021dab6bcf5389d928f40a351a89f3c507f02f94585334d43fbaaefd0cf584c4a39becb6a5bb1fc20ed00d153842fe329b3d63b52a05a6e1b1a2c830975b227ebe28012079a059618c323c7041531d871f1e5a534ccf73f362693fdb7c072a49cafa2d4adf04759fa7dc982ca76abd7fe2b670130c56f6bf27b777c63
def invSboxTable : Nat :=
  0x7d0c2155631469e126d677ba7e042b17619953833cbbebc8b0f52aae4d3be0a0ef9cc9939f7ae52d0d4ab519a97f51605fec8027591012b131c7078833a8dd1ff45acd78fec0db9a2079d2c64b3e56fc1bbe18aa0e62b76f89c5291d711af1476edf751ce837f9e28535ade72274ac9673e6b4f0cecff297eadc674f4111913a6b8a130103bdafc1020f3fca8f1e2cd00645b3b80558e4f70ad3bc8c00abd890849d8da75746155edab9edfd5048706c92b6655dcc5ca4d41698688664f6f87225d18b6d49a25b76b224d92866a12e084ec3fa420b954cee3d23c2a632947b54cbe9dec444438e3487ff2f9b8239e37cfbd7f3819ea340bf38a53630d56a0952
def subByte (b : Byte) : Byte := BitVec.ofNat 8 (sboxTable >>> (8 * b.toNat))
def invSubByte (b : Byte) : Byte := BitVec.ofNat 8 (invSboxTable >>> (8 * b.toNat))

/-- Round constant i, from 1. -/
def rcon : Nat → Nat
  | 0 => 0x8D
  | n + 1 => xtime (rcon n)

/-- The key schedule: words so far, newest first, i words done of nk-word key. -/
def expandKey (nk : Nat) : Nat → Nat → List (List Byte) → List (List Byte)
  | 0, _, ws => ws
  | n + 1, i, ws =>
    let prev := ws.headD []
    let t := if i % nk = 0 then
        xorBytes ((prev.drop 1 ++ prev.take 1).map subByte) [BitVec.ofNat 8 (rcon (i / nk)), 0, 0, 0]
      else if nk = 8 && i % nk = 4 then prev.map subByte
      else prev
    expandKey nk n (i + 1) (xorBytes (ws.getD (nk - 1) []) t :: ws)

/-- Round keys of a key of 16 or 32 bytes. -/
def roundKeys (key : List Byte) : List (List Byte) :=
  let nk := key.length / 4
  let words := (expandKey nk (4 * (nk + 7) - nk) nk (byteGroups 4 nk key).reverse).reverse
  byteGroups 16 (nk + 7) words.flatten

/-- ShiftRows: byte r + 4c of the state comes from column c + r. -/
def shiftRows (dir : Nat) (st : List Byte) : List Byte :=
  (List.range 16).map (fun i => st.getD (i % 4 + 4 * ((i / 4 + dir * (i % 4)) % 4)) 0)
/-- MixColumns with the coefficients of one row. -/
def mixColumns (co : List Nat) (st : List Byte) : List Byte :=
  (List.range 16).map (fun i =>
    BitVec.ofNat 8 ((List.range 4).foldl (fun acc k =>
      acc ^^^ aesMulN 4 (st.getD (4 * (i / 4) + k) 0).toNat (co.getD ((k + 4 - i % 4) % 4) 0)) 0))

def aesRounds : List (List Byte) → List Byte → List Byte
  | [], st => st
  | [k], st => xorBytes (shiftRows 1 (st.map subByte)) k
  | k :: ks, st => aesRounds ks (xorBytes (mixColumns [2, 3, 1, 1] (shiftRows 1 (st.map subByte))) k)
/-- One block encrypted. -/
def aesEnc (key block : List Byte) : List Byte :=
  match roundKeys key with
  | [] => block
  | k :: ks => aesRounds ks (xorBytes block k)

def aesInvRounds : List (List Byte) → List Byte → List Byte
  | [], st => st
  | [k], st => xorBytes ((shiftRows 3 st).map invSubByte) k
  | k :: ks, st => aesInvRounds ks (mixColumns [14, 11, 13, 9] (xorBytes ((shiftRows 3 st).map invSubByte) k))
/-- One block decrypted. -/
def aesDec (key block : List Byte) : List Byte :=
  match (roundKeys key).reverse with
  | [] => block
  | k :: ks => aesInvRounds ks (xorBytes block k)

/-! ## Modes (R551) -/

def cbcEnc (key : List Byte) : List Byte → List (List Byte) → List Byte
  | _, [] => []
  | iv, b :: bs => let c := aesEnc key (xorBytes b iv); c ++ cbcEnc key c bs
def cbcDec (key : List Byte) : List Byte → List (List Byte) → List Byte
  | _, [] => []
  | iv, c :: cs => xorBytes (aesDec key c) iv ++ cbcDec key c cs
/-- CFB-128, encrypting or decrypting: the feedback is the ciphertext. -/
def cfb (key : List Byte) (dec : Bool) : List Byte → List (List Byte) → List Byte
  | _, [] => []
  | iv, b :: bs => let o := xorBytes b (aesEnc key iv); o ++ cfb key dec (if dec then b else o) bs
/-- A counter block advanced by k in its low w bits, big-endian. -/
def ctrBlock (w : Nat) (block : List Byte) (k : Nat) : List Byte :=
  let v := beNat block
  beBytes 16 (v / 2 ^ w * 2 ^ w + (v + k) % 2 ^ w)
/-- CTR over w low bits. -/
def ctr (w : Nat) (key iv : List Byte) (bs : List Byte) : List Byte :=
  ((blocks16 bs).zipIdx.map (fun (b, i) => xorBytes b (aesEnc key (ctrBlock w iv i)))).flatten

/-- Doubling in GF(2^128) for CMAC subkeys (SP 800-38B). -/
def cmacDouble (b : List Byte) : List Byte :=
  let v := beNat b
  beBytes 16 (((2 * v) % 2 ^ 128) ^^^ (if 2 ^ 127 ≤ v then 0x87 else 0))
/-- AES-CMAC. -/
def cmac (key bs : List Byte) : List Byte :=
  let k1 := cmacDouble (aesEnc key (zeros 16))
  let k2 := cmacDouble k1
  let parts := if bs.isEmpty then [[]] else blocks16 bs
  let last := parts.getLastD []
  let last := if last.length = 16 then xorBytes last k1 else xorBytes (fitBytes 16 (last ++ [0x80])) k2
  (parts.dropLast ++ [last]).foldl (fun x b => aesEnc key (xorBytes x b)) (zeros 16)

/-- Product in GF(2^128) as GCM orders bits: bit 0 is the most significant (SP 800-38D). -/
def ghashMul : Nat → Nat → Nat → Nat → Nat
  | 0, _, _, z => z
  | n + 1, x, v, z =>
    ghashMul n x (if v % 2 = 1 then (v / 2) ^^^ (0xE1 * 2 ^ 120) else v / 2) (if x.testBit n then z ^^^ v else z)
def ghash (h : Nat) (bs : List (List Byte)) : Nat :=
  bs.foldl (fun y b => ghashMul 128 (y ^^^ beNat (fitBytes 16 b)) h 0) 0
/-- The whole GCM tag of ciphertext and additional data under a 96-bit nonce. -/
def gcmTag (key nonce aad ct : List Byte) : List Byte :=
  let h := beNat (aesEnc key (zeros 16))
  let s := ghash h (blocks16 aad ++ blocks16 ct ++ [beBytes 8 (8 * aad.length) ++ beBytes 8 (8 * ct.length)])
  xorBytes (beBytes 16 s) (aesEnc key (nonce ++ [0, 0, 0, 1]))
def gcmCrypt (key nonce bs : List Byte) : List Byte := ctr 32 key (nonce ++ [0, 0, 0, 2]) bs

/-! ## Key wrap with padding (RFC 5649) -/

/-- One step of unwrapping: integrity value and the n semiblocks, at step t. -/
def kwStep (key : List Byte) (n : Nat) (st : List Byte × List (List Byte)) (t : Nat) : List Byte × List (List Byte) :=
  let i := (t - 1) % n
  let b := aesDec key (xorBytes st.1 (beBytes 8 t) ++ st.2.getD i [])
  (b.take 8, st.2.set i (b.drop 8))
/-- The plaintext, or none where the integrity check fails. -/
def unwrapKey (kek blob : List Byte) : Option (List Byte) :=
  if blob.length % 8 ≠ 0 || blob.length < 16 then none
  else
    let n := blob.length / 8 - 1
    let (a, p) :=
      if n = 1 then let b := aesDec kek blob; (b.take 8, b.drop 8)
      else
        let r := ((List.range (6 * n)).reverse.map (· + 1)).foldl (kwStep kek n) (blob.take 8, byteGroups 8 n (blob.drop 8))
        (r.1, r.2.flatten)
    let mli := beNat (a.drop 4)
    if a.take 4 = [0xA6, 0x59, 0x59, 0xA6] && 8 * (n - 1) < mli && mli ≤ 8 * n && (p.drop mli).all (· == 0) then some (p.take mli)
    else none

/-! ## SHA-384 (FIPS 180-4): its constants are fractional bits of roots of primes -/

/-- The largest r below 2^n with r^k ≤ x. -/
def rootBits (k x : Nat) : Nat → Nat → Nat
  | 0, r => r
  | n + 1, r => if (r + 2 ^ n) ^ k ≤ x then rootBits k x n (r + 2 ^ n) else rootBits k x n r
/-- The first 80 primes. -/
def primes80 : List Nat := ((List.range 410).filter (fun n => 2 ≤ n && (List.range 21).all (fun d => d < 2 || n ≤ d || n % d ≠ 0))).take 80
def shaK : List Nat := primes80.map (fun p => rootBits 3 (p * 2 ^ 192) 68 0 % 2 ^ 64)
def shaInit : List Nat := ((primes80.drop 8).take 8).map (fun p => rootBits 2 (p * 2 ^ 128) 70 0 % 2 ^ 64)

def rotr64 (x n : Nat) : Nat := x / 2 ^ n + (x * 2 ^ (64 - n)) % 2 ^ 64
/-- The message schedule, newest word first. -/
def shaSchedule : Nat → List Nat → List Nat
  | 0, ws => ws
  | n + 1, ws =>
    let a := ws.getD 14 0; let b := ws.getD 1 0
    let s0 := rotr64 a 1 ^^^ rotr64 a 8 ^^^ a / 2 ^ 7
    let s1 := rotr64 b 19 ^^^ rotr64 b 61 ^^^ b / 2 ^ 6
    shaSchedule n ((s1 + ws.getD 6 0 + s0 + ws.getD 15 0) % 2 ^ 64 :: ws)
def shaRound (st : List Nat) (kw : Nat × Nat) : List Nat :=
  match st with
  | [a, b, c, d, e, f, g, h] =>
    let t1 := h + (rotr64 e 14 ^^^ rotr64 e 18 ^^^ rotr64 e 41) + ((e &&& f) ^^^ ((2 ^ 64 - 1 - e) &&& g)) + kw.1 + kw.2
    let t2 := (rotr64 a 28 ^^^ rotr64 a 34 ^^^ rotr64 a 39) + ((a &&& b) ^^^ (a &&& c) ^^^ (b &&& c))
    [(t1 + t2) % 2 ^ 64, a, b, c, (d + t1) % 2 ^ 64, e, f, g]
  | st => st
def shaBlock (h : List Nat) (block : List Byte) : List Nat :=
  let ws := (shaSchedule 64 ((byteGroups 8 16 block).map beNat).reverse).reverse
  ((shaK.zip ws).foldl shaRound h).zipWith (fun x y => (x + y) % 2 ^ 64) h
/-- SHA-384: 48 bytes. -/
def sha384 (bs : List Byte) : List Byte :=
  let pad := bs ++ [0x80] ++ zeros ((239 - bs.length % 128) % 128) ++ beBytes 16 (8 * bs.length)
  (((byteGroups 128 (pad.length / 128) pad).foldl shaBlock shaInit).flatMap (beBytes 8)).take 48

/-! ## brainpoolP384r1 (RFC 5639) and ECDSA -/

def curveP : Nat := 0x8CB91E82A3386D280F5D6F7E50E641DF152F7109ED5456B412B1DA197FB71123ACD3A729901D1A71874700133107EC53
def curveA : Nat := 0x7BC382C63D8C150C3C72080ACE05AFA0C2BEA28E4FB22787139165EFBA91F90F8AA5814A503AD4EB04A8C7DD22CE2826
def curveB : Nat := 0x04A8C7DD22CE28268B39B55416F0447C2FB77DE107DCD2A62E880EA53EEB62D57CB4390295DBC9943AB78696FA504C11
def curveG : Nat × Nat :=
  (0x1D1C64F068CF45FFA2A63A81B7C13F6B8847A3E77EF14FE3DB7FCAFE0CBD10E8E826E03436D646AAEF87B2E247D4AF1E,
   0x8ABE1D7520F9C2A45CB1EB8E95CFD55262B70B29FEEC5864E19C054FF99129280E4646217791811142820341263C5315)
def curveN : Nat := 0x8CB91E82A3386D280F5D6F7E50E641DF152F7109ED5456B31F166E6CAC0425A7CF3AB6AF6B7FC3103B883202E9046565

/-- x^e modulo m, over n digits of e to base 64. -/
def powMod (m x : Nat) : Nat → Nat → Nat
  | 0, _ => 1
  | n + 1, e => powMod m x n (e / 64) ^ 64 * x ^ (e % 64) % m
/-- Inverse modulo a 384-bit prime. -/
def invMod (m x : Nat) : Nat := powMod m (x % m) 64 (m - 2)

/-- A point of the curve: none is the point at infinity. -/
abbrev Point := Option (Nat × Nat)
def pointAdd : Point → Point → Point
  | none, q => q
  | p, none => p
  | some (x1, y1), some (x2, y2) =>
    if x1 = x2 && (y1 + y2) % curveP = 0 then none
    else
      let l := if x1 = x2 then (3 * x1 * x1 + curveA) * invMod curveP (2 * y1) % curveP
        else (y2 + curveP - y1) * invMod curveP (x2 + curveP - x1) % curveP
      let x3 := (l * l + 2 * curveP - x1 - x2) % curveP
      some (x3, (l * (x1 + curveP - x3) + curveP - y1) % curveP)
/-- k × P over n bits of k. -/
def pointMul : Nat → Nat → Point → Point
  | 0, _, _ => none
  | n + 1, k, p =>
    let r := pointMul n (k / 2) (pointAdd p p)
    if k % 2 = 1 then pointAdd r p else r

/-- An uncompressed point, 0x04 ‖ x ‖ y, 97 bytes (R535), if it lies on the curve. -/
def pointOf (bs : List Byte) : Point :=
  let x := beNat ((bs.drop 1).take 48)
  let y := beNat (bs.drop 49)
  if bs.length = 97 && bs.headD 0 = 4 && x < curveP && y < curveP && y * y % curveP = (x * x * x + curveA * x + curveB) % curveP then some (x, y)
  else none
def pointBytes : Point → List Byte
  | none => []
  | some (x, y) => 4 :: beBytes 48 x ++ beBytes 48 y

/-- ECDSA over the SHA-384 digest of the signed bytes; r or s outside 1 to n − 1 is invalid (R535). -/
def ecdsaOk (pub msg sig : List Byte) : Bool :=
  let r := beNat (sig.take 48)
  let t := beNat (sig.drop 48)
  match pointOf pub with
  | none => false
  | some q =>
    if sig.length ≠ 96 || r = 0 || curveN ≤ r || t = 0 || curveN ≤ t then false
    else
      let w := invMod curveN t
      let u := beNat (sha384 msg) * w % curveN
      match pointAdd (pointMul 384 u (some curveG)) (pointMul 384 (r * w % curveN) (some q)) with
      | none => false
      | some (x, _) => x % curveN == r

/-- An ECDSA signature r ‖ s with the secret number k (R535). -/
def ecdsaSign (d k : Nat) (msg : List Byte) : List Byte :=
  match pointMul 384 k (some curveG) with
  | none => []
  | some (x, _) => beBytes 48 (x % curveN) ++ beBytes 48 (invMod curveN k * (beNat (sha384 msg) + x % curveN * d) % curveN)

end Sys2Proof.Machine
end

