-- ==== Sys2Proof/Machine/FrnBytes.lean ====
section
/-! DEFINITION. The bytes of Freyn packets: headers and payloads (13_freyn R453 to R456), their protection (R485), and the UDP,
IP and Ethernet layers around them (R446, R448 to R450). -/

namespace Sys2Proof
open Machine

/-! ## Header (R453) -/

def FrnHeader.flags (h : FrnHeader) : Nat := b2n h.resend + 2 * b2n h.second + 4 * b2n h.rekey + 8 * h.flagsReserved
/-- CTR: the send count, the sending port's number, and bits that are 0. -/
def FrnHeader.ctrField (h : FrnHeader) : Nat := h.ctr + h.ctrPort * 2 ^ 40 + h.ctrReserved * 2 ^ 42
/-- The 32 header bytes, which are the additional authenticated data (R485). -/
def FrnHeader.bytes (h : FrnHeader) : List Byte :=
  leBytes 1 h.version ++ leBytes 1 h.type ++ leBytes 2 h.flags ++ leBytes 1 (h.src + 16 * h.dst) ++ leBytes 1 h.reserved5 ++
    leBytes 2 h.keyEpoch ++ leBytes 4 h.assoc ++ leBytes 8 h.ctrField ++ leBytes 8 h.seq ++ leBytes 2 h.length ++ leBytes 2 h.reserved30
/-- The nonce: header bytes 8 to 19 (R485). -/
def FrnHeader.nonce (h : FrnHeader) : List Byte := leBytes 4 h.assoc ++ leBytes 8 h.ctrField

/-! ## Payloads (R454, R456; log entry 37: DESIGN CHOICE of the layouts that the spec does not give) -/

def HeartbeatBody.bytes (b : HeartbeatBody) : List Byte :=
  leBytes 8 b.openRound ++ leBytes 8 (b.lastClosed.getD 0) ++ leBytes 1 (b.lastKind + 4 * b2n b.lastClosed.isSome) ++ leBytes 1 b.state ++
    leBytes 2 b.active ++ leBytes 2 b.held

/-- The fragment header of a DELTA: 64 bytes (R456). -/
def DeltaFragment.bytes (f : DeltaFragment) : List Byte :=
  leBytes 8 f.round ++ leBytes 8 f.baseRound ++ leBytes 8 f.firstBlock ++ leBytes 8 f.totalBlocks ++ leBytes 2 f.blocks ++
    leBytes 2 f.tableId ++ leBytes 1 f.rate ++ leBytes 1 (b2n f.pending) ++ leBytes 2 f.reserved38 ++ leBytes 8 f.streamCrc.toNat ++
    leBytes 16 f.reserved48

/-- ACK: a 64-bit first and a 64-bit count for each range. -/
def ackBytes (rs : List SeqRange) : List Byte := rs.flatMap (fun r => leBytes 8 r.first ++ leBytes 8 r.count)

def ProposeBody.bytes (p : ProposeBody) : List Byte :=
  leBytes 8 p.round ++ leBytes 2 p.mask ++
    p.included.flatMap (fun i => leBytes 8 i.baseRound ++ leBytes 4 i.weight.toNat ++ leBytes 8 i.crc.toNat)

def acceptBytes (round : Nat) (crc : Word64) : List Byte := leBytes 8 round ++ leBytes 8 crc.toNat
def CloseBody.bytes (b : CloseBody) : List Byte := b.proposal.bytes ++ leBytes 2 b.accepting ++ leBytes 2 b.nextActive

def FetchObject.bytes : FetchObject → List Byte
  | .deltaOf i => leBytes 1 0 ++ leBytes 1 i
  | .anchor => leBytes 2 1
  | .momentum => leBytes 2 2
  | .slotImage => leBytes 2 3
  | .openRound => leBytes 2 4
  | .checkpoint t => leBytes 1 5 ++ leBytes 1 t
def FetchBody.bytes (b : FetchBody) : List Byte := b.object.bytes ++ leBytes 8 b.round ++ leBytes 8 b.first ++ leBytes 8 b.length
/-- DATA: 64 bytes that name the object, its round and the offset, then the bytes. -/
def DataBody.bytes (b : DataBody) : List Byte :=
  b.object.bytes ++ zeros 6 ++ leBytes 8 b.round ++ leBytes 8 b.offset ++ zeros 40 ++ b.data
def digestBytes (round : Nat) (digest : Word64) : List Byte := leBytes 8 round ++ leBytes 8 digest.toNat
def JoinBody.bytes : JoinBody → List Byte
  | .rebasing => leBytes 1 0
  | .request => leBytes 1 1
  | .complete => leBytes 1 2

end Sys2Proof

namespace Sys2Proof.Machine

/-! ## UDP and IP (R448, R452) -/

def isIpv4 (addr : List Byte) : Bool := addr.length == 4

/-- Big-endian 16-bit words, the last one padded with 0. -/
def words16 : List Byte → List Nat
  | a :: b :: rest => (a.toNat * 256 + b.toNat) :: words16 rest
  | [a] => [a.toNat * 256]
  | [] => []
/-- Ones' complement sum of 16-bit words (RFC 768). -/
def onesSum (bs : List Byte) : Nat := (words16 bs).foldl (fun acc w => (acc + w) % 65536 + (acc + w) / 65536) 0

/-- What the UDP checksum covers ahead of the datagram: the pseudo-header of RFC 768 or RFC 8200. -/
def pseudoHeader (src dst : List Byte) (len : Nat) : List Byte :=
  if isIpv4 src then src ++ dst ++ [0, 17] ++ beBytes 2 len else src ++ dst ++ beBytes 4 len ++ [0, 0, 0, 17]

/-- A UDP datagram with a checksum field. -/
def udpBytes (srcPort dstPort sum : Nat) (data : List Byte) : List Byte :=
  beBytes 2 srcPort ++ beBytes 2 dstPort ++ beBytes 2 (8 + data.length) ++ beBytes 2 sum ++ data
/-- The checksum to send: never 0. -/
def udpSum (src dst : List Byte) (srcPort dstPort : Nat) (data : List Byte) : Nat :=
  let c := 65535 - onesSum (pseudoHeader src dst (8 + data.length) ++ udpBytes srcPort dstPort 0 data)
  if c = 0 then 65535 else c
/-- A received datagram's checksum holds. -/
def udpSumOk (src dst : List Byte) (srcPort dstPort sum : Nat) (data : List Byte) : Bool :=
  onesSum (pseudoHeader src dst (8 + data.length) ++ udpBytes srcPort dstPort sum data) == 65535

/-- An IP packet: hop limit 64, the DSCP of the class, no extension header; over IPv4 no options and DF set. -/
def ipPacket (src dst : List Byte) (dscp : Nat) (udp : List Byte) : List Byte :=
  if isIpv4 src then
    let head (sum : Nat) : List Byte :=
      [0x45] ++ leBytes 1 (4 * dscp) ++ beBytes 2 (20 + udp.length) ++ [0, 0, 0x40, 0, 64, 17] ++ beBytes 2 sum ++ src ++ dst
    head (65535 - onesSum (head 0)) ++ udp
  else beBytes 4 (6 * 2 ^ 28 + dscp * 2 ^ 22) ++ beBytes 2 udp.length ++ [17, 64] ++ src ++ dst ++ udp

/-- An Ethernet frame around an IP packet, with the route's VLAN tag (R446, R450); the frame check sequence is the port's. -/
def etherFrame (dstMac srcMac : List Byte) (vlan : Option Nat) (v4 : Bool) (ip : List Byte) : List Byte :=
  dstMac ++ srcMac ++ (match vlan with | some v => [0x81, 0x00] ++ beBytes 2 (v % 4096) | none => []) ++
    (if v4 then [0x08, 0x00] else [0x86, 0xDD]) ++ ip

/-! ## Protection (R485) -/

/-- A payload's ciphertext and tag under a key. -/
def sealPacket (h : FrnHeader) (key payload : List Byte) : List Byte × List Byte :=
  let ct := gcmCrypt key h.nonce payload
  (ct, gcmTag key h.nonce h.bytes ct)

end Sys2Proof.Machine
end

