-- ==== Sys2Proof/Machine/Val.lean ====
section
/-! DEFINITION. Exact values: NaN, infinities and signed dyadics m · 2^e. Every engine forms its results on these and
rounds once (03_tensor R111). -/

namespace Sys2Proof.Machine

/-- A value: `fin neg m e` is (−1)^neg · m · 2^e; `m = 0` is a signed zero. -/
inductive Val where
  | nan
  | inf (neg : Bool)
  | fin (neg : Bool) (m : Nat) (e : Int)
  deriving DecidableEq, Repr, Inhabited

/-- m · 2^(e − q) rounded down, for any q. -/
def scaleDown (m : Nat) (e q : Int) : Nat :=
  if q ≤ e then m <<< (e - q).toNat else m >>> (q - e).toNat

/-- Comparison of m1 · 2^e1 with m2 · 2^e2. -/
def dyCmp (m1 : Nat) (e1 : Int) (m2 : Nat) (e2 : Int) : Ordering :=
  let q := min e1 e2
  compare (scaleDown m1 e1 q) (scaleDown m2 e2 q)

/-- Signed integer that counts units of 2^q, exact when q ≤ e. -/
def signedUnits (neg : Bool) (m : Nat) (e q : Int) : Int :=
  let u : Int := scaleDown m e q
  if neg then -u else u

namespace Val

def zero : Val := .fin false 0 0
def isNan : Val → Bool | .nan => true | _ => false
def isInf : Val → Bool | .inf _ => true | _ => false
def isZero : Val → Bool | .fin _ 0 _ => true | _ => false
def isFinite : Val → Bool | .fin _ _ _ => true | _ => false
def sign : Val → Bool | .nan => false | .inf s => s | .fin s _ _ => s

/-- Value from an integer count of 2^e. -/
def ofInt (i : Int) (e : Int) : Val := .fin (i < 0) i.natAbs e

def neg : Val → Val
  | .nan => .nan | .inf s => .inf (!s) | .fin s m e => .fin (!s) m e
def abs : Val → Val
  | .nan => .nan | .inf _ => .inf false | .fin _ m e => .fin false m e

/-- Value times 2^k. -/
def scale (k : Int) : Val → Val
  | .fin s m e => .fin s m (e + k) | x => x

/-- Product: Inf × 0 is NaN (04_dot R133). -/
def mul : Val → Val → Val
  | .nan, _ => .nan
  | _, .nan => .nan
  | .inf s, .inf t => .inf (s != t)
  | .inf s, .fin t m _ => if m = 0 then .nan else .inf (s != t)
  | .fin s m _, .inf t => if m = 0 then .nan else .inf (s != t)
  | .fin s m e, .fin t n f => .fin (s != t) (m * n) (e + f)

/-- Inf × 0. -/
def mulInvalid (x y : Val) : Bool := (x.isInf && y.isZero) || (x.isZero && y.isInf)

/-- Exact sum: an exact zero sum is +0 unless both terms are −0; opposite infinities are NaN (04_dot R136). -/
def add : Val → Val → Val
  | .nan, _ => .nan
  | _, .nan => .nan
  | .inf s, .inf t => if s = t then .inf s else .nan
  | .inf s, .fin _ _ _ => .inf s
  | .fin _ _ _, .inf t => .inf t
  | .fin s m e, .fin t n f =>
    if m = 0 && n = 0 then .fin (s && t) 0 0
    else
      let q := min e f
      ofInt (signedUnits s m e q + signedUnits t n f q) q

/-- (+Inf) + (−Inf). -/
def addInvalid : Val → Val → Bool
  | .inf s, .inf t => s != t
  | _, _ => false

def sub (x y : Val) : Val := x.add y.neg

/-- Order of two values that are not NaN; −0 equals +0. -/
def cmp : Val → Val → Ordering
  | .inf s, .inf t => if s = t then .eq else if s then .lt else .gt
  | .inf s, _ => if s then .lt else .gt
  | _, .inf t => if t then .gt else .lt
  | .fin s m e, .fin t n f =>
    let q := min e f
    compare (signedUnits s m e q) (signedUnits t n f q)
  | _, _ => .eq

/-- Bit length of a magnitude: floor(log2) + 1. -/
def bitLen (m : Nat) : Nat := if m = 0 then 0 else m.log2 + 1

end Val

end Sys2Proof.Machine
end

