-- ==== Sys2Proof/Machine/Formats.lean ====
section
/-! DEFINITION. The number formats and their conversions (03_tensor_number_formats R92 to R125). A format's finite
magnitudes are numbered in rising order by their codes; codes past the largest finite one continue the series
with an unbounded exponent, which is how overflow is told (04_dot R149). -/

namespace Sys2Proof.Machine

open Sys2Proof

/-! ## Format tables (R92, R98, R102, R105, R108). Codes: 0 FP32, 1 BF16, 2 FP16, 3 E4M3, 4 E5M2, 5 E2M3, 6 E3M2,
7 E2M1, 8 INT8, 9 KL8, 10 W36, 11 KFR. -/

/-- Significand bits, the hidden bit included. -/
def fmtPrec (f : Nat) : Nat := [24, 8, 11, 4, 3, 4, 3, 2, 7, 0, 26].getD f 0
/-- Exponent of the smallest magnitude's unit. -/
def fmtUnit (f : Nat) : Int := ([-149, -133, -24, -9, -16, -3, -4, -1, -6, 0, -535] : List Int).getD f 0
/-- Code of the largest finite magnitude. -/
def fmtMax (f : Nat) : Nat :=
  [0x7F7FFFFF, 0x7F7F, 0x7BFF, 0x7E, 0x7B, 0x1F, 0x1F, 0x7, 0x7F, 0x7F, 0x7FDFFFFFF].getD f 0
/-- Bits of an element. -/
def fmtBits (f : Nat) : Nat := [32, 16, 16, 8, 8, 6, 6, 4, 8, 8, 36].getD f 0
/-- emax of R102; 7 for KL8 (R118). -/
def fmtEmax (f : Nat) : Int := ([0, 0, 0, 8, 15, 2, 4, 2, 0, 7, 0] : List Int).getD f 0
/-- Formats 0x3 to 0x9 carry a scale per block of 32 elements. -/
def isBlock (f : Nat) : Bool := 3 ≤ f && f ≤ 9
/-- Operand formats of the matrix engine without KFR (R93). -/
def isOperand (f : Nat) : Bool := 1 ≤ f && f ≤ 9
/-- The format has a negative zero. -/
def hasNegZero (f : Nat) : Bool := f ≠ 8 && f ≠ 9

/-- The KL8 antilog table (R107). -/
def klT (m : Nat) : Nat := [0x8000, 0x8B96, 0x9838, 0xA5FF, 0xB505, 0xC567, 0xD745, 0xEAC1].getD m 0
/-- KL8 magnitude of a code: T[m] · 2^(q − 15) (R106); code 0 is 0. -/
def klMag (c : Nat) : Nat × Int :=
  if c = 0 then (0, 0) else (klT (c % 8), (c / 8 : Nat) - 8 - 15)

/-! ## Codes and magnitudes -/

/-- Magnitude of a code as m · 2^e. -/
def codeMag (f c : Nat) : Nat × Int :=
  if f = 9 then klMag c
  else if f = 8 then (c, -6)
  else
    let h := 2 ^ (fmtPrec f - 1)
    if c < h then (c, fmtUnit f) else (h + c % h, fmtUnit f + (c / h : Nat) - 1)

/-- The code of the largest magnitude not above m · 2^e. -/
def floorCode (f m : Nat) (e : Int) : Nat :=
  if m = 0 then 0
  else if f = 8 then scaleDown m e (-6)
  else if f = 9 then
    let k : Int := e + Val.bitLen m - 1
    if k < -8 then 0
    else
      let j := ((List.range 8).filter (fun j => dyCmp (klT j) (k - 15) m e != .gt)).length - 1
      8 * (k + 8).toNat + j
  else
    let p := fmtPrec f
    let q := max (fmtUnit f) (e + Val.bitLen m - p)
    (q - fmtUnit f).toNat * 2 ^ (p - 1) + scaleDown m e q

/-- How m · 2^e lies in the gap above code c: comparison with the midpoint of codes c and c + 1. -/
def midCmp (f m : Nat) (e : Int) (c : Nat) : Ordering :=
  let (a, x) := codeMag f c
  let (b, y) := codeMag f (c + 1)
  let q := min x y
  dyCmp m (e + 1) (scaleDown a x q + scaleDown b y q) q

/-- Round to nearest, ties to even code (R112, R121). -/
def nearestCode (f m : Nat) (e : Int) : Nat :=
  let c := floorCode f m e
  match midCmp f m e c with
  | .lt => c
  | .gt => c + 1
  | .eq => if c % 2 = 0 then c else c + 1

/-- Stochastic rounding with the 16-bit word r (R123). -/
def stochasticCode (f m : Nat) (e : Int) (r : Nat) : Nat :=
  let c := floorCode f m e
  let (a, x) := codeMag f c
  let (b, y) := codeMag f (c + 1)
  let q := min e (min x y)
  let lo := scaleDown a x q
  let d := scaleDown m e q - lo
  if d = 0 then c
  else if 65536 ≤ 2 ^ 16 * d / (scaleDown b y q - lo) + r then c + 1 else c

/-! ## Decoding (R97 to R109) -/

/-- Value of an element's bits, before any block scale. -/
def decodeElem (f bits : Nat) : Val :=
  let w := fmtBits f
  let s := bits.testBit (w - 1)
  let c := bits % 2 ^ (w - 1)
  match f with
  | 8 => if s then .fin true (256 - bits % 256) (-6) else .fin false c (-6)
  | 9 => if c = 0 then (if s then .nan else Val.zero) else let (m, e) := klMag c; .fin s m e
  | 3 => if c = 0x7F then .nan else let (m, e) := codeMag 3 c; .fin s m e
  | _ =>
    if c ≤ fmtMax f then let (m, e) := codeMag f c; .fin s m e
    else if c = fmtMax f + 1 then .inf s
    else .nan

/-- Value of an element under a scale byte: 0xFF is NaN (R101). -/
def decodeScaled (f : Nat) (scale : Byte) (bits : Nat) : Val :=
  if scale = 0xFF then .nan else (decodeElem f bits).scale ((scale.toNat : Int) - 127)

def fp32 (w : Word) : Val := decodeElem 0 w.toNat
def w36 (w : W36) : Val := decodeElem 10 w.toNat

/-! ## Conversion of one element (R111 to R115) -/

/-- A converted element: its bits, and whether it saturated or overflowed, vanished, or makes its block NaN. -/
structure Conv where
  bits : Nat := 0
  exceeded : Bool := false
  vanished : Bool := false
  nanBlock : Bool := false
  deriving DecidableEq, Repr, Inhabited

/-- Sign and code as bits; a zero keeps its sign only where there is a negative zero and `keep` holds. -/
def signed (f : Nat) (keep s : Bool) (c : Nat) : Nat :=
  if c = 0 && !(keep && hasNegZero f) then 0
  else if f = 8 then (if s then 256 - c else c)
  else if s then 2 ^ (fmtBits f - 1) + c else c

/-- Bits of NaN in the formats that have one: the canonical NaN. -/
def nanBits (f : Nat) : Nat :=
  [0x7FC00000, 0x7FC0, 0x7E00, 0x7F, 0x7E, 0, 0, 0, 0, 0x80, 0x7FF000000].getD f 0

/-- An element converted (R113); `x` is already divided by the block scale, `r` selects stochastic rounding. A value
overflows by R149: past the largest finite code, for KL8 past 245.376953125. -/
def convElem (f : Nat) (keep : Bool) (r : Option Nat) (x : Val) : Conv :=
  match x with
  | .nan => if 5 ≤ f && f ≤ 8 then { nanBlock := true } else { bits := nanBits f }
  | .inf s =>
    match f with
    | 3 => { bits := 0x7F }
    | 9 => { bits := 0x80 }
    | _ => if 5 ≤ f && f ≤ 8 then { nanBlock := true } else { bits := signed f keep s (fmtMax f + 1) }
  | .fin s m e =>
    if m = 0 then { bits := signed f keep s 0 }
    else
      let c := match r with
        | none => nearestCode f m e
        | some r => stochasticCode f m e r
      let (a, x) := codeMag f (fmtMax f)
      let past := if r.isSome then fmtMax f < c || dyCmp m e a x == .gt      -- R125
        else if f = 9 then dyCmp m e 125633 (-9) == .gt else fmtMax f < c
      if past then
        { bits := signed f keep s (if isBlock f then fmtMax f else fmtMax f + 1), exceeded := true }
      else { bits := signed f keep s (min c (fmtMax f)), vanished := c == 0 }

/-- FP32 bits of a value, rounded to nearest even. -/
def toFp32 (x : Val) : Word := BitVec.ofNat 32 (convElem 0 true none x).bits
/-- W36 bits of a value, rounded to nearest even (04_dot R136). -/
def toW36 (x : Val) : W36 := BitVec.ofNat 36 (convElem 10 true none x).bits
/-- W of R136: the sum of two W36 values rounded once. -/
def addW36 (a b : W36) : W36 := toW36 ((w36 a).add (w36 b))

/-! ## Blocks (R114, R117 to R119) -/

/-- The COMPUTED scale byte of a list of values (R118), and whether X was clamped at 127. -/
def computedScale (f : Nat) (xs : List Val) : Byte × Bool :=
  let mags := xs.filterMap (fun | .fin _ m e => if m = 0 then none else some (m, e) | _ => none)
  match mags with
  | [] => (0, false)
  | a :: rest =>
    let top := rest.foldl (fun b x => if dyCmp b.1 b.2 x.1 x.2 == .lt then x else b) a
    let x : Int := top.2 + Val.bitLen top.1 - 1 - fmtEmax f
    (BitVec.ofNat 8 (min (max x (-127)) 127 + 127).toNat, 127 < x)

/-- A converted block: scale byte, elements, and whether it was written as NaN by R114. -/
structure BlockOut where
  scale : Byte := 0
  elems : List Conv := []
  nan : Bool := false
  clamped : Bool := false
  deriving DecidableEq, Repr, Inhabited

/-- Elements of one block under a given scale byte (R111, R114). -/
def convUnder (f : Nat) (keep : Bool) (scale : Byte) (rs : List (Option Nat)) (xs : List Val) : BlockOut :=
  let es := (xs.zip rs).map (fun (x, r) => convElem f keep r (x.scale (127 - (scale.toNat : Int))))
  if scale = 0xFF || es.any (·.nanBlock) then
    { scale := 0xFF, elems := es.map (fun c => { c with bits := 0 }), nan := true }
  else { scale := scale, elems := es }

/-- A block with a COMPUTED scale. -/
def convComputed (f : Nat) (keep : Bool) (rs : List (Option Nat)) (xs : List Val) : BlockOut :=
  let (scale, clamped) := computedScale f xs
  { convUnder f keep scale rs xs with clamped := clamped }

/-! ## Packing (R94) -/

/-- Numbers of `w` bits each joined, the first in the least significant place. -/
def packBits (w : Nat) : List Nat → Nat
  | [] => 0
  | x :: xs => x % 2 ^ w + 2 ^ w * packBits w xs

/-- `n` numbers of `w` bits each. -/
def unpackBits (w : Nat) : Nat → Nat → List Nat
  | 0, _ => []
  | n + 1, x => x % 2 ^ w :: unpackBits w n (x / 2 ^ w)

/-- Bits that an element takes in storage: W36 takes a 64-bit word. -/
def storeBits (f : Nat) : Nat := if f = 10 then 64 else fmtBits f

/-- Bytes of `n` elements, `n` a multiple of 4. -/
def storeBytes (f n : Nat) : Nat := n * storeBits f / 8

end Sys2Proof.Machine
end

