-- ==== Sys2Proof/Machine/Kfr.lean ====
section
/-! DEFINITION. KFR blocks and codebook tables (06_fixed_rate_compression R190 to R212). -/

namespace Sys2Proof.Machine

open Sys2Proof

/-! ## Tables (R195 to R197) -/

/-- A table from its image, none where R197 refuses it. -/
def parseTable (bs : List Byte) : Option Table :=
  let b (i : Nat) : Nat := (bs.getD i 0).toNat
  let rate := b 0 / 16
  let carried := b 0 % 16
  let entries := (bs.drop 8).take (2 ^ rate)
  let good (e : Byte) : Bool :=
    e.toNat < 2 ^ fmtBits carried && (decodeElem carried e.toNat).isFinite && !(carried == 8 && e == 0x80)
  if (rate = 4 || rate = 6 || rate = 8) && isBlock carried && b 1 = 0 && (List.range 4).all (fun i => b (4 + i) == 0) &&
     entries.length = 2 ^ rate && entries.head? = some 0 && entries.all good
  then some { rate := rate, carried := carried, id := b 2 + 256 * b 3, entries := entries }
  else none

/-- Value of a table index (R196). -/
def Table.value (t : Table) (i : Nat) : Val := decodeElem t.carried (t.entries.getD i 0).toNat

/-! ## Block layout (R192 to R194) -/

/-- Outlier capacity K. -/
def kfrCapacity (rate : Nat) (rough : Bool) : Nat :=
  if rough then (if rate = 4 then 9 else if rate = 6 then 8 else 6) else 5

/-- A block header. -/
structure KfrHeader where
  exp : Nat
  slot : Nat
  rough : Bool
  outliers : Nat
  delta : Nat
  half : Bool
  idCheck : Nat
  deriving DecidableEq, Repr

def KfrHeader.ofNat (w : Nat) : KfrHeader :=
  { exp := bitsOf w 0 8, slot := bitsOf w 8 2, rough := bitOf w 10, outliers := bitsOf w 11 5,
    delta := bitsOf w 16 4, half := bitOf w 20, idCheck := bitsOf w 24 8 }

/-- Little-endian number of bytes. -/
def blockNat (bs : List Byte) : Nat := bs.foldr (fun b n => b.toNat + 256 * n) 0
/-- `n` bytes of a number. -/
def blockBytes : Nat → Nat → List Byte
  | 0, _ => []
  | n + 1, w => BitVec.ofNat 8 w :: blockBytes n (w / 256)

/-! ## Decoding (R211, R212) -/

/-- A decoded block: the scale byte of each half and the 64 element codes. -/
structure KfrOut where
  scale0 : Byte
  scale1 : Byte
  codes : List Byte
  rough : Bool
  deriving DecidableEq, Repr

/-- The block passes the checks of R212 against a slot's table. -/
def kfrCheck (table : Option Table) (h : KfrHeader) (fmt : Nat) (rate : Option Nat) : Bool :=
  match table with
  | none => false
  | some t => h.idCheck == t.id % 256 && t.carried == fmt && (rate.isNone || rate == some t.rate)

/-- A block decoded with a table (R211). -/
def kfrDecode (t : Table) (bs : List Byte) : KfrOut :=
  let w := blockNat bs
  let h := KfrHeader.ofNat w
  if h.exp = 0xFF then { scale0 := 0xFF, scale1 := 0xFF, codes := List.replicate 64 0, rough := false }
  else
    let r := t.rate
    let wid := if h.rough then r - 2 else r - 1
    let pay := w >>> 32
    let codes := unpackBits wid 64 pay
    let n := min h.outliers (kfrCapacity r h.rough)
    let recs := unpackBits (if h.rough then 6 + r else 6) n (pay >>> (64 * wid))
    let idx := codes.zipIdx.map (fun (c, i) =>
      if h.rough then ((recs.filter (fun x => x % 64 == i)).getLast?.map (· / 64)).getD c
      else if recs.contains i then 2 ^ (r - 1) + c else c)
    let low : Byte := BitVec.ofNat 8 (h.exp - h.delta)
    let top : Byte := BitVec.ofNat 8 h.exp
    { scale0 := if h.half then low else top, scale1 := if h.half then top else low,
      codes := idx.map (fun i => t.entries.getD i 0), rough := h.rough }

/-! ## Encoding (R205 to R209) -/

/-- Units of 2^q in a finite value, for q at or below its exponent. -/
def Val.units (q : Int) : Val → Int
  | .fin s m e => signedUnits s m e q
  | _ => 0

/-- The index nearest a among listed values, a tie going to the first listed: index and distance. -/
def nearestIdx (vals : List (Nat × Int)) (a : Int) : Nat × Nat :=
  match vals with
  | [] => (0, 0)
  | v :: rest => rest.foldl (fun b x => if (a - x.2).natAbs < b.2 then (x.1, (a - x.2).natAbs) else b)
      (v.1, (a - v.2).natAbs)

/-- Up to `k` positions of positive gain, the largest gain first, a tie going to the lower position. -/
def pickOutliers : Nat → List (Nat × Int) → List Nat
  | 0, _ => []
  | k + 1, gains =>
    match gains with
    | [] => []
    | g :: rest =>
      let best := rest.foldl (fun b x => if b.2 < x.2 then x else b) g
      if best.2 ≤ 0 then [] else best.1 :: pickOutliers k (gains.filter (fun x => x.1 != best.1))

/-- A candidate coding (R207): final index of every element, base index of every element, outlier positions, error. -/
structure Candidate where
  final : List Nat
  base : List Nat
  outliers : List Nat
  sse : Nat
  deriving DecidableEq, Repr

/-- The candidate of one mode, from the scaled values in units and the table's values in the same units. -/
def candidate (rate : Nat) (rough : Bool) (vals : List (Nat × Int)) (as : List Int) : Candidate :=
  let inner := 2 ^ (rate - 1)
  let baseSet := vals.take (if rough then 2 ^ (rate - 2) else inner)
  let outSet := if rough then vals else vals.drop inner
  let picks := as.map (fun a => (nearestIdx baseSet a, nearestIdx outSet a))
  let gains := picks.zipIdx.map (fun (p, i) => (i, (p.1.2 : Int) - p.2.2))
  let outl := pickOutliers (kfrCapacity rate rough) gains
  let final := picks.zipIdx.map (fun (p, i) => if outl.contains i then p.2 else p.1)
  { final := final.map (·.1), base := picks.map (fun p => p.1.1),
    outliers := (List.range 64).filter outl.contains, sse := final.foldl (fun s x => s + x.2 * x.2) 0 }

/-- An encoded block: its bytes, whether it is rough or a NaN block, and the decoded value of each element. -/
structure KfrEnc where
  bytes : List Byte
  rough : Bool
  nan : Bool
  decoded : List Val
  deriving DecidableEq, Repr

/-- 64 values encoded with a table and a slot tag. -/
def kfrEncode (t : Table) (slot : Nat) (xs : List Val) : KfrEnc :=
  let tag := t.id % 256 * 2 ^ 24 + slot * 2 ^ 8
  if xs.any (fun x => !x.isFinite) then
    { bytes := blockBytes (8 * t.rate) (tag + 0xFF), rough := false, nan := true, decoded := xs.map (fun _ => .nan) }
  else
    let s0 := (computedScale t.carried (xs.take 32)).1.toNat
    let s1 := (computedScale t.carried (xs.drop 32)).1.toNat
    let exp := max s0 s1
    let delta := min 15 (exp - min s0 s1)
    let half := s0 < s1
    let scaleOf (i : Nat) : Int := (if (i < 32) = half then exp - delta else exp : Nat) - 127
    let scaled := xs.zipIdx.map (fun (x, i) => x.scale (-(scaleOf i)))
    let q := scaled.foldl (fun q x => match x with | .fin _ _ e => min q e | _ => q) (-32)
    let vals := (List.range (2 ^ t.rate)).map (fun i => (i, (t.value i).units q))
    let as := scaled.map (Val.units q)
    let sm := candidate t.rate false vals as
    let ro := candidate t.rate true vals as
    let rough := ro.sse < sm.sse
    let c := if rough then ro else sm
    let wid := if rough then t.rate - 2 else t.rate - 1
    let codes := if rough then c.base
      else c.final.zipIdx.map (fun (v, i) => if c.outliers.contains i then v - 2 ^ (t.rate - 1) else v)
    let recs := if rough then packBits (6 + t.rate) (c.outliers.map (fun i => i + 64 * c.final.getD i 0))
      else packBits 6 c.outliers
    let head := tag + b2n half * 2 ^ 20 + delta * 2 ^ 16 + c.outliers.length * 2 ^ 11 + b2n rough * 2 ^ 10 + exp
    { bytes := blockBytes (8 * t.rate) (head + 2 ^ 32 * (packBits wid codes + 2 ^ (64 * wid) * recs)),
      rough := rough, nan := false,
      decoded := c.final.zipIdx.map (fun (v, i) => (t.value v).scale (scaleOf i)) }

end Sys2Proof.Machine
end

