-- ==== Sys2Proof/Machine/XferBase.lean ====
section
/-! DEFINITION. TRANSFER entries: the descriptor (11_memory R387), its reading (02_dataflow R675) and the ends of
transfers that need no open state. -/

namespace Sys2Proof.Machine

open Sys2Proof

/-- A transfer descriptor (R387). -/
structure XDesc where
  op : Nat
  counter : Nat
  xp : Nat
  increment : Nat
  srcFmt : Nat
  dstFmt : Nat
  cslot : Nat
  errEn : Bool
  dctrEn : Bool
  tc : Nat
  node : Nat
  src : Nat
  dst : Nat
  len : Nat
  dctr : Nat
  shard : Nat
  aux : Nat
  reservedZero : Bool
  deriving DecidableEq, Repr

def XDesc.ofNat (w : Nat) : XDesc :=
  { op := fld w 0 8, counter := fld w 8 6, xp := fld w 14 2, increment := fld w 16 16, srcFmt := fld w 32 4,
    dstFmt := fld w 36 4, cslot := fld w 40 2, errEn := bitOf w 42, dctrEn := bitOf w 43, tc := fld w 44 2,
    node := fld w 48 16, src := fld w 64 56, dst := fld w 120 56, len := fld w 176 40, dctr := fld w 216 6,
    shard := fld w 222 12, aux := fld w 234 19, reservedZero := fld w 46 2 == 0 && fld w 253 3 == 0 }

def State.modXf (s : State) (c : Nat) (f : TransferEngine → TransferEngine) : State :=
  s.modCore c (fun x => { x with xf := f x.xf })

/-- The most recent Failed transfer's cause (R395). -/
def State.xferFailed (s : State) (c : Nat) (cause : Cause) : State := s.modXf c (fun x => { x with lastFail := cause })

/-- A transfer that ends within its own command: Done advances, Failed latches and is recorded. -/
def State.endXfer (s : State) (c ctr inc : Nat) (cause : Cause) : State :=
  (if cause = 0 then s else s.xferFailed c cause).endItem c ctr inc cause

/-- The OP codes that name an operation (R388, R200, R501; 13_freyn R462 gives the codes 0x10 to 0x17 no operation). -/
def xferOps : List Nat := [0x01, 0x02, 0x03, 0x08, 0x09, 0x20, 0x21, 0x40, 0x41, 0x42]

/-- A TRANSFER entry issues: its descriptor is read, and an unreadable one halts the queue at once (R675). A reserved OP
ends the transfer Failed with PLAN_REJECT (R390), whichever transfer command meets it (log entry 12). -/
def State.actXfer (s : State) (c q op : Nat) (act : State → Nat → State) (e : Entry) : State :=
    match s.readOwn c e.addr 32 1 with
    | (s, .error cause) => (s.xferFailed c cause).haltQueue c q cause
    | (s, .ok bs) =>
      let w := leNat bs
      if w % 256 = op then act (s.goNext c q) w
      else if xferOps.contains (w % 256) then s
      else (s.goNext c q).endXfer c (fld w 8 6) (fld w 16 16) Cause.planReject
def State.issueXfer (s : State) (c q op : Nat) (act : State → Nat → State) : State :=
  s.issue c q 4 (fun s e => s.actXfer c q op act e)

end Sys2Proof.Machine
end

