-- ==== Sys2Proof/Machine/Output.lean ====
section
/-! DEFINITION. The output stage: accumulators to stored tiles (04_dot R146 to R156), the tile status word (05_matrix
R170), recipes (09_training R302 to R304) and norm taps (07_vector R250, R251). -/

namespace Sys2Proof.Machine

open Sys2Proof

/-! ## Recipes -/

/-- A new scale is fed to a recipe (R304): RESCALES saturates at 2^24 − 1. -/
def Recipe.feed (r : Recipe) (scale : Byte) : Recipe :=
  { r with rescales := min (r.rescales + 1) (2 ^ 24 - 1), highest := if r.highest.toNat < scale.toNat then scale else r.highest }
def CoreSt.feedRecipe (x : CoreSt) (n : Nat) (scale : Option Byte) : CoreSt :=
  match scale with
  | none => x
  | some b => { x with recipes := x.recipes.upd n (·.feed b) }

/-! ## Norm taps -/

/-- The partial of a contribution: p ← W(p + x × x) in order from +0 (R251). -/
def sumSquares (xs : List Val) : W36 := xs.foldl (fun p x => toW36 ((w36 p).add (x.mul x))) 0

/-- A contribution is applied whole to a tap set's kind (R251). -/
def CoreSt.tap (x : CoreSt) (set kind : Nat) (xs : List Val) (vanished : Nat) : CoreSt :=
  if kind = 0 then x
  else { x with rd := { x.rd with
    taps := x.rd.taps.upd (4 * set + kind) (fun t =>
      { sum := addW36 t.sum (sumSquares xs), vanished := t.vanished + BitVec.ofNat 32 vanished, count := t.count + 1 }),
    applied := x.rd.applied + 1 } }

/-! ## Tiles -/

/-- A finished accumulator with the arithmetic cause bits 0 to 3 of its element (R151). -/
structure Acc where
  value : W36 := 0
  cause : Nat := 0
  deriving DecidableEq, Repr, Inhabited

/-- A converted tile: rows of elements and scale bytes, the values written, and the status fields of R152. -/
structure TileOut where
  rows : List (List Nat) := []
  scales : List (List Byte) := []
  values : List Val := []
  cause : Nat := 0
  first : Nat := 0
  vanished : Nat := 0
  newScale : Option Byte := none
  deriving DecidableEq, Repr, Inhabited

/-- OR of numbers. -/
def orAll (xs : List Nat) : Nat := xs.foldl (· ||| ·) 0

/-- Position row × 64 + column of the first element with a property, 0 when none (R152). -/
def firstPos (rows : List (List Bool)) : Nat :=
  (((rows.zipIdx.flatMap (fun (row, r) => row.zipIdx.map (fun (b, c) => (b, 64 * r + c)))).find? (·.1)).map (·.2)).getD 0

/-- A list cut into pieces of `n`, given how many. -/
def pieces {α : Type} (n : Nat) : Nat → List α → List (List α)
  | 0, _ => []
  | k + 1, xs => xs.take n :: pieces n k (xs.drop n)

/-- One row's blocks under a common scale, or each under its own. -/
def convRow (f : Nat) (keep : Bool) (scale : Option Byte) (xs : List Val) : List BlockOut :=
  (pieces 32 (xs.length / 32) xs).map (fun b =>
    let rs := b.map (fun _ => none)
    match scale with
    | some sc => convUnder f keep sc rs b
    | none => convComputed f keep rs b)

/-- The values that blocks read back as. -/
def BlockOut.values (f : Nat) (b : BlockOut) : List Val := b.elems.map (fun c => decodeScaled f b.scale c.bits)

/-- No conversion is made: only the cause bits of the accumulators are reported (R170). -/
def plainTile (accs : List (List Acc)) : TileOut :=
  { values := accs.flatten.map (fun a => w36 a.value), cause := orAll (accs.flatten.map (·.cause)),
    first := firstPos (accs.map (·.map (fun a => a.cause != 0))) }

/-- A tile converted into format `f` (R146 to R155); `keep` keeps the sign of a zero (strict mode, R147); `recipe` is the
scale of a RECIPE source. A block written NaN in a re-converted tile keeps its scale byte 0xFF (R114), where R154 writes the new
scale to every scale byte; an element of such a block that overflowed under the recipe's scale counts as affected and leaves
OUTPUT_OVERFLOW clear (DEDUCED, log entries 119 and 120). -/
def outputTile (f : Nat) (keep : Bool) (recipe : Option Byte) (accs : List (List Acc)) : TileOut :=
  let vals := accs.map (·.map (fun a => w36 a.value))
  let base := accs.map (·.map (·.cause))
  if isBlock f then
    let firstTry := vals.map (convRow f keep recipe)
    let again := recipe.isSome && firstTry.any (·.any (fun b => b.elems.any (·.exceeded)))
    let newScale := if again then some (computedScale f vals.flatten).1 else none
    let blocks := if again then vals.map (convRow f keep newScale) else firstTry
    let flags (bs : List (List BlockOut)) (ok : BlockOut → Bool) : List (List Bool) :=
      bs.map (·.flatMap (fun b => b.elems.map (fun c => c.exceeded && ok b)))
    -- OUTPUT_OVERFLOW: a COMPUTED scale clamped at 127, or still saturated after re-conversion
    let overflow := flags blocks (fun b => (again && !b.nan) || b.clamped)
    let wasOver := if again then flags firstTry (fun _ => true) else overflow
    let vanished := ((blocks.flatten.filter (fun b => !b.nan)).flatMap (·.elems)).countP (·.vanished)
    let affected := (base.zip (overflow.zip wasOver)).map (fun (b, o, w) =>
      (b.zip (o.zip w)).map (fun (b, o, w) => b != 0 || o || w))
    { rows := blocks.map (·.flatMap (fun b => b.elems.map (·.bits))), scales := blocks.map (·.map (·.scale)),
      values := blocks.flatten.flatMap (·.values f), vanished := vanished, newScale := newScale,
      first := firstPos affected,
      cause := orAll base.flatten + 16 * b2n (overflow.flatten.any id) + 32 * b2n (blocks.flatten.any (·.nan))
        + 64 * b2n (0 < vanished) + 128 * b2n again }
  else
    let convs := vals.map (·.map (convElem f keep none))
    let vanished := convs.flatten.countP (·.vanished)
    { rows := convs.map (·.map (·.bits)), values := convs.flatten.map (fun c => decodeElem f c.bits), vanished := vanished,
      first := firstPos ((base.zip convs).map (fun (b, c) => (b.zip c).map (fun (b, c) => b != 0 || c.exceeded))),
      cause := orAll base.flatten + 16 * b2n (convs.flatten.any (·.exceeded)) + 64 * b2n (0 < vanished) }

/-- The tile status word (R170). -/
def statusWord (t : TileOut) (inexact skipped gatherEmpty : Bool) : Nat :=
  2 ^ 63 + 2 ^ 43 * b2n gatherEmpty + 2 ^ 42 * b2n skipped + 2 ^ 41 * b2n inexact
    + 2 ^ 33 * (t.newScale.map (·.toNat)).getD 0 + 2 ^ 20 * t.vanished + 2 ^ 8 * t.first + t.cause

/-- Writes of a converted tile: element rows, then scale bytes (R94, R95, R165). `row` and `col` are the tile's first row
and column in the output. -/
def tileWrites (core f dst ldd scaleBase n row col : Nat) (t : TileOut) : List (Nat × List Byte) :=
  (t.rows.zipIdx.map (fun (es, r) =>
    (sramAddr core (dst + (row + r) * ldd * 64 + col * storeBits f / 8),
      leBytes (storeBytes f es.length) (packBits (storeBits f) es)))) ++
  (t.scales.zipIdx.map (fun (ss, r) => (sramAddr core (scaleBase + (row + r) * (n / 32) + col / 32), ss)))

/-- Writes of a W36 tile, tile-packed (R164). -/
def accWrites (core base : Nat) (accs : List (List W36)) : List (Nat × List Byte) :=
  accs.zipIdx.map (fun (row, r) => (sramAddr core (base + r * 512), row.flatMap (fun a => leBytes 8 a.toNat)))

/-- Regions of SRAM as offset and length. -/
abbrev Regions := List (Nat × Nat)

/-- Written regions overlap no other written region and no read region. -/
def disjointRegions (written read : Regions) : Bool :=
  written.zipIdx.all (fun (a, i) =>
    written.zipIdx.all (fun (b, j) => i == j || !overlaps a.1 a.2 b.1 b.2) && read.all (fun b => !overlaps a.1 a.2 b.1 b.2))

/-- Reads of a core's own SRAM for their errors alone: the cause NONE, or SRAM_UNCORRECTABLE (R365). -/
def State.readRegions (s : State) (core : Nat) (rs : Regions) : State × Cause :=
  if s.tiers.wordErrs.isEmpty then (s, 0)
  else rs.foldl (fun (s, c) r =>
    match s.readMem (sramAddr core r.1) r.2 with
    | (s, .error e) => (s, e)
    | (s, .ok _) => (s, c)) (s, 0)

end Sys2Proof.Machine
end

