-- ==== Sys2Proof/Machine/Tables.lean ====
section
/-! DEFINITION. Table operations LOAD, HOLD, RELEASE and the waiting LOAD (06_fixed_rate R198 to R203, R221). -/

namespace Sys2Proof.Machine

open Sys2Proof

/-- A table operation descriptor (R200). -/
structure TDesc where
  op : Nat
  slot : Nat
  a : Bool
  b : Bool
  c : Bool
  wait : Bool
  count : Nat
  counter : Nat
  increment : Nat
  addr : Nat
  reservedZero : Bool
  deriving DecidableEq, Repr

def TDesc.ofNat (w : Nat) : TDesc :=
  { op := fld w 0 8, slot := fld w 8 2, a := bitOf w 10, b := bitOf w 11, c := bitOf w 12, wait := bitOf w 13,
    count := fld w 16 16, counter := fld w 32 6, increment := fld w 48 16, addr := fld w 64 19 * 64,
    reservedZero := fld w 14 2 == 0 && fld w 38 10 == 0 && fld w 83 173 == 0 }

/-- The descriptor obeys R200. WAIT and TABLE_ADDR belong to LOAD, COUNT to HOLD and RELEASE. -/
def TDesc.ok (d : TDesc) : Bool :=
  d.reservedZero && (d.a || d.b || d.c) && (d.op == 0x40 || d.count != 0) && d.increment != 0

/-- Keys of the targeted expander slots. -/
def TDesc.xpKeys (d : TDesc) : List Nat := (if d.a then [d.slot] else []) ++ (if d.b then [4 + d.slot] else [])

/-- Holds that issued matrix operations place on an expander slot (R199). -/
def CoreSt.implicitHolds (x : CoreSt) (key : Nat) : Nat :=
  (x.mx.ops.filter (fun o => if key < 4 then o.holdA.contains key else o.holdB.contains (key - 4))).length

def State.cluster (s : State) (core : Nat) : Compressor := s.clusters.at (coreCluster core)
def State.modCluster (s : State) (core : Nat) (f : Compressor → Compressor) : State :=
  { s with clusters := s.clusters.upd (coreCluster core) f }

/-- Every targeted slot is free (R199). -/
def State.slotsFree (s : State) (core : Nat) (d : TDesc) : Bool :=
  let x := s.core core
  d.xpKeys.all (fun k => (x.xp.slots.at k).explicit == 0 && x.implicitHolds k == 0) &&
  (!d.c || ((s.cluster core).slots.at d.slot).explicit == 0)

/-! ## What meets a table operation at the same moment (R202) -/

/-- The table operation that a queue would issue at this moment. -/
def State.tableDue (s : State) (core q : Nat) : Option TDesc :=
  if s.queueReady core q && s.firstReady core q then
    (s.headEntry core q).bind (fun e =>
      if e.kind = 4 then
        match s.readOwn core e.addr 32 1 with
        | (_, .ok bs) => let d := TDesc.ofNat (leNat bs); if 0x40 ≤ d.op && d.op ≤ 0x42 && d.ok then some d else none
        | (_, .error _) => none
      else none)
  else none

/-- Two table operations of cores of one cluster share a slot. -/
def TDesc.shares (d e : TDesc) (same : Bool) : Bool := d.slot == e.slot && ((d.c && e.c) || (same && ((d.a && e.a) || (d.b && e.b))))

/-- Table operations due at this moment on the queues of a cluster, but one queue: core and operation. -/
def State.tablesDue (s : State) (core q : Nat) : List (Nat × TDesc) :=
  (s.cores.filter (fun c => coreCluster c.1 == coreCluster core)).flatMap (fun c =>
    c.2.queues.filterMap (fun k => if c.1 = core && k.1 = q then none else (s.tableDue c.1 k.1).map (fun d => (c.1, d))))

/-- A matrix operation that would issue at this moment and hold an expander slot of the operation's core (R199). -/
def State.matrixDue (s : State) (core q : Nat) (d : TDesc) : Bool :=
  (s.core core).queues.any (fun k => k.1 != q && s.queueReady core k.1 && s.firstReady core k.1 && (s.headEntry core k.1).any (fun e =>
    e.kind == 1 && (let m := s.peekNat e.addr 64
      (d.a && bitOf m 19 && ((s.core core).xp.slots.at d.slot).table.isSome) ||
      (d.b && bitOf m 126 && ((s.core core).xp.slots.at (4 + d.slot)).table.isSome))))

/-- An event that raises a hold on a slot of the operation falls at the same moment: the hold is raised first. -/
def State.holdDue (s : State) (core q : Nat) (d : TDesc) : Bool :=
  (s.tablesDue core q).any (fun e => e.2.op == 0x41 && d.shares e.2 (e.1 == core)) || s.matrixDue core q d

/-- At a compressor, LOADs and RELEASEs of one moment come after every hold and in ascending logical core order, waiting LOADs
among them. -/
def State.tableTurn (s : State) (core q : Nat) (d : TDesc) : Bool :=
  !d.c || !((s.tablesDue core q).any (fun e => e.2.c && (e.2.op == 0x41 || e.1 < core)) ||
    s.cores.any (fun c => coreCluster c.1 == coreCluster core && c.1 < core && c.2.xp.waiting.any (fun w =>
      let e := TDesc.ofNat w.desc.toNat
      e.c && s.slotsFree c.1 e && decide (s.now ≤ w.deadline))))

/-- Every targeted slot is changed. -/
def State.modSlots (s : State) (core : Nat) (d : TDesc) (f : Slot → Slot) : State :=
  let s := s.modCore core (fun x => { x with xp := { x.xp with
    slots := d.xpKeys.foldl (fun t k => t.upd k f) x.xp.slots } })
  if d.c then s.modCluster core (fun k => { k with slots := k.slots.upd d.slot f }) else s

/-- The table image that a LOAD names: 8 + 2^r bytes inside the issuing core's SRAM (R195, R197). -/
def State.readTable (s : State) (core : Nat) (d : TDesc) : Res Table :=
  match s.readOwn core (sramAddr core d.addr) 8 1 with
  | (s, .error c) => (s, .error c)
  | (s, .ok head) =>
    match s.readOwn core (sramAddr core d.addr) (8 + 2 ^ ((head.headD 0).toNat / 16)) 1 with
    | (s, .error c) => (s, .error c)
    | (s, .ok bs) => (s, match parseTable bs with | some t => .ok t | none => .error Cause.planReject)

/-- A LOAD ends TABLE_BUSY: counted when it targets an expander (R221). -/
def State.tableBusy (s : State) (core : Nat) (d : TDesc) : State :=
  (s.modCore core (fun x => if d.a || d.b then { x with xp := { x.xp with busy := x.xp.busy + 1 } } else x)).endXfer
    core d.counter d.increment Cause.tableBusy

/-- A LOAD whose slots are all free writes them; its table is checked first (R197, R201). -/
def State.loadNow (s : State) (core : Nat) (d : TDesc) : State :=
  match s.readTable core d with
  | (s, .error c) => s.endXfer core d.counter d.increment c
  | (s, .ok t) => (s.modSlots core d (fun x => { x with table := some t })).endXfer core d.counter d.increment 0

/-- Action of a LOAD. -/
def State.actLoad (core q : Nat) (s : State) (w : Nat) : State :=
    let d := TDesc.ofNat w
    if !d.ok then s.endXfer core d.counter d.increment Cause.planReject
    else if s.slotsFree core d && !s.holdDue core q d then s.loadNow core d
    else if !d.wait then s.tableBusy core d
    else
      match s.readTable core d with
      | (s, .error c) => s.endXfer core d.counter d.increment c
      | (s, .ok _) => s.modCore core (fun x => { x with xp := { x.xp with
          waiting := x.xp.waiting ++ [{ desc := BitVec.ofNat 256 w, queue := q, entry := (s.queue core q).pos - 1,
                                        deadline := s.now + s.img.tableWait }] } })
/-- A LOAD or RELEASE whose turn at its compressor has not come waits for those before it (R202). -/
def State.inTurn (s : State) (core q : Nat) (f : State → State) : State :=
  s.when ((s.tableDue core q).all (s.tableTurn core q)) f
/-- LOAD (R201). -/
def execLoad (core q : Nat) (s : State) : Out := .next (s.inTurn core q (fun s => s.issueXfer core q 0x40 (State.actLoad core q)))

def State.dropWaiting (s : State) (core : Nat) (w : WaitingLoad) : State :=
  s.modCore core (fun x => { x with xp := { x.xp with waiting := x.xp.waiting.erase w } })

/-- LOAD_WAIT_WAKE (R201, R202): the first waiting LOAD whose slots are all free and whose turn has come; the end of the limit
counts as within it. -/
def execLoadWaitWake (core : Nat) (s : State) : Out :=
  .next (match (s.core core).xp.waiting.find? (fun w =>
      let d := TDesc.ofNat w.desc.toNat
      s.slotsFree core d && decide (s.now ≤ w.deadline) && !s.holdDue core 8 d && s.tableTurn core 8 d) with
    | none => s
    | some w => (s.dropWaiting core w).loadNow core (TDesc.ofNat w.desc.toNat))

/-- TABLE_WAIT_LIMIT (R201). -/
def execTableWaitLimit (core : Nat) (s : State) : Out :=
  .next (match (s.core core).xp.waiting.find? (fun w =>
      decide (w.deadline < s.now) || (w.deadline == s.now && !s.slotsFree core (TDesc.ofNat w.desc.toNat))) with
    | none => s
    | some w => (s.dropWaiting core w).tableBusy core (TDesc.ofNat w.desc.toNat))

/-- HOLD and RELEASE: every targeted slot or none (R203). -/
def State.changeHolds (s : State) (core : Nat) (d : TDesc) (up : Bool) : State :=
  let x := s.core core
  let now := d.xpKeys.map (fun k => (x.xp.slots.at k).explicit) ++
    (if d.c then [((s.cluster core).slots.at d.slot).explicit] else [])
  if !d.ok || now.any (fun n => if up then 65535 < n + d.count else n < d.count) then
    s.endXfer core d.counter d.increment Cause.planReject
  else
    (s.modSlots core d (fun x => { x with explicit := if up then x.explicit + d.count else x.explicit - d.count })).endXfer
      core d.counter d.increment 0

/-- HOLD (R203). -/
def execHold (core q : Nat) (s : State) : Out :=
  .next (s.issueXfer core q 0x41 (fun s w => s.changeHolds core (TDesc.ofNat w) true))
/-- RELEASE (R203). -/
def execRelease (core q : Nat) (s : State) : Out :=
  .next (s.inTurn core q (fun s => s.issueXfer core q 0x42 (fun s w => s.changeHolds core (TDesc.ofNat w) false)))

end Sys2Proof.Machine
end

