-- ==== Sys2Proof/Machine/Matrix.lean ====
section
/-! DEFINITION. The matrix engine (05_matrix_engine R157 to R189; products and accumulation of 04_dot R126 to R145;
expanders at its ports, 06_fixed_rate R213 to R216). -/

namespace Sys2Proof.Machine

open Sys2Proof

/-! ## The descriptor (R162) -/

structure MDesc where
  kind : Nat
  mode : Nat
  statA : Bool
  sp24 : Bool
  skip : Bool
  gather : Bool
  recipeSrc : Bool
  initEn : Bool
  accEn : Bool
  cOff : Bool
  dpart : Bool
  aKfr : Bool
  bKfr : Bool
  fmtA : Nat
  fmtB : Nat
  fmtC : Nat
  m : Nat
  n : Nat
  kblocks : Nat
  kstart : Nat
  counter : Nat
  tapKind : Nat
  increment : Nat
  tapSet : Nat
  recipe : Nat
  a : Nat
  lda : Nat
  b : Nat
  ldb : Nat
  c : Nat
  ldc : Nat
  aScale : Nat
  bScale : Nat
  cScale : Nat
  init : Nat
  acc : Nat
  metaAddr : Nat
  mask : Nat
  list : Nat
  status : Nat
  reservedZero : Bool
  deriving DecidableEq, Repr

/-- Address fields are SRAM offsets in 64-byte units. -/
def MDesc.ofNat (w : Nat) : MDesc :=
  let u (lo : Nat) := fld w lo 19 * 64
  { kind := fld w 0 8, mode := fld w 8 2, statA := bitOf w 10, sp24 := bitOf w 11, skip := bitOf w 12, gather := bitOf w 13,
    recipeSrc := bitOf w 14, initEn := bitOf w 15, accEn := bitOf w 16, cOff := bitOf w 17, dpart := bitOf w 18,
    aKfr := bitOf w 19, fmtA := fld w 20 4, fmtB := fld w 24 4, fmtC := fld w 28 4, m := fld w 32 16, n := fld w 48 16,
    kblocks := fld w 64 27, kstart := fld w 91 27, counter := fld w 118 6, tapKind := fld w 124 2, bKfr := bitOf w 126,
    increment := fld w 128 16, tapSet := fld w 144 8, recipe := fld w 152 8, a := u 160, lda := fld w 179 13 * 64,
    b := u 192, ldb := fld w 211 13 * 64, c := u 224, ldc := fld w 243 13 * 64, aScale := u 256, bScale := u 275,
    cScale := u 294, init := u 313, acc := u 332, metaAddr := u 351, mask := u 370, list := u 389, status := u 408,
    reservedZero := !bitOf w 127 && fld w 427 85 == 0 }

/-- The A or B port reads transposed (R157). -/
def MDesc.transA (d : MDesc) : Bool := d.kind == 2 || d.kind == 4
def MDesc.transB (d : MDesc) : Bool := d.kind == 3 || d.kind == 4 || d.kind == 5
def MDesc.tileRows (d : MDesc) : Nat := (d.m + 63) / 64
def MDesc.tileCols (d : MDesc) : Nat := (d.n + 63) / 64
def MDesc.tiles (d : MDesc) : Nat := d.tileRows * d.tileCols
def MDesc.chunks (d : MDesc) : Nat := (d.kblocks + 63) / 64

/-- Tile row and column of the i-th tile to run (R167). -/
def MDesc.tileAt (d : MDesc) (i : Nat) : Nat × Nat :=
  if d.statA then (i / d.tileCols, i % d.tileCols) else (i % d.tileRows, i / d.tileRows)

/-- 2:4 pairs pruned along N rather than K (R173). -/
def MDesc.prunedAlongN (d : MDesc) : Bool := d.sp24 && d.kind == 5

/-- MACs per cell per token (R126) and tokens of an unskipped block pair (R180). -/
def MDesc.macs (d : MDesc) : Nat :=
  if d.fmtA ≤ 2 || d.fmtB ≤ 2 then 1 else if d.fmtA = d.fmtB && (d.fmtA = 7 || d.fmtA = 9) then 4 else 2
def MDesc.blockTokens (d : MDesc) : Nat := 32 / d.macs / (if d.sp24 && !d.prunedAlongN then 2 else 1)

/-! ## Lists in SRAM -/

/-- Entry i of the gather list: none when empty, some none when malformed, some (some row) otherwise (R177, R178). -/
def State.gatherEntry (s : State) (core : Nat) (d : MDesc) (i : Nat) : Option (Option Nat) :=
  let w := s.peekNat (sramAddr core (d.list + 4 * i)) 4
  if w = 0xFFFFFFFF then none else if w < 2 ^ 24 then some (some w) else some none

/-- K block kb of tile row tm is masked (R174). -/
def State.masked (s : State) (core : Nat) (d : MDesc) (tm kb : Nat) : Bool :=
  d.skip && (let b := tm * d.kblocks + kb
    (s.peekNat (sramAddr core (d.mask + b / 8)) 1).testBit (b % 8))

def State.unskipped (s : State) (core : Nat) (d : MDesc) (tm : Nat) : List Nat :=
  (List.range d.kblocks).filter (fun kb => !s.masked core d tm kb)

/-- Stored row that position i of the gathered dimension names: itself where no gather applies. -/
def State.storedRow (s : State) (core : Nat) (d : MDesc) (gathered : Bool) (i : Nat) : Option (Option Nat) :=
  if gathered then s.gatherEntry core d i else some (some i)

/-! ## One operand -/

/-- How one port reads its operand. -/
structure Side where
  base : Nat
  ld : Nat
  fmt : Nat
  scale : Nat
  kfr : Bool
  trans : Bool
  /-- output dimension: M for A, N for B -/
  outer : Nat
  /-- this operand keeps two of four elements -/
  sparse : Bool
  gathered : Bool
  /-- expander: 0 A, 1 B -/
  port : Nat
  rate : Nat
  deriving DecidableEq, Repr

def MDesc.sideA (d : MDesc) (rate : Nat) : Side :=
  { base := d.a, ld := d.lda, fmt := d.fmtA, scale := d.aScale, kfr := d.aKfr, trans := d.transA, outer := d.m,
    sparse := d.sp24 && d.statA, gathered := d.gather, port := 0, rate := rate }
def MDesc.sideB (d : MDesc) (rate : Nat) : Side :=
  { base := d.b, ld := d.ldb, fmt := d.fmtB, scale := d.bScale, kfr := d.bKfr, trans := d.transB, outer := d.n,
    sparse := d.sp24 && !d.statA, gathered := d.gather && d.kind == 4, port := 1, rate := rate }

/-- Stored rows and stored row bytes of an operand (R158, R171, R676). -/
def Side.rows (x : Side) (k : Nat) : Nat := if x.trans then k else x.outer
def Side.rowBytes (x : Side) (k : Nat) : Nat :=
  if x.kfr then k * x.rate / 8
  else
    let len := if x.trans then x.outer else k
    (len * fmtBits x.fmt + 7) / 8 / (if x.sparse then 2 else 1)

/-- One operand block as the array takes it: scale byte, 32 element codes, omitted products, and what reading it meant. -/
structure OpBlock where
  scale : Byte := 0x7F
  codes : List Nat := List.replicate 32 0
  omitted : List Bool := List.replicate 32 false
  inexact : Bool := false
  /-- a KFR block was decoded: rough or not -/
  kfr : Option Bool := none
  reads : List (Nat × Nat) := []
  deriving DecidableEq, Repr, Inhabited

/-- A block whose products are all omitted. -/
def OpBlock.empty : OpBlock := { omitted := List.replicate 32 true }

/-- Codes of `n` elements of `w` bits stored from a byte offset. -/
def State.codesAt (s : State) (core off w n : Nat) : List Nat :=
  unpackBits w n (s.peekNat (sramAddr core off) ((n * w + 7) / 8))

/-- The kept places of a 2:4 group: none where p0 is not below p1 (R172). -/
def State.groupPair (s : State) (core metaOff block g : Nat) : Option (Nat × Nat) :=
  let w := s.peekNat (sramAddr core (metaOff + 4 * block)) 4
  let p0 := bitsOf w (4 * g) 2
  let p1 := bitsOf w (4 * g + 2) 2
  if p0 < p1 then some (p0, p1) else none

/-- A direct-read block of stored row `row`; none is PLAN_REJECT at the tile (R172, R178, R212). -/
def State.directBlock (s : State) (core : Nat) (d : MDesc) (x : Side) (row kb : Nat) : Option OpBlock :=
  let start := x.base + row * x.ld
  if 2 ^ 25 < start + x.rowBytes (32 * d.kblocks) then none
  else if x.kfr then
    let off := start + kb / 2 * 8 * x.rate
    let bs := s.peek (sramAddr core off) (8 * x.rate)
    let h := KfrHeader.ofNat (blockNat bs)
    let table := ((s.core core).xp.slots.at (4 * x.port + h.slot)).table
    match table with
    | none => none
    | some t =>
      if kfrCheck table h x.fmt (some x.rate) then
        let o := kfrDecode t bs
        some { scale := if kb % 2 = 0 then o.scale0 else o.scale1,
               codes := ((o.codes.drop (32 * (kb % 2))).take 32).map (·.toNat), kfr := some o.rough,
               reads := [(off, 8 * x.rate)] }
      else none
  else
    let w := fmtBits x.fmt
    let block := row * d.kblocks + kb
    let scaleReads := if isBlock x.fmt then [(x.scale + block, 1)] else []
    let scale := if isBlock x.fmt then BitVec.ofNat 8 (s.peekNat (sramAddr core (x.scale + block)) 1) else 0x7F
    if x.sparse then
      let off := start + kb * 16 * w / 8
      let kept := s.codesAt core off w 16
      let pairs := (List.range 8).map (s.groupPair core d.metaAddr block)
      if pairs.any Option.isNone then none
      else
        let place (i : Nat) : Option Nat :=
          let p := (pairs.getD (i / 4) none).getD (0, 0)
          if i % 4 = p.1 then some (i / 4 * 2) else if i % 4 = p.2 then some (i / 4 * 2 + 1) else none
        some { scale := scale, codes := (List.range 32).map (fun i => kept.getD ((place i).getD 0) 0),
               omitted := (List.range 32).map (fun i => (place i).isNone),
               reads := (off, 2 * w) :: (d.metaAddr + 4 * block, 4) :: scaleReads }
    else
      let off := start + kb * 32 * w / 8
      some { scale := scale, codes := s.codesAt core off w 32, reads := (off, 4 * w) :: scaleReads }

/-- An element of a square divided by 2^shift and rounded into its own format (R159 step 3): code and exactness. -/
def requantize (f shift code : Nat) : Nat × Bool :=
  if shift = 0 then (code, true)
  else
    let v := decodeElem f code
    match v with
    | .fin _ _ _ =>
      let c := (convElem f true none (v.scale (-(shift : Int)))).bits
      (c, ((decodeElem f c).scale shift).cmp v == .eq)
    | _ => (code, true)

/-- The stored row `row` of a transposed operand over the 64 outputs from `col`: scale byte of each output's block, its
code, whether it is kept (R173), and the reads; none is PLAN_REJECT at the tile. -/
def State.transRow (s : State) (core : Nat) (d : MDesc) (x : Side) (row col count : Nat) :
    Option (List (Byte × Nat × Bool) × Regions) :=
  let start := x.base + row * x.ld
  let w := fmtBits x.fmt
  if 2 ^ 25 < start + x.rowBytes (32 * d.kblocks) then none
  else
    -- blocks of a stored row: a block format has whole ones (R166), and a row's last position word may serve a part (log entry 77)
    let nb := (x.outer + 31) / 32
    let scaleOf (j : Nat) : Byte :=
      if isBlock x.fmt then BitVec.ofNat 8 (s.peekNat (sramAddr core (x.scale + row * nb + j / 32)) 1) else 0x7F
    let scaleReads := if isBlock x.fmt then [(x.scale + row * nb + col / 32, (count + 31) / 32)] else []
    if x.sparse then
      let groups := (count + 3) / 4
      let kept := s.codesAt core (start + col / 2 * w / 8) w (2 * groups)
      let pairs := (List.range groups).map (fun g =>
        s.groupPair core d.metaAddr (row * nb + (col + 4 * g) / 32) ((col + 4 * g) % 32 / 4))
      if pairs.any Option.isNone then none
      else some ((List.range count).map (fun j =>
        let p := (pairs.getD (j / 4) none).getD (0, 0)
        (scaleOf (col + j), kept.getD (j / 4 * 2 + b2n (j % 4 == p.2)) 0, j % 4 == p.1 || j % 4 == p.2)),
        (start + col / 2 * w / 8, (2 * groups * w + 7) / 8) :: (d.metaAddr + 4 * (row * nb + col / 32), 4 * ((count + 31) / 32)) :: scaleReads)
    else
      let codes := s.codesAt core (start + col * w / 8) w count
      some ((List.range count).map (fun j => (scaleOf (col + j), codes.getD j 0, true)),
        (start + col * w / 8, (count * w + 7) / 8) :: scaleReads)

/-- One output's block of a 32-row square (R159): rows that a gather leaves empty are omitted. -/
def squareBlock (f : Nat) (rows : List (Option (Byte × Nat × Bool))) : OpBlock :=
  let scales := rows.filterMap (·.map (·.1))
  let top : Byte := if scales.contains 0xFF then 0xFF
    else scales.foldl (fun a b => if a.toNat < b.toNat then b else a) 0
  let out := rows.map (fun r => match r with
    | none => ((0, true), true)
    | some (s, c, kept) =>
      if isBlock f then (requantize f (top.toNat - s.toNat) c, !kept) else ((c, true), !kept))
  { scale := if isBlock f then top else 0x7F, codes := out.map (·.1.1), omitted := out.map (·.2),
    inexact := out.any (fun o => !o.1.2 && !o.2) }

/-- The blocks of outputs `first` to `first + count − 1` at K block kb; none is PLAN_REJECT at the tile. -/
def State.portBlocks (s : State) (core : Nat) (d : MDesc) (x : Side) (first count kb : Nat) : Option (List OpBlock) :=
  if x.trans then
    let rows := (List.range 32).map (fun i => s.storedRow core d x.gathered (32 * kb + i))
    let data := rows.map (fun r => match r with
      | none => some none
      | some none => none
      | some (some row) => (s.transRow core d x row first count).map some)
    if data.any Option.isNone then none
    else
      let data := data.map (fun o => o.getD none)
      let reads := data.flatMap (fun o => (o.map (·.2)).getD [])
      some ((List.range count).map (fun j =>
        let b := squareBlock x.fmt (data.map (fun o => o.map (fun r => r.1.getD j (0, 0, true))))
        if j = 0 then { b with reads := reads } else b))
  else
    ((List.range count).map (fun i => match s.storedRow core d x.gathered (first + i) with
      | none => some OpBlock.empty
      | some none => none
      | some (some row) => s.directBlock core d x row kb)).foldr
        (fun o acc => o.bind (fun b => acc.map (b :: ·))) (some [])

/-! ## Products and sums (04_dot R126 to R145) -/

/-- The KL8 with KL8 product by code addition (R131). -/
def klProduct (x y : Nat) : Val :=
  let c1 := x % 128
  let c2 := y % 128
  if x = 0x80 || y = 0x80 then .nan
  else
    let s := (bitOf x 7) != (bitOf y 7)
    if c1 = 0 || c2 = 0 then .fin s 0 0
    else
      -- c1 + c2 − 128 = e; e mod 8 and floor(e / 8) taken after adding 128
      .fin s (klT ((c1 + c2) % 8)) (((c1 + c2) / 8 : Nat) - 16 - 15)

/-- Product of two element codes without the scale sum (R130, R131). -/
def product (fa fb x y : Nat) : Val := if fa = 9 && fb = 9 then klProduct x y else (decodeElem fa x).mul (decodeElem fb y)

/-- Cause bits of one product that is not omitted: NAN_OPERAND, INVALID, INF_OPERAND (R151). Every element of a block whose scale
byte is 0xFF, as `na` and `nb` say of the two blocks, is a NaN (03_formats R101). -/
def productCause (fa fb : Nat) (na nb : Bool) (x y : Nat) : Nat :=
  let a := if na then .nan else decodeElem fa x
  let b := if nb then .nan else decodeElem fb y
  b2n (a.isNan || b.isNan) + 2 * b2n (a.mulInvalid b) + 4 * b2n (a.isInf || b.isInf)

/-- Scale exponent of a block (R128). -/
def OpBlock.exp (b : OpBlock) : Int := (b.scale.toNat : Int) - 127

/-- Pairs of codes whose product is not omitted. -/
def livePairs (a b : OpBlock) : List (Nat × Nat) :=
  (((a.codes.zip b.codes).zip (a.omitted.zip b.omitted)).filter (fun p => !p.2.1 && !p.2.2)).map (·.1)

/-- The block sum of R135, scaled, with its cause bits. -/
def blockSum (fa fb : Nat) (a b : OpBlock) : Val × Nat :=
  let ps := livePairs a b
  if ps.isEmpty then (Val.zero, 0)
  else
    let nanScale := a.scale == 0xFF || b.scale == 0xFF
    let cause := orAll (ps.map (fun p => productCause fa fb (a.scale == 0xFF) (b.scale == 0xFF) p.1 p.2))
    let vs := ps.map (fun p => product fa fb p.1 p.2)
    if nanScale || vs.any Val.isNan then (.nan, cause)
    else
      let pos := vs.contains (.inf false)
      let neg := vs.contains (.inf true)
      if pos && neg then (.nan, cause ||| 2)
      else if pos then (.inf false, cause)
      else if neg then (.inf true, cause)
      else
        let sum := vs.foldl Val.add Val.zero
        ((if sum.isZero then Val.zero else sum).scale (a.exp + b.exp), cause)

/-- W of R136 on an accumulator and a term, with INVALID for opposite infinities. -/
def accStep (acc : Acc) (t : Val × Nat) : Acc :=
  let v := w36 acc.value
  { value := toW36 (v.add t.1), cause := acc.cause ||| t.2 ||| 2 * b2n (v.addInvalid t.1) }

/-- Sum of two accumulators. -/
def accAdd (a b : Acc) : Acc := accStep a (w36 b.value, b.cause)

/-- The pairwise tree of R141 step 3, `fuel` levels. -/
def pairUp : List Acc → List Acc
  | a :: b :: rest => accAdd a b :: pairUp rest
  | rest => rest
def treeSum : Nat → List Acc → Acc
  | 0, xs => xs.headD {}
  | n + 1, xs => if xs.length ≤ 1 then xs.headD {} else treeSum n (pairUp xs)

/-- Strict mode (R144): one rounding to binary32 per product and per addition; bit 3 for a finite value that rounds to
an infinity. -/
def rne32 (x : Val) : Val × Nat :=
  let y := fp32 (toFp32 x)
  (y, 8 * b2n (x.isFinite && y.isInf))
def strictStep (fa fb : Nat) (e : Int) (st : Option Val × Nat) (p : Nat × Nat) : Option Val × Nat :=
  let (v, c1) := rne32 ((product fa fb p.1 p.2).scale e)
  let c := st.2 ||| productCause fa fb false false p.1 p.2 ||| c1
  match st.1 with
  | none => (some v, c)
  | some acc => let (w, c2) := rne32 (acc.add v); (some w, c ||| c2 ||| 2 * b2n (acc.addInvalid v))
def strictBlock (fa fb : Nat) (st : Option Val × Nat) (ab : OpBlock × OpBlock) : Option Val × Nat :=
  let ps := livePairs ab.1 ab.2
  if (ab.1.scale == 0xFF || ab.2.scale == 0xFF) && !ps.isEmpty then
    (some .nan, ps.foldl (fun c p => c ||| productCause fa fb (ab.1.scale == 0xFF) (ab.2.scale == 0xFF) p.1 p.2) st.2)
  else ps.foldl (strictStep fa fb (ab.1.exp + ab.2.exp)) st

/-- One output element from its block pairs, numbered by K block (R139 to R145): the finished accumulator, and the chunk
partials where DPART asks for them. A NaN in one chunk and opposite infinities in another set INVALID in deterministic mode alone,
as R136 and R141 have it, where R153 says that both modes set the same bits (DEDUCED, log entry 118). -/
def dotElement (d : MDesc) (init : Option W36) (pairs : List (Nat × OpBlock × OpBlock)) : Acc × List Acc :=
  let term (p : Nat × OpBlock × OpBlock) := blockSum d.fmtA d.fmtB p.2.1 p.2.2
  if d.mode = 2 then
    let (c0, f0) := match init with | none => (none, 0) | some c => let (v, f) := rne32 (w36 c); (some v, f)
    let (v, f) := (pairs.map (·.2)).foldl (strictBlock d.fmtA d.fmtB) (c0, f0)
    ({ value := toW36 (v.getD Val.zero), cause := f }, [])
  else if d.mode = 1 then
    let parts := (List.range d.chunks).map (fun j =>
      (pairs.filter (fun p => p.1 / 64 == j)).foldl (fun acc p => accStep acc (term p)) ({} : Acc))
    let t := treeSum d.chunks parts
    (match init with | none => t | some c => accAdd { value := c } t, parts)
  else
    let start : Acc := { value := addW36 (init.getD 0) 0 }
    (pairs.foldl (fun acc p => accStep acc (term p)) start, [])

/-! ## Checks at issue (R166, R168, R171, R175, R178, R213, R676, R677, R303) -/

/-- Every entry of the gather list that tile row tm takes is empty: no product of its tiles is formed (R178, R213). -/
def State.rowEmpty (s : State) (core : Nat) (d : MDesc) (tm : Nat) : Bool :=
  d.gather && !d.transA && (List.range (min 64 (d.m - 64 * tm))).all (fun r => (s.gatherEntry core d (64 * tm + r)).isNone)

/-- First block in an operand's reading order: tile row of the first tile that has an unskipped block, and that block. -/
def State.firstBlock (s : State) (core : Nat) (d : MDesc) : Option (Nat × Nat) :=
  (List.range d.tileRows).findSome? (fun tm =>
    match (List.range d.kblocks).find? (fun kb => !s.masked core d tm kb) with
    | none => none
    | some kb => if s.rowEmpty core d tm then none else some (tm, kb))

/-- First entry of the list that is not empty, from tile row tm on: its place and what it names. -/
def State.firstNamed (s : State) (core : Nat) (d : MDesc) (tm : Nat) : Option (Nat × Option Nat) :=
  (List.range 64).findSome? (fun r => (s.gatherEntry core d (64 * tm + r)).map (fun e => (64 * tm + r, e)))

/-- Where the first KFR block of an operand lies: its row's start and its number in the row. None: no block is read, or the row
that the list names is malformed, which a tile meets (R677). -/
def State.kfrFirst (s : State) (core : Nat) (d : MDesc) (x : Side) : Option (Nat × Nat) :=
  (s.firstBlock core d).bind (fun (tm, kb) =>
    let row := if x.port = 1 then some 0 else if x.gathered then (s.firstNamed core d tm).bind (·.2) else some (64 * tm)
    row.map (fun row => (x.base + row * x.ld, kb / 2)))

/-- Rate of a KFR operand from the header of the first block it reads (R676): `none` rejects at issue, `some 0` stands for a rate
that issue does not need or does not learn, because no block is read or the named row fails at the tile that reads it (R677). -/
def State.kfrRate (s : State) (core : Nat) (d : MDesc) (x : Side) : Option Nat :=
  if !x.kfr then some 0
  else
    match s.kfrFirst core d x with
    | none => some 0
    | some (start, kk) =>
      if x.gathered && 2 ^ 25 < start + 32 * (kk + 1) then some 0
      else
        -- block 0 needs no rate; a later first block lies at a multiple of the rate that its own slot gives
        let tryRate (r : Nat) : Option Nat :=
          let h := KfrHeader.ofNat (s.peekNat (sramAddr core (start + kk * 8 * r)) 4)
          let t := ((s.core core).xp.slots.at (4 * x.port + h.slot)).table
          if kfrCheck t h x.fmt (some r) then some r else none
        (tryRate 4).or ((tryRate 6).or (tryRate 8))

/-- What issue reads to learn a KFR operand's rate: mask and list up to the first block, and its header (R187, R676). -/
def State.rateReads (s : State) (core : Nat) (d : MDesc) (x : Side) : Regions :=
  if !x.kfr then []
  else
    match s.firstBlock core d with
    | none => (if d.skip then [(d.mask, (d.tileRows * d.kblocks + 7) / 8)] else []) ++ (if d.gather then [(d.list, 4 * d.m)] else [])
    | some (tm, kb) =>
      (if d.skip then [(d.mask, (tm * d.kblocks + kb) / 8 + 1)] else []) ++
      (if d.gather then [(d.list, 4 * (((s.firstNamed core d tm).map (·.1)).getD 0 + 1))] else []) ++
      (match s.kfrFirst core d x, s.kfrRate core d x with
       | some (start, kk), some r => if r = 0 then [] else [(start + kk * 8 * r, 4)]
       | some (start, _), none => [(start, 4)]
       | _, _ => [])

/-- The read regions that issue checks (R166, R677). -/
def MDesc.readRegions (d : MDesc) (ra rb : Nat) : Regions :=
  let k := 32 * d.kblocks
  let op (x : Side) : Regions :=
    if x.kfr && x.rate = 0 then []
    else (x.base, (if x.gathered then 0 else (x.rows k - 1) * x.ld) + x.rowBytes k) ::
      (if isBlock x.fmt && !x.kfr && !x.gathered then [(x.scale, x.rows k * ((if x.trans then x.outer else k) / 32))] else []) ++
      (if x.sparse && !x.gathered then [(d.metaAddr, x.rows k * (((if x.trans then x.outer else k) + 31) / 32) * 4)] else [])
  op (d.sideA ra) ++ op (d.sideB rb) ++
  (if d.skip then [(d.mask, (d.tileRows * d.kblocks + 7) / 8)] else []) ++
  (if d.gather then [(d.list, 4 * (if d.transA then k else d.m))] else [])

/-- The regions the operation writes. -/
def MDesc.writeRegions (d : MDesc) : Regions :=
  (if d.cOff then [] else (d.c, (d.m - 1) * d.ldc + (d.n * storeBits d.fmtC + 7) / 8) ::
    (if isBlock d.fmtC then [(d.cScale, d.m * (d.n / 32))] else [])) ++
  (if d.accEn then [(d.acc, d.tiles * (if d.dpart then d.chunks else 1) * 32768)] else []) ++
  [(d.status, d.tiles * 8)]

/-- Mode and sparsity rules (R168, R171, R175, R178, R213). -/
def MDesc.modesOk (d : MDesc) : Bool :=
  (match d.mode with
   | 0 => d.kstart == 0 && !d.dpart
   | 1 => if d.dpart then d.kstart % 64 == 0 && d.accEn && d.cOff && !d.initEn && d.tapKind == 0 else d.kstart == 0
   | 2 => d.kstart == 0 && !d.dpart
   | _ => false) &&
  (!d.sp24 || d.kind == 1 || (d.kind == 2 && !d.statA) || (d.kind == 3 && d.statA) || (d.kind == 5 && !d.statA)) &&
  (!d.skip || d.kind == 1 || d.kind == 3 || d.kind == 5) &&
  (!d.gather || d.kind != 2) &&
  (!d.aKfr || ((d.kind == 1 || d.kind == 3 || d.kind == 5) && isBlock d.fmtA && d.kblocks % 2 == 0 && d.aScale == 0 &&
    !(d.sp24 && d.statA))) &&
  (!d.bKfr || ((d.kind == 1 || d.kind == 2) && isBlock d.fmtB && d.kblocks % 2 == 0 && d.bScale == 0 && !(d.sp24 && !d.statA)))

/-- Fields, formats and strides (R166). -/
def MDesc.fieldsOk (d : MDesc) (ra rb : Nat) : Bool :=
  d.reservedZero && 1 ≤ d.kind && d.kind ≤ 5 && d.mode ≤ 2 && d.m != 0 && d.n != 0 && d.kblocks != 0 && d.increment != 0 &&
  isOperand d.fmtA && isOperand d.fmtB && d.fmtC ≤ 10 && (!isBlock d.fmtC || d.n % 32 == 0) &&
  (!(d.transA && isBlock d.fmtA) || d.m % 32 == 0) && (!(d.transB && isBlock d.fmtB) || d.n % 32 == 0) &&
  (d.sideA ra).rowBytes (32 * d.kblocks) ≤ d.lda && (d.sideB rb).rowBytes (32 * d.kblocks) ≤ d.ldb &&
  (d.cOff || (d.n * storeBits d.fmtC + 7) / 8 ≤ d.ldc) && !(d.cOff && !d.accEn)

/-- The descriptor passes every check at issue: the rates of its KFR operands. -/
def State.matrixCheck (s : State) (core : Nat) (d : MDesc) : Option (Nat × Nat) :=
  match s.kfrRate core d (d.sideA 0), s.kfrRate core d (d.sideB 0) with
  | some ra, some rb =>
    let reads := d.readRegions ra rb
    let writes := d.writeRegions
    let inits : Regions := if d.initEn then [(d.init, d.tiles * 32768)] else []
    if d.fieldsOk ra rb && d.modesOk && (reads ++ inits ++ writes).all (fun r => r.1 + r.2 ≤ 2 ^ 25) &&
       disjointRegions writes (reads ++ (if d.init = d.acc && d.accEn then [] else inits)) &&
       (d.cOff || !d.recipeSrc || !isBlock d.fmtC || ((s.core core).recipes.at d.recipe).kind != 7)
    then some (ra, rb) else none
  | _, _ => none

/-! ## Issue (R161, R166, R675) -/

def CoreSt.modMx (x : CoreSt) (f : MatrixEngine → MatrixEngine) : CoreSt := { x with mx := f x.mx }

/-- An operation ends (R186, R187): it leaves the engine, and its counter advances or latches. -/
def CoreSt.endMatrix (x : CoreSt) (op : MatOp) (pop : Bool) (cause : Cause) : CoreSt :=
  let d := MDesc.ofNat op.desc.toNat
  let x := x.modMx (fun m => { m with ended := m.ended + 1, ops := if pop then m.ops.drop 1 else m.ops,
                                      lastFail := if cause = 0 then m.lastFail else cause })
  if cause = 0 then x.advance d.counter d.increment else x.latch d.counter cause

/-- Slots that were loaded when the operation issued (R199). -/
def CoreSt.loadedSlots (x : CoreSt) (port : Nat) : List Nat :=
  (List.range 4).filter (fun k => (x.xp.slots.at (4 * port + k)).table.isSome)

/-- A checked operation joins the engine with the rates of its KFR operands; one that fails a check ends (R166). -/
def State.queueMatrix (s : State) (core : Nat) (d : MDesc) (op : MatOp) : State :=
  match s.matrixCheck core d with
  | none => s.modCore core (·.endMatrix op false Cause.planReject)
  | some (ra, rb) => s.modCore core (·.modMx (fun m => { m with ops := m.ops ++ [{ op with rateA := ra, rateB := rb }] }))

/-- A MATRIX entry of one kind issues. A descriptor of a reserved KIND ends Failed whichever command meets it (log
entry 12). -/
def State.actMatrix (s : State) (core q kind : Nat) (e : Entry) : State :=
    match s.readOwn core e.addr 64 1 with
    | (s, .error cause) => (s.modCore core (fun x => x.modMx (fun m => { m with lastFail := cause }))).haltQueue core q cause
    | (s, .ok bs) =>
      let d := MDesc.ofNat (leNat bs)
      if d.kind ≠ kind && 1 ≤ d.kind && d.kind ≤ 5 then s
      else
        let op : MatOp := { desc := BitVec.ofNat 512 (leNat bs), queue := q, entry := (s.queue core q).pos,
                            fill := (s.core core).mx.ops.isEmpty,
                            holdA := if d.aKfr then (s.core core).loadedSlots 0 else [],
                            holdB := if d.bKfr then (s.core core).loadedSlots 1 else [] }
        let s := s.goNext core q
        match s.readRegions core (s.rateReads core d (d.sideA 0) ++ s.rateReads core d (d.sideB 0)) with
        | (s, 0) => s.queueMatrix core d op
        | (s, cause) => s.modCore core (·.endMatrix op false cause)
def State.issueMatrix (s : State) (core q kind : Nat) : State := s.issue core q 1 (fun s e => s.actMatrix core q kind e)

/-- MM (R157). -/
def execMm (core q : Nat) (s : State) : Out := .next (s.issueMatrix core q 1)
/-- MM_TA (R157). -/
def execMmTa (core q : Nat) (s : State) : Out := .next (s.issueMatrix core q 2)
/-- MM_TB (R157). -/
def execMmTb (core q : Nat) (s : State) : Out := .next (s.issueMatrix core q 3)
/-- GRAD_W (R157). -/
def execGradW (core q : Nat) (s : State) : Out := .next (s.issueMatrix core q 4)
/-- GRAD_X (R157). -/
def execGradX (core q : Nat) (s : State) : Out := .next (s.issueMatrix core q 5)

/-! ## Tiles (R167, R169, R181, R216) -/

/-- What a tile reads: its unskipped K blocks with the blocks of both ports; none is PLAN_REJECT at the tile. A KFR block of B is
not read where every row of A is an empty entry (06_fixed_rate R213). -/
def State.tileBlocks (s : State) (core : Nat) (op : MatOp) (d : MDesc) (tm tn : Nat) :
    Option (List (Nat × List OpBlock × List OpBlock)) :=
  let rows := min 64 (d.m - 64 * tm)
  let cols := min 64 (d.n - 64 * tn)
  ((s.unskipped core d tm).map (fun kb =>
    (s.portBlocks core d (d.sideA op.rateA) (64 * tm) rows kb).bind (fun a =>
      (if d.bKfr && s.rowEmpty core d tm then some (List.replicate cols OpBlock.empty)
       else s.portBlocks core d (d.sideB op.rateB) (64 * tn) cols kb).map (fun b => (kb, a, b))))).foldr
    (fun o acc => o.bind (fun b => acc.map (b :: ·))) (some [])

/-- Passes of an expander and rough blocks over the KFR blocks that a port reads for a tile (R215, R216): a block is read
once for its two halves. -/
def kfrPasses (pairs : List (Nat × List OpBlock)) : Nat × Nat :=
  let firstHalf := pairs.filter (fun p => p.1 % 2 == 0 || !(pairs.any (fun o => o.1 + 1 == p.1)))
  let flags := firstHalf.flatMap (fun p => p.2.filterMap (·.kfr))
  (flags.length + flags.countP id, flags.countP id)

/-- Tokens of a tile without fill, conversion or stalls (R181). -/
def MDesc.tileTokens (d : MDesc) (unskipped : Nat) : Nat :=
  let t := unskipped * d.blockTokens
  if d.mode = 2 then 64 * t else if d.dpart then (20 * t + 16) / 17 else t

/-- Stall of a port over a tile (R216). -/
def portStall (d : MDesc) (pairs : List (Nat × List OpBlock)) : Nat :=
  ((kfrPasses pairs).1 + 3) / 4 - d.tileTokens pairs.length

/-- A stall of a port is counted once per tile (R183, R216). -/
def CoreSt.countStall (x : CoreSt) (port n : Nat) : CoreSt :=
  x.modMx (fun m => match m.ops with
    | [] => m
    | op :: rest =>
      if port = 0 then { m with stallA := if op.stalledA then m.stallA else m.stallA + BitVec.ofNat 32 n,
                                ops := { op with stalledA := true } :: rest }
      else { m with stallB := if op.stalledB then m.stallB else m.stallB + BitVec.ofNat 32 n,
                    ops := { op with stalledB := true } :: rest })

/-- The element accumulators of a tile, and the chunk partials. -/
def State.tileAccs (s : State) (core : Nat) (d : MDesc) (tm tn : Nat)
    (blocks : List (Nat × List OpBlock × List OpBlock)) : List (List (Acc × List Acc)) :=
  (List.range (min 64 (d.m - 64 * tm))).map (fun r =>
    (List.range (min 64 (d.n - 64 * tn))).map (fun c =>
      let at_ := d.init + (tm * d.tileCols + tn) * 32768 + (r * 64 + c) * 8
      let init := if d.initEn then some (BitVec.ofNat 36 (s.peekNat (sramAddr core at_) 8)) else none
      dotElement d init (blocks.map (fun p => (p.1, p.2.1.getD r {}, p.2.2.getD c {})))))

/-- Writes of a tile's accumulators (R164, R168). -/
def MDesc.accTileWrites (d : MDesc) (core t : Nat) (accs : List (List (Acc × List Acc))) : List (Nat × List Byte) :=
  if !d.accEn then []
  else if d.dpart then
    (List.range d.chunks).flatMap (fun j => accWrites core (d.acc + (t * d.chunks + j) * 32768)
      (accs.map (·.map (fun a => (a.2.getD j {}).value))))
  else accWrites core (d.acc + t * 32768) (accs.map (·.map (fun a => a.1.value)))

/-- The running operation fails at its tile (R187). -/
def State.failTile (s : State) (core : Nat) (op : MatOp) (cause : Cause) : State :=
  s.modCore core (·.endMatrix op true cause)

/-- A tile's blocks with those of both ports. -/
abbrev TileBlocks := List (Nat × List OpBlock × List OpBlock)

/-- What the output stage makes of a tile (R169 step 1, R170). -/
def State.tileOut (s : State) (core : Nat) (d : MDesc) (accs : List (List (Acc × List Acc))) : TileOut :=
  let recipe := if d.recipeSrc then some ((s.core core).recipes.at d.recipe).scale else none
  let plain := accs.map (·.map (fun a => if d.dpart then { a.1 with cause := orAll (a.2.map (·.cause)) } else a.1))
  if d.cOff then plainTile plain else outputTile d.fmtC (d.mode == 2) recipe plain

/-- An empty gather entry falls in tile row tm (R170, R178). -/
def State.tileGatherEmpty (s : State) (core : Nat) (d : MDesc) (tm : Nat) : Bool :=
  d.gather && (if d.transA
    then (List.range (32 * d.kblocks)).any (fun k => (s.gatherEntry core d k).isNone)
    else (List.range (min 64 (d.m - 64 * tm))).any (fun r => (s.gatherEntry core d (64 * tm + r)).isNone))

/-- The tile status word (R170). -/
def State.tileStatus (s : State) (core : Nat) (d : MDesc) (tm : Nat) (blocks : TileBlocks) (out : TileOut) : Nat :=
  statusWord out (blocks.any (fun p => p.2.1.any (·.inexact) || p.2.2.any (·.inexact))) (decide (blocks.length < d.kblocks))
    (s.tileGatherEmpty core d tm)

/-- The writes of a tile before its status word (R169 steps 2 and 3). -/
def MDesc.tileData (d : MDesc) (core tm tn : Nat) (accs : List (List (Acc × List Acc))) (out : TileOut) : List (Nat × List Byte) :=
  (if d.cOff then [] else tileWrites core d.fmtC d.c (d.ldc / 64) d.cScale d.n (64 * tm) (64 * tn) out) ++
    d.accTileWrites core (tm * d.tileCols + tn) accs

/-- Address of the status word of tile t. -/
def MDesc.statusAddr (d : MDesc) (core tm tn : Nat) : Nat := sramAddr core (d.status + (tm * d.tileCols + tn) * 8)

/-- The reads of a tile, for the errors they may meet. -/
def MDesc.tileReads (d : MDesc) (tm tn : Nat) (blocks : TileBlocks) : Regions :=
  blocks.flatMap (fun p => p.2.1.flatMap (·.reads) ++ p.2.2.flatMap (·.reads)) ++
  (if d.skip then [(d.mask + tm * d.kblocks / 8, (tm * d.kblocks + d.kblocks - 1) / 8 - tm * d.kblocks / 8 + 1)] else []) ++
  (if d.gather then [(d.list + (if d.transA then 0 else 256 * tm), if d.transA then 128 * d.kblocks else 4 * min 64 (d.m - 64 * tm))] else []) ++
  (if d.initEn then [(d.init + (tm * d.tileCols + tn) * 32768, 32768)] else [])

/-- The engine after a tile: stalls, norm taps, recipe, counts, and the end of the operation at its last tile (R169 step 4, R181,
R186, R216). -/
def CoreSt.tileDone (x : CoreSt) (op : MatOp) (d : MDesc) (blocks : TileBlocks) (out : TileOut) : CoreSt :=
  let pa := blocks.map (fun p => (p.1, p.2.1))
  let pb := blocks.map (fun p => (p.1, p.2.2))
  let skipped := d.kblocks - blocks.length
  let last := op.done + 1 == d.tiles
  let tokens := d.tileTokens blocks.length + max (portStall d pa) (portStall d pb)
    + (if op.fill && op.done == 0 then 64 else 0) + (if last then 64 + (if out.newScale.isSome then 128 else 0) else 0)
  let x := (x.countStall 0 (portStall d pa)).countStall 1 (portStall d pb)
  let x := x.tap d.tapSet d.tapKind out.values out.vanished
  let x := x.feedRecipe d.recipe out.newScale
  let x := { x with xp := { x.xp with rough :=
    (x.xp.rough.upd 0 (· + BitVec.ofNat 32 (kfrPasses pa).2)).upd 1 (· + BitVec.ofNat 32 (kfrPasses pb).2) } }
  let x := x.modMx (fun m => { m with
    ops := m.ops.set 0 { op with done := op.done + 1, stalledA := false, stalledB := false }, causeOr := m.causeOr ||| BitVec.ofNat 8 out.cause,
    tokens := m.tokens + BitVec.ofNat 64 tokens, skipped := m.skipped + BitVec.ofNat 32 skipped,
    rescaled := m.rescaled + BitVec.ofNat 32 (b2n out.newScale.isSome) })
  if last then x.endMatrix op true 0 else x

/-- The next tile of the running operation completes, in the order of R169; the last one ends the operation (R186). -/
def State.runTile (s : State) (core : Nat) (op : MatOp) : State :=
  let d := MDesc.ofNat op.desc.toNat
  let (tm, tn) := d.tileAt op.done
  match s.tileBlocks core op d tm tn with
  | none => s.failTile core op Cause.planReject
  | some blocks =>
    match s.readRegions core (d.tileReads tm tn blocks) with
    | (s, 0) =>
      let accs := s.tileAccs core d tm tn blocks
      let out := s.tileOut core d accs
      let status := s.tileStatus core d tm blocks out
      match s.writeAll (d.tileData core tm tn accs out) with
      | (s, 0) =>
        match s.writeMem (d.statusAddr core tm tn) (leBytes 8 status) with
        | (s, 0) => s.modCore core (·.tileDone op d blocks out)
        | (s, cause) => s.failTile core op cause
      | (s, cause) => s.failTile core op cause
    | (s, cause) => s.failTile core op cause

/-- TILE_COMPLETE (R169). -/
def execTileComplete (core : Nat) (s : State) : Out :=
  .next (match (s.core core).mx.ops with
    | [] => s
    | op :: _ => s.runTile core op)

/-- EXPANDER_STALL (R183): the wait of a port over the running tile is counted. -/
def execExpanderStall (core port : Nat) (s : State) : Out :=
  .next (match (s.core core).mx.ops with
    | [] => s
    | op :: _ =>
      let d := MDesc.ofNat op.desc.toNat
      let (tm, tn) := d.tileAt op.done
      match s.tileBlocks core op d tm tn with
      | none => s
      | some blocks =>
        s.modCore core (·.countStall port (portStall d (blocks.map (fun p => (p.1, if port = 0 then p.2.1 else p.2.2))))))

/-- MX_TOKENS_LO_READ (R189). -/
def execMxTokensLoRead (core : Nat) (s : State) : Out :=
  .next { s.modCore core (·.modMx (fun m => { m with tokensHi := BitVec.ofNat 32 (m.tokens.toNat / 2 ^ 32) })) with
    bus := (s.core core).mx.tokens.toNat % 2 ^ 32 }

/-- CAUSE_OR_CLEAR (R189): writing 1s clears. -/
def execCauseOrClear (core : Nat) (value : Word) (s : State) : Out :=
  .next (s.when s.barUp (·.modCore core (·.modMx (fun m => { m with causeOr := m.causeOr &&& ~~~(value.setWidth 8) }))))

end Sys2Proof.Machine
end

