-- ==== Sys2Proof/Machine/Grain.lean ====
section
/-! DEFINITION. Grain words for stochastic rounding (10_parameter R344). -/

namespace Sys2Proof.Machine

open Sys2Proof

def grainG : Word64 := 0x9E3779B97F4A7C15

/-- mix of R344, modulo 2^64. -/
def grainMix (z : Word64) : Word64 :=
  let z := (z ^^^ (z >>> 30)) * 0xBF58476D1CE4E5B9
  let z := (z ^^^ (z >>> 27)) * 0x94D049BB133111EB
  z ^^^ (z >>> 31)

/-- The 16-bit grain word of logical index e in step s of tensor tid. -/
def grainWord (seed step tid e : Nat) : Nat :=
  let k1 := grainMix (BitVec.ofNat 64 seed + BitVec.ofNat 64 step * grainG)
  let k2 := grainMix (k1 ^^^ BitVec.ofNat 64 tid)
  bitsOf (grainMix (k2 + BitVec.ofNat 64 (e / 4) * grainG)).toNat (16 * (e % 4)) 16

end Sys2Proof.Machine
end

