-- ==== Sys2Proof/Machine/LaneArith.lean ====
section
/-! DEFINITION. Arithmetic of one lane of the vector engine (07_vector R232, R237 to R241). Every function answers the
lane's bits and the cause bits of R241: 1 NAN_INPUT, 2 INVALID, 4 OVERFLOW, 8 NAN_BLOCK, 16 VANISHED, 32 RESCALED,
64 INT_SATURATED. -/

namespace Sys2Proof.Machine

open Sys2Proof

/-- Bits and cause bits. -/
abbrev Flagged (α : Type) := α × Nat

/-! ## Floating-point elements (R237) -/

/-- The exact result rounded once into format `f`: NaN operands give the canonical NaN. -/
def fpResult (f : Nat) (operands : List Val) (r : Val) : Flagged Nat :=
  if operands.any Val.isNan then (nanBits f, 1)
  else if r.isNan then (nanBits f, 2)
  else
    let c := convElem f true none r
    (c.bits, 4 * b2n c.exceeded + 16 * b2n c.vanished)

/-- IEEE 754-2019 order with −0 below +0. -/
def Val.totalLt (x y : Val) : Bool :=
  match x.cmp y with
  | .lt => true
  | .gt => false
  | .eq => x.sign && !y.sign

def Val.maximum (x y : Val) : Val := if x.isNan || y.isNan then .nan else if x.totalLt y then y else x
def Val.minimum (x y : Val) : Val := if x.isNan || y.isNan then .nan else if y.totalLt x then y else x

/-- The 32-bit lane as one element, or as two packed ones (R232). -/
def perElement (ty : Nat) (g : List Nat → Flagged Nat) (xs : List Word) : Flagged Word :=
  if ty = 1 || ty = 2 then
    let (a, fa) := g (xs.map (fun x => x.toNat % 65536))
    let (b, fb) := g (xs.map (fun x => x.toNat / 65536))
    (BitVec.ofNat 32 (a + 65536 * b), fa ||| fb)
  else
    let (a, fa) := g (xs.map (·.toNat))
    (BitVec.ofNat 32 a, fa)

/-- An operation on floating-point lanes. -/
def fpLane (ty : Nat) (g : List Val → Val) (xs : List Word) : Flagged Word :=
  perElement ty (fun es => let vs := es.map (decodeElem ty); fpResult ty vs (g vs)) xs

def fst2 (g : Val → Val → Val) (vs : List Val) : Val := g (vs.getD 0 .nan) (vs.getD 1 .nan)

/-! ## The lane operations of R234 -/

def laneAdd (ty : Nat) (a b : Word) : Flagged Word := if ty = 3 then (a + b, 0) else fpLane ty (fst2 Val.add) [a, b]
def laneSub (ty : Nat) (a b : Word) : Flagged Word := if ty = 3 then (a - b, 0) else fpLane ty (fst2 Val.sub) [a, b]
def laneMul (ty : Nat) (a b : Word) : Flagged Word := if ty = 3 then (a * b, 0) else fpLane ty (fst2 Val.mul) [a, b]
def laneFma (ty : Nat) (a b c : Word) : Flagged Word :=
  fpLane ty (fun vs => ((vs.getD 0 .nan).mul (vs.getD 1 .nan)).add (vs.getD 2 .nan)) [a, b, c]
def laneMax (ty : Nat) (a b : Word) : Flagged Word :=
  if ty = 3 then (if a.slt b then b else a, 0) else fpLane ty (fst2 Val.maximum) [a, b]
def laneMin (ty : Nat) (a b : Word) : Flagged Word :=
  if ty = 3 then (if b.slt a then b else a, 0) else fpLane ty (fst2 Val.minimum) [a, b]
def laneAbs (ty : Nat) (a : Word) : Flagged Word :=
  if ty = 3 then (if a.slt 0 then -a else a, 0) else fpLane ty (fun vs => (vs.getD 0 .nan).abs) [a]
def laneNeg (ty : Nat) (a : Word) : Flagged Word :=
  if ty = 3 then (-a, 0) else fpLane ty (fun vs => (vs.getD 0 .nan).neg) [a]

/-- CMP: the condition, with NAN_INPUT for a NaN operand. -/
def laneCmp (ty cond : Nat) (a b : Word) : Flagged Bool :=
  if ty = 3 then
    (match cond with
     | 0 => a == b | 1 => a != b | 2 => a.slt b | 3 => a.sle b | 4 => b.slt a | 5 => b.sle a | _ => false, 0)
  else
    let x := fp32 a
    let y := fp32 b
    if x.isNan || y.isNan then (cond == 1 || cond == 6, 1)
    else
      let c := x.cmp y
      (match cond with
       | 0 => c == .eq | 1 => c != .eq | 2 => c == .lt | 3 => c != .gt | 4 => c == .gt | 5 => c != .lt | _ => false, 0)

/-! ## Function instructions (R238). An inexact quotient, root, power or logarithm is given by a dyadic strictly inside
the same gap of a grid far finer than FP32's, so that its one rounding is that of the exact result. -/

/-- n / d with 80 or more significant bits, exact or with a sticky bit. -/
def ratio (neg : Bool) (n d : Nat) (e : Int) : Val :=
  let k := 80 + Val.bitLen d - Val.bitLen n
  let q := n * 2 ^ k / d
  .fin neg (2 * q + b2n (n * 2 ^ k % d != 0)) (e - k - 1)

def rcpVal : Val → Val
  | .nan => .nan
  | .inf s => .fin s 0 0
  | .fin s m e => if m = 0 then .inf s else ratio s 1 m (-e)

/-- 1 / √(m · 2^e) for m > 0: e is made even. -/
def rsqrtPos (m : Nat) (e : Int) : Val :=
  let (m, e) := if e % 2 = 0 then (m, e) else (2 * m, e - 1)
  let k := 80 + Val.bitLen m
  let r := Nat.sqrt (2 ^ (2 * k) / m)
  .fin false (2 * r + b2n (r * r * m != 2 ^ (2 * k))) (-(e / 2) - k - 1)

def rsqrtVal : Val → Val
  | .nan => .nan
  | .inf s => if s then .nan else Val.zero
  | .fin s m e => if m = 0 then .inf s else if s then .nan else rsqrtPos m e

/-- ln 2 in units of 2^−192. -/
def ln2 : Nat := 0xb17217f7d1cf79abc9e3b39803f2f6af40f343267298b62d

/-- Σ y^k / k! for k ≤ n, by Horner's rule from the last term. -/
def expHorner : Nat → Nat → Nat → Nat
  | 0, _, acc => acc
  | k + 1, y, acc => expHorner k y (2 ^ 192 + acc * y / 2 ^ 192 / (k + 1))

/-- 2^x for a finite x. -/
def exp2Fin (s : Bool) (m : Nat) (e : Int) : Val :=
  if m = 0 then .fin false 1 0
  else
    let top : Int := e + Val.bitLen m          -- |x| < 2^top
    if 8 < top then (if s then .fin false 1 (-400) else .fin false 1 400)
    else if top < -40 then .fin false (if s then 2 ^ 60 - 1 else 2 ^ 60 + 1) (-60)
    else
      let u := signedUnits s m e (-192)        -- x in units of 2^−192, exact
      let n := u / 2 ^ 192
      let f := (u % 2 ^ 192).toNat
      if f = 0 then .fin false 1 n
      else .fin false (2 * expHorner 48 (f * ln2 / 2 ^ 192) (2 ^ 192) + 1) (n - 193)

def exp2Val : Val → Val
  | .nan => .nan
  | .inf s => if s then Val.zero else .inf false
  | .fin s m e => exp2Fin s m e

/-- Fraction digits of log2 t for t in [1, 2) in units of 2^−256, `n` of them, by repeated squaring. -/
def log2Digits : Nat → Nat → Nat → Nat
  | 0, _, acc => acc
  | n + 1, t, acc =>
    let t := t * t / 2 ^ 256
    if 2 ^ 257 ≤ t then log2Digits n (t / 2) (2 * acc + 1) else log2Digits n t (2 * acc)

/-- log2 of m · 2^e for m > 0. -/
def log2Pos (m : Nat) (e : Int) : Val :=
  let k := m.log2
  let whole : Int := e + k
  if m = 2 ^ k then Val.ofInt whole 0
  else Val.ofInt (2 * (whole * 2 ^ 112 + (log2Digits 112 (m * 2 ^ 256 / 2 ^ k) 0 : Nat)) + 1) (-113)

def log2Val : Val → Val
  | .nan => .nan
  | .inf s => if s then .nan else .inf false
  | .fin s m e => if m = 0 then .inf true else if s then .nan else log2Pos m e

/-- A function instruction on an FP32 lane. -/
def laneFn (g : Val → Val) (a : Word) : Flagged Word :=
  let x := fp32 a
  let (b, f) := fpResult 0 [x] (g x)
  (BitVec.ofNat 32 b, f)

/-! ## Conversion between element types (R239, R240) -/

/-- To INT32: nearest, ties to even, saturating; NaN gives 0. A saturated conversion sets OVERFLOW and INT_SATURATED. -/
def toInt32 (x : Val) : Flagged Nat :=
  match x with
  | .nan => (0, 1 + 64)
  | .inf s => (if s then 2 ^ 31 else 2 ^ 31 - 1, 4 + 64)
  | .fin s m e =>
    let q := scaleDown m e 0
    let rest := dyCmp (2 * m) e (2 * q + 1) 0
    let n := match rest with | .lt => q | .gt => q + 1 | .eq => if q % 2 = 0 then q else q + 1
    if s then (if 2 ^ 31 < n then (2 ^ 31, 4 + 64) else ((2 ^ 32 - n) % 2 ^ 32, 0))
    else if 2 ^ 31 ≤ n then (2 ^ 31 - 1, 4 + 64) else (n, 0)

/-- Value of an element of type `ty`. -/
def elemVal (ty x : Nat) : Val :=
  if ty = 3 then Val.ofInt (BitVec.ofNat 32 x).toInt 0 else decodeElem ty x

/-- One element from type `src` to type `dst`. -/
def cvtElem (src dst x : Nat) (r : Option Nat) : Flagged Nat :=
  let v := elemVal src x
  if dst = 3 then toInt32 v
  else
    let c := convElem dst true r v
    (c.bits, b2n v.isNan + 4 * b2n c.exceeded + 16 * b2n c.vanished)

/-- A lane of CVT: `r0` and `r1` are the grain words of its even and odd elements. -/
def laneCvt (src dst : Nat) (hi : Bool) (r0 r1 : Option Nat) (a b : Word) : Flagged Word :=
  let packed (t : Nat) : Bool := t == 1 || t == 2
  let pair (x y : Flagged Nat) : Flagged Word := (BitVec.ofNat 32 (x.1 + 65536 * y.1), x.2 ||| y.2)
  if packed src && packed dst then
    pair (cvtElem src dst (a.toNat % 65536) r0) (cvtElem src dst (a.toNat / 65536) r1)
  else if packed dst then pair (cvtElem src dst a.toNat r0) (cvtElem src dst b.toNat r1)
  else
    let x := if packed src then (if hi then a.toNat / 65536 else a.toNat % 65536) else a.toNat
    let (y, f) := cvtElem src dst x none
    (BitVec.ofNat 32 y, f)

end Sys2Proof.Machine
end

