-- ==== Sys2Proof/Machine/VectorBase.lean ====
section
/-! DEFINITION. The vector engine around its instructions: queueing, kernel start and end (07_vector R225 to R230), the
instruction layout and its checks (R231 to R236), tokens and cause bits (R235, R241). -/

namespace Sys2Proof.Machine

open Sys2Proof

/-! ## Instruction layout and checks -/

/-- A vector instruction (R231). -/
structure VInstr where
  op : Nat
  pe : Bool
  pr : Nat
  zm : Bool
  ty : Nat
  d : Nat
  a : Nat
  b : Nat
  bs : Bool
  imm : Nat
  deriving DecidableEq, Repr

def VInstr.ofNat (w : Nat) : VInstr :=
  { op := fld w 56 8, pe := bitOf w 55, pr := fld w 52 3, zm := bitOf w 51, ty := fld w 48 3, d := fld w 43 5,
    a := fld w 38 5, b := fld w 33 5, bs := bitOf w 32, imm := fld w 0 32 }

/-- What R234's table says of an instruction: allowed types, whether PE may be set, whether it has a B operand, tokens
(none: the scalar rule of R235) and the IMM bits it uses. -/
structure VRow where
  types : List Nat
  pred : Bool
  hasB : Bool
  tokens : Option Nat
  immUsed : Nat

/-- The table of R234 by OP. -/
def vRow (op : Nat) : Option VRow :=
  let arith (types : List Nat) (tokens : Nat) (hasB : Bool) (imm : Nat) : Option VRow := some ⟨types, true, hasB, some tokens, imm⟩
  let scalar (imm : Nat) : Option VRow := some ⟨[0], false, false, none, imm⟩
  let all := [0, 1, 2, 3]
  let w := 0xFFFFFFFF
  if op = 0x01 || op = 0x02 || op = 0x03 || op = 0x05 || op = 0x06 || (0x12 ≤ op && op ≤ 0x14) then arith all 1 true 0
  else if op = 0x04 then arith [0, 1, 2] 1 true 0x1F
  else if op = 0x07 || op = 0x08 then arith all 1 false 0
  else if 0x09 ≤ op && op ≤ 0x0C then arith [0] 4 false 0
  else if op = 0x0D then arith all 1 true 0x307
  else if op = 0x10 then arith [0, 3] 1 true 0x7
  else if op = 0x11 then arith all 1 true 0x7
  else if 0x15 ≤ op && op ≤ 0x17 then arith [3] 1 true 0
  else if op = 0x18 then some ⟨[0], false, false, some 1, 0x3⟩
  else if op = 0x19 then some ⟨[0], false, false, some 1, 0x1F1F⟩
  else if op = 0x1C || op = 0x1F then arith [0] 1 false 0
  else if op = 0x1D || op = 0x1E then arith [0] 1 false 0xF
  else if op = 0x20 || op = 0x21 then arith [0] 1 false w
  else if op = 0x22 then some ⟨[0], false, false, some 2, 0xF1F⟩
  else if op = 0x23 then some ⟨[0], false, false, some 3, 0xFF3F1F⟩
  else if op = 0x24 || op = 0x25 then arith [0] 16 false 0
  else if op = 0x26 || op = 0x27 then some ⟨[0], false, false, some 1, w⟩
  else if op = 0x30 || op = 0x31 || op = 0x32 || op = 0x34 || op = 0x36 || op = 0x37 then scalar w
  else if 0x3A ≤ op && op ≤ 0x3C then scalar w
  else if op = 0x33 || op = 0x3F then scalar 0
  else if op = 0x35 then scalar 0xFF
  else if op = 0x40 then some ⟨[0], false, false, some 1, 0xF07⟩
  else if op = 0x41 then arith [0] 1 false 0
  else if op = 0x42 then some ⟨[0], false, false, some 1, 0x1⟩
  else if op = 0x43 then arith [0] 1 false 0x3
  else none

/-- The checks of R236 on the instruction's fields, with the field ranges of R234, R239, R240 and R243 (log entry 13). -/
def VInstr.ok (i : VInstr) : Bool :=
  match vRow i.op with
  | none => false
  | some row =>
    row.types.contains i.ty && (row.pred || !i.pe) && (row.hasB || !i.bs) && (i.imm &&& row.immUsed) == i.imm &&
    (match i.op with
     | 0x0D => fld i.imm 0 3 ≤ 3 && fld i.imm 0 3 != i.ty && (!bitOf i.imm 9 || i.ty == 1 || i.ty == 2)
     | 0x10 => i.d < 8 && fld i.imm 0 3 != 7
     | 0x18 => i.d < 8 && i.a < 8 && i.b < 8
     | 0x19 | 0x26 | 0x27 => decide (i.d < 8)
     | 0x22 | 0x23 => i.d % 2 == 0 && 3 ≤ fld i.imm 8 4 && fld i.imm 8 4 ≤ 9
     | 0x3A | 0x3B | 0x3C => decide (i.imm ≤ 8191)
     | 0x40 => fld i.imm 0 3 != 7 && (fld i.imm 0 3 != 6 || (1 ≤ fld i.imm 8 4 && fld i.imm 8 4 ≤ 8))
     | _ => true)

/-- IMM sign-extended. -/
def VInstr.simm (i : VInstr) : Word64 := (BitVec.ofNat 32 i.imm).signExtend 64

/-! ## Registers -/

/-- The 256 lanes of a tile; a lane not listed is 0. -/
def VectorEngine.tile (v : VectorEngine) (t : Nat) : List Word := (v.tiles.at t ++ List.replicate 256 0).take 256
/-- A tile of zeros is not listed. -/
def VectorEngine.setTile (v : VectorEngine) (t : Nat) (l : List Word) : VectorEngine :=
  { v with tiles := v.tiles.set t (if l.all (· == 0) then [] else l) }
def VectorEngine.pred (v : VectorEngine) (p : Nat) : BitVec 256 := v.preds.at p
def VectorEngine.setPred (v : VectorEngine) (p : Nat) (b : BitVec 256) : VectorEngine := { v with preds := v.preds.set p b }
def VectorEngine.scalar (v : VectorEngine) (n : Nat) : Word64 := v.scalars.at n
def VectorEngine.setScalar (v : VectorEngine) (n : Nat) (x : Word64) : VectorEngine := { v with scalars := v.scalars.set n x }
/-- S[n] bits [31:0]. -/
def VectorEngine.low (v : VectorEngine) (n : Nat) : Word := (v.scalar n).setWidth 32

/-- The governing predicate, lane by lane (R233). -/
def VectorEngine.active (v : VectorEngine) (i : VInstr) : List Bool :=
  if i.pe then (List.range 256).map (fun l => (v.pred i.pr).getLsbD l) else List.replicate 256 true
/-- The B operand lane by lane (R231). -/
def VectorEngine.operandB (v : VectorEngine) (i : VInstr) : List Word :=
  if i.bs then List.replicate 256 (v.low i.b) else v.tile i.b
/-- Bits of a predicate tile. -/
def predOf (bs : List Bool) : BitVec 256 := BitVec.ofNat 256 (packBits 1 (bs.map b2n))

/-- New lanes under predication: inactive lanes are kept or zeroed and raise no flag (R233). -/
def mergeLanes (zm : Bool) (act : List Bool) (old : List Word) (new : List (Flagged Word)) : Flagged (List Word) :=
  let out := (act.zip (old.zip new)).map (fun (p, o, n) => if p then n else (if zm then 0 else o, 0))
  (out.map (·.1), orAll (out.map (·.2)))

/-! ## What an instruction does -/

/-- An instruction's effect: registers, SRAM writes, cause bits, where it goes on, tokens of a re-conversion, a tap
contribution (set, kind, values) and a scale for a recipe. -/
structure VOut where
  v : VectorEngine
  writes : List (Nat × List Byte) := []
  flags : Nat := 0
  jump : Option Nat := none
  more : Nat := 0
  tap : Option (Nat × Nat × List Val) := none
  recipe : Option (Nat × Byte) := none
  /-- the kernel ends (END) -/
  ends : Bool := false

/-! ## Kernel ends (R229, R230) -/

def CoreSt.modVx (x : CoreSt) (f : VectorEngine → VectorEngine) : CoreSt := { x with vx := f x.vx }

/-- The running kernel ends: LAST_FAIL and FAIL_INSTR record a failure, and its counter advances or latches; a
segment's kernel reports to its segment instead (10_parameter R341). -/
def CoreSt.endKernel (x : CoreSt) (r : Running) (cause : Cause) : CoreSt :=
  let x := x.modVx (fun v => { v with
    run := none, ended := v.ended + 1, lastFail := if cause = 0 then v.lastFail else cause, failInstr := if cause = 0 then v.failInstr else r.pc,
    segEnd := if r.kernel.segment then some cause else v.segEnd })
  if r.kernel.segment then x else if cause = 0 then x.advance r.counter r.increment else x.latch r.counter cause

def State.failKernel (s : State) (core : Nat) (r : Running) (cause : Cause) : State :=
  s.modCore core (·.endKernel r cause)

/-- Tokens that the instruction takes (R234, R235). -/
def Running.cost (r : Running) (i : VInstr) (more : Nat) : Nat :=
  match (vRow i.op).bind (·.tokens) with
  | some n => n + more
  | none => if r.took then 0 else 1

/-- Kernel status word (R241). -/
def Running.statusWord (r : Running) : Nat := 2 ^ 63 + r.firstInstr * 2 ^ 32 + r.flags.toNat

/-- An instruction has completed: registers, cause bits, tokens, tap and recipe; then the next instruction, the
kernel's end, or the failure of a kernel that runs past instruction 8 191 (R236). -/
def State.retire (s : State) (core : Nat) (r : Running) (i : VInstr) (o : VOut) : State :=
  let cost := r.cost i o.more
  let f := BitVec.ofNat 7 o.flags
  let r' := { r with pc := o.jump.getD (r.pc + 1), took := 0 < cost, flags := r.flags ||| f,
                     firstInstr := if r.flags = 0 && f ≠ 0 then r.pc else r.firstInstr }
  let s := s.modCore core (fun x =>
    let x := { x with vx := { o.v with run := some r', tokens := o.v.tokens + BitVec.ofNat 64 cost, flagsOr := o.v.flagsOr ||| f } }
    let x := match o.tap with | some (set, kind, vs) => x.tap set kind vs 0 | none => x
    match o.recipe with | some (n, sc) => x.feedRecipe n (some sc) | none => x)
  if o.ends then s.modCore core (·.endKernel { r' with pc := r.pc } 0)
  else if r'.pc > 8191 then s.failKernel core { r' with pc := 8191 } Cause.planReject
  else s

/-- One instruction of the running kernel, if the one at its place has this OP. A reserved OP fails the kernel,
whichever instruction command meets it (log entry 12). -/
def State.vector (s : State) (core op : Nat) (act : State → Running → VInstr → VectorEngine → Res VOut) : State :=
  match (s.core core).vx.run with
  | none => s
  | some r =>
    let i := VInstr.ofNat ((s.core core).kernelRegion.at r.pc).toNat
    if i.op ≠ op then (if (vRow i.op).isNone then s.failKernel core r Cause.planReject else s)
    else if !i.ok then s.failKernel core r Cause.planReject
    else
      match act s r i (s.core core).vx with
      | (s, .error c) => s.failKernel core r c
      | (s, .ok o) =>
        match s.writeWhole o.writes with
        | (s, 0) => s.retire core r i o
        | (s, c) => s.failKernel core r c

/-- An instruction that reads no memory. -/
def State.vectorPure (s : State) (core op : Nat) (act : VInstr → VectorEngine → VOut) : State :=
  s.vector core op (fun s _ i v => (s, .ok (act i v)))

/-- An instruction that writes T[D] lane by lane. -/
def State.vectorLanes (s : State) (core op : Nat) (lanes : VInstr → VectorEngine → List (Flagged Word)) : State :=
  s.vectorPure core op (fun i v =>
    let (l, f) := mergeLanes i.zm (v.active i) (v.tile i.d) (lanes i v)
    { v := v.setTile i.d l, flags := f })

/-! ## Issue and start (R225 to R228, 02_dataflow R675) -/

/-- An argument block: 256 bytes in the core's own SRAM, 64-byte aligned. -/
def State.readArgs (s : State) (core a : Nat) : Res (List Byte) := s.readOwn core a 256 64

def CoreSt.vxFailed (x : CoreSt) (cause : Cause) : CoreSt := x.modVx (fun v => { v with lastFail := cause, ended := v.ended + 1 })

/-- Action of a VECTOR entry. -/
def State.actVector (s : State) (core q : Nat) (e : Entry) : State :=
  match s.readArgs core e.argBlock with
  | (s, .error c) => (s.modCore core (·.vxFailed c)).haltQueue core q c
  | (s, .ok bs) =>
    let w30 := leNat (bs.drop 240)
    let s := s.goNext core q
    if e.kernel > 8191 then s.modCore core (fun x => (x.vxFailed Cause.planReject).latch (fld w30 0 6) Cause.planReject)
    else s.modCore core (·.modVx (fun v =>
      { v with queue := v.queue ++ [{ index := e.kernel, args := sramOff e.argBlock, queue := q, entry := (s.queue core q).pos - 1 }] }))

/-- The item settings of R226 obey it; word 30 is ignored for a segment's kernel. -/
def settingsOk (segment : Bool) (w30 w31 : Nat) : Bool :=
  (segment || (fld w30 32 32 == 0 && fld w30 6 10 == 0 && fld w30 16 16 != 0)) && fld w31 25 38 == 0 && fld w31 0 25 % 8 == 0

/-- Tokens from the issue of the VECTOR entry to its first instruction: at most 16, free (log entry 14). -/
def startTokens (n : Nat) : Nat := Config.startTokens n % 17

/-- The first queued kernel starts. -/
def State.startKernel (s : State) (core : Nat) (k : Kernel) : State :=
  let s := s.modCore core (·.modVx (fun v => { v with queue := v.queue.drop 1 }))
  match s.readArgs core (sramAddr core k.args) with
  | (s, .error c) =>
    if k.segment then s.failKernel core { kernel := k, pc := k.index } c
    else (s.modCore core (·.vxFailed c)).haltQueue core k.queue c
  | (s, .ok bs) =>
    let word (n : Nat) : Nat := leNat ((bs.drop (8 * n)).take 8)
    let r : Running := { kernel := k, pc := k.index, counter := fld (word 30) 0 6, increment := fld (word 30) 16 16,
                         statusEn := bitOf (word 31) 63, statusOff := fld (word 31) 0 25, started := s.now }
    if k.index > 8191 || !settingsOk k.segment (word 30) (word 31) then s.failKernel core r Cause.planReject
    else
      let n := startTokens s.free
      (s.modCore core (·.modVx (fun v => { v with
        run := some r, tiles := [], preds := (List.range 8).map (fun p => (p, BitVec.allOnes 256)),
        scalars := (List.range 32).foldl (fun t n => t.set n (BitVec.ofNat 64 (word n))) [], banks := [],
        tokens := v.tokens + BitVec.ofNat 64 n }))).draw

/-- VECTOR (R225). -/
def execVector (core q : Nat) (s : State) : Out := .next (s.issue core q 2 (fun s e => s.actVector core q e))

/-- KERNEL_START (R226 to R228). -/
def execKernelStart (core : Nat) (s : State) : Out :=
  .next (match (s.core core).vx.run, (s.core core).vx.queue with
    | none, k :: _ => if s.dieRunning (coreDie core) then s.startKernel core k else s
    | _, _ => s)

/-- KERNEL_TIMEOUT (R230). -/
def execKernelTimeout (core : Nat) (s : State) : Out :=
  .next (match (s.core core).vx.run with
    | some r => if decide (r.started + s.waitLimit core r.kernel.queue < s.now) then s.failKernel core r Cause.timeout else s
    | none => s)

/-- VX_TOKENS_LO_READ (R261). -/
def execVxTokensLoRead (core : Nat) (s : State) : Out :=
  .next { s.modCore core (·.modVx (fun v => { v with tokensHi := BitVec.ofNat 32 (v.tokens.toNat / 2 ^ 32) })) with
    bus := (s.core core).vx.tokens.toNat % 2 ^ 32 }

/-- FLAGS_OR_CLEAR (R261). -/
def execFlagsOrClear (core : Nat) (value : Word) (s : State) : Out :=
  .next (s.when s.barUp (·.modCore core (·.modVx (fun v => { v with flagsOr := v.flagsOr &&& ~~~(value.setWidth 7) }))))

end Sys2Proof.Machine
end

