-- ==== Sys2Proof/Machine/Vector.lean ====
section
/-! DEFINITION. The instructions of the vector engine (07_vector R234 to R251). -/

namespace Sys2Proof.Machine

open Sys2Proof

/-! ## Lane instructions -/

/-- An operation on T[A] and B. -/
def State.vector2 (s : State) (core op : Nat) (g : Nat → Word → Word → Flagged Word) : State :=
  s.vectorLanes core op (fun i v => ((v.tile i.a).zip (v.operandB i)).map (fun (a, b) => g i.ty a b))
/-- An operation on T[A]. -/
def State.vector1 (s : State) (core op : Nat) (g : Nat → Word → Flagged Word) : State :=
  s.vectorLanes core op (fun i v => (v.tile i.a).map (g i.ty))
/-- T[D] takes lanes of T[A] from other places. -/
def State.vectorMove (s : State) (core op : Nat) (place : VInstr → Nat → Nat) : State :=
  s.vectorLanes core op (fun i v =>
    let t := v.tile i.a
    (List.range 256).map (fun l => (t.getD (place i l) 0, 0)))

def execVAdd (core : Nat) (s : State) : Out := .next (s.vector2 core 0x01 laneAdd)
def execVSub (core : Nat) (s : State) : Out := .next (s.vector2 core 0x02 laneSub)
def execVMul (core : Nat) (s : State) : Out := .next (s.vector2 core 0x03 laneMul)
/-- FMA: the third operand is T[IMM[4:0]]. -/
def execVFma (core : Nat) (s : State) : Out :=
  .next (s.vectorLanes core 0x04 (fun i v =>
    ((v.tile i.a).zip ((v.operandB i).zip (v.tile (fld i.imm 0 5)))).map (fun (a, b, c) => laneFma i.ty a b c)))
def execVMax (core : Nat) (s : State) : Out := .next (s.vector2 core 0x05 laneMax)
def execVMin (core : Nat) (s : State) : Out := .next (s.vector2 core 0x06 laneMin)
def execVAbs (core : Nat) (s : State) : Out := .next (s.vector1 core 0x07 laneAbs)
def execVNeg (core : Nat) (s : State) : Out := .next (s.vector1 core 0x08 laneNeg)
def execVRcp (core : Nat) (s : State) : Out := .next (s.vector1 core 0x09 (fun _ => laneFn rcpVal))
def execVRsqrt (core : Nat) (s : State) : Out := .next (s.vector1 core 0x0A (fun _ => laneFn rsqrtVal))
def execVExp2 (core : Nat) (s : State) : Out := .next (s.vector1 core 0x0B (fun _ => laneFn exp2Val))
def execVLog2 (core : Nat) (s : State) : Out := .next (s.vector1 core 0x0C (fun _ => laneFn log2Val))

/-- The grain word of logical index `e` in the running segment's step and tensor (10_parameter R344, R345). -/
def State.grain (s : State) (core e : Nat) : Nat :=
  match (s.core core).up.segs with
  | g :: _ => grainWord s.img.seed g.step ((s.img.shards[fld g.desc.toNat 48 12]?).map (·.tid) |>.getD 0) e
  | [] => grainWord s.img.seed 0 0 e

/-- CVT (R239, R240, R345). -/
def execVCvt (core : Nat) (s : State) : Out :=
  .next (s.vector core 0x0D (fun s r i v =>
    let sr := bitOf i.imm 9
    if sr && !r.kernel.segment then (s, .error Cause.planReject)
    else
      let base := (v.scalar 29).toNat
      let word (l odd : Nat) : Option Nat := if sr then some (s.grain core ((base + 2 * l + odd) % 2 ^ 64)) else none
      let new := ((v.tile i.a).zip (v.operandB i)).zipIdx.map (fun ((a, b), l) =>
        laneCvt (fld i.imm 0 3) i.ty (bitOf i.imm 8) (word l 0) (word l 1) a b)
      let (t, f) := mergeLanes i.zm (v.active i) (v.tile i.d) new
      (s, .ok { v := v.setTile i.d t, flags := f })))

/-- CMP. -/
def execVCmp (core : Nat) (s : State) : Out :=
  .next (s.vectorPure core 0x10 (fun i v =>
    let new := ((v.tile i.a).zip (v.operandB i)).map (fun (a, b) => laneCmp i.ty (fld i.imm 0 3) a b)
    let out := ((v.active i).zip new).zipIdx.map (fun ((p, n), l) =>
      if p then n else (if i.zm then false else (v.pred i.d).getLsbD l, 0))
    { v := v.setPred i.d (predOf (out.map (·.1))), flags := orAll (out.map (·.2)) }))

/-- SEL. -/
def execVSel (core : Nat) (s : State) : Out :=
  .next (s.vectorLanes core 0x11 (fun i v =>
    ((v.tile i.a).zip (v.operandB i)).zipIdx.map (fun ((a, b), l) => (if (v.pred (fld i.imm 0 3)).getLsbD l then a else b, 0))))

def execVAnd (core : Nat) (s : State) : Out := .next (s.vector2 core 0x12 (fun _ a b => (a &&& b, 0)))
def execVOr (core : Nat) (s : State) : Out := .next (s.vector2 core 0x13 (fun _ a b => (a ||| b, 0)))
def execVXor (core : Nat) (s : State) : Out := .next (s.vector2 core 0x14 (fun _ a b => (a ^^^ b, 0)))
def execVShl (core : Nat) (s : State) : Out := .next (s.vector2 core 0x15 (fun _ a b => (a <<< (b.toNat % 32), 0)))
def execVShr (core : Nat) (s : State) : Out := .next (s.vector2 core 0x16 (fun _ a b => (a >>> (b.toNat % 32), 0)))
def execVSar (core : Nat) (s : State) : Out := .next (s.vector2 core 0x17 (fun _ a b => (a.sshiftRight (b.toNat % 32), 0)))

/-! ## Predicate tiles -/

/-- PLOG: 0 AND, 1 OR, 2 XOR, 3 AND-NOT. -/
def execVPlog (core : Nat) (s : State) : Out :=
  .next (s.vectorPure core 0x18 (fun i v =>
    let a := v.pred i.a
    let b := v.pred i.b
    { v := v.setPred i.d (match fld i.imm 0 2 with | 0 => a &&& b | 1 => a ||| b | 2 => a ^^^ b | _ => a &&& ~~~b) }))

/-- PSET. -/
def execVPset (core : Nat) (s : State) : Out :=
  .next (s.vectorPure core 0x19 (fun i v =>
    { v := v.setPred i.d (predOf ((List.range 256).map (fun l => l / 16 < fld i.imm 0 5 && l % 16 < fld i.imm 8 5))) }))

/-! ## Moves in tiles -/

def execVTrn (core : Nat) (s : State) : Out := .next (s.vectorMove core 0x1C (fun _ l => 16 * (l % 16) + l / 16))
def execVBrow (core : Nat) (s : State) : Out := .next (s.vectorMove core 0x1D (fun i l => 16 * fld i.imm 0 4 + l % 16))
def execVBcol (core : Nat) (s : State) : Out := .next (s.vectorMove core 0x1E (fun i l => 16 * (l / 16) + fld i.imm 0 4))
def execVIota (core : Nat) (s : State) : Out :=
  .next (s.vectorLanes core 0x1F (fun i v => (List.range 256).map (fun l => (BitVec.ofNat 32 l + v.low i.a, 0))))

/-! ## SRAM (R242 to R245) -/

/-- Byte offsets are formed modulo 2^64. -/
def addr64 (a : Nat) : Nat := a % 2 ^ 64

/-- Bytes of the core's own SRAM: PLAN_REJECT past 32 MiB. -/
def State.kernelRead (s : State) (core off len : Nat) : Res (List Byte) :=
  if off + len ≤ 2 ^ 25 then s.readMem (sramAddr core off) len else (s, .error Cause.planReject)

/-- Reads in order; the first failure stops them. -/
def State.kernelReads (s : State) (core : Nat) : List (Nat × Nat) → Res (List (List Byte))
  | [] => (s, .ok [])
  | (off, len) :: rest =>
    match s.kernelRead core off len with
    | (s, .error c) => (s, .error c)
    | (s, .ok bs) =>
      match s.kernelReads core rest with
      | (s, .error c) => (s, .error c)
      | (s, .ok more) => (s, .ok (bs :: more))

/-- Writes to the core's own SRAM, refused whole when one passes 32 MiB. -/
def storeAll (core : Nat) (v : VectorEngine) (ws : List (Nat × List Byte)) : Except Cause VOut :=
  if ws.all (fun w => w.1 + w.2.length ≤ 2 ^ 25) then .ok { v := v, writes := ws.map (fun w => (sramAddr core w.1, w.2)) }
  else .error Cause.planReject

/-- Byte offset of lane l of a tile row access S[A] + IMM + r × S[B]. -/
def VectorEngine.rowLane (v : VectorEngine) (i : VInstr) (l : Nat) : Nat :=
  addr64 ((v.scalar i.a).toNat + i.imm + l / 16 * (v.scalar i.b).toNat) + 4 * (l % 16)
def VectorEngine.rowAligned (v : VectorEngine) (i : VInstr) : Bool :=
  ((v.scalar i.a).toNat + i.imm) % 64 == 0 && (v.scalar i.b).toNat % 64 == 0

/-- Words read for the active lanes, 0 for the others. -/
def State.laneReads (s : State) (core : Nat) (act : List Bool) (off : Nat → Nat) : Res (List Word) :=
  match s.kernelReads core ((act.zipIdx.filter (·.1)).map (fun p => (off p.2, 4))) with
  | (s, .error c) => (s, .error c)
  | (s, .ok bs) => (s, .ok ((act.foldl (fun (out, rest) p =>
      if p then (BitVec.ofNat 32 (leNat (rest.headD [])) :: out, rest.drop 1) else (0 :: out, rest)) ([], bs)).1.reverse))

/-- The four lanes of a 16-byte word of a tile row have an active one, or are all active. -/
def wordOn (act : List Bool) (g : Nat) : Bool := ((act.drop (4 * g)).take 4).any id
def wordFull (act : List Bool) (g : Nat) : Bool := ((act.drop (4 * g)).take 4).all id

/-- Words of tile rows: each 16-byte word with an active lane is read once (11_memory R364). -/
def State.rowReads (s : State) (core : Nat) (act : List Bool) (off : Nat → Nat) : Res (List Word) :=
  match s.kernelReads core (((List.range 64).filter (wordOn act)).map (fun g => (off (4 * g), 16))) with
  | (s, .error c) => (s, .error c)
  | (s, .ok bs) => (s, .ok ((List.range 64).foldl (fun (out, rest) g =>
      if wordOn act g then (out ++ (unpackBits 32 4 (leNat (rest.headD []))).map (BitVec.ofNat 32), rest.drop 1)
      else (out ++ List.replicate 4 0, rest)) ([], bs)).1)

/-- T[D] takes the words read for its active lanes. -/
def VectorEngine.loaded (v : VectorEngine) (i : VInstr) (ws : List Word) : VOut :=
  { v := v.setTile i.d (mergeLanes i.zm (v.active i) (v.tile i.d) (ws.map (fun w => (w, 0)))).1 }

/-- LD. -/
def execVLd (core : Nat) (s : State) : Out :=
  .next (s.vector core 0x20 (fun s _ i v =>
    if !v.rowAligned i then (s, .error Cause.planReject)
    else
      match s.rowReads core (v.active i) (v.rowLane i) with
      | (s, .error c) => (s, .error c)
      | (s, .ok ws) => (s, .ok (v.loaded i ws))))

/-- Words of the active lanes stored in rising lane order, so that the higher lane of a collision is written (R245). -/
def VectorEngine.stores (v : VectorEngine) (i : VInstr) (off : Nat → Nat) : List (Nat × List Byte) :=
  (((v.active i).zip (v.tile i.d)).zipIdx.filter (·.1.1)).map (fun p => (off p.2, leBytes 4 p.1.2.toNat))

/-- Rows stored: a 16-byte word whose lanes are all active is written whole (11_memory R365), others lane by lane. -/
def VectorEngine.rowStores (v : VectorEngine) (i : VInstr) : List (Nat × List Byte) :=
  let act := v.active i
  let t := v.tile i.d
  let word (l : Nat) : List Byte := leBytes 4 (t.getD l 0).toNat
  (List.range 64).flatMap (fun g =>
    let ls := (List.range 4).map (4 * g + ·)
    if wordFull act g then [(v.rowLane i (4 * g), ls.flatMap word)]
    else (ls.filter (fun l => act.getD l false)).map (fun l => (v.rowLane i l, word l)))

/-- ST: a stride of 0 is refused. -/
def execVSt (core : Nat) (s : State) : Out :=
  .next (s.vector core 0x21 (fun s _ i v =>
    if !v.rowAligned i || v.scalar i.b == 0 then (s, .error Cause.planReject)
    else (s, storeAll core v (v.rowStores i))))

/-- Byte offset named by lane l of T[B]: S[A] + 4 × T[B]. -/
def VectorEngine.gatherLane (v : VectorEngine) (i : VInstr) (l : Nat) : Nat :=
  addr64 ((v.scalar i.a).toNat + 4 * ((v.tile i.b).getD l 0).toNat)

/-- LDG. -/
def execVLdg (core : Nat) (s : State) : Out :=
  .next (s.vector core 0x24 (fun s _ i v =>
    if (v.scalar i.a).toNat % 4 ≠ 0 then (s, .error Cause.planReject)
    else
      match s.laneReads core (v.active i) (v.gatherLane i) with
      | (s, .error c) => (s, .error c)
      | (s, .ok ws) => (s, .ok (v.loaded i ws))))

/-- STG (R245). -/
def execVStg (core : Nat) (s : State) : Out :=
  .next (s.vector core 0x25 (fun s _ i v =>
    if (v.scalar i.a).toNat % 4 ≠ 0 then (s, .error Cause.planReject)
    else (s, storeAll core v (v.stores i (v.gatherLane i)))))

def VectorEngine.immAddr (v : VectorEngine) (i : VInstr) : Nat := addr64 ((v.scalar i.a).toNat + i.imm)

/-- LDP: 32 bytes, aligned to 32. -/
def execVLdp (core : Nat) (s : State) : Out :=
  .next (s.vector core 0x26 (fun s _ i v =>
    if v.immAddr i % 32 ≠ 0 then (s, .error Cause.planReject)
    else
      match s.kernelRead core (v.immAddr i) 32 with
      | (s, .error c) => (s, .error c)
      | (s, .ok bs) => (s, .ok { v := v.setPred i.d (BitVec.ofNat 256 (leNat bs)) })))

/-- STP. -/
def execVStp (core : Nat) (s : State) : Out :=
  .next (s.vector core 0x27 (fun s _ i v =>
    if v.immAddr i % 32 ≠ 0 then (s, .error Cause.planReject)
    else (s, storeAll core v [(v.immAddr i, leBytes 32 (v.pred i.d).toNat)])))

/-! ## Block formats (R243, R244) -/

/-- Byte offsets of row r's elements and scale. -/
def VectorEngine.blockAddr (v : VectorEngine) (i : VInstr) (r : Nat) : Nat × Nat :=
  let sb := (v.scalar i.b).toNat
  (addr64 ((v.scalar i.a).toNat + r * (sb % 2 ^ 32)), addr64 ((v.scalar (fld i.imm 0 5)).toNat + r * (sb / 2 ^ 32)))

/-- LDX. -/
def execVLdx (core : Nat) (s : State) : Out :=
  .next (s.vector core 0x22 (fun s _ i v =>
    let f := fld i.imm 8 4
    let places := (List.range 16).map (v.blockAddr i)
    match s.kernelReads core (places.flatMap (fun p => [(p.1, storeBytes f 32), (p.2, 1)])) with
    | (s, .error c) => (s, .error c)
    | (s, .ok bs) =>
      let rows := (List.range 16).map (fun r =>
        let scale := (bs.getD (2 * r + 1) []).headD 0
        (unpackBits (fmtBits f) 32 (leNat (bs.getD (2 * r) []))).map (fun c => convElem 0 true none (decodeScaled f scale c)))
      let all := rows.flatten
      let half (k : Nat) : List Word := rows.flatMap (fun row => ((row.drop (16 * k)).take 16).map (fun c => BitVec.ofNat 32 c.bits))
      (s, .ok { v := (v.setTile i.d (half 0)).setTile (i.d + 1) (half 1),
                flags := 4 * b2n (all.any (·.exceeded)) + 16 * b2n (all.any (·.vanished)) })))

/-- The 32 values of each row of STX: lanes of T[D], then of T[D + 1]. -/
def VectorEngine.blockRows (v : VectorEngine) (d : Nat) : List (List Val) :=
  ((pieces 16 16 (v.tile d)).zip (pieces 16 16 (v.tile (d + 1)))).map (fun (a, b) => (a ++ b).map fp32)

/-- An infinity is written as NaN: by the format, or with its block (03_formats R113, R114). A finite lane of such a block is not
counted as forming a NaN (DEDUCED, log entry 124). -/
def BlockOut.formsNan (f : Nat) (b : BlockOut) (xs : List Val) : Bool :=
  (xs.zip b.elems).any (fun (x, c) => x.isInf && (b.nan || (decodeElem f c.bits).isNan))

/-- The 16 rows of STX: the values of each row's 32 lanes with their grain words, where SR asks for them (R240). -/
def State.stxRows (s : State) (core : Nat) (i : VInstr) (v : VectorEngine) : List (List Val × List (Option Nat)) :=
  (v.blockRows i.d).zipIdx.map (fun (xs, n) =>
    (xs, (List.range 32).map (fun k =>
      if bitOf i.imm 13 then some (s.grain core (((v.scalar 29).toNat + 32 * n + k) % 2 ^ 64)) else none)))
/-- Rows converted under one scale, or each under its own. -/
def stxConv (f : Nat) (scale : Option Byte) (rows : List (List Val × List (Option Nat))) : List BlockOut :=
  rows.map (fun (xs, rs) => match scale with
    | some sc => convUnder f true sc rs xs
    | none => convComputed f true rs xs)
/-- The new scale of a re-conversion: an element overflows under the recipe's scale by R149, by rounding to nearest, whatever SR says
(R244). -/
def stxNewScale (f : Nat) (recipe : Option Byte) (rows : List (List Val × List (Option Nat))) : Option Byte :=
  if recipe.any (fun sc => rows.any (fun (xs, _) => (convUnder f true sc (xs.map (fun _ => none)) xs).elems.any (·.exceeded)))
  then some (computedScale f (rows.flatMap (·.1))).1 else none
/-- The blocks that STX writes. -/
def stxBlocks (f : Nat) (recipe : Option Byte) (rows : List (List Val × List (Option Nat))) : List BlockOut :=
  stxConv f ((stxNewScale f recipe rows).or recipe) rows
/-- The recipe that STX names, where SCALE is RECIPE. -/
def CoreSt.stxRecipe (x : CoreSt) (i : VInstr) : Option Recipe :=
  if bitOf i.imm 12 then some (x.recipes.at (fld i.imm 16 8)) else none

/-- STX (R244): a recipe of kind NONE is refused (09_training R303). -/
def execVStx (core : Nat) (s : State) : Out :=
  .next (s.vector core 0x23 (fun s r i v =>
    let f := fld i.imm 8 4
    let recipe := (s.core core).stxRecipe i
    if (bitOf i.imm 13 && !r.kernel.segment) || recipe.any (fun x => x.kind == 7) then (s, .error Cause.planReject)
    else
      let rows := s.stxRows core i v
      let fed := stxNewScale f (recipe.map (·.scale)) rows
      let again := fed.isSome
      let blocks := stxBlocks f (recipe.map (·.scale)) rows
      let es := (blocks.filter (fun b => !b.nan)).flatMap (·.elems)
      let flags := b2n ((rows.flatMap (·.1)).any Val.isNan) + 2 * b2n ((rows.zip blocks).any (fun (r, b) => b.formsNan f r.1)) + 4 * b2n (es.any (·.exceeded)) + 8 * b2n (blocks.any (·.nan)) +
        16 * b2n (es.any (·.vanished)) + 32 * b2n again
      let ws := blocks.zipIdx.flatMap (fun (b, n) =>
        let p := v.blockAddr i n
        [(p.1, leBytes (storeBytes f 32) (packBits (fmtBits f) (b.elems.map (·.bits)))), (p.2, [b.scale])])
      (s, (storeAll core v ws).map (fun o =>
        { o with flags := flags, more := if again then 2 else 0, recipe := fed.map (fun sc => (fld i.imm 16 8, sc)) }))))

/-! ## Scalar and control instructions -/

/-- S[D] takes a value. -/
def State.vectorScalar (s : State) (core op : Nat) (g : VInstr → VectorEngine → Word64) : State :=
  s.vectorPure core op (fun i v => { v := v.setScalar i.d (g i v) })

def execVSset (core : Nat) (s : State) : Out := .next (s.vectorScalar core 0x30 (fun i _ => i.simm))
def execVSseth (core : Nat) (s : State) : Out :=
  .next (s.vectorScalar core 0x31 (fun i v => BitVec.ofNat 64 (i.imm * 2 ^ 32 + (v.low i.d).toNat)))
def execVSadd (core : Nat) (s : State) : Out := .next (s.vectorScalar core 0x32 (fun i v => v.scalar i.a + i.simm))
def execVSaddr (core : Nat) (s : State) : Out := .next (s.vectorScalar core 0x33 (fun i v => v.scalar i.a + v.scalar i.b))
def execVSmul (core : Nat) (s : State) : Out := .next (s.vectorScalar core 0x34 (fun i v => v.scalar i.a * i.simm))
def execVSget (core : Nat) (s : State) : Out :=
  .next (s.vectorScalar core 0x35 (fun i v => ((v.tile i.a).getD (fld i.imm 0 8) 0).setWidth 64))

/-- SLD: 8 bytes, aligned to 8. -/
def execVSld (core : Nat) (s : State) : Out :=
  .next (s.vector core 0x36 (fun s _ i v =>
    if v.immAddr i % 8 ≠ 0 then (s, .error Cause.planReject)
    else
      match s.kernelRead core (v.immAddr i) 8 with
      | (s, .error c) => (s, .error c)
      | (s, .ok bs) => (s, .ok { v := v.setScalar i.d (BitVec.ofNat 64 (leNat bs)) })))

/-- SST. -/
def execVSst (core : Nat) (s : State) : Out :=
  .next (s.vector core 0x37 (fun s _ i v =>
    if v.immAddr i % 8 ≠ 0 then (s, .error Cause.planReject)
    else (s, storeAll core v [(v.immAddr i, leBytes 8 (v.scalar i.d).toNat)])))

def execVJmp (core : Nat) (s : State) : Out := .next (s.vectorPure core 0x3A (fun i v => { v := v, jump := some i.imm }))
def execVBnz (core : Nat) (s : State) : Out :=
  .next (s.vectorPure core 0x3B (fun i v => { v := v, jump := if v.scalar i.a = 0 then none else some i.imm }))
def execVLoop (core : Nat) (s : State) : Out :=
  .next (s.vectorPure core 0x3C (fun i v =>
    let n := v.scalar i.a - 1
    { v := v.setScalar i.a n, jump := if n = 0 then none else some i.imm }))

/-- END (R229, R241): the status word, then the kernel ends Done. -/
def execVEnd (core : Nat) (s : State) : Out :=
  .next (s.vector core 0x3F (fun s r _ v =>
    (s, .ok { v := v, ends := true,
              writes := if r.statusEn then [(sramAddr core r.statusOff, leBytes 8 r.statusWord)] else [] })))

/-! ## The reduction unit (R246 to R251) -/

/-- The greater of two pairs: value descending, then index ascending; both values are not NaN. -/
def pairBefore (a b : Word × Word) : Bool :=
  match (fp32 a.1).cmp (fp32 b.1) with
  | .gt => true
  | .lt => false
  | .eq => a.2.toNat < b.2.toNat

/-- A pair takes its place among the k kept. -/
def keepPair (k : Nat) (p : Word × Word) (ps : List (Word × Word)) : List (Word × Word) :=
  (ps.filter (fun q => !pairBefore p q) ++ p :: ps.filter (pairBefore p)).take k

/-- An empty row of an operation (R246). -/
def emptyRow (op : Nat) : BankRow :=
  { acc := if op = 3 then toW36 (.inf true) else if op = 4 then toW36 (.inf false) else 0 }

/-- A value offered to a row of operation `op` (R246, R247). -/
def BankRow.offer (op k : Nat) (row : BankRow) (v index : Word) : Flagged BankRow :=
  let x := fp32 v
  let nan := b2n x.isNan
  let acc := w36 row.acc
  let sum (t : Val) (r : Val) : Flagged BankRow :=
    let c := convElem 10 true none r
    ({ row with acc := BitVec.ofNat 36 c.bits },
      nan + 2 * b2n (acc.addInvalid t) + 4 * b2n c.exceeded)
  match op with
  | 1 => sum x (acc.add x)
  | 2 => sum (x.mul x) (acc.add (x.mul x))
  | 3 => ({ row with acc := toW36 (acc.maximum x) }, nan)
  | 4 => ({ row with acc := toW36 (acc.minimum x) }, nan)
  | _ => if x.isNan then (row, 1) else ({ row with pairs := keepPair k (v, index) row.pairs }, 0)

/-- Values offered in order, each with its index; none is an inactive place. -/
def BankRow.feed (op k : Nat) (row : BankRow) (vs : List (Option (Word × Word))) : Flagged BankRow :=
  vs.foldl (fun (row, f) p => match p with
    | none => (row, f)
    | some (v, n) => let (row, g) := row.offer op k v n; (row, f ||| g)) (row, 0)

/-- RCLR. -/
def execVRclr (core : Nat) (s : State) : Out :=
  .next (s.vectorPure core 0x40 (fun i v =>
    let op := fld i.imm 0 3
    let k := if op = 5 then 1 else if op = 6 then fld i.imm 8 4 else 0
    let bank : Bank := if op = 0 then {} else { op := op, k := k, rows := List.replicate 16 (emptyRow op) }
    { v := { v with banks := v.banks.set (i.d % 4) bank } }))

/-- RFEED (R246): refused into a bank whose operation is NONE. -/
def execVRfeed (core : Nat) (s : State) : Out :=
  .next (s.vector core 0x41 (fun s _ i v =>
    let b := v.banks.at (i.d % 4)
    if b.op = 0 then (s, .error Cause.planReject)
    else
      let lanes := ((v.active i).zip (v.tile i.a)).zipIdx.map (fun ((p, x), l) =>
        if p then some (x, v.low i.b + BitVec.ofNat 32 (l % 16)) else none)
      let rows := (b.rows.zip (pieces 16 16 lanes)).map (fun (row, vs) => row.feed b.op b.k vs)
      (s, .ok { v := { v with banks := v.banks.set (i.d % 4) { b with rows := rows.map (·.1) } }, flags := orAll (rows.map (·.2)) })))

/-- Lanes of one row as RGET reads them (R249). -/
def BankRow.lanes (op k : Nat) (indices : Bool) (row : BankRow) : Flagged (List Word) :=
  if op ≤ 4 then
    let c := convElem 0 true none (w36 row.acc)
    (List.replicate 16 (BitVec.ofNat 32 c.bits), 4 * b2n c.exceeded + 16 * b2n c.vanished)
  else
    ((List.range 16).map (fun j =>
      if k ≤ j then 0
      else match row.pairs[j]? with
        | some p => if indices then p.2 else p.1
        | none => if indices then 0xFFFFFFFF else 0x7FC00000), 0)

/-- RGET (R249). No rule says what a bank of operation NONE reads: free lanes (log entry 15). -/
def execVRget (core : Nat) (s : State) : Out :=
  .next (s.vector core 0x42 (fun s _ i v =>
      let b := v.banks.at (i.a % 4)
      if b.op = 0 then
        (s.draw, .ok { v := v.setTile i.d ((List.range 256).map (Config.bankNone s.free)) })
      else
        let rows := b.rows.map (·.lanes b.op b.k (bitOf i.imm 0))
        (s, .ok { v := v.setTile i.d (rows.flatMap (·.1)), flags := orAll (rows.map (·.2)) })))

/-- RTAP (R251): one contribution, adding 0 to the vanished count. -/
def execVRtap (core : Nat) (s : State) : Out :=
  .next (s.vectorPure core 0x43 (fun i v =>
    let xs := (((v.active i).zip (v.tile i.a)).filter (·.1)).map (fun p => fp32 p.2)
    { v := v, flags := b2n (xs.any Val.isNan), tap := some ((v.scalar i.b).toNat % 256, fld i.imm 0 2, xs) }))

end Sys2Proof.Machine
end

