-- ==== Sys2Proof/Machine/Reduce.lean ====
section
/-! DEFINITION. REDUCE operations of the reduction unit (07_vector R253 to R257). Each is one command: it runs to its end
when its entry issues. -/

namespace Sys2Proof.Machine

open Sys2Proof

/-- A REDUCE descriptor (R253); addresses and strides in bytes. -/
structure RDesc where
  n : Nat
  m : Nat
  aux : Nat
  ldd : Nat
  status : Nat
  dstScale : Nat
  dst : Nat
  init : Nat
  src : Nat
  clear : Bool
  recipe : Nat
  tapSet : Nat
  count : Nat
  increment : Nat
  rowop : Nat
  k : Nat
  fmtIn : Nat
  fmtOut : Nat
  counter : Nat
  tapKind : Nat
  initEn : Bool
  recipeSrc : Bool
  op : Nat
  reservedZero : Bool
  deriving DecidableEq, Repr

def RDesc.ofNat (w : Nat) : RDesc :=
  let u (lo : Nat) := fld w lo 19 * 64
  { n := fld w 240 16, m := fld w 224 16, aux := u 205, ldd := fld w 192 13 * 64, status := u 173, dstScale := u 154,
    dst := u 135, init := u 116, src := u 97, clear := bitOf w 96, recipe := fld w 88 8, tapSet := fld w 80 8,
    count := fld w 64 16, increment := fld w 48 16, rowop := fld w 44 4, k := fld w 40 4, fmtIn := fld w 36 4,
    fmtOut := fld w 32 4, counter := fld w 26 6, tapKind := fld w 24 2, initEn := bitOf w 15, recipeSrc := bitOf w 14,
    op := fld w 0 8, reservedZero := fld w 16 8 == 0 && fld w 8 6 == 0 }

def RDesc.tileCols (d : RDesc) : Nat := (d.n + 63) / 64
def RDesc.tiles (d : RDesc) : Nat := (d.m + 63) / 64 * d.tileCols

/-- Formats SUM takes: FP32, BF16, FP16 and W36. -/
def sumFormat (f : Nat) : Bool := f ≤ 2 || f == 10

/-- The regions of an operation: read, then written. -/
def RDesc.regions (d : RDesc) : Regions × Regions :=
  match d.op with
  | 1 => ((d.src, d.tiles * d.count * 32768) :: (if d.initEn then [(d.init, d.tiles * 32768)] else []),
      (d.dst, (d.m - 1) * d.ldd + (d.n * storeBits d.fmtOut + 7) / 8) ::
        (if isBlock d.fmtOut then [(d.dstScale, d.m * (d.n / 32))] else []) ++ [(d.status, d.tiles * 8)])
  | 2 => ((List.range d.count).map (fun i => (d.src + i * d.aux, storeBytes d.fmtIn (d.m * 256))),
      [(d.dst, storeBytes d.fmtOut (d.m * 256))])
  | 3 => ([(d.src, (d.m - 1) * d.aux + storeBytes d.fmtIn d.n)], [(d.dst, d.m * 64)])
  | _ => ([], [(d.dst, d.count * 64)])

/-- The checks of R256 that each operation's own fields meet. A format code 0xC to 0xF is reserved also in a field that the operation
does not use (03_formats R92). -/
def RDesc.fieldsOk (d : RDesc) : Bool :=
  match d.op with
  | 1 => d.m != 0 && d.n != 0 && d.count != 0 && d.fmtIn == 10 && d.fmtOut ≤ 10 && (!isBlock d.fmtOut || d.n % 32 == 0)
  | 2 => d.m != 0 && 2 ≤ d.count && d.count ≤ 16 && sumFormat d.fmtIn && sumFormat d.fmtOut
  | 3 => d.m != 0 && d.n != 0 && d.n % 16 == 0 && d.fmtIn ≤ 1 && d.fmtOut < 12 && d.rowop ≤ 5 && (d.rowop != 5 || (1 ≤ d.k && d.k ≤ 8))
  | 4 => 1 ≤ d.count && d.tapSet + d.count ≤ 256 && d.fmtIn < 12 && d.fmtOut < 12
  | _ => false

/-- The descriptor passes R256; a TREE that names a recipe of kind NONE is refused (09_training R303). -/
def CoreSt.reduceOk (x : CoreSt) (d : RDesc) : Bool :=
  d.reservedZero && d.increment != 0 && d.fieldsOk && (d.regions.1 ++ d.regions.2).all (fun r => r.1 + r.2 ≤ 2 ^ 25) &&
  d.regions.2.all (fun a => d.regions.1.all (fun b => !overlaps a.1 a.2 b.1 b.2)) &&
  !(d.op == 1 && isBlock d.fmtOut && d.recipeSrc && (x.recipes.at d.recipe).kind == 7)

/-- A REDUCE operation ends (R256, R262). -/
def State.endReduce (s : State) (core : Nat) (d : RDesc) (cause : Cause) : State :=
  (s.modCore core (fun x => { x with rd :=
    { x.rd with ended := x.rd.ended + 1, lastFail := if cause = 0 then x.rd.lastFail else cause } })).endItem
    core d.counter d.increment cause

/-- A REDUCE entry issues; a reserved OP ends Failed whichever command meets it (log entry 12). -/
def State.actReduce (s : State) (core q op : Nat) (act : State → RDesc → State) (e : Entry) : State :=
    match s.readOwn core e.addr 32 1 with
    | (s, .error c) => (s.modCore core (fun x => { x with rd := { x.rd with lastFail := c } })).haltQueue core q c
    | (s, .ok bs) =>
      let d := RDesc.ofNat (leNat bs)
      if d.op ≠ op && 1 ≤ d.op && d.op ≤ 4 then s
      else
        let s := s.goNext core q
        if (s.core core).reduceOk d then act s d else s.endReduce core d Cause.planReject
def State.issueReduce (s : State) (core q op : Nat) (act : State → RDesc → State) : State :=
  s.issue core q 3 (fun s e => s.actReduce core q op act e)

/-- A tap contribution of a REDUCE operation, and its end. -/
def State.finishReduce (s : State) (core : Nat) (d : RDesc) (values : List Val) (vanished : Nat) : State :=
  (s.modCore core (·.tap d.tapSet d.tapKind values vanished)).endReduce core d 0

/-! ## TREE -/

/-- A W36 value read from memory with the cause bits of R254. -/
def treeLeaf (w : Nat) : Acc :=
  let v := w36 (BitVec.ofNat 36 w)
  { value := BitVec.ofNat 36 w, cause := b2n v.isNan + 4 * b2n v.isInf }

def State.leaf (s : State) (core base r c : Nat) : Acc := treeLeaf (s.peekNat (sramAddr core (base + (r * 64 + c) * 8)) 8)

/-- The combined accumulators of tile t (R141 steps 3 and 4). -/
def State.treeTile (s : State) (core : Nat) (d : RDesc) (t rows cols : Nat) : List (List Acc) :=
  (List.range rows).map (fun r => (List.range cols).map (fun c =>
    let sum := treeSum d.count ((List.range d.count).map (fun j => s.leaf core (d.src + (t * d.count + j) * 32768) r c))
    if d.initEn then accAdd (s.leaf core (d.init + t * 32768) r c) sum else sum))

/-- One tile read, combined, converted and written; the state, the failure, and the tiles converted so far. -/
def State.treeStep (core : Nat) (d : RDesc) (st : State × Cause × List TileOut) (t : Nat) : State × Cause × List TileOut :=
  let (s, cause, outs) := st
  if cause ≠ 0 then st
  else
    let tm := t / d.tileCols
    let tn := t % d.tileCols
    match s.readRegions core ((d.src + t * d.count * 32768, d.count * 32768) :: (if d.initEn then [(d.init + t * 32768, 32768)] else [])) with
    | (s, 0) =>
      let recipe := if d.recipeSrc then some ((s.core core).recipes.at d.recipe).scale else none
      let out := outputTile d.fmtOut false recipe (s.treeTile core d t (min 64 (d.m - 64 * tm)) (min 64 (d.n - 64 * tn)))
      match s.writeAll (tileWrites core d.fmtOut d.dst (d.ldd / 64) d.dstScale d.n (64 * tm) (64 * tn) out ++
          [(sramAddr core (d.status + t * 8), leBytes 8 (statusWord out false false false))]) with
      | (s, c) => (s.modCore core (·.feedRecipe d.recipe out.newScale), c, outs ++ [out])
    | (s, c) => (s, c, outs)

/-- The values written by TREE in row-major order of the whole output. -/
def RDesc.treeValues (d : RDesc) (outs : List TileOut) : List Val :=
  (List.range ((d.m + 63) / 64)).flatMap (fun tm =>
    let rows := min 64 (d.m - 64 * tm)
    let cut := (List.range d.tileCols).map (fun tn =>
      pieces (min 64 (d.n - 64 * tn)) rows ((outs.getD (tm * d.tileCols + tn) {}).values))
    (List.range rows).flatMap (fun r => cut.flatMap (fun c => c.getD r [])))

/-- What a TREE operation does. -/
def State.runTree (core : Nat) (s : State) (d : RDesc) : State :=
    match (List.range d.tiles).foldl (State.treeStep core d) (s, 0, []) with
    | (s, 0, outs) => s.finishReduce core d (d.treeValues outs) ((outs.map (·.vanished)).sum)
    | (s, c, _) => s.endReduce core d c
/-- TREE (R254). -/
def execTree (core q : Nat) (s : State) : Out := .next (s.issueReduce core q 1 (State.runTree core))

/-! ## SUM -/

/-- Elements of an array as accumulators. -/
def State.sumInput (s : State) (core : Nat) (d : RDesc) (i : Nat) : List Acc :=
  let n := d.m * 256
  (unpackBits (storeBits d.fmtIn) n (s.peekNat (sramAddr core (d.src + i * d.aux)) (storeBytes d.fmtIn n))).map
    (fun b => { value := toW36 (decodeElem d.fmtIn (b % 2 ^ fmtBits d.fmtIn)) })

/-- The sum of each element over the inputs, by input number. -/
def sumColumns (count : Nat) (inputs : List (List Acc)) : Nat → List Acc
  | 0 => []
  | n + 1 => treeSum count (inputs.map (fun l => l.headD {})) :: sumColumns count (inputs.map (·.drop 1)) n

/-- What a SUM operation does. -/
def State.runSum (core : Nat) (s : State) (d : RDesc) : State :=
    match s.readRegions core d.regions.1 with
    | (s, 0) =>
      let sums := sumColumns d.count ((List.range d.count).map (s.sumInput core d)) (d.m * 256)
      let convs := sums.map (fun a => convElem d.fmtOut false none (w36 a.value))
      match s.writeMem (sramAddr core d.dst) (leBytes (storeBytes d.fmtOut (d.m * 256)) (packBits (storeBits d.fmtOut) (convs.map (·.bits)))) with
      | (s, 0) => s.finishReduce core d (convs.map (fun c => decodeElem d.fmtOut c.bits)) (convs.countP (·.vanished))
      | (s, c) => s.endReduce core d c
    | (s, c) => s.endReduce core d c
/-- SUM (R254, R255): a zero is written +0. -/
def execSum (core q : Nat) (s : State) : Out := .next (s.issueReduce core q 2 (State.runSum core))

/-! ## ROWS -/

/-- The bank operation of a ROWOP. -/
def rowopBank (rowop : Nat) : Nat := rowop + 1

/-- The 64-byte record of one row: values, then indices. -/
def RDesc.rowRecord (d : RDesc) (xs : List Word) : List Byte :=
  let op := rowopBank d.rowop
  let k := if op = 5 then 1 else if op = 6 then d.k else 0
  let row := ((emptyRow op).feed op k (xs.zipIdx.map (fun (x, i) => some (x, BitVec.ofNat 32 i)))).1
  let words (indices : Bool) : List Word :=
    if op ≤ 4 then (if indices then [] else [((row.lanes op k false).1.headD 0)]) else ((row.lanes op k indices).1.take 8)
  let bytes (ws : List Word) : List Byte := fitBytes 32 (ws.flatMap (fun w => leBytes 4 w.toNat))
  bytes (words false) ++ bytes (words true)

/-- What a ROWS operation does. -/
def State.runRows (core : Nat) (s : State) (d : RDesc) : State :=
    match s.readRegions core ((List.range d.m).map (fun r => (d.src + r * d.aux, storeBytes d.fmtIn d.n))) with
    | (s, 0) =>
      let recs := (List.range d.m).map (fun r =>
        d.rowRecord ((unpackBits (fmtBits d.fmtIn) d.n (s.peekNat (sramAddr core (d.src + r * d.aux)) (storeBytes d.fmtIn d.n))).map
          (fun b => toFp32 (decodeElem d.fmtIn b))))
      let (s, c) := s.writeAll (recs.zipIdx.map (fun (bs, r) => (sramAddr core (d.dst + 64 * r), bs)))
      s.endReduce core d c
    | (s, c) => s.endReduce core d c
/-- ROWS (R254). -/
def execRows (core q : Nat) (s : State) : Out := .next (s.issueReduce core q 3 (State.runRows core))

/-! ## TAPREAD -/

/-- The 64-byte record of a tap set. -/
def CoreSt.tapRecord (x : CoreSt) (set : Nat) : List Byte :=
  zeros 16 ++ [1, 2, 3].flatMap (fun k =>
    let t := x.rd.taps.at (4 * set + k)
    leBytes 8 t.sum.toNat ++ leBytes 4 t.vanished.toNat ++ leBytes 4 t.count.toNat)

/-- What a TAPREAD operation does. -/
def State.runTapread (core : Nat) (s : State) (d : RDesc) : State :=
    let sets := (List.range d.count).map (d.tapSet + ·)
    match s.writeAll (sets.zipIdx.map (fun (t, i) => (sramAddr core (d.dst + 64 * i), (s.core core).tapRecord t))) with
    | (s, 0) =>
      (s.when d.clear (fun s => s.modCore core (fun x => { x with rd :=
        { x.rd with taps := x.rd.taps.filter (fun e => !sets.contains (e.1 / 4)) } }))).endReduce core d 0
    | (s, c) => s.endReduce core d c
/-- TAPREAD (R254). -/
def execTapread (core q : Nat) (s : State) : Out := .next (s.issueReduce core q 4 (State.runTapread core))

end Sys2Proof.Machine
end

