-- ==== Sys2Proof/Machine/Fabric.lean ====
section
/-! DEFINITION. Transfers over the torus: sources, paths and epochs at the sending module, open transfers at the
destination (12_torus R424 to R426, R433 to R440; 11_memory R391, R392). -/

namespace Sys2Proof.Machine

open Sys2Proof

def State.modTorus (s : State) (f : Torus → Torus) : State := { s with torus := f s.torus }

/-! ## Open items of a core -/

def State.findXfer (s : State) (core id : Nat) : Option Xfer := (s.core core).xf.open_.find? (fun x => x.id == id)

/-- A new open item; answers its number. -/
def State.openXfer (s : State) (core : Nat) (x : Xfer) : State × Nat :=
  let id := (s.core core).xf.nextId
  (s.modXf core (fun t => { t with open_ := t.open_ ++ [{ x with id := id, started := s.now }], nextId := id + 1 }), id)

/-- Bytes that an open item writes (log entry 82). -/
def State.addXferBytes (s : State) (core id n : Nat) : State :=
  s.modXf core (fun t => { t with open_ := t.open_.map (fun x => if x.id = id then { x with bytes := x.bytes + n } else x) })

/-- Packets of ended transfers that still wait for a port are not sent (08_experts R278; R435). -/
def State.unqueue (s : State) (tags : List Nat) : State :=
  if tags.isEmpty then s
  else s.modTorus (fun t => { t with ports := t.ports.map (fun e =>
    (e.1, { e.2 with waiting := e.2.waiting.filter (fun p => !(p.kind == 1 && p.src == s.img.node && tags.contains p.tag)) })) })

/-- An open item ends: its sources end with it, and its counter advances or latches (R387, 08_experts R278). -/
def State.endOpen (s : State) (core id : Nat) (cause : Cause) : State :=
  match s.findXfer core id with
  | none => s
  | some x =>
    let s := s.when (cause ≠ 0) (fun s => s.unqueue ((s.torus.sources.filter (fun y => y.core == core && y.item == id)).map (·.tag)))
    let s := s.modTorus (fun t => { t with sources := t.sources.filter (fun y => !(y.core == core && y.item == id)) })
    let s := s.modXf core (fun t => { t with open_ := t.open_.filter (fun y => y.id != id),
                                             bytes := if cause = 0 then t.bytes + x.bytes else t.bytes })
    let s := s.when (cause ≠ 0 && (x.kind == .dispatch || x.kind == .combine))
      (fun s => s.modCore core (fun y => { y with rt := { y.rt with lastFail := cause } }))
    s.endXfer core x.counter x.increment cause

/-- A source's transfer has ended well. A remote transfer ends with it; DISPATCH and COMBINE end once all have (their own
commands). -/
def State.sourceDone (s : State) (core id tag : Nat) : State :=
  let s := s.modTorus (fun t => { t with sources := t.sources.filter (fun y => y.tag != tag) })
  let s := s.when (s.findXfer core id).isSome (fun s => s.modXf core (fun t => { t with open_ := t.open_.map (fun x =>
    if x.id = id then { x with outstanding := x.outstanding.erase tag } else x) }))
  match s.findXfer core id with
  | some x => if x.kind == .remote && x.outstanding.isEmpty then s.endOpen core id 0 else s
  | none => s

/-- A source's transfer has failed: its item ends with the cause (R426, R440). A source of no core's item just ends; one that
carries a checkpoint's bytes fails its target's write (14_checkpoint R506). -/
def State.sourceFail (s : State) (y : Source) (cause : Cause) : State :=
  let s := s.when (4096 ≤ y.core) (fun s => { s with ck := { s.ck with targets := s.ck.targets.upd (y.core - 4096) (fun t => { t with lost := cause }) } })
  ((s.unqueue [y.tag]).modTorus (fun t => { t with sources := t.sources.filter (fun z => z.tag != y.tag) })).endOpen y.core y.item cause

/-! ## Paths (R429, R433) -/

def State.modPath (s : State) (dst : Nat) (f : Path → Path) : State := s.modTorus (fun t => { t with paths := t.paths.upd dst f })

/-- The path to a destination, its route chosen when it is first used. -/
def State.knowPath (s : State) (dst : Nat) : State :=
  if (s.torus.paths.at dst).known then s
  else
    let (r, st) := s.routeTo dst
    s.modPath dst (fun p => { p with route := r.byte, state := st, known := true })

/-- Packets on the path's route in its epoch. -/
def State.stamp (s : State) (p : Packet) : Packet :=
  let path := s.torus.paths.at p.dst
  { p with route := path.route, epoch := path.epoch, src := s.img.node }

/-- A packet of the module's own protocol: it waits while the path is held (R434). -/
def State.sendProtocol (s : State) (p : Packet) : State :=
  let s := s.knowPath p.dst
  let path := s.torus.paths.at p.dst
  if path.state = 3 then s
  else if path.held then s.modPath p.dst (fun x => { x with holdQ := x.holdQ ++ [p] })
  else s.forward none (s.stamp p)

/-- A source's packets are sent, unless the path is held or its destination unreachable (R429, R437). -/
def State.sendSource (s : State) (tag : Nat) : State :=
  match s.torus.sources.find? (fun y => y.tag == tag) with
  | none => s
  | some y =>
    let path := s.torus.paths.at y.dst
    if path.state = 3 then s.sourceFail y Cause.linkDown
    else if path.held then s
    else
      let s := s.modTorus (fun t => { t with sources := t.sources.map (fun z =>
        if z.tag = tag then { z with sent := true, epoch := path.epoch, lastSent := s.now } else z) })
      s.each y.packets (fun s p => s.forward none (s.stamp p))

/-- Payload cut into packets of at most 4 096 bytes. -/
def cutPackets (p : Packet) : Nat → Nat → List Byte → List Packet
  | 0, _, _ => []
  | fuel + 1, addr, bs =>
    if bs.isEmpty then []
    else
      let n := min 4096 bs.length
      let units := (n + 31) / 32
      { p with units := units, pad := 32 * units - n, dstAddr := addr, payload := bs.take n } :: cutPackets p fuel (addr + n) (bs.drop n)

/-- WRITE packets of a transfer whose parts are device addresses with bytes. A transfer of no byte is one packet without
payload (08_experts R282). -/
def writePackets (p : Packet) (parts : List (Nat × List Byte)) : List Packet :=
  let total := (parts.map (fun x => x.2.length)).sum
  let ps := parts.flatMap (fun x => cutPackets { p with kind := 1, total := total } (x.2.length / 4096 + 1) x.1 x.2)
  if ps.isEmpty then [{ p with kind := 1, total := 0, dstAddr := (parts.map (·.1)).headD 0 }] else ps

/-- A transfer over the torus for an open item: answers its tag. -/
def State.openSource (s : State) (core item : Nat) (p : Packet) (parts : List (Nat × List Byte)) : State × Nat :=
  let tag := s.torus.nextTag % 2 ^ 24
  let y : Source := { tag := tag, core := core, item := item, dst := p.dst, tc := p.tc,
                      packets := writePackets { p with tag := tag } parts }
  (((s.knowPath p.dst).modTorus (fun t => { t with nextTag := tag + 1, sources := t.sources ++ [y] })), tag)

/-- A transfer that stands for no core's item: it is opened and, unless its path is held, sent at once. -/
def State.startSource (s : State) (core item : Nat) (p : Packet) (parts : List (Nat × List Byte)) : State :=
  let s := s.knowPath p.dst
  let path := s.torus.paths.at p.dst
  let tag := s.torus.nextTag % 2 ^ 24
  let y : Source := { tag := tag, core := core, item := item, dst := p.dst, tc := p.tc, sent := !path.held, epoch := if path.held then 0 else path.epoch,
                      lastSent := s.now, packets := writePackets { p with tag := tag } parts }
  let s := s.modTorus (fun t => { t with nextTag := tag + 1, sources := t.sources ++ [y] })
  if path.held then s else s.each y.packets (fun s p => s.forward none (s.stamp p))

/-! ## Route changes (R431, R433, R434) -/

/-- Classes of a destination with a transfer of an epoch still open. -/
def State.openClasses (s : State) (dst epoch : Nat) : List Nat :=
  ((s.torus.sources.filter (fun y => y.dst == dst && y.sent && y.epoch == epoch)).map (·.tc)).dedup

/-- The hold ends: packets that waited are sent on the new route in the new epoch. -/
def State.releasePath (s : State) (dst : Nat) : State :=
  let q := (s.torus.paths.at dst).holdQ
  let s := s.modPath dst (fun p => { p with held := false, awaiting := [], draining := [], holdQ := [] })
  let s := s.each q State.sendProtocol
  s.each ((s.torus.sources.filter (fun y => y.dst == dst && !y.sent)).map (·.tag)) State.sendSource

/-- The paths to destinations that have a route for the first time are known from now on, in epoch 0 (R433). -/
def State.knowPaths (s : State) : State :=
  s.each (List.range s.nodes) (fun s dst => if (s.torus.paths.at dst).known || (s.routeTo dst).2 = 3 then s else s.knowPath dst)

/-- A path's route is chosen again; a change advances its epoch and starts the drain (R434). -/
def State.reroute (s : State) (dst : Nat) : State :=
  let old := s.torus.paths.at dst
  let (r, st) := s.routeTo dst
  if !old.known || (r.byte = old.route && st = old.state) then s
  else if r.byte = old.route && st ≠ 3 && old.state ≠ 3 then s.modPath dst (fun p => { p with state := st })
  else
    let classes := s.openClasses dst old.epoch
    let s := s.modPath dst (fun p => { p with
      epoch := (p.epoch + 1) % 256, route := r.byte, state := st, held := true, heldAt := if p.held then p.heldAt else s.now,
      awaiting := (p.awaiting ++ classes.map (fun c => (old.epoch, c))).dedup,
      draining := if classes.isEmpty then p.draining else p.draining ++ [old.epoch], oldRoute := old.route })
    let s := s.each classes (fun s tc => s.forward none
      { kind := 4, tc := tc, dst := dst, src := s.img.node, route := old.route, epoch := old.epoch })
    if (s.torus.paths.at dst).awaiting.isEmpty then s.releasePath dst else s

/-- Every known path is chosen again, and those that have their first route become known. -/
def State.rerouteAll (s : State) : State := (s.each (s.torus.paths.map (·.1)) State.reroute).knowPaths

/-- This module's port changed between in service and out of service: a LINK_STATE floods, and routes are chosen again
(R431). -/
def State.portServiceChanged (s : State) (port : Nat) : State :=
  let s := s.modTorus (fun t => { t with ownLinkSeq := t.ownLinkSeq + 1 })
  (s.flood none (.linkState s.img.node port (s.portInService port) s.torus.ownLinkSeq)).rerouteAll

/-! ## The destination (R424, R436, R439) -/

/-- Edge die of a port (R396): 0 headstock, 1 tailstock. -/
def portEdge (port : Nat) : Nat := port / 4

/-- The packet of a kind that may be taken: no packet of its class and channel before it (R414, R416). -/
def firstOf (kind : Nat) : List Packet → List Packet → Option Packet
  | _, [] => none
  | before, p :: rest =>
    if p.kind = kind && before.all (fun q => q.tc != p.tc || q.vc != p.vc) then some p else firstOf kind (p :: before) rest

/-- Epoch e is newer than c (R433). -/
def epochNewer (e c : Nat) : Bool := 1 ≤ (e + 256 - c) % 256 && (e + 256 - c) % 256 ≤ 127

/-- A packet leaves the inbox: its buffer is owed back as credits. -/
def State.popPacket (s : State) (port : Nat) (p : Packet) : State :=
  (s.modPort port (fun x => { x with inbox := x.inbox.erase p, owed := x.owed.upd (4 * p.tc + p.vc) (· + p.cost) })).runPort port

/-- The packet belongs to an epoch older than the newest accepted from its source (R436). EPOCH_ACK and EPOCH_CLOSE name the epoch that
was drained or lost, and LINK_STATE goes from neighbour to neighbour: they belong to none (DEDUCED, log entry 126). -/
def State.olderEpoch (s : State) (p : Packet) : Bool :=
  let seen := s.torus.rxEpoch.at p.src
  !(p.kind == 5 || p.kind == 6 || p.kind == 8) && seen != 0 && epochNewer (seen - 1) p.epoch
/-- The packet's epoch is the newest accepted. -/
def State.noteEpoch (s : State) (p : Packet) : State :=
  if p.kind == 5 || p.kind == 6 || p.kind == 8 then s else s.modTorus (fun t => { t with rxEpoch := t.rxEpoch.set p.src (p.epoch + 1) })

/-- A packet of a kind is taken from a port; one of an epoch older than the newest accepted from its source is discarded
(R436). -/
def State.takePacket (s : State) (port kind : Nat) (f : State → Packet → State) : State :=
  match firstOf kind [] (s.port port).inbox with
  | none => s
  | some p =>
    let s := s.popPacket port p
    if s.olderEpoch p then s.badPacket port else f (s.noteEpoch p) p

/-- A reply on TC0 to the sender of a packet. -/
def State.reply (s : State) (p : Packet) (kind : Nat) (cause : Cause) : State :=
  s.sendProtocol { kind := kind, tc := 0, dst := p.src, tag := p.tag, cause := cause }

/-- Cores that a write to core SRAM touches: the destination and its copies (08_experts R265). -/
def destCores (addr copiesM1 : Nat) : List Nat :=
  if addrSpace addr = 0 then (List.range (copiesM1 + 1)).map (addrCore addr + ·) else []
/-- Addresses that a payload is written to. -/
def destAddrs (addr copiesM1 : Nat) : List Nat :=
  if addrSpace addr = 0 then (destCores addr copiesM1).map (fun c => sramAddr c (sramOff addr)) else [addr]

/-- A write's destination exists: spaces 0x0 to 0x2 (R424). -/
def State.destOk (s : State) (addr copiesM1 len : Nat) : Bool :=
  addrSpace addr ≤ 2 && s.inSpace addr len && (destCores addr copiesM1).all s.coreExists

/-- A bundle has been received by a core (08_experts R287). -/
def State.bundleIn (s : State) (core : Nat) : State :=
  s.modCore core (fun x => { x with rt := { x.rt with bundlesIn := x.rt.bundlesIn + 1 } })

def State.openEntry (s : State) (edge : Nat) (p : Packet) : OpenIn :=
  (s.torus.openIn.find? (fun o => o.edge == edge && o.src == p.src && o.tag == p.tag)).getD
    { edge := edge, src := p.src, tag := p.tag, epoch := p.epoch }
def State.dropEntry (s : State) (o : OpenIn) : State :=
  s.modTorus (fun t => { t with openIn := t.openIn.filter (fun x => !(x.edge == o.edge && x.src == o.src && x.tag == o.tag)) })
def State.putEntry (s : State) (o : OpenIn) : State :=
  (s.dropEntry o).modTorus (fun t => { t with openIn := t.openIn ++ [o] })

/-- A transfer whose every byte is visible: counters, then COMPLETION (R391, R424). -/
def State.completeIn (s : State) (o : OpenIn) (p : Packet) : State :=
  let cores := destCores p.dstAddr p.copiesM1
  let s := s.when p.dctrEn (fun s => s.each cores (fun s c => s.advance c p.dctr p.increment))
  let s := s.when (p.dctrEn && p.tc = 1) (fun s => s.each cores State.bundleIn)
  (s.dropEntry o).reply p 2 0

/-- The transfer fails at its destination: its remaining packets are discarded (R424). -/
def State.failIn (s : State) (o : OpenIn) (p : Packet) (cause : Cause) : State :=
  let o := { o with dead := true, lastAt := s.now }
  ((if p.total ≤ o.got then s.dropEntry o else s.putEntry o)).reply p 2 cause

/-- A WRITE packet at this module. -/
def State.takeWrite (s : State) (edge : Nat) (p : Packet) : State :=
  let o := s.openEntry edge p
  let n := p.data.length
  let o := { o with got := o.got + n, lastAt := s.now }
  if o.dead then (if p.total ≤ o.got then s.dropEntry o else s.putEntry o)
  else if !s.destOk p.dstAddr p.copiesM1 n then s.failIn o p Cause.planReject
  else if (destCores p.dstAddr p.copiesM1).any (fun c => !s.dieRunning (coreDie c)) then
    ((s.dropEntry o).modTorus (fun t => { t with refusedSent := t.refusedSent + 1 })).reply p 3 Cause.targetResetting
  else
    match s.writeAll ((destAddrs p.dstAddr p.copiesM1).map (fun a => (a, p.data))) with
    | (s, 0) => if p.total ≤ o.got then s.completeIn o p else s.putEntry o
    | (s, c) => s.failIn o p c

/-- Room in the open-transfer table of an edge die, or an entry already (R424). -/
def State.entryRoom (s : State) (edge : Nat) (p : Packet) : Bool :=
  s.torus.openIn.any (fun o => o.edge == edge && o.src == p.src && o.tag == p.tag) ||
  (s.torus.openIn.filter (fun o => o.edge == edge && !o.dead)).length < 4096

/-- WRITE (R424, R439). -/
def execWrite (port : Nat) (s : State) : Out :=
  .next (match firstOf 1 [] (s.port port).inbox with
    | some p => if s.entryRoom (portEdge port) p then s.takePacket port 1 (fun s p => s.takeWrite (portEdge port) p) else s
    | none => s)

/-! ## Completions and refusals at the source (R426, R440) -/

def State.sourceOf (s : State) (tag : Nat) : Option Source := s.torus.sources.find? (fun y => y.tag == tag)

/-- COMPLETION (R426): ignored when its item has ended (R436). -/
def execCompletion (port : Nat) (s : State) : Out :=
  .next (s.takePacket port 2 (fun s p =>
    match (s.sourceOf p.tag).filter (fun y => y.dst == p.src && y.sent) with
    | none => s
    | some y => if p.cause = 0 then s.sourceDone y.core y.item y.tag else s.sourceFail y p.cause))

/-- Retry window of a class in ns. -/
def State.retryWindow (s : State) (tc : Nat) : Nat := s.img.retryWindow.getD tc 0

/-- REFUSED (R440): the window counts from the first refusal. -/
def execRefused (port : Nat) (s : State) : Out :=
  .next (s.takePacket port 3 (fun s p =>
    match (s.sourceOf p.tag).filter (fun y => y.dst == p.src && y.sent) with
    | none => s
    | some y =>
      let at0 := y.refusedAt.getD s.now
      if s.now < at0 + s.retryWindow y.tc then
        s.modTorus (fun t => { t with sources := t.sources.map (fun z => if z.tag = y.tag then { z with refusedAt := some at0 } else z) })
      else s.sourceFail y p.cause))

/-- REFUSED_RETRY (R440): the whole transfer from its first byte, 100 µs after the refusal or the last resend. -/
def execRefusedRetry (tag : Nat) (s : State) : Out :=
  .next (match s.sourceOf tag with
    | some y =>
      match y.refusedAt with
      | some t0 =>
        if s.now < t0 + s.retryWindow y.tc && max t0 y.resentAt + 100000 ≤ s.now then
          (s.modTorus (fun t => { t with sources := t.sources.map (fun z => if z.tag = tag then { z with resentAt := s.now } else z) })).sendSource tag
        else s
      | none => s
    | none => s)

/-- RETRY_WINDOW_END (R440). -/
def execRetryWindowEnd (tag : Nat) (s : State) : Out :=
  .next (match s.sourceOf tag with
    | some y => if y.refusedAt.any (fun t0 => t0 + s.retryWindow y.tc ≤ s.now) then s.sourceFail y Cause.targetResetting else s
    | none => s)

/-- A packet of this module's transfer still waits for a port. -/
def State.unsent (s : State) (tag : Nat) : Bool :=
  s.torus.ports.any (fun e => e.2.waiting.any (fun p => p.kind == 1 && p.src == s.img.node && p.tag == tag))

/-- SOURCE_TRANSFER_TIMEOUT (R425): the time counts from the last packet. A transfer within its retry window has been answered. -/
def execSourceTransferTimeout (tag : Nat) (s : State) : Out :=
  .next (match s.sourceOf tag with
    | some y =>
      if y.sent && !s.unsent tag && y.refusedAt.isNone && y.lastSent + s.img.fabricTimeout < s.now then s.sourceFail y Cause.timeout else s
    | none => s)

/-- OPEN_TRANSFER_TIMEOUT (R425). -/
def execOpenTransferTimeout (edge src tag : Nat) (s : State) : Out :=
  .next (match s.torus.openIn.find? (fun o => o.edge == edge && o.src == src && o.tag == tag) with
    | some o => if o.lastAt + s.img.fabricTimeout < s.now then s.dropEntry o else s
    | none => s)

/-! ## Epochs (R434 to R436) -/

/-- EPOCH_END (R434): answered with EPOCH_ACK, whose CAUSE holds the class. It is not held back by this module's own
drain. -/
def execEpochEnd (port : Nat) (s : State) : Out :=
  .next (s.takePacket port 4 (fun s p =>
    let s := s.knowPath p.src
    let path := s.torus.paths.at p.src
    s.forward none { kind := 5, tc := 0, dst := p.src, src := s.img.node, route := path.route, epoch := p.epoch,
                     cause := BitVec.ofNat 8 p.tc }))

/-- EPOCH_ACK (R434): it acknowledges the epoch it names, in the class that CAUSE holds. -/
def execEpochAck (port : Nat) (s : State) : Out :=
  .next (s.takePacket port 5 (fun s p =>
    let path := s.torus.paths.at p.src
    if path.held && path.awaiting.contains (p.epoch, p.cause.toNat) then
      let s := s.modPath p.src (fun x => { x with awaiting := x.awaiting.erase (p.epoch, p.cause.toNat) })
      if (s.torus.paths.at p.src).awaiting.isEmpty then s.releasePath p.src else s
    else s))

/-- EPOCH_CLOSE (R436). -/
def execEpochClose (port : Nat) (s : State) : Out :=
  .next (s.takePacket port 6 (fun s p =>
    s.modTorus (fun t => { t with openIn := t.openIn.filter (fun o => !(o.src == p.src && o.epoch == p.epoch)) })))

/-- DRAIN_LIMIT (R435): every epoch still draining is declared lost. -/
def execDrainLimit (node : Nat) (s : State) : Out :=
  .next (
    let path := s.torus.paths.at node
    if path.held && !path.awaiting.isEmpty && decide (path.heldAt + s.img.drainLimit ≤ s.now) then
      let epochs := path.draining
      let lost := s.torus.sources.filter (fun y => y.dst == node && y.sent && epochs.contains y.epoch)
      let s := s.each lost (fun s y => s.sourceFail y Cause.pathChanged)
      let s := s.modTorus (fun t => { t with epochsLost := t.epochsLost + BitVec.ofNat 32 epochs.length })
      let s := s.each epochs (fun s e => s.forward none
        { kind := 6, tc := 0, dst := node, src := s.img.node, route := path.route, epoch := e })
      s.releasePath node
    else s)

/-- LINK_STATE (R431): forwarded once, applied, and routes chosen again. -/
def execLinkState (arrived node port : Nat) (up : Bool) (seq : Nat) (s : State) : Out :=
  .next (
    let last := s.torus.linkSeq.find? (fun e => e.1 == node && e.2.1 == port)
    if node = s.img.node || last.any (fun e => seq ≤ e.2.2) then s
    else
      let s := s.flood (some arrived) (.linkState node port up seq)
      let s := s.modTorus (fun t => { t with
        linkSeq := t.linkSeq.filter (fun e => !(e.1 == node && e.2.1 == port)) ++ [(node, port, seq)],
        linksDown := t.linksDown.filter (· != (node, port)) ++ (if up then [] else [(node, port)]) })
      s.rerouteAll)

end Sys2Proof.Machine
end

