-- ==== Sys2Proof/Machine/Copy.lean ====
section
/-! DEFINITION. COPY and the pool requests that carry it over CXL (11_memory R382 to R384, R387 to R392; 06_fixed_rate
R191, R205 to R214; 09_training R313). -/

namespace Sys2Proof.Machine

open Sys2Proof

/-! ## Arrays in memory (R389) -/

def up64 (n : Nat) : Nat := (n + 63) / 64 * 64

/-- Bytes of an array of `n` elements with its sidecar; `rate` is that of KFR. -/
def arrayBytes (f rate n : Nat) : Nat :=
  if f = 11 then n / 64 * 8 * rate else if isBlock f then up64 (storeBytes f n) + n / 32 else storeBytes f n

/-- The values of an array. -/
def arrayValues (f n : Nat) (bs : List Byte) : List Val :=
  let codes := unpackBits (storeBits f) n (leNat (bs.take (storeBytes f n)))
  if isBlock f then
    let scales := bs.drop (up64 (storeBytes f n))
    (pieces 32 (n / 32) codes).zip scales |>.flatMap (fun (cs, sc) => cs.map (decodeScaled f sc))
  else codes.map (fun c => decodeElem f (c % 2 ^ fmtBits f))

/-- Values converted into an array that is not KFR: element bytes, and sidecar bytes. -/
def convArray (f : Nat) (xs : List Val) : List Byte × List Byte :=
  let pack (codes : List Nat) : List Byte := leBytes (storeBytes f codes.length) (packBits (storeBits f) codes)
  if isBlock f then
    let blocks := (pieces 32 (xs.length / 32) xs).map (fun b => convComputed f true (b.map (fun _ => none)) b)
    (pack (blocks.flatMap (fun b => b.elems.map (·.bits))), blocks.map (·.scale))
  else (pack (xs.map (fun x => (convElem f true none x).bits)), [])

/-- Writes of an array at an address. -/
def arrayWrites (a f : Nat) (out : List Byte × List Byte) : List (Nat × List Byte) :=
  (a, out.1) :: (if isBlock f then [(a + up64 out.1.length, out.2)] else [])

/-! ## The descriptor's checks (R389, R390; 12_torus R415, R421) -/

/-- The transfer leaves the module. -/
def XDesc.remote (d : XDesc) (s : State) : Bool := d.node != 0xFFFF && d.node != s.img.node

/-- Rate of the blocks that a KFR source holds, by the header of its first block: that of the table in the slot which the header
names (06_fixed_rate R212, R220). -/
def State.rateOf (s : State) (core : Nat) (d : XDesc) (header : Nat) : Option Nat :=
  (((s.core core).xp.slots.at (4 * (d.xp - 1) + (KfrHeader.ofNat header).slot)).table).map (·.rate)
/-- That rate for a source within the module, whose header can be read at issue. -/
def State.sourceRate (s : State) (core : Nat) (d : XDesc) : Option Nat := s.rateOf core d (s.peekNat d.src 4)

/-- A decoding COPY from the pool: its rate is known once its first line has arrived. -/
def XDesc.poolDecode (d : XDesc) : Bool := d.srcFmt == 11 && d.dstFmt != 11 && addrSpace d.src == 3

/-- Rate of the compressor slot that a KFR destination names. -/
def State.destRate (s : State) (core : Nat) (d : XDesc) : Option Nat :=
  (((s.cluster core).slots.at d.cslot).table).map (·.rate)

/-- Source and destination bytes of a COPY: none where a KFR slot is empty. Of a source whose rate is not known yet, the first
line. -/
def State.copyLens (s : State) (core : Nat) (d : XDesc) : Option (Nat × Nat) :=
  if d.srcFmt = d.dstFmt then some (64 * d.len, 64 * d.len)
  else if d.poolDecode then some (64, arrayBytes d.dstFmt 0 d.len)
  else
    match (if d.srcFmt = 11 then s.sourceRate core d else some 0), (if d.dstFmt = 11 then s.destRate core d else some 0) with
    | some rs, some rd => some (arrayBytes d.srcFmt rs d.len, arrayBytes d.dstFmt rd d.len)
    | _, _ => none

/-- A core's region of the gate area (09_training R313): offset in headstock SRAM and length. -/
def State.gateRegion (s : State) (core : Nat) : Option (Nat × Nat) :=
  let list := s.coreList.filter (fun c => (s.coreCfg c).gateFirst.isSome)
  if list.contains core then some (0x1000000 + list.idxOf core * s.img.gateSets * 64, s.img.gateSets * 64) else none

/-- A plan transfer of `core` may write the region at this module. -/
def State.destRegionOk (s : State) (core a len : Nat) : Bool :=
  s.planRegion true a len && (!inGateArea a len || s.gateRegion core == some (addrOff a, len))

/-- Formats, lengths and the KFR rules of R389. -/
def XDesc.formatsOk (d : XDesc) (s : State) (core : Nat) : Bool :=
  d.srcFmt ≤ 11 && d.dstFmt ≤ 11 && d.len != 0 &&
  (if d.srcFmt = d.dstFmt then d.xp == 0
   else
    d.len % 32 == 0 && (!(d.srcFmt == 11 || d.dstFmt == 11) || d.len % 64 == 0) &&
    (if d.srcFmt = 11 then (d.xp == 1 || d.xp == 2) && !d.remote s && addrSpace d.dst == 0 && addrCore d.dst == core && isBlock d.dstFmt
     else d.xp == 0)) &&
  (!(d.dstFmt == 11 && d.srcFmt != 11) || d.remote s || addrSpace d.dst != 0 || coreCluster (addrCore d.dst) != coreCluster core)

/-- Fields that every data transfer shares. -/
def XDesc.commonOk (d : XDesc) (s : State) : Bool :=
  d.reservedZero && d.xp != 3 && d.increment != 0 &&
  (if d.remote s then d.node < s.nodes && d.tc != 0 else d.tc == 0)

/-- COPY passes R389 and R390. A COPY that names W36 to another module or to headstock SRAM is accepted, though 03_formats R93 lists
core SRAM and tiers alone: no rule says that it fails (DESIGN CHOICE, log entry 121). The spaces of another module are taken to be as large as this module's
(log entry 122). -/
def State.copyOk (s : State) (core : Nat) (d : XDesc) : Bool :=
  d.commonOk s && d.formatsOk s core && d.src % 64 == 0 && d.dst % 64 == 0 &&
  (!d.errEn || (d.dstFmt == 11 && d.srcFmt != 11 && d.aux * 64 + 4 * d.len ≤ 2 ^ 25)) && (!d.dctrEn || addrSpace d.dst == 0) &&
  s.planRegion false d.src 1 &&
  (match s.copyLens core d with
   | none => false
   | some (ns, nd) =>
     s.planRegion false d.src ns &&
     (if d.remote s then addrSpace d.dst ≤ 2 && s.planRegion true d.dst nd
      else s.destRegionOk core d.dst nd && !overlaps d.src ns d.dst nd))

/-! ## Conversion -/

/-- What a COPY writes: its state after the codecs' counters, the writes, error values, and a failure after them. -/
structure Produced where
  state : State
  writes : List (Nat × List Byte)
  errors : List Byte := []
  cause : Cause := 0

/-- Encoding by the cluster compressor (06_fixed_rate R205 to R209). The tokens that the transfer waits for it are a free value
(R210, log entry 123). -/
def State.encodeCopy (s : State) (core : Nat) (d : XDesc) (t : Table) (xs : List Val) : Produced :=
  let encs := (pieces 64 (d.len / 64) xs).map (fun g => (g, kfrEncode t d.cslot g))
  { state := (s.modCluster core (fun k => { k with
      wait := k.wait + Config.compressorWait s.free, blocks := k.blocks + BitVec.ofNat 32 encs.length, rough := k.rough + BitVec.ofNat 32 (encs.countP (·.2.rough)),
      nan := k.nan + BitVec.ofNat 32 (encs.countP (·.2.nan)) })).draw,
    writes := [(d.dst, encs.flatMap (·.2.bytes))],
    errors := encs.flatMap (fun e => (e.1.zip e.2.decoded).flatMap (fun (x, y) => leBytes 4 (toFp32 (x.sub y)).toNat)) }

/-- KFR blocks decoded through a core's expander A (0) or B (1), up to the first block that fails by R212: each is checked against the
table of its own slot, and the rough ones are counted (R214, R221). -/
def State.expand (s : State) (core port fmt rate : Nat) (blocks : List (List Byte)) : State × List KfrOut :=
  let table (b : List Byte) : Option Table := ((s.core core).xp.slots.at (4 * port + (KfrHeader.ofNat (blockNat b)).slot)).table
  let good := blocks.takeWhile (fun b => kfrCheck (table b) (KfrHeader.ofNat (blockNat b)) fmt (some rate))
  let outs := good.filterMap (fun b => (table b).map (fun t => kfrDecode t b))
  (s.modCore core (fun x => { x with xp := { x.xp with
    rough := x.xp.rough.upd port (· + BitVec.ofNat 32 (outs.countP (·.rough))) } }), outs)

/-- Decoding through an expander (06_fixed_rate R211, R214): blocks before a failing one are written. -/
def State.decodeCopy (s : State) (core : Nat) (d : XDesc) (rate : Nat) (bs : List Byte) : Produced :=
  let blocks := pieces (8 * rate) (d.len / 64) bs
  let (t, outs) := s.expand core (d.xp - 1) d.dstFmt rate blocks
  let n := storeBytes d.dstFmt 64
  { state := t,
    writes := [(d.dst, outs.flatMap (fun o => leBytes n (packBits (fmtBits d.dstFmt) (o.codes.map (·.toNat))))),
               (d.dst + up64 (storeBytes d.dstFmt d.len), outs.flatMap (fun o => [o.scale0, o.scale1]))],
    cause := if outs.length = blocks.length then 0 else Cause.planReject }

/-- What a COPY of the bytes read writes. -/
def State.produce (s : State) (core : Nat) (d : XDesc) (bs : List Byte) : Produced :=
  if d.srcFmt = d.dstFmt then { state := s, writes := [(d.dst, bs)] }
  else if d.dstFmt = 11 then
    match ((s.cluster core).slots.at d.cslot).table with
    | some t => s.encodeCopy core d t (arrayValues d.srcFmt d.len bs)
    | none => { state := s, writes := [], cause := Cause.planReject }
  else if d.srcFmt = 11 then
    match s.rateOf core d (leNat (bs.take 4)) with
    | some r => s.decodeCopy core d r bs
    | none => { state := s, writes := [], cause := Cause.planReject }
  else { state := s, writes := arrayWrites d.dst d.dstFmt (convArray d.dstFmt (arrayValues d.srcFmt d.len bs)) }

/-! ## Pool requests (R382 to R384) -/

/-- A pool region touches an entry marked UNBOUND (R383). -/
def State.poolBlocked (s : State) (a len : Nat) : Bool :=
  addrSpace a == 3 && (((s.poolEntries (addrOff a) len).getD []).any (fun e => bitOf s.tiers.poolUnbound e) || !s.host.cxlUp)

def poolLines (a len : Nat) : List Nat := (List.range ((len + 63) / 64)).map (fun i => a + 64 * i)

/-- An open item's pool requests: reads of lines, or writes of bytes. -/
def State.poolRequest (s : State) (core id : Nat) (lines : List Nat) (writes : List (Nat × List Byte)) (writing : Bool) : State :=
  let tag := s.tiers.poolTag
  (s.modTiers (fun t => { t with poolTag := tag + 1 })).modXf core (fun t => { t with open_ := t.open_.map (fun x =>
    if x.id = id then { x with outstanding := lines, got := writes, writing := writing, tag := tag, started := s.now } else x) })

/-- Bytes cut into pool lines. -/
def poolCut : Nat → Nat → List Byte → List (Nat × List Byte)
  | 0, _, _ => []
  | n + 1, a, bs => if bs.isEmpty then [] else (a, bs.take 64) :: poolCut n (a + 64) (bs.drop 64)

/-! ## Ends of a COPY -/

/-- A transfer within the module has made its bytes visible: DCTR, then COUNTER (R391); a landed gate-area region is
counted (09_training R313). -/
def State.finishLocal (s : State) (core id : Nat) (d : XDesc) : State :=
  let s := s.when d.dctrEn (fun s => s.advance (addrCore d.dst) d.dctr d.increment)
  let s := s.when (inGateArea d.dst 1) (fun s => { s with gate := { s.gate with landed := s.gate.landed.upd core (· + 1) } })
  s.endOpen core id 0

/-- The destination's die is in reset (12_torus R440). -/
def State.destResetting (s : State) (a : Nat) : Bool := addrSpace a == 0 && !s.dieRunning (coreDie (addrCore a))

/-- The error region is written in the issuing core's SRAM (06_fixed_rate R209). -/
def State.writeErrors (s : State) (core : Nat) (d : XDesc) (bs : List Byte) : State × Cause :=
  if d.errEn then s.writeMem (sramAddr core (64 * d.aux)) bs else (s, 0)

/-- A COPY whose source bytes have been read. -/
def State.copyOut (s : State) (core id : Nat) (d : XDesc) (bs : List Byte) : State :=
  let p := s.produce core d bs
  let n := (p.writes.map (fun w => w.2.length)).sum
  let s := p.state.addXferBytes core id n
  match s.writeErrors core d p.errors with
  | (s, 0) =>
    if d.remote s then
      let (s, tag) := s.openSource core id { tc := d.tc, dst := d.node, dctrEn := d.dctrEn, dctr := d.dctr, increment := d.increment } p.writes
      (s.modXf core (fun t => { t with open_ := t.open_.map (fun x => if x.id = id then { x with kind := .remote, outstanding := [tag] } else x) })).sendSource tag
    else if addrSpace d.dst = 3 then
      if s.poolBlocked d.dst n then s.endOpen core id Cause.linkDown
      else
        let ws := p.writes.flatMap (fun w => poolCut ((w.2.length + 63) / 64) w.1 w.2)
        s.poolRequest core id (ws.map (·.1)) ws true
    else if s.destResetting d.dst then s.endOpen core id Cause.targetResetting
    else
      match s.writeAll p.writes with
      | (s, 0) => if p.cause = 0 then s.finishLocal core id d else s.endOpen core id p.cause
      | (s, c) => s.endOpen core id c
  | (s, c) => s.endOpen core id c

/-- Action of a COPY entry. -/
def State.actCopy (s : State) (core q w : Nat) : State :=
  let d := XDesc.ofNat w
  if !s.copyOk core d then s.endXfer core d.counter d.increment Cause.planReject
  else
    let (s, id) := s.openXfer core {
      kind := if addrSpace d.src = 3 || addrSpace d.dst = 3 then .pool else .remote, op := 1, queue := q, entry := (s.queue core q).pos - 1, counter := d.counter, increment := d.increment, desc := BitVec.ofNat 256 w }
    let n := ((s.copyLens core d).map (·.1)).getD 0
    if !d.remote s && (s.destResetting d.dst || s.destResetting d.src) then s.endOpen core id Cause.targetResetting
    else if s.destResetting d.src then s.endOpen core id Cause.targetResetting
    else if s.poolBlocked d.src n then s.endOpen core id Cause.linkDown
    else if addrSpace d.src = 3 then s.poolRequest core id (poolLines d.src n) [] false
    else
      match s.readMem d.src n with
      | (s, .error c) => s.endOpen core id c
      | (s, .ok bs) => s.copyOut core id d bs

/-- COPY (R389). -/
def execCopy (core q : Nat) (s : State) : Out := .next (s.issueXfer core q 0x01 (fun s w => s.actCopy core q w))

end Sys2Proof.Machine
end

