-- ==== Sys2Proof/Machine/Shards.lean ====
section
/-! DEFINITION. Shards: layout of the record, the commit record, holds (10_parameter_state_and_update R325 to R336,
R357, R358, R360). -/

namespace Sys2Proof.Machine

open Sys2Proof

def State.shardCfg (s : State) (n : Nat) : Option ShardCfg := s.img.shards[n]?
def State.shardSt (s : State) (n : Nat) : ShardSt := s.commit.shards.at n
def State.modCommit (s : State) (f : CommitUnit → CommitUnit) : State := { s with commit := f s.commit }
def State.modShard (s : State) (n : Nat) (f : ShardSt → ShardSt) : State :=
  s.modCommit (fun u => { u with shards := u.shards.upd n f })
/-- Shard numbers of the image. -/
def State.shardList (s : State) : List Nat := List.range s.img.shards.length

/-! ## Layout (R327, R328) -/

end Sys2Proof.Machine

namespace Sys2Proof
open Machine

/-- Elements N of the box. -/
def ShardCfg.count (d : ShardCfg) : Nat := (d.boxExt.take d.rank).prod
def ShardCfg.momSize (d : ShardCfg) : Nat := if d.momBf16 then 2 else 4
/-- Bytes per element of the slot's arrays: M, SH, then the moments. -/
def ShardCfg.sizes (d : ShardCfg) : List Nat := [2, 1] ++ List.replicate d.moments d.momSize
/-- Offset of array k of a slot. -/
def ShardCfg.arrayOff (d : ShardCfg) (k : Nat) : Nat := ((d.sizes.take k).map (fun b => up64 (b * d.count))).sum
/-- Bytes of a slot. -/
def ShardCfg.slotSize (d : ShardCfg) : Nat := d.arrayOff d.sizes.length

end Sys2Proof

namespace Sys2Proof.Machine

/-- Row-major number of box coordinates, and of tensor coordinates (R327). -/
def rowMajor : List Nat → List Nat → Nat
  | c :: cs, d :: ds => c + d * rowMajor cs ds
  | _, _ => 0
/-- Box coordinates of an element, DIM0 first. -/
def unRow : Nat → List Nat → List Nat
  | _, [] => []
  | i, e :: es => i % e :: unRow (i / e) es
end Sys2Proof.Machine

namespace Sys2Proof
open Machine

/-- Logical index of element i (R327). -/
def ShardCfg.logical (d : ShardCfg) (i : Nat) : Nat :=
  rowMajor ((unRow i (d.boxExt.take d.rank)).zipWith (· + ·) d.boxStart) d.dims

/-- Address of a slot. -/
def ShardCfg.slotAddr (d : ShardCfg) (slot : Nat) : Nat := d.slotBase.getD slot 0
/-- Input and output halves of a POOL shard's window (R351). -/
def ShardCfg.inputHalf (d : ShardCfg) : Nat := d.windowBase
def ShardCfg.outputHalf (d : ShardCfg) : Nat := d.windowBase + d.slotSize
/-- Where segments read the committed slot and write the target (R351). -/
def ShardCfg.readBase (d : ShardCfg) (slot : Nat) : Nat := if d.pool then d.inputHalf else d.slotAddr slot
def ShardCfg.writeBase (d : ShardCfg) (slot : Nat) : Nat := if d.pool then d.outputHalf else d.slotAddr slot
/-- Where the committed slot's bytes are read between updates: a POOL shard's window holds them, the input half while it is
STAGED, else the output half of its last commit (log entry 72). -/
def ShardCfg.heldBase (d : ShardCfg) (staged : Bool) (slot : Nat) : Nat :=
  if d.pool then (if staged then d.inputHalf else d.outputHalf) else d.slotAddr slot

/-! ## CRC-64/ECMA-182 (R357) and the digest (R358) -/

end Sys2Proof

namespace Sys2Proof.Machine

def crc64Bit (c : Word64) : Word64 := if c.getLsbD 63 then (c <<< 1) ^^^ 0x42F0E1EBA9EA3693 else c <<< 1
def crc64Byte (c : Word64) (b : Byte) : Word64 :=
  let c := c ^^^ (b.setWidth 64 <<< 56)
  crc64Bit (crc64Bit (crc64Bit (crc64Bit (crc64Bit (crc64Bit (crc64Bit (crc64Bit c)))))))
def crc64 (bs : List Byte) : Word64 := bs.foldl crc64Byte 0

end Sys2Proof.Machine

namespace Sys2Proof
open Machine

/-- The digest over a slot's arrays (R358). -/
def ShardCfg.digest (d : ShardCfg) (step count : Nat) (arrays : List (List Byte)) : Word64 :=
  crc64 (leBytes 4 d.tid ++ zeros 4 ++ leBytes 8 step ++ leBytes 8 count ++ leBytes 8 d.count ++ arrays.flatten)

/-- The arrays of slot bytes, without the padding between them. -/
def ShardCfg.arrays (d : ShardCfg) (slot : List Byte) : List (List Byte) :=
  d.sizes.zipIdx.map (fun (b, k) => (slot.drop (d.arrayOff k)).take (b * d.count))

/-! ## The commit record (R333, R334) -/

end Sys2Proof

namespace Sys2Proof.Machine

/-- A commit record's fields. -/
structure CommitRec where
  seq : Nat
  version : Nat
  step : Nat
  count : Nat
  tid : Nat
  slot : Nat
  deriving DecidableEq, Repr

/-- The 64 bytes: bytes 0 to 55, then CHECK over them. -/
def CommitRec.bytes (r : CommitRec) : List Byte :=
  let body := leBytes 8 r.seq ++ leBytes 8 r.version ++ leBytes 8 r.step ++ leBytes 8 r.count ++ leBytes 4 r.tid ++ leBytes 20 r.slot
  body ++ leBytes 8 (crc64 body).toNat

/-- A copy that is valid for a TID. -/
def CommitRec.parse (tid : Nat) (bs : List Byte) : Option CommitRec :=
  let w := leNat bs
  if crc64 (bs.take 56) = BitVec.ofNat 64 (fld w 448 64) && fld w 256 32 = tid then
    some { seq := fld w 0 64, version := fld w 64 64, step := fld w 128 64, count := fld w 192 64, tid := tid, slot := fld w 288 2 }
  else none

/-- The current commit: the valid copy with the larger SEQ (R334). A copy that cannot be read is not valid. -/
def State.readCommit (s : State) (d : ShardCfg) : State × Option CommitRec :=
  let get (s : State) (i : Nat) : State × Option CommitRec :=
    match s.readMem (d.commitBase + 64 * i) 64 with
    | (s, .ok bs) => (s, CommitRec.parse d.tid bs)
    | (s, .error _) => (s, none)
  let (s, a) := get s 0
  let (s, b) := get s 1
  (s, match a, b with
    | some x, some y => if x.seq < y.seq then some y else some x
    | some x, none => some x
    | none, y => y)

/-- The commit unit takes a shard's state from its commit record pair: at job start and after resets (R334). -/
def State.loadShard (s : State) (n : Nat) : State :=
  match s.shardCfg n with
  | none => s
  | some d =>
    match s.readCommit d with
    | (s, none) => s.modShard n (fun x => { x with hasState := false })
    | (s, some r) => s.modShard n (fun x =>
        { x with hasState := true, slot := r.slot, seq := r.seq, version := r.version, step := r.step, count := r.count,
                 slotVersion := x.slotVersion.filter (fun v => v.1 != r.slot) ++ [(r.slot, r.version)] })

/-- A commit is written: the copy that the new SEQ selects, and the commit unit's view (R334, R347). -/
def State.writeCommit (s : State) (n : Nat) (d : ShardCfg) (r : CommitRec) : State × Cause :=
  match s.writeMem (d.commitBase + 64 * (r.seq % 2)) r.bytes with
  | (s, 0) =>
    (s.modShard n (fun x =>
      { x with hasState := true, slot := r.slot, seq := r.seq, version := r.version, step := r.step, count := r.count,
               slotVersion := x.slotVersion.filter (fun v => v.1 != r.slot) ++ [(r.slot, r.version)] }), 0)
  | (s, c) => (s, c)

/-- The target slot (R336): the slot not committed whose last commit is oldest; never committed is oldest, ties to the
lower number. -/
def ShardSt.pickTarget (x : ShardSt) (nslot : Nat) : Nat :=
  let age (k : Nat) : Nat := ((x.slotVersion.find? (fun v => v.1 == k)).map (fun v => v.2 + 1)).getD 0
  let free := (List.range nslot).filter (fun k => !(x.hasState && k == x.slot))
  free.foldl (fun best k => if age k < age best then k else best) (free.headD 0)

/-! ## Holds (R335) -/

/-- Holders: who placed a hold. -/
def holdStage : Nat := 0
def holdDigest : Nat := 1
def holdExport : Nat := 2
def holdRound : Nat := 3
def holdCk (core item : Nat) : Nat := 4 + core + 1024 * item

def ShardSt.holdsOn (x : ShardSt) (slot : Nat) : List SlotHold := x.holds.filter (fun h => h.slot == slot)
/-- The slot takes another hold: at most 15. -/
def ShardSt.canHold (x : ShardSt) (slot : Nat) : Bool := (x.holdsOn slot).length < 15
/-- Elements below `n` are released in the slot. -/
def ShardSt.released (x : ShardSt) (slot n : Nat) : Bool := (x.holdsOn slot).all (fun h => n ≤ h.mark)
def State.addHold (s : State) (n slot holder : Nat) (mark : Nat := 0) : State :=
  s.modShard n (fun x => { x with holds := x.holds ++ [{ slot := slot, holder := holder, mark := mark }] })
/-- A reader has gone past the elements below a mark. -/
def State.raiseHold (s : State) (n holder mark : Nat) : State :=
  s.modShard n (fun x => { x with holds := x.holds.map (fun h => if h.holder = holder then { h with mark := max h.mark mark } else h) })
def State.dropHold (s : State) (n holder : Nat) : State :=
  s.modShard n (fun x => { x with holds := x.holds.filter (fun h => h.holder != holder) })

/-! ## Shard exports (R360) -/

end Sys2Proof.Machine

namespace Sys2Proof
open Machine

/-- Elements of a slot at `base` of which no array's bytes lie in the lines still missing. -/
def ShardCfg.readUpTo (d : ShardCfg) (base : Nat) (missing : List Nat) : Nat :=
  d.sizes.zipIdx.foldl (fun m (b, k) => missing.foldl (fun m l =>
    if base + d.arrayOff k ≤ l && l < base + d.arrayOff k + up64 (b * d.count) then min m ((l - base - d.arrayOff k) / b) else m) m) d.count

def ShardCfg.exportHeader (d : ShardCfg) (flags step version count park : Nat) (digest : Word64) : List Byte :=
  let four (xs : List Nat) : List Byte := (List.range 4).flatMap (fun i => leBytes 4 (xs.getD i 0))
  leBytes 2 1 ++ leBytes 2 flags ++ leBytes 4 d.tid ++ leBytes 1 d.rank ++
    leBytes 1 (d.moments + 4 * b2n d.momBf16 + 8 * d.omFmt) ++ zeros 6 ++ four d.dims ++ four d.boxStart ++ four d.boxExt ++
    leBytes 8 step ++ leBytes 8 version ++ leBytes 8 count ++ leBytes 8 park ++ leBytes 8 digest.toNat ++ zeros 152

end Sys2Proof

namespace Sys2Proof.Machine

end Sys2Proof.Machine
end

