-- ==== Sys2Proof/Machine/Memory.lean ====
section
/-! DEFINITION. STAGE and WRITEBACK, pool completions, scrubs and channels (11_memory R366, R375 to R384, R393, R394). -/

namespace Sys2Proof.Machine

open Sys2Proof

/-! ## STAGE and WRITEBACK (R393; 10_parameter R351) -/

/-- Descriptor fields of STAGE and WRITEBACK: SRC, DST and LEN are 0, and what belongs to other transfers is unused
(log entry 16); a reserved format code is refused (03_formats R92). -/
def XDesc.shardOpOk (d : XDesc) (s : State) : Bool :=
  d.commonOk s && !d.remote s && d.src == 0 && d.dst == 0 && d.len == 0 && d.xp == 0 && !d.errEn && !d.dctrEn &&
  d.srcFmt < 12 && d.dstFmt < 12

/-- An open item over a shard's pool slot. -/
def State.openShardXfer (s : State) (core q w : Nat) (d : XDesc) (kind : XferKind) (bytes : Nat) : State × Nat :=
  s.openXfer core { kind := kind, op := d.op, queue := q, entry := (s.queue core q).pos - 1, counter := d.counter,
                    increment := d.increment, desc := BitVec.ofNat 256 w, shard := d.shard, bytes := bytes }

/-- Action of a STAGE entry. -/
def State.actStage (s : State) (core q w : Nat) : State :=
  let d := XDesc.ofNat w
  let x := s.shardSt d.shard
  match s.shardCfg d.shard with
  | some c =>
    if d.shardOpOk s && c.pool && !x.staged && x.hasState then
      let (s, id) := s.openShardXfer core q w d .stage c.slotSize
      if s.poolBlocked (c.slotAddr x.slot) c.slotSize then s.endOpen core id Cause.linkDown
      else (s.addHold d.shard x.slot holdStage).poolRequest core id (poolLines (c.slotAddr x.slot) c.slotSize) [] false
    else s.endXfer core d.counter d.increment Cause.planReject
  | none => s.endXfer core d.counter d.increment Cause.planReject

/-- A STAGE whose slot takes its hold acts; otherwise nothing happens. -/
def State.holdStageEntry (s : State) (core q : Nat) (t : State) (w : Nat) : State :=
  let x := s.shardSt (XDesc.ofNat w).shard
  if x.canHold x.slot then t.actStage core q w else s

/-- STAGE (R393). A hold that the slot cannot take yet keeps the entry at the head (10_parameter R335). -/
def execStage (core q : Nat) (s : State) : Out :=
  .next (s.issueXfer core q 0x02 (s.holdStageEntry core q))

/-- The target slot of the step whose segments have all reported. -/
def ShardSt.writebackSlot (x : ShardSt) (d : ShardCfg) : Option Nat :=
  if x.reports = d.segCount || x.outerReports = d.segCount then x.target.map (·.1) else none

/-- Action of a WRITEBACK entry. -/
def State.actWriteback (s : State) (core q w : Nat) : State :=
  let d := XDesc.ofNat w
  match s.shardCfg d.shard with
  | some c =>
    match (s.shardSt d.shard).writebackSlot c with
    | some slot =>
      if d.shardOpOk s && c.pool then
        let (s, id) := s.openShardXfer core q w d .writeback c.slotSize
        if s.poolBlocked (c.slotAddr slot) c.slotSize then s.endOpen core id Cause.linkDown
        else
          match s.readMem c.outputHalf c.slotSize with
          | (s, .error cause) => s.endOpen core id cause
          | (s, .ok bs) =>
            let ws := poolCut ((bs.length + 63) / 64) (c.slotAddr slot) bs
            s.poolRequest core id (ws.map (·.1)) ws true
      else s.endXfer core d.counter d.increment Cause.planReject
    | none => s.endXfer core d.counter d.increment Cause.planReject
  | none => s.endXfer core d.counter d.increment Cause.planReject

/-- WRITEBACK (R393). -/
def execWriteback (core q : Nat) (s : State) : Out := .next (s.issueXfer core q 0x03 (fun s w => s.actWriteback core q w))

/-! ## Pool completions (R382 to R384) -/

/-- The open item that waits for a pool tag, with its core. -/
def State.poolItem (s : State) (tag : Nat) : Option (Nat × Xfer) :=
  s.cores.findSome? (fun c => (c.2.xf.open_.find? (fun x => x.tag == tag && !x.outstanding.isEmpty &&
    (x.kind == .pool || x.kind == .stage || x.kind == .writeback))).map (fun x => (c.1, x)))

/-- A STAGE item's hold goes with it. -/
def State.endPool (s : State) (core : Nat) (x : Xfer) (cause : Cause) : State :=
  (s.when (x.kind == .stage) (fun s => s.dropHold x.shard holdStage)).endOpen core x.id cause

/-- Bytes received, in address order, cut to the region. -/
def gotBytes (base n : Nat) (got : List (Nat × List Byte)) : List Byte :=
  ((poolLines base n).flatMap (fun l => fitBytes 64 (((got.find? (fun g => g.1 == l)).map (·.2)).getD []))).take n

/-- The first line of a decoding COPY has arrived: its rate gives the region, whose other lines are requested (06_fixed_rate
R220); once all are here, the bytes are decoded. -/
def State.decodeWhole (s : State) (core : Nat) (x : Xfer) (d : XDesc) : State :=
  match s.rateOf core d (leNat ((gotBytes d.src 64 x.got).take 4)) with
  | none => s.endOpen core x.id Cause.planReject
  | some r =>
    let n := arrayBytes 11 r d.len
    let missing := (poolLines d.src n).filter (fun l => !x.got.any (fun g => g.1 == l))
    if !s.planRegion false d.src n then s.endOpen core x.id Cause.planReject
    else if missing.isEmpty then s.copyOut core x.id d (gotBytes d.src n x.got)
    else if s.poolBlocked d.src n then s.endOpen core x.id Cause.linkDown
    else s.poolRequest core x.id missing x.got false

/-- Every line of a request is complete: the transfer goes on. -/
def State.poolWhole (s : State) (core : Nat) (x : Xfer) : State :=
  let d := XDesc.ofNat x.desc.toNat
  match x.kind with
  | .stage =>
    match s.shardCfg x.shard with
    | none => s.endPool core x Cause.planReject
    | some c =>
      match s.writeMem c.inputHalf (gotBytes (c.slotAddr (s.shardSt x.shard).slot) c.slotSize x.got) with
      | (s, 0) => (s.modShard x.shard (fun y => { y with staged := true })).endPool core x 0
      | (s, cause) => s.endPool core x cause
  | .writeback => (s.modShard x.shard (fun y => { y with written := true })).endPool core x 0
  | _ =>
    if x.writing then s.finishLocal core x.id d
    else if d.poolDecode then s.decodeWhole core x d
    else s.copyOut core x.id d (gotBytes d.src (((s.copyLens core d).map (·.1)).getD 0) x.got)

/-- The window entry of an address is marked UNBOUND. -/
def State.markUnbound (s : State) (entry : Nat) : State :=
  s.modTiers (fun t => { t with poolUnbound := t.poolUnbound ||| 2 ^ entry })

/-- POOL_COMPLETION (R384): one line's request ends. -/
def execPoolCompletion (tag line : Nat) (status : PoolStatus) (bytes : List Byte) (s : State) : Out :=
  .next (match s.poolItem tag with
    | none => s
    | some (core, x) =>
      if !x.outstanding.contains line then s
      else match status with
        | .poisoned => s.endPool core x Cause.memUncorrectable
        | .unsupported =>
          (match s.poolEntry (addrOff line) with
           | some e => s.markUnbound e
           | none => s).endPool core x Cause.planReject
        | .success =>
          let x := { x with outstanding := x.outstanding.erase line,
                            got := if x.writing then x.got else x.got ++ [(line, bytes)] }
          let s := s.modXf core (fun t => { t with open_ := t.open_.map (fun y => if y.id = x.id then x else y) })
          let s := match x.kind, s.shardCfg x.shard with
            | .stage, some c => s.raiseHold x.shard holdStage (c.readUpTo (c.slotAddr (s.shardSt x.shard).slot) x.outstanding)
            | _, _ => s
          if x.outstanding.isEmpty then s.poolWhole core x else s)

/-- POOL_TIMEOUT (R384). -/
def execPoolTimeout (tag : Nat) (s : State) : Out :=
  .next (match s.poolItem tag with
    | some (core, x) =>
      if x.started + s.img.poolTimeout < s.now then
        (s.modTiers (fun t => { t with poolTimeouts := t.poolTimeouts + 1 })).endPool core x Cause.timeout
      else s
    | none => s)

/-- The CXL link is down: every pool request ends (R384). -/
def State.endPools (s : State) (cause : Cause) : State :=
  s.each (s.cores.flatMap (fun c => (c.2.xf.open_.filter (fun x => !x.outstanding.isEmpty &&
      (x.kind == .pool || x.kind == .stage || x.kind == .writeback))).map (fun x => (c.1, x))))
    (fun s e => s.endPool e.1 e.2 cause)

/-! ## Scrubs (R366, R375, R380) -/

/-- SRAM_SCRUB of the word that holds an address (R366). -/
def execSramScrub (addr : Nat) (s : State) : Out :=
  .next (
    let w := addr / 16
    match s.tiers.wordErrs.at w with
    | .none => s
    | .single => (s.countWords addr 1 0 addr).modTiers (fun t => { t with wordErrs := t.wordErrs.erase w })
    | .double => (s.countWords addr 0 1 addr).event 0x0020 Cause.sramUncorrectable (addrCore addr) 0 (16 * w))

/-- PATROL_SCRUB of the line that holds an address (R375). The last line of the far tier ends a pass (log entry 17). -/
def execPatrolScrub (addr : Nat) (s : State) : Out :=
  .next (
    let line := addr / 64
    let e := s.tiers.lineErrs.at line
    let s :=
      if e.isEmpty || s.channelFailed (64 * line) 64 then s
      else match lineDecode e with
        | none => s.tierUe line
        | some c => (s.when (!c.isEmpty) (·.countCe (s.channelOf (64 * line)).1)).storeLine line e c
    if line = (farAddr (8 * s.farSlice)) / 64 - 1 then s.modTiers (fun t => { t with scrubPasses := t.scrubPasses + 1 }) else s)

/-! ## Channels (R377, R378) -/

def State.modChannel (s : State) (n : Nat) (f : Channel → Channel) : State :=
  if n < 96 then s.modTiers (fun t => { t with channels := t.channels.upd n f }) else s

/-- STROBE_STEP (R377): accesses wait and nothing fails. -/
def execStrobeStep (channel : Nat) (s : State) : Out :=
  .next (s.modChannel channel (fun c => if c.state = 1 then { c with strobes := c.strobes + 1 } else c))

/-- CHANNEL_RETRAIN (R377): a full retrain ends. -/
def execChannelRetrain (channel : Nat) (ok : Bool) (s : State) : Out :=
  .next (
    if (s.tiers.channels.at channel).state ≠ 2 then s
    else if ok then s.modChannel channel (fun c => { c with state := 1, recent := [] })
    else (s.modChannel channel (fun c => { c with state := 3 })).event 0x0020 Cause.memUncorrectable channel 0 0)

/-- REFRESH (R378): accesses to the bank wait and nothing fails. -/
def execRefresh (channel _bank : Nat) (s : State) : Out :=
  .next (s.modChannel channel (fun c => { c with refreshes := c.refreshes + 1 }))

/-- UE_ADDR_LO_READ (R394). -/
def execUeAddrLoRead (s : State) : Out :=
  .next { s.modTiers (fun t => { t with ueHi := t.ueAddr / 2 ^ 32 }) with bus := s.tiers.ueAddr % 2 ^ 32 }

end Sys2Proof.Machine
end

