-- ==== Sys2Proof/Machine/Experts.lean ====
section
/-! DEFINITION. DISPATCH and COMBINE (08_experts_and_sparsity R263 to R287). -/

namespace Sys2Proof.Machine

open Sys2Proof

/-! ## Layouts -/

/-- Home table entry (R264). -/
structure Home where
  recv : Nat
  counter : Nat
  cores : Nat
  core : Nat
  xpos : Nat
  reservedZero : Bool

def Home.ofNat (w : Nat) : Home :=
  { recv := fld w 28 19 * 64, counter := fld w 22 6, cores := fld w 18 4 + 1, core := fld w 8 10, xpos := fld w 0 8,
    reservedZero := fld w 47 17 == 0 }

/-- Dispatch route parameter block (R269). -/
structure DBlock where
  zmap : Nat
  load : Nat
  home : Nat
  route : Nat
  row : Nat
  rowBytes : Nat
  stride : Nat
  kb : Nat
  layer : Nat
  mb : Nat
  tokens : Nat
  experts : Nat
  cap : Nat
  xsize : Nat
  xpos : Nat
  zmapEn : Bool
  loadEn : Bool
  replay : Bool
  k : Nat
  reservedZero : Bool

def DBlock.ofNat (w : Nat) : DBlock :=
  { zmap := fld w 236 19 * 64, load := fld w 217 19 * 64, home := fld w 198 19 * 64, route := fld w 179 19 * 64,
    row := fld w 160 19 * 64, rowBytes := fld w 141 13 * 64, stride := fld w 128 13 * 64, kb := fld w 112 16,
    layer := fld w 96 16, mb := fld w 80 16, tokens := fld w 64 16, experts := fld w 48 16, cap := fld w 24 11,
    xsize := fld w 16 8, xpos := fld w 8 8, zmapEn := bitOf w 6, loadEn := bitOf w 5, replay := bitOf w 4, k := fld w 0 4,
    reservedZero := fld w 255 257 == 0 && fld w 154 6 == 0 && fld w 35 13 == 0 && !bitOf w 7 }

/-- Route entry (R268). -/
structure REntry where
  gate : Nat
  state : Nat
  rank : Nat
  reserved : Nat
  expert : Nat

def REntry.ofNat (w : Nat) : REntry :=
  { gate := fld w 32 32, state := fld w 24 8, rank := fld w 20 4, reserved := fld w 16 4, expert := fld w 0 16 }
def REntry.toNat (e : REntry) : Nat := e.gate <<< 32 + e.state <<< 24 + e.rank <<< 20 + e.reserved <<< 16 + e.expert

/-- Words of `n` bytes. -/
def wordsOf (n : Nat) (bs : List Byte) : List Nat := (pieces n (bs.length / n) bs).map leNat

/-! ## The receive region (R274) -/

/-- Offsets from RECV: tags, zero maps and rows. -/
structure Region where
  xsize : Nat
  cap : Nat
  zb : Nat
  rowBytes : Nat

def Region.tagB (g : Region) : Nat := (4 * g.cap + 63) / 64 * 64
def Region.header (_ : Region) (src : Nat) : Nat := 64 * src
def Region.tags (g : Region) (src : Nat) : Nat := 64 * g.xsize + g.tagB * src
def Region.maps (g : Region) (src : Nat) : Nat := 64 * g.xsize + g.tagB * g.xsize + g.zb * g.cap * src
def Region.rows (g : Region) (src : Nat) : Nat := g.maps g.xsize + src * g.cap * g.rowBytes
/-- Bytes of the whole region. -/
def Region.size (g : Region) : Nat := g.rows g.xsize

def DBlock.region (b : DBlock) : Region :=
  { xsize := b.xsize, cap := b.cap, zb := if b.zmapEn then (b.kb + 511) / 512 * 64 else 0, rowBytes := b.rowBytes }

/-! ## Rows as sent (R270) -/

/-- Blocks of 32 elements in a row of a format, where R270 allows the row: KFR at the rate of `rate`, BF16 or FP16. -/
def rowBlocks (dstFmt rowBytes : Nat) (rate : Option Nat) : Option Nat :=
  match dstFmt, rate with
  | 11, some r => if 4 * r ≠ 0 && rowBytes % (4 * r) = 0 && rowBytes / (4 * r) % 2 = 0 then some (rowBytes / (4 * r)) else none
  | 1, _ => some (rowBytes / 64)
  | 2, _ => some (rowBytes / 64)
  | _, _ => none

/-- A row is converted and sent as KFR, BF16 or FP16. KFR rows that are KFR already are sent unchanged. -/
def State.rowOut (s : State) (core : Nat) (d : XDesc) (n : Nat) (bs : List Byte) : State × List Byte :=
  let p := s.produce core { d with len := n, dst := 0, node := 0xFFFF } bs
  (p.state, (p.writes.headD (0, [])).2)

/-- Source bytes of a row of n elements. -/
def rowIn (d : XDesc) (n rowBytes : Nat) : Nat := if d.srcFmt = d.dstFmt then rowBytes else arrayBytes d.srcFmt 0 n

/-- The rate that KFR rows have: that of the compressor slot. -/
def State.rowRate (s : State) (core : Nat) (d : XDesc) : Option Nat := s.destRate core d

/-- Fields that DISPATCH and COMBINE share (log entry 19). -/
def XDesc.expertOk (d : XDesc) : Bool :=
  d.reservedZero && d.xp == 0 && d.increment != 0 && !d.errEn && !d.dctrEn && (d.srcFmt ≤ 10 || (d.srcFmt == 11 && d.dstFmt == 11))

/-! ## DISPATCH checks (R271) -/

def DBlock.fieldsOk (b : DBlock) : Bool :=
  b.reservedZero && b.tokens != 0 && 1 ≤ b.experts && b.experts ≤ 4096 && 1 ≤ b.cap && b.cap ≤ 1024 && 1 ≤ b.xsize &&
  b.xsize ≤ 64 && b.xpos < b.xsize && 1 ≤ b.k && b.k ≤ 8

def DBlock.formatOk (b : DBlock) (s : State) (core : Nat) (d : XDesc) : Bool :=
  rowBlocks d.dstFmt b.rowBytes (s.rowRate core d) == some b.kb && b.kb != 0

def DBlock.regionsOk (b : DBlock) (d : XDesc) : Bool :=
  let inside (a n : Nat) : Bool := a + n ≤ 2 ^ 25
  inside b.home (8 * b.experts) && inside b.route (8 * b.tokens * b.k) &&
  inside b.row ((b.tokens - 1) * b.stride + rowIn d (32 * b.kb) b.rowBytes) &&
  (!b.loadEn || inside b.load (8 * b.experts)) && (!b.zmapEn || inside b.zmap (b.tokens * b.region.zb))

def DBlock.homeOk (b : DBlock) (s : State) (h : Home) : Bool :=
  h.reservedZero && h.xpos < b.xsize && (List.range h.cores).all (fun i => s.coreExists (h.core + i)) &&
  h.recv + b.region.size ≤ 2 ^ 25

def DBlock.entryOk (b : DBlock) (e : REntry) (j : Nat) : Bool :=
  e.rank == j && e.reserved == 0 && (e.expert < b.experts || e.expert == 0xFFFF) && (if b.replay then e.state != 0 else e.state == 0)

/-- Every entry of every token; no token names an expert twice. -/
def DBlock.routeOk (b : DBlock) (es : List REntry) : Bool :=
  es.zipIdx.all (fun (e, i) => b.entryOk e (i % b.k)) &&
  (pieces b.k b.tokens es).all (fun row => ((row.map (·.expert)).filter (· != 0xFFFF)).Nodup)

/-! ## The scan (R272, R273) -/

/-- One entry of the scan. -/
def DBlock.scanOne (b : DBlock) (es : Array REntry) (a : Array REntry × Array (List Nat)) (i : Nat) : Array REntry × Array (List Nat) :=
  match es[i]? with
  | none => a
  | some e =>
    if b.replay then
      if e.state = 1 then (a.1, a.2.modify e.expert (· ++ [i])) else a
    else if e.expert = 0xFFFF then (a.1.setIfInBounds i { e with state := 3 }, a.2)
    else if (a.2.getD e.expert []).length < b.cap then
      (a.1.setIfInBounds i { e with state := 1 }, a.2.modify e.expert (· ++ [i]))
    else (a.1.setIfInBounds i { e with state := 2 }, a.2)

/-- Rank-major order: entries after the scan, and the tags of each expert's slots in order. -/
def DBlock.scan (b : DBlock) (es : List REntry) : Array REntry × Array (List Nat) :=
  let order := (List.range b.k).flatMap (fun j => (List.range b.tokens).map (fun t => t * b.k + j))
  order.foldl (b.scanOne es.toArray) (es.toArray, Array.replicate b.experts [])

/-- A count as a value. -/
def natVal (n : Nat) : Val := .fin false n 0

/-- Load array entry: requests and admissions as FP32 (R286). -/
def loadWord (req adm : Nat) : Nat :=
  (toFp32 (natVal req)).toNat + (toFp32 (natVal adm)).toNat <<< 32

/-- Counters of a scan with REPLAY 0 (R287). -/
def Routing.count (r : Routing) (k : Nat) (es : List REntry) : Routing :=
  let n (f : REntry → Bool) : Word := BitVec.ofNat 32 (es.countP f)
  { r with requested := r.requested + n (·.expert != 0xFFFF), admitted := r.admitted + n (·.state == 1),
           dropped := r.dropped + n (·.state == 2), noneCount := r.noneCount + n (·.expert == 0xFFFF),
           unserved := r.unserved + BitVec.ofNat 32
             ((pieces k (es.length / k) es).countP (fun row => row.all (·.state != 1))) }

/-! ## Bundles (R274 to R277) -/

/-- A bundle header (R275). -/
def bundleHeader (layer mb expert source count : Nat) (replay : Bool) : List Byte :=
  leBytes 64 (count + source <<< 32 + b2n replay <<< 40 + expert <<< 48 + mb <<< 64 + layer <<< 80)

/-- Node at an X position. -/
def State.nodeAtX (s : State) (x : Nat) : Nat := s.withCoord s.img.node 1 x

/-- A bundle made visible within the module: its parts in every destination core, then the counters (R265, R276). One that fails is
not written (R278), and one whose part leaves the core's SRAM is an access that R10 refuses. -/
def State.localBundle (s : State) (cores : List Nat) (counter : Nat) (parts : List (Nat × List Byte)) : State × Cause :=
  if cores.any (fun c => !s.coreExists c || parts.any (fun p => 2 ^ 25 < p.1 + p.2.length)) then (s, Cause.planReject)
  else if cores.any (fun c => !s.dieRunning (coreDie c)) then (s, Cause.targetResetting)
  else
    match s.writeWhole (cores.flatMap (fun c => parts.map (fun p => (sramAddr c p.1, p.2)))) with
    | (s, 0) => (s.each cores (fun s c => (s.advance c counter 1).bundleIn c), 0)
    | (s, c) => (s, c)

/-- A bundle to a module: own bundles cross the bed only; others are TC1 transfers of the open item. -/
def State.sendBundle (s : State) (core id : Nat) (own : Bool) (x first n counter : Nat) (parts : List (Nat × List Byte)) : State :=
  let s := s.addXferBytes core id (n * (parts.map (fun p => p.2.length)).sum)
  if (s.findXfer core id).isNone then s
  else if own then
    match s.localBundle ((List.range n).map (first + ·)) counter parts with
    | (s, 0) => s
    | (s, c) => s.endOpen core id c
  else
    let (s, tag) := s.openSource core id
      { tc := 1, dst := s.nodeAtX x, dctrEn := true, dctr := counter, increment := 1, copiesM1 := n - 1 }
      (parts.map (fun p => (sramAddr first p.1, p.2)))
    (s.modXf core (fun t => { t with open_ := t.open_.map (fun y =>
      if y.id = id then { y with outstanding := y.outstanding ++ [tag] } else y) })).sendSource tag

/-- Regions of the core's SRAM read in order; stops at a read that fails. -/
def State.readParts (s : State) (core : Nat) : List (Nat × Nat) → Res (List (List Byte))
  | [] => (s, .ok [])
  | (a, n) :: rest =>
    match s.readMem (sramAddr core a) n with
    | (s, .error c) => (s, .error c)
    | (s, .ok bs) =>
      match s.readParts core rest with
      | (s, .error c) => (s, .error c)
      | (s, .ok outs) => (s, .ok (bs :: outs))

/-- Rows of tags read, converted and laid out; stops at a read that fails. -/
def State.gatherRows (s : State) (core : Nat) (d : XDesc) (n rowBytes : Nat) : List Nat → Res (List (List Byte))
  | [] => (s, .ok [])
  | a :: rest =>
    match s.readMem (sramAddr core a) (rowIn d n rowBytes) with
    | (s, .error c) => (s, .error c)
    | (s, .ok bs) =>
      let (s, out) := s.rowOut core d n bs
      match s.gatherRows core d n rowBytes rest with
      | (s, .error c) => (s, .error c)
      | (s, .ok outs) => (s, .ok (out :: outs))

/-- The bundle of one expert. -/
def State.dispatchOne (core id : Nat) (d : XDesc) (b : DBlock) (s : State) (e : Home × List Nat × Nat) : State :=
  let (h, tags, expert) := e
  if (s.findXfer core id).isNone then s
  else
    let g := b.region
    match s.gatherRows core d (32 * b.kb) b.rowBytes (tags.map (fun t => b.row + t / b.k * b.stride)) with
    | (s, .error c) => s.endOpen core id c
    | (s, .ok rows) =>
      match s.readParts core (if b.zmapEn then tags.map (fun t => (b.zmap + t / b.k * g.zb, g.zb)) else []) with
      | (s, .error c) => s.endOpen core id c
      | (s, .ok maps) =>
        let parts :=
          [(h.recv + g.header b.xpos, bundleHeader b.layer b.mb expert b.xpos tags.length b.replay),
           (h.recv + g.tags b.xpos, tags.flatMap (leBytes 4)),
           (h.recv + g.maps b.xpos, maps.flatten),
           (h.recv + g.rows b.xpos, rows.flatten)]
        s.sendBundle core id (h.xpos == b.xpos) h.xpos h.core h.cores h.counter parts

/-- A DISPATCH whose block, home table and route list have been read. -/
def State.dispatchGo (s : State) (core id : Nat) (d : XDesc) (b : DBlock) (homes : List Home) (es : List REntry) : State :=
  let (after, slots) := b.scan es
  let out := after.toList
  let writes := (if b.replay then [] else [(sramAddr core b.route, out.flatMap (fun e => leBytes 8 e.toNat))]) ++
    (if b.loadEn && !b.replay then [(sramAddr core b.load, (List.range b.experts).flatMap (fun e =>
      leBytes 8 (loadWord (es.countP (·.expert == e)) (slots.getD e []).length)))] else [])
  match s.writeAll writes with
  | (s, 0) =>
    let s := if b.replay then s else s.modCore core (fun x => { x with rt := x.rt.count b.k out })
    (homes.zipIdx.map (fun (h, e) => (h, slots.getD e [], e))).foldl (State.dispatchOne core id d b) s
  | (s, c) => s.endOpen core id c

/-- A failure of DISPATCH or COMBINE before its item is open. -/
def State.expertFail (s : State) (core : Nat) (d : XDesc) (cause : Cause) : State :=
  (s.modCore core (fun y => { y with rt := { y.rt with lastFail := cause } })).endXfer core d.counter d.increment cause

/-- The parameter block at AUX_ADDR is read; one that cannot be read halts the queue at once (02_dataflow R675). -/
def State.withBlock (s : State) (core q : Nat) (d : XDesc) (act : State → Nat → State) : State :=
  match s.readOwn core (sramAddr core (64 * d.aux)) 64 1 with
  | (s, .error c) => ((s.modCore core (fun y => { y with rt := { y.rt with lastFail := c } })).xferFailed core c).haltQueue core q c
  | (s, .ok bs) => act s (leNat bs)

/-- An open item of an expert transfer. -/
def State.openExpert (s : State) (core q w : Nat) (d : XDesc) (kind : XferKind) : State × Nat :=
  s.openXfer core { kind := kind, op := d.op, queue := q, entry := (s.queue core q).pos - 1, counter := d.counter,
                    increment := d.increment, desc := BitVec.ofNat 256 w }

/-- Action of a DISPATCH entry. -/
def State.actDispatch (s : State) (core q w : Nat) : State :=
  let d := XDesc.ofNat w
  s.withBlock core q d (fun s bw =>
    let b := DBlock.ofNat bw
    if !(d.expertOk && b.fieldsOk && b.formatOk s core d && b.regionsOk d) then s.expertFail core d Cause.planReject
    else
      match s.readMem (sramAddr core b.home) (8 * b.experts) with
      | (s, .error c) => s.expertFail core d c
      | (s, .ok hb) =>
        match s.readMem (sramAddr core b.route) (8 * b.tokens * b.k) with
        | (s, .error c) => s.expertFail core d c
        | (s, .ok rb) =>
          let homes := (wordsOf 8 hb).map Home.ofNat
          let es := (wordsOf 8 rb).map REntry.ofNat
          if !(homes.all (b.homeOk s) && b.routeOk es) then s.expertFail core d Cause.planReject
          else
            let (s, id) := s.openExpert core q w d .dispatch
            s.dispatchGo core id d b homes es)

/-- DISPATCH (R269 to R277). -/
def execDispatch (core q : Nat) (s : State) : Out := .next (s.issueXfer core q 0x20 (fun s w => s.actDispatch core q w))

/-- An expert transfer ends once every bundle is visible at its destination. -/
def State.expertDone (s : State) (core item : Nat) (kind : XferKind) : State :=
  match s.findXfer core item with
  | some x => if x.kind == kind && x.outstanding.isEmpty then s.endOpen core item 0 else s
  | none => s

/-- DISPATCH_DONE (R278). -/
def execDispatchDone (core item : Nat) (s : State) : Out := .next (s.expertDone core item .dispatch)

/-! ## COMBINE (R281 to R283) -/

/-- Combine parameter block (R281). -/
structure CBlock where
  ret : Nat
  out : Nat
  recv : Nat
  rowBytes : Nat
  stride : Nat
  mb : Nat
  expert : Nat
  cap : Nat
  xsize : Nat
  reservedZero : Bool

def CBlock.ofNat (w : Nat) : CBlock :=
  { ret := fld w 134 19 * 64, out := fld w 115 19 * 64, recv := fld w 96 19 * 64, rowBytes := fld w 77 13 * 64,
    stride := fld w 64 13 * 64, mb := fld w 48 16, expert := fld w 32 16, cap := fld w 16 11, xsize := fld w 0 8,
    reservedZero := fld w 153 359 == 0 && fld w 90 6 == 0 && fld w 27 5 == 0 && fld w 8 8 == 0 }

def CBlock.region (b : CBlock) : Region := { xsize := b.xsize, cap := b.cap, zb := 0, rowBytes := b.rowBytes }

/-- A header matches the block. -/
def CBlock.headerOk (b : CBlock) (w : Nat) : Bool :=
  fld w 64 16 == b.mb && fld w 48 16 == b.expert && fld w 0 11 ≤ b.cap

/-- The return bundle of source `x`, whose rows begin at compacted row `row0`. -/
def State.combineOne (core id : Nat) (d : XDesc) (b : CBlock) (n : Nat) (s : State) (e : Nat × Nat × Nat × List Nat) : State :=
  let (x, ret, row0, tags) := e
  if (s.findXfer core id).isNone then s
  else
    match s.gatherRows core d n b.rowBytes ((List.range tags.length).map (fun i => b.out + (row0 + i) * b.stride)) with
    | (s, .error c) => s.endOpen core id c
    | (s, .ok rows) =>
      let base := fld ret 16 19 * 64
      let parts := (base, []) :: (tags.zip rows).map (fun (t, r) => (base + t * b.rowBytes, r))
      s.sendBundle core id (x == s.coord s.img.node 1) x (fld ret 0 10) 1 (fld ret 10 6) parts

/-- Starts of the compacted rows of each source. -/
def runningSum : Nat → List Nat → List Nat
  | _, [] => []
  | a, n :: ns => a :: runningSum (a + n) ns

/-- Headers, tags and return table read: the bundles are sent. -/
def State.combineGo (s : State) (core q w : Nat) (d : XDesc) (b : CBlock) (n : Nat) (counts : List Nat) (tags : List (List Nat))
    (rets : List Nat) : State :=
  let (s, id) := s.openExpert core q w d .combine
  ((List.range b.xsize).map (fun x => (x, rets.getD x 0, (runningSum 0 counts).getD x 0, tags.getD x []))).foldl
    (State.combineOne core id d b n) s

/-- Field ranges and regions of a COMBINE. -/
def CBlock.ok (b : CBlock) (d : XDesc) (n : Nat) : Bool :=
  d.expertOk && b.reservedZero && 1 ≤ b.xsize && b.xsize ≤ 64 && 1 ≤ b.cap && b.cap ≤ 1024 && n != 0 &&
  b.recv + b.region.rows 0 ≤ 2 ^ 25 && b.ret + 8 * b.xsize ≤ 2 ^ 25

/-- A return table entry: bits 63 to 35 are 0. -/
def retOk (s : State) (w : Nat) : Bool := fld w 35 29 == 0 && s.coreExists (fld w 0 10)

/-- Action of a COMBINE entry. -/
def State.actCombine (s : State) (core q w : Nat) : State :=
  let d := XDesc.ofNat w
  s.withBlock core q d (fun s bw =>
    let b := CBlock.ofNat bw
    let n := 32 * (rowBlocks d.dstFmt b.rowBytes (s.rowRate core d)).getD 0
    if !b.ok d n then s.expertFail core d Cause.planReject
    else
      match s.readParts core [(b.recv, 64 * b.xsize), (b.ret, 8 * b.xsize)] with
      | (s, .error c) => s.expertFail core d c
      | (s, .ok parts) =>
        let heads := wordsOf 64 (parts.getD 0 [])
        let rets := wordsOf 8 (parts.getD 1 [])
        let counts := heads.map (fun h => fld h 0 11)
        let rows := counts.sum
        if !(heads.all b.headerOk && rets.all (retOk s) && (rows == 0 || b.out + (rows - 1) * b.stride + rowIn d n b.rowBytes ≤ 2 ^ 25))
        then s.expertFail core d Cause.planReject
        else
          match s.readParts core (counts.zipIdx.map (fun (k, x) => (b.recv + b.region.tags x, 4 * k))) with
          | (s, .error c) => s.expertFail core d c
          | (s, .ok tags) => s.combineGo core q w d b n counts (tags.map (wordsOf 4)) rets)

/-- COMBINE (R281, R282). -/
def execCombine (core q : Nat) (s : State) : Out := .next (s.issueXfer core q 0x21 (fun s w => s.actCombine core q w))

/-- COMBINE_DONE (R282). -/
def execCombineDone (core item : Nat) (s : State) : Out := .next (s.expertDone core item .combine)

end Sys2Proof.Machine
end

