-- ==== Sys2Proof/Machine/Steps.lean ====
section
/-! DEFINITION. The completion of a step over the module: shards processed, commit counters, checkpoints falling due,
digests, round boundaries, the end of the job (10_parameter R348, R359; 13_freyn R460; 14_checkpoint R496, R504;
18_configuration R631, R643). -/

namespace Sys2Proof.Machine

open Sys2Proof

/-! ## Checkpoints falling due (14_checkpoint R496, R504, R511) -/

def State.modCk (s : State) (f : CheckpointUnit → CheckpointUnit) : State := { s with ck := f s.ck }
def State.modTarget (s : State) (t : Nat) (f : Target → Target) : State :=
  s.modCk (fun u => { u with targets := u.targets.upd t f })

/-- Step s is a checkpoint step. -/
def State.ckStep (s : State) (step : Nat) : Bool := s.img.ckInterval != 0 && step % s.img.ckInterval == 0

/-- Cores that run a step list. -/
def State.listCores (s : State) : List Nat := (s.img.cores.filter (fun c => c.queues.any Option.isSome)).map (·.core)

/-- A layer's format in force at a step (09_training R311). -/
def LayerSt.formatAt (x : LayerSt) (t : Nat) : Nat := (((x.pending.filter (fun p => p.1 ≤ t)).getLast?).map (·.2)).getD x.base

/-- The module record of a step's checkpoint (14_checkpoint R512). -/
def State.moduleRecord (s : State) (step : Nat) : ModuleRecord :=
  let scale (t : Nat) : Nat := ((s.gate.ls.filter (fun e => e.1 ≤ t)).getLast?.map (·.2)).getD s.img.lsInit
  { step := step + 1, ls := (List.range (s.img.lag + 1)).map (fun i => scale (step + 1 + i)), growthRun := s.gate.growthRun,
    layers := s.img.layers.map (fun l => (l.layer, (s.gate.layers.at l.layer).formatAt (step + 1), (s.gate.layers.at l.layer).silent,
      (s.gate.layers.at l.layer).vanishing)),
    pending := s.img.layers.map (fun l => (l.layer, (s.gate.layers.at l.layer).pending.filter (fun p => step + 1 < p.1 && p.1 ≤ step + 1 + s.img.lag))),
    openRound := s.round.openRound, lastApplied := s.round.lastApplied, cur := s.round.cur, anchorRound := s.round.anchorRound, cores := [] }

/-- The checkpoint of a step falls due at a target that takes it: one whose previous checkpoint is not sealed skips. -/
def State.targetDue (step : Nat) (s : State) (e : TargetCfg × Nat) : State :=
  if step / s.img.ckInterval % (max e.1.every 1) ≠ 0 then s
  else if (s.ck.targets.at e.2).due.isSome then
    (s.modCk (fun u => { u with skipped := u.skipped + 1 })).event 0x0050 0 e.2 0 step
  else
    s.modTarget e.2 (fun t => { t with
      due := some step, dueAt := s.now, digests := [], writes := [], records := [], lines := [], lost := 0, manifestNext := [],
      cutRound := s.round.openRound, cutCursor := s.ck.dataCursor, modRec := some (s.moduleRecord step),
      piecesLeft := s.img.shards.zipIdx.map (fun (d, i) => (i, d.count)), coresLeft := s.listCores })

/-- The checkpoint of a step falls due once, when its first shard has been processed. -/
def State.ckCut (s : State) (step : Nat) : State :=
  if !s.ckStep step || s.ck.cutStep == some step then s
  else
    let s := s.each s.img.ckTargets.zipIdx (State.targetDue step)
    s.modCk (fun u => { u with cutStep := some step })

/-! ## The end of the job (18_configuration R631) -/

/-- A step is in progress from its first gate contribution until its commits are done. -/
def State.stepInProgress (s : State) : Bool := s.gate.firstAt.isSome || s.commit.advanced < s.gate.step

def State.limitReached (s : State) : Bool := s.img.stepLimit != 0 && s.img.stepLimit ≤ s.gate.step

/-- Queues retire: all but queue 7 while a checkpoint that has been cut is not yet sealed or abandoned. -/
def State.retireQueues (s : State) (keep7 : Bool) : State :=
  { s with cores := s.cores.map (fun c => (c.1, { c.2 with queues := c.2.queues.map (fun q =>
      if q.2.active && !(keep7 && q.1 == 7) then (q.1, { q.2 with active := false, retired := true }) else q) })) }

/-- The job ends once an end is wanted, no step is in progress and no checkpoint is open. -/
def State.tryEnd (s : State) : State :=
  if s.host.job = .running && (s.host.ending || s.limitReached) && !s.stepInProgress then
    if s.ck.targets.any (fun t => t.2.due.isSome) then s.retireQueues true
    else
      let s := s.retireQueues false
      ((s.jobRecord 2 0).setJob .ended 0)
  else s

/-! ## Steps (10_parameter R348) -/

def State.modRound (s : State) (f : RoundUnit → RoundUnit) : State := { s with round := f s.round }
def State.assoc (s : State) : AssocCfg := s.img.assoc.getD { assoc := 0, site := 0, members := 0, q := 0, h := 0 }
/-- Round shards that the image holds, in shard order. -/
def State.roundShards (s : State) : List Nat := s.assoc.roundShards.filter (fun n => n < s.img.shards.length)
/-- FREYN event: cause, site and round (13_freyn R493). -/
def State.freynEvent (s : State) (cause : Cause) (site round : Nat) : State := s.event 0x0040 cause site 0 round
/-- The open round's boundary, if reached. -/
def State.boundaryAt (s : State) : Option Nat := (s.round.boundaries.find? (fun b => b.1 == s.round.openRound)).map (·.2)

/-- DELTA_FORM places its hold on the committed slot of each round shard not yet formed, which fixes what it reads; a sixteenth hold
waits (13_freyn R463, R464; 10_parameter R335). -/
def State.holdSlots (s : State) : State :=
  s.each s.roundShards (fun s n =>
    let x := s.shardSt n
    match s.shardCfg n with
    | none => s
    | some c =>
      if s.round.formSlots.any (fun e => e.1 == n) || s.round.formed.contains n || !x.hasState || !x.canHold x.slot then s
      else (s.addHold n x.slot holdRound).modRound (fun u => { u with formSlots := u.formSlots ++ [(n, c.heldBase x.staged x.slot)] }))
/-- A pending delta is being formed (13_freyn R479). -/
def State.formsPending (s : State) : Bool := s.round.rebaseStep == 3
/-- DELTA_FORM of the open round has been issued: its boundary is reached and it is not closing; or that of a pending delta. -/
def State.formsDelta (s : State) : Bool :=
  s.formsPending || (s.round.rebaseStep == 0 && s.round.joinStep == 0 && s.round.closing.isNone && s.boundaryAt.isSome)
def State.holdForm (s : State) : State := if s.formsDelta then s.holdSlots else s
/-- The holds of DELTA_FORM end, for one shard or for all. -/
def State.dropRoundHold (s : State) (n : Nat) : State :=
  if s.round.formSlots.any (fun e => e.1 == n) then
    (s.dropHold n holdRound).modRound (fun u => { u with formSlots := u.formSlots.filter (fun e => e.1 != n) })
  else s
def State.dropRoundHolds (s : State) : State := s.each (s.round.formSlots.map (·.1)) State.dropRoundHold

/-- The boundary of a round is reached (13_freyn R460), where DELTA_FORM is issued unless it waits for an earlier round (R466). -/
def State.roundBoundary (s : State) (step : Nat) : State :=
  match s.img.assoc with
  | none => s
  | some a =>
    if a.h ≠ 0 && (step + 1) % a.h = 0 then
      (s.modRound (fun u => { u with boundaries := u.boundaries ++ [((step + 1) / a.h - 1, s.now)] })).holdForm
    else s

/-- The commit counter of each core advances (R348). -/
def State.commitCounters (s : State) : State :=
  s.each (s.img.cores.filter (fun c => s.dieRunning (coreDie c.core))) (fun s c => s.advance c.core c.commitCtr 1)

/-- Every shard has committed, skipped or parked step t and its gate is final: the step is complete, once for each
such step in order. -/
def State.stepsDone : Nat → State → State
  | 0, s => s
  | fuel + 1, s =>
    let t := s.commit.advanced
    if t < s.gate.step && s.shardList.all (fun n => (s.shardSt n).processed.any (t ≤ ·)) then
      let payload := (s.gate.closed.find? t).getD []
      let s := (s.ckCut t).commitCounters
      let s := s.finishRec 0 t (if payload.getD 8 0 = 1 then payload.getD 9 0 else 0) payload
      let s := { s with commit := { s.commit with advanced := t + 1 }, gate := { s.gate with closed := s.gate.closed.erase t } }
      State.stepsDone fuel (s.roundBoundary t)
    else s
def State.tryStepDone (s : State) : State := (State.stepsDone 8 s).tryEnd

/-! ## Digests (R358, R359) -/

/-- Members of a shard's replica set, by node. -/
def State.replicas (s : State) (set : Nat) : List Nat := (s.img.replicaCoord.filter (fun r => r.1 == set)).map (·.2)

/-- Digest of the slot just committed, read under a hold that ends with the read. A POOL shard's output half holds the
same bytes (R351). -/
def State.ownDigest (s : State) (n : Nat) (d : ShardCfg) : Res Word64 :=
  let x := s.shardSt n
  match s.readMem (d.heldBase x.staged x.slot) d.slotSize with
  | (s, .ok bs) => (s, .ok (d.digest x.step x.count (d.arrays bs)))
  | (s, .error c) => (s, .error c)

/-- The digest held by the largest number of members: ties go to the lowest coordinate. -/
def majority (ds : List (Nat × Word64)) : Option (Nat × Word64) :=
  let votes (w : Word64) : Nat := (ds.filter (fun e => e.2 == w)).length
  (sortBy (·.1) ds).foldl (fun best e =>
    match best with
    | none => some e
    | some b => if votes b.2 < votes e.2 then some e else best) none

/-- Every member's digest of a shard is held: the module compares its own and drops them. -/
def State.compareDigests (s : State) (n : Nat) : State :=
  match s.shardCfg n, s.commit.digests.find? (fun e => e.1 == n) with
  | some d, some (_, _, ds) =>
    match ds.find? (fun e => e.1 == s.img.node), majority ds with
    | some own, some best =>
      if (s.replicas d.replicaSet).all (fun m => ds.any (fun e => e.1 == m)) then
        let s := s.modCommit (fun u => { u with digests := u.digests.filter (fun e => e.1 != n) })
        let votes := (ds.filter (fun e => e.2 == best.2)).length
        let s := s.when (s.ck.restoring ≠ 0 && decide (2 * votes ≤ ds.length)) (fun s => s.modCk (fun u => { u with noMajority := true }))
        if own.2 = best.2 then s
        else
          ((s.modShard n (fun x => { x with diverged := true, good := some best.1 })).modCommit (fun u => { u with divergedCount := u.divergedCount + 1 })).event
            0x0013 Cause.digestMismatch n 0 0
      else s
    | _, _ => s
  | _, _ => s

/-- A message goes round the rings of R314, axis W first: its origin sends it along every axis; another module passes it on along the
axis that it came by, until the ring is round, and along every later axis. Each module gets it once. -/
def State.ringSend (s : State) (origin : Nat) (m : Message) : State :=
  let me := s.img.node
  let last := ((List.range 4).filter (fun a => s.coord me a != s.coord origin a)).getLast?
  let axes := (List.range 4).filter (fun a => 1 < s.axis a && (match last with
    | none => true
    | some l => l < a || (l == a && (s.coord me a + 1) % s.axis a != s.coord origin a)))
  s.each axes (fun s a => s.sendMsg (portOf a false) m)

/-- A shard of a replica set is digested under a hold, which ends with the read, and the digest sent to the other members. A
sixteenth hold waits (R335). -/
def State.digestNow (s : State) (n step : Nat) (d : ShardCfg) : State :=
  if !(s.shardSt n).canHold (s.shardSt n).slot then s.modShard n (fun x => { x with waiting := x.waiting ++ [.digest step] })
  else
  match s.ownDigest n d with
  | (s, .error _) => s
  | (s, .ok w) =>
    let s := s.modCommit (fun u => { u with digests := u.digests.filter (fun e => e.1 != n) ++ [(n, step,
      ((u.digests.find? (fun e => e.1 == n && e.2.1 == step)).map (·.2.2)).getD [] ++ [(s.img.node, w)])] })
    (s.ringSend s.img.node (.digest n s.img.node w)).compareDigests n

/-- After the commit of a step that is a multiple of the digest interval, the shards of a replica set are digested. -/
def State.digestShard (s : State) (n step : Nat) (d : ShardCfg) : State :=
  if d.replicaSet = 0 || s.img.digestInterval = 0 || step % s.img.digestInterval ≠ 0 then s else s.digestNow n step d

/-- The step of a shard's next update. -/
def State.nextStep (s : State) (n : Nat) : Nat := match (s.shardSt n).processed with | some p => p + 1 | none => s.gate.first

/-- The target slot of a shard's next step is picked once the gate of that step has decided APPLY (R336): at the gate, or, where the
step before is not yet committed, at its commit. -/
def State.pickNext (s : State) (n : Nat) : State :=
  let step := s.nextStep n
  match s.shardCfg n with
  | none => s
  | some c =>
    if (s.shardSt n).target.isSome || !((s.gate.closed.find? step).any (fun r => r.getD 8 0 == 0)) then s
    else s.modShard n (fun x => { x with target := some (x.pickTarget c.nslot, step) })

/-- A shard has processed a step: committed, skipped or parked. -/
def State.shardProcessed (s : State) (n step : Nat) : State :=
  let s := (s.ckCut step).modShard n (fun x =>
    { x with processed := some step, target := none, reports := 0, skipReports := x.skipReports.erase step, parkReports := 0, written := false,
             issues := 0, gaveUp := false, uncommitted := false, cause := 0,
             ckHeld := if s.ckStep step then 0 else x.ckHeld })
  (s.pickNext n).tryStepDone

/-- A step that every segment of a shard skipped is processed, once its turn comes (R350). -/
def State.processSkips (n segs : Nat) : Nat → State → State
  | 0, s => s
  | fuel + 1, s =>
    if segs ≠ 0 && segs ≤ (s.shardSt n).skipReports.at (s.nextStep n) then
      State.processSkips n segs fuel (s.shardProcessed n (s.nextStep n))
    else s

end Sys2Proof.Machine
end

