-- ==== Sys2Proof/Machine/Gate.lean ====
section
/-! DEFINITION. The gate unit: contributions, site totals, the decision, gate records, loss scale, silent layers,
selectors (09_training_step_numerics R304 to R324). -/

namespace Sys2Proof.Machine

open Sys2Proof

def State.modGate (s : State) (f : GateUnit → GateUnit) : State := { s with gate := f s.gate }

/-! ## Totals (R314) -/

/-- Totals of a layer before anything is added: +0. -/
def LayerTotals.none (layer : Nat) : LayerTotals := { layer := layer, gradient := 0, vanished := 0, weight := 0, update := 0 }

/-- W of R136 along the pairwise tree of R141 step 3. -/
def treeW36 (xs : List W36) : W36 := (treeSum 12 (xs.map (fun v => { value := v, cause := 0 }))).value

def totalsOf (v : List LayerTotals) (layer : Nat) : LayerTotals := (v.find? (fun t => t.layer == layer)).getD (LayerTotals.none layer)

/-- One axis stage: vectors in ascending coordinate. -/
def combineTotals (vs : List (List LayerTotals)) : List LayerTotals :=
  let layers := sortBy id (vs.flatMap (fun v => v.map (·.layer))).dedup
  layers.map (fun l =>
    let ts := vs.map (fun v => totalsOf v l)
    { layer := l, gradient := treeW36 (ts.map (·.gradient)), vanished := (ts.map (·.vanished)).sum,
      weight := treeW36 (ts.map (·.weight)), update := treeW36 (ts.map (·.update)) })

/-- A gate-area record (07_vector R254): gradient sum and vanished count, weight sum, update sum. -/
def gateRecord (bs : List Byte) : W36 × Nat × W36 × W36 :=
  let w (k : Nat) : W36 := BitVec.ofNat 36 (leNat ((bs.drop (16 * k)).take 8))
  (w 2, leNat ((bs.drop 40).take 4), w 1, w 3)

/-- A gate set's record added to the totals of the layer it maps to. -/
def State.addRecord (s : State) (v : List LayerTotals) (e : Nat × (W36 × Nat × W36 × W36)) : List LayerTotals :=
  match s.img.layers.find? (fun l => l.tapSets.contains e.1) with
  | none => v
  | some l => v.map (fun t => if t.layer = l.layer then
      { t with gradient := addW36 t.gradient e.2.1, vanished := t.vanished + e.2.2.1, weight := addW36 t.weight e.2.2.2.1,
               update := addW36 t.update e.2.2.2.2 } else t)

/-- The module's totals: cores ascending, within a core tap sets ascending. -/
def State.moduleTotals (s : State) : List LayerTotals :=
  let recs := (sortBy (·.1) s.gate.records).flatMap (fun r =>
    r.2.zipIdx.map (fun (x, i) => (((s.coreCfg r.1).gateFirst.getD 0) + i, x)))
  recs.foldl s.addRecord (s.img.layers.map (fun l => LayerTotals.none l.layer))

/-! ## Loss scale (R308) -/

/-- ls(t): the newest value set at or before t. -/
def State.lossScale (s : State) (t : Nat) : Nat :=
  ((s.gate.ls.filter (fun e => e.1 ≤ t)).getLast?.map (·.2)).getD s.img.lsInit

/-- ls(s + 1 + L) and the growth run after the gate of step s. -/
def State.nextScale (s : State) (step decision : Nat) : Nat × Nat :=
  let now := s.lossScale (step + s.img.lag)
  if s.img.growth = 0 then (now, 0)
  else if decision = 2 then (now, s.gate.growthRun)
  else if decision = 1 then (max s.img.lsMin (now - 1), 0)
  else if s.gate.growthRun + 1 = s.img.growth then (min s.img.lsMax (now + 1), 0)
  else (now, s.gate.growthRun + 1)

/-! ## Silent and vanishing runs (R321 to R323) -/

def State.layerSt (s : State) (layer : Nat) : LayerSt := s.gate.layers.at layer
def State.modLayer (s : State) (layer : Nat) (f : LayerSt → LayerSt) : State :=
  s.modGate (fun g => { g with layers := g.layers.upd layer f })

/-- Run counters of a layer after a gate that is no SKIP. -/
def State.runsAfter (s : State) (l : LayerCfg) (t : LayerTotals) : Nat × Nat :=
  let x := s.layerSt l.layer
  (if (w36 t.gradient).isZero then x.silent + 1 else 0,
   if l.elements < t.vanished * 2 ^ l.vf then x.vanishing + 1 else 0)

/-- A run counter has reached N, or every further N. -/
def LayerCfg.fires (l : LayerCfg) (run : Nat) : Bool := run != 0 && l.n != 0 && run % l.n == 0
def LayerCfg.firesAny (l : LayerCfg) (r : Nat × Nat) : Bool := LayerCfg.fires l r.1 || LayerCfg.fires l r.2

/-- The ladder (R309): E5M2 to BF16 to FP32, FP16 to FP32. Codes of an update descriptor's GRAD_FMT. -/
def widen (fmt : Nat) : Option Nat := if fmt = 4 then some 1 else if fmt = 1 ∨ fmt = 2 then some 0 else none

/-- An event names the step, the layer and the run counter: ARG is the run, with bit 31 for the vanishing run and bit 30 where the layer
is to be widened and has the widest format (log entry 134). -/
def runArg (vanishing widest : Bool) (run : Nat) : Nat := run % 2 ^ 30 + 2 ^ 31 * b2n vanishing + 2 ^ 30 * b2n widest

/-- Events and policy of one layer at a gate that is no SKIP. -/
def State.layerGate (step : Nat) (site : List LayerTotals) (s : State) (l : LayerCfg) : State :=
  let r := s.runsAfter l (totalsOf site l.layer)
  let wider := widen (s.layerSt l.layer).format
  let widest := l.policy == 1 && wider.isNone
  let s := s.modLayer l.layer (fun x => { x with silent := r.1, vanishing := r.2 })
  let s := s.when (LayerCfg.fires l r.1) (fun s => s.event 0x0011 0 l.layer (runArg false widest r.1) step)
  let s := s.when (LayerCfg.fires l r.2) (fun s => s.event 0x0011 0 l.layer (runArg true widest r.2) step)
  match wider with
  | some f =>
    if LayerCfg.firesAny l r && l.policy == 1 then
      s.modLayer l.layer (fun x => { x with format := f, silent := 0, vanishing := 0,
                                            pending := x.pending ++ [(step + 1 + s.img.lag, f)] })
    else s
  | none => s

/-! ## The decision (R315) -/

/-- Decision, cause and FIRST_LAYER. -/
structure Decision where
  code : Nat
  cause : Cause
  first : Nat
  deriving DecidableEq, Repr

/-- x · 2^(−2 ls) > limit², the limit an FP32 value above 0. -/
def aboveLimit (x : Val) (ls : Nat) (limit : Word) : Bool :=
  let g := decodeElem 0 limit.toNat
  g.isFinite && !g.isZero && !g.sign && Val.cmp (x.scale (-(2 * (ls : Int)))) (g.mul g) == .gt

/-- The exact sum of the layers' totals. -/
def gradientSum (site : List LayerTotals) : Val := (site.map (fun t => w36 t.gradient)).foldl Val.add Val.zero

def State.gateDecision (s : State) (step : Nat) (site : List LayerTotals) : Decision :=
  let ls := s.lossScale step
  let bad := (site.filter (fun t => !(w36 t.gradient).isFinite)).map (·.layer)
  let halts := (s.img.layers.filter (fun l => l.policy == 2 && LayerCfg.firesAny l (s.runsAfter l (totalsOf site l.layer)))).map (·.layer)
  let above := (s.img.layers.filter (fun l => aboveLimit (w36 (totalsOf site l.layer).gradient) ls l.limit)).map (·.layer)
  let lowest (xs : List Nat) : Nat := xs.foldl min 0xFFFF
  if !bad.isEmpty then { code := 1, cause := Cause.nonfiniteUpdate, first := lowest bad }
  else if !halts.isEmpty then { code := 2, cause := Cause.normLimit, first := lowest halts }
  else if aboveLimit (gradientSum site) ls s.img.globalLimit then { code := 1, cause := Cause.normLimit, first := 0xFFFF }
  else if !above.isEmpty then { code := 1, cause := Cause.normLimit, first := lowest above }
  else { code := 0, cause := 0, first := 0xFFFF }

/-- GNORM2: the unscaled sum rounded once. -/
def gnorm2 (ls : Nat) (site : List LayerTotals) : W36 := toW36 ((gradientSum site).scale (-(2 * (ls : Int))))

/-- The gate record (R316). -/
def gateBytes (step : Nat) (d : Decision) (ls lsSet : Nat) (gnorm : W36) : List Byte :=
  leBytes 64 (step + d.code <<< 64 + d.cause.toNat <<< 72 + ls <<< 80 + lsSet <<< 88 + d.first <<< 96 + gnorm.toNat <<< 128)

/-! ## Patches (R310, R311) -/

/-- Patches that the widenings of step t require on a core: the PAYLOAD of each listed entry. -/
def State.patchCore (s : State) (c : CoreCfg) (wanted : Nat → Option Nat) : State :=
  s.each c.patches (fun s p =>
    match (wanted p.layer).bind (fun f => (p.addrs.find? (fun a => a.1 == f)).map (·.2)) with
    | some a => (s.writeMem (sramAddr c.core (c.stepList + 32 * p.entry + 16)) (leBytes 16 a)).1
    | none => s)

/-- Format that a layer takes at step t, if it widens then. -/
def State.wideningAt (s : State) (t layer : Nat) : Option Nat :=
  ((s.layerSt layer).pending.find? (fun p => p.1 == t)).map (·.2)

/-- Step whose selector advance comes next at a core. -/
def State.selectorStep (s : State) (core : Nat) : Nat := s.gate.first + s.gate.selector.at core

/-- The contribution of the step before the core's next selector step has reached the gate unit; a core that contributes nothing has none
to wait for (log entry 22). -/
def State.contributed (s : State) (core : Nat) : Bool :=
  (s.coreCfg core).gateFirst.isNone || s.gate.selector.at core ≤ s.gate.taken.at core

/-- The patches of a step are written on a core, once. -/
def State.patchStep (s : State) (c : CoreCfg) (t : Nat) : State :=
  if t < s.gate.patched.at c.core then s
  else (s.patchCore c (s.wideningAt t)).modGate (fun g => { g with patched := g.patched.set c.core (t + 1) })

/-- Step 3 of R318 writes the patches of the widening that a gate decides, on every core whose next selector step it is and whose
contribution of the step before is held: with L = 0, every contributing core. With L above 0 a core still has earlier steps to run, which
the patch may not touch (R311), and it is written before that core's selector advances (log entry 135). -/
def State.patchCores (s : State) (t : Nat) : State :=
  s.each (s.img.cores.filter (fun c => s.dieRunning (coreDie c.core) && s.selectorStep c.core == t && s.contributed c.core)) (fun s c => s.patchStep c t)

/-! ## Closing a gate (R316 to R318, R320) -/

/-- Cores of the image whose die runs. -/
def State.gateCores (s : State) : List CoreCfg := s.img.cores.filter (fun c => s.dieRunning (coreDie c.core))

/-- The record reaches every core and then the gate counters advance; a HALT latches its cause into both counters. -/
def State.gateCounters (s : State) (step : Nat) (d : Decision) (bs : List Byte) : State :=
  let s := s.each s.gateCores (fun s c => (s.writeMem (sramAddr c.core (c.gateRing + step % 4 * 64)) bs).1)
  if d.code = 2 then s.each s.gateCores (fun s c => (s.latch c.core c.gateCtr d.cause).latch c.core c.selectorCtr d.cause)
  else s.each s.gateCores (fun s c => s.advance c.core c.gateCtr 1)

/-- One GATE record for every recipe re-scaled since the previous gate (R304). -/
def State.recipeRecords (s : State) : State :=
  let fed := s.cores.flatMap (fun c => (c.2.recipes.filter (fun r => r.2.atGate < r.2.rescales)).map (fun r => (c.1, r.1, r.2)))
  s.each fed (fun s (core, n, r) =>
    (s.event 0x0011 0 core (r.highest.toNat <<< 24 + r.rescales % 2 ^ 24) n).modCore core (fun x =>
      { x with recipes := x.recipes.upd n (fun y => { y with atGate := y.rescales }) }))

/-- One LAYER record per held layer at every LAYER_EVERY-th gate (R320; 19_event_recorder R666, R668). -/
def State.layerRecords (s : State) (step : Nat) (d : Decision) (site : List LayerTotals) : State :=
  let s := s.modGate (fun g => { g with gatesClosed := g.gatesClosed + 1 })
  if s.img.layerEvery = 0 || s.gate.gatesClosed % s.img.layerEvery ≠ 0 then s
  else s.each s.img.layers (fun s l =>
    let t := totalsOf site l.layer
    let x := s.layerSt l.layer
    s.report 0x0012 (leBytes 8 step ++ leBytes 2 l.layer ++ leBytes 2 d.code ++ leBytes 2 (min x.silent 65535) ++
      leBytes 2 (min x.vanishing 65535) ++ leBytes 8 t.weight.toNat ++ leBytes 8 t.gradient.toNat ++ leBytes 8 t.update.toNat ++
      leBytes 4 t.vanished ++ zeros 4))

/-- The gate of the present step is above. -/
def GateUnit.clearStep (g : GateUnit) : GateUnit :=
  { g with records := [], stage := 0, vector := [], firstAt := none }

/-- Site totals are held: the gate decides and closes. -/
def State.closeGate (s : State) : State :=
  let step := s.gate.step
  let site := s.gate.vector
  let d := s.gateDecision step site
  let ls := s.lossScale step
  let (next, run) := s.nextScale step d.code
  let s := if d.code = 1 then s else (s.each s.img.layers (State.layerGate step site)).patchCores (step + 1 + s.img.lag)
  let bs := gateBytes step d ls next (gnorm2 ls site)
  let s := s.gateCounters step d bs
  let us := (s.now - s.gate.lastAt) / 1000
  let s := s.modGate (fun g => { g.clearStep with
    ls := g.ls.insert (step + 1 + s.img.lag) next, growthRun := run, lsSet := next, lastDecision := d.code, lastCause := d.cause,
    halted := d.code == 2, stopped := d.code == 2, worst := max g.worst us, skipped := if d.code = 1 then g.skipped + 1 else g.skipped,
    held := g.held.filter (fun h => step < h.1),
    step := if d.code = 2 then step else step + 1,
    closed := if d.code = 2 then g.closed else g.closed.insert step bs })
  let s := s.when (d.code = 2) (fun s => s.finishRec 0 step d.cause bs)
  let s := s.each s.shardList State.pickNext
  ((s.recipeRecords.layerRecords step d site).jobStatus).tryStepDone

/-! ## Axis stages (R314) -/

/-- The module sends its vector along the ring of the stage that begins. -/
def State.sendTotals (s : State) : State :=
  let a := s.gate.stage - 1
  if 1 ≤ s.gate.stage && s.gate.stage ≤ 4 && 1 < s.axis a then
    s.sendMsg (portOf a false) (.gateTotals a (s.coord s.img.node a) { step := BitVec.ofNat 64 s.gate.step, layers := s.gate.vector })
  else s

/-- Vectors of a stage's ring in ascending coordinate, when every one is held. -/
def State.stageVectors (s : State) (a : Nat) : Option (List (List LayerTotals)) :=
  (List.range (s.axis a)).mapM (fun c =>
    if c = s.coord s.img.node a then some s.gate.vector
    else (s.gate.held.find? (fun h => h.1 == s.gate.step && h.2.1 == a && h.2.2.1 == c)).map (·.2.2.2))

/-- Stages complete while their ring's vectors are held; after Z the gate closes. -/
def State.runStages : Nat → State → State
  | 0, s => s
  | fuel + 1, s =>
    if s.gate.stage = 0 then s
    else if 4 < s.gate.stage then s.closeGate
    else
      match s.stageVectors (s.gate.stage - 1) with
      | none => s
      | some vs =>
        let s := s.modGate (fun g => { g with vector := combineTotals vs, stage := g.stage + 1 })
        State.runStages fuel s.sendTotals

/-- Cores that contribute. -/
def State.contributors (s : State) : List Nat := s.coreList.filter (fun c => (s.coreCfg c).gateFirst.isSome)

/-- In SERIAL mode the contribution of a round's first step waits until the round before it is closed and applied
(13_freyn R466). -/
def State.serialOk (s : State) (step : Nat) : Bool :=
  match s.img.assoc with
  | none => true
  | some a => !a.serial || a.h == 0 || step % a.h != 0 || (step / a.h ≤ s.round.openRound && s.round.closing.isNone)

/-- GATE_CONTRIBUTION (R313): the gate unit takes the next landed transfer of a core's region. -/
def execGateContribution (core : Nat) (s : State) : Out :=
  .next (
    let g := s.gate
    let k := g.taken.at core
    match s.gateRegion core with
    | none => s
    | some (off, len) =>
      if g.landed.at core ≤ k || g.first + k ≠ g.step || g.stopped || !s.serialOk g.step then s
      else
        match s.readMem (hsAddr off) len with
        | (s, .error _) => s
        | (s, .ok bs) =>
          let recs := (pieces 64 (len / 64) bs).map gateRecord
          let s := s.when g.firstAt.isNone (fun s => s.issueRec 0 g.step)
          let s := s.modGate (fun g => { g with taken := g.taken.set core (k + 1), records := g.records ++ [(core, recs)],
                                                firstAt := some (g.firstAt.getD s.now), lastAt := s.now })
          if s.contributors.all (fun c => s.gate.records.any (fun r => r.1 == c)) then
            let s := s.modGate (fun g => { g with vector := s.moduleTotals, stage := 1 })
            State.runStages 6 s.sendTotals
          else s)

/-- GATE_TOTALS_MESSAGE (R314): the vector of a ring peer, passed on round the ring; one of a step already decided is late and has no effect. -/
def execGateTotalsMessage (axis coord : Nat) (totals : GateTotals) (s : State) : Out :=
  .next (
    let step := totals.step.toNat
    if step < s.gate.step || 4 ≤ axis || s.axis axis ≤ coord || s.coord s.img.node axis = coord ||
       s.gate.held.any (fun h => h.1 == step && h.2.1 == axis && h.2.2.1 == coord) then s
    else
      let s := s.when ((s.coord s.img.node axis + 1) % s.axis axis ≠ coord) (fun s => s.sendMsg (portOf axis false) (.gateTotals axis coord totals))
      State.runStages 6 (s.modGate (fun g => { g with held := g.held ++ [(step, axis, coord, totals.layers)] })))

/-! ## Selectors (R310, R311) -/

/-- The conditions of R311 hold for the next selector advance of a core. -/
def State.selectorReady (s : State) (core : Nat) : Bool :=
  let t := s.selectorStep core
  !s.gate.stopped && s.dieRunning (coreDie core) && s.img.cores.any (fun c => c.core == core) &&
  (s.host.job == .running || s.host.job == .restoring) && t ≤ s.gate.step + s.img.lag &&
  s.contributed core

/-- The selector counter of a core advances for the next step. -/
def State.advanceSelector (s : State) (core : Nat) : State :=
  let c := s.coreCfg core
  let s := s.patchStep c (s.selectorStep core)
  (s.advance core c.selectorCtr 1).modGate (fun g => { g with selector := g.selector.upd core (· + 1) })

/-- SELECTOR_ADVANCE (R311). -/
def execSelectorAdvance (core : Nat) (s : State) : Out :=
  .next (if s.selectorReady core then s.advanceSelector core else s)

/-! ## Ends (R319, R324) -/

/-- A gate is in progress: a contribution of its step has come. -/
def State.gateOpen (s : State) : Bool := s.gate.firstAt.isSome && !s.gate.stopped
/-- The gate of the present step ends Failed. -/
def State.failGate (s : State) (cause : Cause) : State :=
  (s.modGate (fun g => { g.clearStep with halted := true, stopped := true, lastCause := cause })).event 0x0011 cause 0 0 s.gate.step

/-- GATE_TIMEOUT (R319). -/
def execGateTimeout (s : State) : Out :=
  .next (if s.gate.firstAt.any (fun t => t + s.img.gateWait < s.now) && !s.gate.stopped then
      let s := s.each s.gateCores (fun s c =>
        (s.latch c.core c.gateCtr Cause.timeout).latch c.core c.selectorCtr Cause.timeout)
      s.failGate Cause.timeout
    else s)

/-- STEP_LO_READ (R324). -/
def execStepLoRead (s : State) : Out :=
  .next { s.modGate (fun g => { g with stepHi := BitVec.ofNat 32 (g.step / 2 ^ 32) }) with bus := s.gate.step % 2 ^ 32 }

end Sys2Proof.Machine
end

