-- ==== Sys2Proof/Machine/Param.lean ====
section
/-! DEFINITION. The arithmetic of parameter storage, update segment descriptors, working copies (10_parameter R329, R330,
R337, R338, R340, R343). -/

namespace Sys2Proof.Machine

open Sys2Proof

/-! ## Stored values (R329, R330) -/

/-- Exponent of u(M) · 2^−8 for the bits of a BF16 master. -/
def shaveExp (m : Nat) : Int := (max (bitsOf m 7 8) 1 : Nat) - 134 - 8

/-- P = M + SH × u(M) / 256; M where it is not finite. -/
def storedValue (m : Nat) (sh : Byte) : Val :=
  let v := decodeElem 1 m
  if !v.isFinite || sh = 0 then v else v.add (Val.ofInt sh.toInt (shaveExp m))

/-- A value rounded to an integer, ties to even. -/
def roundInt : Val → Int
  | .fin s m e =>
    let k := (-e).toNat
    let q := scaleDown m e 0
    let r := if e < 0 then m % 2 ^ k * 2 else 0
    let up := 2 ^ k < r || (r == 2 ^ k && q % 2 == 1)
    let n : Int := (if up then q + 1 else q : Nat)
    if s then -n else n
  | _ => 0

/-- M′ and SH′ of an update's value (R330). -/
def storeValue (p : Val) : Nat × Byte :=
  let m := (convElem 1 true none p).bits
  let v := decodeElem 1 m
  if !v.isFinite then (m, 0)
  else
    let d := roundInt ((p.sub v).scale (-(shaveExp m)))
    (m, BitVec.ofInt 8 (max (-128) (min 127 d)))

/-! ## The descriptor (R337) -/

structure UDesc where
  kernel : Nat
  args : Nat
  stage : Nat
  wcScale : Nat
  wc : Nat
  grad : Nat
  recipe : Nat
  count : Nat
  start : Nat
  chunk : Nat
  shard : Nat
  increment : Nat
  counter : Nat
  gradFmt : Nat
  wcFmt : Nat
  mode : Nat
  sr : Bool
  wcEn : Bool
  last : Bool
  op : Nat
  reservedZero : Bool
  deriving DecidableEq, Repr

def UDesc.ofNat (w : Nat) : UDesc :=
  let u (lo : Nat) := fld w lo 19 * 64
  { kernel := fld w 231 16, args := u 212, stage := u 193, wcScale := u 174, wc := u 155, grad := u 136, recipe := fld w 128 8,
    count := fld w 104 24, start := fld w 64 40, chunk := fld w 60 4, shard := fld w 48 12, increment := fld w 32 16,
    counter := fld w 24 6, gradFmt := fld w 20 4, wcFmt := fld w 16 4, mode := fld w 11 2, sr := bitOf w 10, wcEn := bitOf w 9,
    last := bitOf w 8, op := fld w 0 8, reservedZero := fld w 247 9 == 0 && fld w 30 2 == 0 && fld w 13 3 == 0 }

/-- Elements of a whole chunk. -/
def UDesc.chunkSize (d : UDesc) : Nat := 512 * 2 ^ d.chunk
/-- First element and number of elements of chunk j. -/
def UDesc.chunkAt (d : UDesc) (j : Nat) : Nat × Nat :=
  (d.start + j * d.chunkSize, min d.chunkSize (d.count - j * d.chunkSize))
def UDesc.chunks (d : UDesc) : Nat := (d.count + d.chunkSize - 1) / d.chunkSize
/-- Padded to a multiple of 512. -/
def pad512 (n : Nat) : Nat := (n + 511) / 512 * 512

/-- Bytes of n elements, a part byte counted whole. -/
def bytesUp (f n : Nat) : Nat := (n * storeBits f + 7) / 8
/-- Regions that the segment touches in its core's SRAM. -/
def UDesc.regions (d : UDesc) (arrays : Nat) : Regions :=
  [(d.stage, 4 * arrays * d.chunkSize), (d.args, 256),
   (d.grad, up64 (bytesUp d.gradFmt d.count) + (if isBlock d.gradFmt then (d.count + 31) / 32 else 0))] ++
  (if d.wcEn then (d.wc, bytesUp d.wcFmt d.count) :: (if isBlock d.wcFmt then [(d.wcScale, (d.count + 31) / 32)] else []) else [])

/-- The checks of R338 that do not look at the gate record. -/
def State.segmentOk (s : State) (core : Nat) (d : UDesc) (c : ShardCfg) : Bool :=
  d.reservedZero && d.increment != 0 && d.count != 0 && d.chunk ≤ 7 && (d.gradFmt ≤ 2 || d.gradFmt == 4) &&
  1 ≤ d.wcFmt && d.wcFmt ≤ 9 && d.mode != 3 && d.start + d.count ≤ c.count &&
  (d.regions (if d.op = 2 then 4 else 2 + c.moments)).all (fun r => r.1 + r.2 ≤ 2 ^ 25) &&
  (d.mode != 2 || (c.boxExt.headD 1 % 32 == 0 && d.start % (32 * c.boxExt.headD 1) == 0 && d.count % (32 * c.boxExt.headD 1) == 0)) &&
  !(d.wcEn && d.mode == 1 && isBlock d.wcFmt && ((s.core core).recipes.at d.recipe).kind == 7)

/-! ## Arrays of FP32 and BF16 -/

def fp32List (bs : List Byte) : List Val := (wordsOf 4 bs).map (decodeElem 0)
def fp32Bytes (xs : List Word) : List Byte := xs.flatMap (fun w => leBytes 4 w.toNat)
/-- Values of a moment array: FP32 or BF16. -/
def momentList (bf16 : Bool) (bs : List Byte) : List Val :=
  if bf16 then (wordsOf 2 bs).map (decodeElem 1) else fp32List bs
def momentBytes (bf16 : Bool) (xs : List Val) : List Byte :=
  if bf16 then xs.flatMap (fun x => leBytes 2 (convElem 1 true none x).bits) else fp32Bytes (xs.map toFp32)

/-- M and SH of a range of a slot at `base`, as stored values. -/
def State.readStored (s : State) (c : ShardCfg) (base a n : Nat) : Res (List Val) :=
  match s.readMem (base + 2 * a) (2 * n) with
  | (s, .error e) => (s, .error e)
  | (s, .ok ms) =>
    match s.readMem (base + c.arrayOff 1 + a) n with
    | (s, .error e) => (s, .error e)
    | (s, .ok shs) => (s, .ok (((wordsOf 2 ms).zip shs).map (fun (m, sh) => storedValue m sh)))

/-- A moment's range of a slot. -/
def State.readMoment (s : State) (c : ShardCfg) (base k a n : Nat) : Res (List Byte) :=
  s.readMem (base + c.arrayOff (2 + k) + c.momSize * a) (c.momSize * n)

/-- Every moment's range, in order. -/
def State.readMoments (s : State) (c : ShardCfg) (base a n : Nat) : List Nat → Res (List (List Byte))
  | [] => (s, .ok [])
  | k :: rest =>
    match s.readMoment c base k a n with
    | (s, .error e) => (s, .error e)
    | (s, .ok bs) =>
      match s.readMoments c base a n rest with
      | (s, .error e) => (s, .error e)
      | (s, .ok more) => (s, .ok (bs :: more))

/-- The gradient of a range (R340): scaled by 2^−ls, rounded once to FP32. -/
def State.readGradient (s : State) (core : Nat) (d : UDesc) (rel n ls : Nat) : Res (List Word) :=
  let f := d.gradFmt
  match s.readMem (sramAddr core (d.grad + rel * storeBits f / 8)) (bytesUp f n) with
  | (s, .error e) => (s, .error e)
  | (s, .ok bs) =>
    match (if isBlock f then s.readMem (sramAddr core (d.grad + up64 (bytesUp f d.count) + rel / 32)) ((n + 31) / 32)
      else (s, .ok [])) with
    | (s, .error e) => (s, .error e)
    | (s, .ok scales) =>
      let codes := unpackBits (storeBits f) n (leNat bs)
      let vals := codes.zipIdx.map (fun (c, i) =>
        if isBlock f then decodeScaled f (scales.getD (i / 32) 0) c else decodeElem f c)
      (s, .ok (vals.map (fun v => toFp32 (v.scale (-(ls : Int))))))

/-! ## Working copies (R342, R343) -/

/-- Values cut into blocks of 32, the last padded with +0. -/
def blocks32 (xs : List Val) : List (List Val) :=
  (pieces 32 ((xs.length + 31) / 32) xs).map (fun b => b ++ List.replicate (32 - b.length) Val.zero)

/-- Elements and scales of blocks under given scales, or COMPUTED where none is given. -/
def wcBlocks (f : Nat) (scales : List (Option Byte)) (rs : List (Option Nat)) (xs : List Val) : List BlockOut :=
  let rss := pieces 32 ((xs.length + 31) / 32) (rs ++ List.replicate 32 none)
  ((blocks32 xs).zip (rss.zip scales)).map (fun (b, r, sc) =>
    match sc with
    | some x => convUnder f true x r b
    | none => convComputed f true r b)

/-- RECIPE: blocks of 512 elements, each re-converted whole after an overflow as an STX is (07_vector R244, log entry 23);
answers the blocks and the scales fed to the recipe. -/
def wcRecipe (f : Nat) (scale : Byte) (rs : List (Option Nat)) (xs : List Val) : List BlockOut × List Byte :=
  let one (g : List (Option Nat) × List Val) : List BlockOut × List Byte :=
    let nb := (g.2.length + 31) / 32
    let first := wcBlocks f (List.replicate nb (some scale)) g.1 g.2
    if first.any (fun b => b.elems.any (·.exceeded)) then
      let sc := (computedScale f g.2).1
      (wcBlocks f (List.replicate nb (some sc)) g.1 g.2, [sc])
    else (first, [])
  let n := (xs.length + 511) / 512
  let outs := ((pieces 512 n rs).zip (pieces 512 n xs)).map one
  (outs.flatMap (·.1), outs.flatMap (·.2))

/-- SQUARE: whole bands of 32 box rows; one scale for each square of 32 by 32 (R343). -/
def wcSquare (f ext0 : Nat) (rs : List (Option Nat)) (xs : List Val) : List BlockOut :=
  let per := ext0 / 32
  let bs := blocks32 xs
  let scale (i : Nat) : Byte :=
    let band := i / (32 * per)
    (computedScale f ((List.range 32).flatMap (fun r => bs.getD (band * 32 * per + r * per + i % per) []))).1
  wcBlocks f ((List.range bs.length).map (fun i => some (scale i))) rs xs

/-- Writes of a working copy range whose first element is `rel` from the segment's first. -/
def UDesc.wcWrites (d : UDesc) (core rel n : Nat) (bs : List BlockOut) (plain : List Nat) : List (Nat × List Byte) :=
  let f := d.wcFmt
  if isBlock f then
    let codes := (bs.flatMap (fun b => b.elems.map (·.bits))).take n
    [(sramAddr core (d.wc + rel * storeBits f / 8), leBytes (bytesUp f n) (packBits (storeBits f) codes)),
     (sramAddr core (d.wcScale + rel / 32), bs.map (·.scale))]
  else [(sramAddr core (d.wc + rel * storeBits f / 8), leBytes (bytesUp f n) (packBits (storeBits f) plain))]

/-- The working copy of a range: its writes and the scales fed to the recipe. -/
def State.workingCopy (s : State) (core : Nat) (d : UDesc) (c : ShardCfg) (step a : Nat) (xs : List Val) :
    List (Nat × List Byte) × List Byte :=
  let f := d.wcFmt
  let rs : List (Option Nat) := if d.sr then (List.range xs.length).map (fun i =>
    some (grainWord s.img.seed step c.tid (c.logical (a + i)))) else List.replicate xs.length none
  let rel := a - d.start
  if !isBlock f then (d.wcWrites core rel xs.length [] ((xs.zip rs).map (fun (x, r) => (convElem f true r x).bits)), [])
  else if d.mode = 1 then
    let (bs, fed) := wcRecipe f ((s.core core).recipes.at d.recipe).scale rs xs
    (d.wcWrites core rel xs.length bs [], fed)
  else if d.mode = 2 then (d.wcWrites core rel xs.length (wcSquare f (c.boxExt.headD 32) rs xs) [], [])
  else (d.wcWrites core rel xs.length (wcBlocks f (List.replicate ((xs.length + 31) / 32) none) rs xs) [], [])

end Sys2Proof.Machine
end

