-- ==== Sys2Proof/Machine/Outer.lean ====
section
/-! DEFINITION. What OUTER segments read and write: delta streams, offcuts, anchor and outer momentum, the journal; and a
round's end once every round shard has committed (13_freyn R459, R463, R471 to R473, R476, R479). -/

namespace Sys2Proof.Machine

open Sys2Proof

def State.shardCount (s : State) (n : Nat) : Nat := ((s.shardCfg n).map ShardCfg.count).getD 0

/-! ## The delta stream (R459) -/

/-- Elements padded to whole blocks. -/
def pad64 (n : Nat) : Nat := (n + 63) / 64 * 64
/-- Stream element of a shard's first element. -/
def State.streamOff (s : State) (shard : Nat) : Nat :=
  ((s.roundShards.takeWhile (· != shard)).map (fun n => pad64 (s.shardCount n))).sum
/-- Blocks of the stream. -/
def State.streamBlocks (s : State) : Nat := (s.roundShards.map (fun n => pad64 (s.shardCount n) / 64)).sum
/-- Elements before a shard in the reference's anchor, which has no padding. -/
def State.refOff (s : State) (shard : Nat) : Nat := ((s.roundShards.takeWhile (· != shard)).map s.shardCount).sum

/-- The association's table: the compressor slot that the image names (R458). -/
def State.deltaTable (s : State) (core : Nat) : Option Table := ((s.cluster core).slots.at s.assoc.cslot).table

/-- Values of a decoded KFR block. -/
def outValues (carried : Nat) (o : KfrOut) : List Val :=
  o.codes.zipIdx.map (fun (c, i) => decodeScaled carried (if i < 32 then o.scale0 else o.scale1) c.toNat)

/-- Elements off to off + n − 1 of a stream held at `base`, decoded through expander A of the core that holds the shard (06_fixed_rate
R212, R214; log entry 129). -/
def State.readStream (s : State) (core base off n : Nat) : Res (List Val) :=
  let a := s.assoc
  let b0 := off / 64
  let nb := (off + n + 63) / 64 - b0
  match s.readMem (base + 8 * a.rate * b0) (8 * a.rate * nb) with
  | (s, .error e) => (s, .error e)
  | (s, .ok bs) =>
    let (s, outs) := s.expand core 0 a.carried a.rate (pieces (8 * a.rate) nb bs)
    if outs.length = nb then (s, .ok (((outs.flatMap (outValues a.carried)).drop (off % 64)).take n))
    else (s, .error Cause.planReject)

/-- Buffer of a site's delta: the send buffer for the module's own. -/
def State.deltaBase (s : State) (site : Nat) : Nat :=
  let a := s.assoc
  if site = a.site then a.sendBase else ((a.recvBases.find? (fun r => r.1 == site)).map (·.2)).getD 0

/-- Offcut array 0 or 1 (R463), in stream element order. -/
def State.offcutBase (s : State) (one : Bool) : Nat := if one then s.assoc.offcutBase1 else s.assoc.offcutBase0
def State.readOffcut (s : State) (one : Bool) (off n : Nat) : Res (List Val) :=
  match s.readMem (s.offcutBase one + 4 * off) (4 * n) with
  | (s, .ok bs) => (s, .ok (fp32List bs))
  | (s, .error e) => (s, .error e)

/-! ## Anchor and outer momentum -/

def State.readAnchor (s : State) (c : ShardCfg) (a n : Nat) : Res (List Val) :=
  match s.readMem (c.anchorBase + 2 * a) (2 * n) with
  | (s, .ok bs) => (s, .ok (momentList true bs))
  | (s, .error e) => (s, .error e)

/-- The compressor slot and table of outer momentum in KFR rate 4 carrying MXFP8 E4M3 (log entry 24). -/
def State.momentumTable (s : State) (core : Nat) : Option (Nat × Table) :=
  ((List.range 4).filterMap (fun k => (((s.cluster core).slots.at k).table).map (fun t => (k, t)))).find? (fun e => e.2.rate == 4 && e.2.carried == 3)

/-- Values of momentum blocks: a cleared block, as a job's start leaves it (R461, log entry 130), holds 64 zeros. -/
def momValues : List (List Byte) → List KfrOut → List Val
  | [], _ => []
  | b :: bs, outs =>
    if blockNat b = 0 then List.replicate 64 Val.zero ++ momValues bs outs
    else outValues 3 (outs.headD { scale0 := 0, scale1 := 0, codes := [], rough := false }) ++ momValues bs (outs.drop 1)

/-- Momentum blocks decoded through expander B of the core (log entry 129). -/
def State.expandMomentum (s : State) (core : Nat) (blocks : List (List Byte)) : Res (List Val) :=
  let coded := blocks.filter (fun b => blockNat b != 0)
  let (s, outs) := s.expand core 1 3 4 coded
  if outs.length = coded.length then (s, .ok (momValues blocks outs)) else (s, .error Cause.planReject)

def State.readMomentum (s : State) (core : Nat) (c : ShardCfg) (a n : Nat) : Res (List Val) :=
  match c.omFmt with
  | 1 => match s.readMem (c.omBase + 4 * a) (4 * n) with
    | (s, .ok bs) => (s, .ok (fp32List bs))
    | (s, .error e) => (s, .error e)
  | 2 => match s.readMem (c.omBase + 2 * a) (2 * n) with
    | (s, .ok bs) => (s, .ok (momentList true bs))
    | (s, .error e) => (s, .error e)
  | 3 =>
    let b0 := a / 64
    let nb := (a + n + 63) / 64 - b0
    match s.readMem (c.omBase + 32 * b0) (32 * nb) with
    | (s, .error e) => (s, .error e)
    | (s, .ok bs) =>
      match s.expandMomentum core (pieces 32 nb bs) with
      | (s, .ok xs) => (s, .ok ((xs.drop (a % 64)).take n))
      | (s, .error e) => (s, .error e)
  | _ => (s, .ok (List.replicate n Val.zero))

/-- Blocks that a cluster's compressor has encoded are counted (06_fixed_rate R222). -/
def State.countEncoded (s : State) (core : Nat) (encs : List KfrEnc) : State :=
  s.modCluster core (fun k => { k with
    blocks := k.blocks + BitVec.ofNat 32 encs.length, rough := k.rough + BitVec.ofNat 32 (encs.countP (·.rough)),
    nan := k.nan + BitVec.ofNat 32 (encs.countP (·.nan)) })

/-- Bytes of outer momentum values in OM_FMT; KFR blocks are encoded by the cluster's compressor. -/
def State.momentumOut (s : State) (core : Nat) (c : ShardCfg) (xs : List Val) : State × List Byte :=
  match c.omFmt with
  | 1 => (s, fp32Bytes (xs.map toFp32))
  | 2 => (s, momentBytes true xs)
  | 3 => match s.momentumTable core with
    | some (k, t) =>
      let xs := xs ++ List.replicate (pad64 xs.length - xs.length) Val.zero
      let encs := (pieces 64 (xs.length / 64) xs).map (kfrEncode t k)
      (s.countEncoded core encs, encs.flatMap (·.bytes))
    | none => (s, [])
  | _ => (s, [])
/-- Where the momentum of element a lies. -/
def omAddr (c : ShardCfg) (a : Nat) : Nat :=
  match c.omFmt with | 1 => c.omBase + 4 * a | 2 => c.omBase + 2 * a | _ => c.omBase + a / 64 * 32
/-- Bytes of a shard's momentum. -/
def omSize (c : ShardCfg) : Nat := match c.omFmt with | 0 => 0 | 3 => omAddr c (pad64 c.count) - c.omBase | _ => omAddr c c.count - c.omBase
/-- Bytes of the momentum of n elements from a on. -/
def omSpan (c : ShardCfg) (a n : Nat) : Nat := if c.omFmt = 0 then 0 else omAddr c (a + (if c.omFmt = 3 then pad64 n else n)) - omAddr c a
/-- Momentum bytes before a shard in what a reference sends. -/
def State.refOmOff (s : State) (shard : Nat) : Nat :=
  ((s.roundShards.takeWhile (· != shard)).map (fun n => (s.shardCfg n).elim 0 omSize)).sum

/-! ## Staging (R471) -/

/-- The reference's anchor of a range, as fetched for a rebase (R479). -/
def State.refAnchorOf (s : State) (shard a n : Nat) : List Val :=
  momentList true ((s.round.refAnchor.drop (2 * (s.refOff shard + a))).take (2 * n))
/-- The reference's momentum bytes of a range, which a rebase takes exactly (R479). -/
def State.refMomBytes (s : State) (c : ShardCfg) (shard a n : Nat) : List Byte :=
  (s.round.refMomentum.drop (s.refOmOff shard + (omAddr c a - c.omBase))).take (omSpan c a n)
/-- Their values. -/
def State.refMomentumOf (s : State) (c : ShardCfg) (core shard a n : Nat) : Res (List Val) :=
  let om := s.refMomBytes c shard a n
  match c.omFmt with
  | 1 => (s, .ok (fp32List om))
  | 2 => (s, .ok (momentList true om))
  | 3 => match s.expandMomentum core (pieces 32 (om.length / 32) om) with
    | (s, .ok xs) => (s, .ok (xs.take n))
    | (s, .error e) => (s, .error e)
  | _ => (s, .ok (List.replicate n Val.zero))

/-- D = dec(x) + O[1 − CUR] − O[CUR], exactly. -/
def State.ownDelta (s : State) (core off n base : Nat) : Res (List Val) :=
  match s.readStream core base off n with
  | (s, .error e) => (s, .error e)
  | (s, .ok x) =>
    match s.readOffcut (!s.round.cur) off n with
    | (s, .error e) => (s, .error e)
    | (s, .ok o1) =>
      match s.readOffcut s.round.cur off n with
      | (s, .error e) => (s, .error e)
      | (s, .ok o0) => (s, .ok ((x.zip (o1.zip o0)).map (fun (x, p, q) => (x.add p).sub q)))

/-- The included deltas of a range, each with its weight, in ascending site order. -/
def State.includedDeltas (s : State) (core off n : Nat) : List Included → Res (List (Val × List Val))
  | [] => (s, .ok [])
  | i :: rest =>
    match s.readStream core (s.deltaBase i.site) off n with
    | (s, .error e) => (s, .error e)
    | (s, .ok xs) =>
      match s.includedDeltas core off n rest with
      | (s, .error e) => (s, .error e)
      | (s, .ok more) => (s, .ok ((fp32 i.weight, xs) :: more))

def rne (x : Val) : Val := fp32 (toFp32 x)
/-- x / y rounded once. -/
def divRne : Val → Val → Val
  | .fin a m e, .fin b n f => if n = 0 then .nan else if m = 0 then .fin (a != b) 0 0 else rne (ratio (a != b) m n (e - f))
  | _, _ => .nan

/-- Sum of the weights, in the same order (R471). -/
def weightSum (ws : List Val) : Val := ws.foldl (fun acc w => rne (acc.add w)) Val.zero
/-- The weighted mean of one element. -/
def meanOf (wds : List (Val × Val)) : Val :=
  divRne (wds.foldl (fun acc (w, d) => rne (acc.add (w.mul d))) Val.zero) (weightSum (wds.map (·.1)))

def State.inRebase (s : State) : Bool := s.round.rebaseStep == 5

/-- A held delta has all its blocks. -/
def HeldDelta.whole (d : HeldDelta) : Bool := d.total != 0 && (d.got.map (·.2)).sum == d.total
def State.heldDelta (s : State) (i round : Nat) : Option HeldDelta := s.round.deltas.find? (fun d => d.site == i && d.round == round)
/-- Included deltas of the close in progress, ascending by site. -/
def State.closeIncluded (s : State) : List Included :=
  sortBy (·.site) ((s.round.closing.map (fun b => b.proposal.included)).getD [])

/-- The four staged arrays of an OUTER chunk: P_base, the mean, OM, A. -/
def State.outerArrays (s : State) (core shard : Nat) (c : ShardCfg) (p : List Val) (a n : Nat) : Res (List (List Val)) :=
  let off := s.streamOff shard + a
  match s.readAnchor c a n with
  | (s, .error e) => (s, .error e)
  | (s, .ok anchor) =>
    match s.readMomentum core c a n with
    | (s, .error e) => (s, .error e)
    | (s, .ok mom) =>
      let own := s.inRebase || s.closeIncluded.any (fun i => i.site == s.assoc.site)
      match (if own then s.ownDelta core off n (if s.inRebase then s.assoc.pendingBase else s.assoc.sendBase)
        else (s, .ok (List.replicate n Val.zero))) with
      | (s, .error e) => (s, .error e)
      | (s, .ok d) =>
        let base := if own then (p.zip d).map (fun (p, d) => rne (p.sub d)) else p
        if s.inRebase then
          (s, .ok [base, ((s.refAnchorOf shard a n).zip anchor).map (fun (x, y) => rne (x.sub y)), mom, anchor])
        else
          match s.includedDeltas core off n s.closeIncluded with
          | (s, .error e) => (s, .error e)
          | (s, .ok ds) =>
            let mean := (List.range n).map (fun i => meanOf (ds.map (fun x => (x.1, x.2.getD i Val.zero))))
            (s, .ok [base, mean, mom, anchor])

/-! ## The weight word (R472) -/

/-- Word 22 of an OUTER kernel: S as FP32 (R472). -/
def State.outerWeight (s : State) : Word := toFp32 (weightSum (s.closeIncluded.map (fun i => fp32 i.weight)))

/-! ## Write-back (R473) -/

/-- Tells the journal of a close from that of a rebase, and one rebase from another; never 0. -/
def State.journalTag (s : State) : Nat := 1 + b2n s.inRebase + 2 * s.round.rebases.toNat
/-- A core's journal: its record, then A′ and OM′ of the chunk (log entry 25). -/
def State.journalAddr (s : State) (core : Nat) : Nat := s.assoc.journalBase + core * 0x100000
def journalData : Nat := 64
def journalMom : Nat := 64 + 131072

/-- Writes of A′ and OM′ with their journal, in order. -/
def State.outerWrites (s : State) (core shard : Nat) (c : ShardCfg) (d : UDesc) (chunk a : Nat) (om an : List Val) :
    State × List (Nat × List Byte) :=
  let ab := momentBytes true an
  let (s, ob) := if s.inRebase then (s, s.refMomBytes c shard a an.length) else s.momentumOut core c om
  let j := s.journalAddr core
  (s, [(j + journalData, ab), (j + journalMom, ob),
   (j, leBytes 8 s.round.openRound ++ leBytes 4 shard ++ leBytes 4 chunk ++ leBytes 8 d.start ++ leBytes 8 s.journalTag ++ zeros 32),
   (c.anchorBase + 2 * a, ab), (omAddr c a, ob)])

/-- The chunk at which a segment issued again resumes: A and OM of the chunk before are rewritten from the journal first. -/
def State.outerResume (s : State) (core shard : Nat) (c : ShardCfg) (d : UDesc) : Res Nat :=
  match s.readMem (s.journalAddr core) 64 with
  | (s, .error e) => (s, .error e)
  | (s, .ok bs) =>
    let w := leNat bs
    let chunk := fld w 96 32
    if fld w 192 64 = s.journalTag && fld w 0 64 = s.round.openRound && fld w 64 32 = shard && fld w 128 64 = d.start then
      let (a, n) := d.chunkAt chunk
      match s.readMem (s.journalAddr core + journalData) (2 * n) with
      | (s, .error e) => (s, .error e)
      | (s, .ok ab) =>
        match s.readMem (s.journalAddr core + journalMom) (omSpan c a n) with
        | (s, .error e) => (s, .error e)
        | (s, .ok ob) =>
          match s.writeAll [(c.anchorBase + 2 * a, ab), (omAddr c a, ob)] with
          | (s, 0) => (s, .ok (chunk + 1))
          | (s, e) => (s, .error e)
    else (s, .ok 0)

/-! ## The end of a round -/

/-- Own site's bit is in a mask. -/
def State.ownIn (s : State) (mask : Nat) : Bool := bitOf mask s.assoc.site

/-- Every round shard has committed the outer update (R473, R476, R479). -/
def State.roundApplied (s : State) : State :=
  match s.round.closing with
  | some b =>
    let r := b.proposal.round
    (s.dropRoundHolds.modRound (fun u => { u with
      cur := if s.ownIn b.proposal.mask then !u.cur else u.cur, lastApplied := some r, openRound := r + 1, anchorRound := r + 1,
      closing := none, outerDone := [], outerIssued := [], formed := [], sentDelta := false, accepted := u.accepted.filter (fun p => r < p.round),
      checked := [], failed := [],
      proposal := none, accepts := 0, restored := false, deltas := u.deltas.filter (fun x => r < x.round) })).holdForm
  | none =>
    if s.inRebase then
      (s.dropRoundHolds.modRound (fun u => { u with
        cur := !u.cur, outerDone := [], outerIssued := [], formed := [], sentDelta := false, rebaseStep := 0, openRound := u.refRound,
        anchorRound := u.refRound, ownState := 2, restored := false, rebases := u.rebases + 1, refAnchor := [], refMomentum := [] })).holdForm
    else s

/-- A round shard has committed its outer update. -/
def State.outerCommitted (s : State) (shard : Nat) : State :=
  let s := s.modRound (fun u => { u with outerDone := u.outerDone ++ [shard] })
  if s.roundShards.all s.round.outerDone.contains then s.roundApplied else s

end Sys2Proof.Machine
end

