-- ==== Sys2Proof/Machine/Export.lean ====
section
/-! DEFINITION. Shard exports as read back: their header and arrays, which elements they hold, and the copy of a diverged shard
(10_parameter R358, R360; 14_checkpoint R515, R518 to R520). -/

namespace Sys2Proof.Machine

open Sys2Proof

/-- Offsets of arrays of given lengths in an export, each on a 64-byte boundary after the header. -/
def exportOffs : Nat → List Nat → List Nat
  | _, [] => []
  | at_, n :: ns => at_ :: exportOffs (at_ + up64 n) ns

/-- An export read back: its box and formats, the header's fields, whether its DIGEST holds, and its arrays. -/
structure ExportPiece where
  target : Nat
  cfg : ShardCfg
  step : Nat
  version : Nat
  count : Nat
  park : Nat
  good : Bool
  /-- master, shavings, moments -/
  arrays : List (List Byte)
  anchor : List Byte
  momentum : List Byte
  parking : List Byte
  offcut : List Byte
  deriving DecidableEq, Repr

/-- The shard that an export header describes (R360). -/
def headerShard (w : Nat) : ShardCfg :=
  let four (o : Nat) : List Nat := (List.range 4).map (fun i => fld w (8 * o + 32 * i) 32)
  { tid := fld w 32 32, pool := false, nslot := 2, moments := fld w 72 2, momBf16 := bitOf w 74, omFmt := fld w 75 2, rank := fld w 64 8,
    dims := four 16, boxStart := four 32, boxExt := four 48, slotBase := [], anchorBase := 0, omBase := 0, commitBase := 0, parkBase := 0,
    windowBase := 0, segCount := 0, deferMax := 0, replicaSet := 0 }

/-- Lengths of the arrays that an export of a shard with some FLAGS holds. -/
def exportSpans (c : ShardCfg) (flags : Nat) : List Nat :=
  c.sizes.map (· * c.count) ++ [if bitOf flags 0 then 2 * c.count else 0, if bitOf flags 1 then omSize c else 0,
    if bitOf flags 2 then 4 * c.count else 0, if bitOf flags 3 then 4 * c.count else 0]

/-- An export's bytes read back; its DIGEST is checked by R358. -/
def parseExport (p : PieceLoad) : Option ExportPiece :=
  let w := leNat (p.bytes.take 256)
  let c := headerShard w
  if fld w 0 16 ≠ 1 || c.rank = 0 || 4 < c.rank then none
  else
    let flags := fld w 16 16
    let spans := exportSpans c flags
    let parts := ((exportOffs 256 spans).zip spans).map (fun (o, n) => (p.bytes.drop o).take n)
    let k := c.sizes.length
    let arrays := parts.take k
    let digest := c.digest (fld w 512 64) (fld w 640 64) arrays
    some { target := p.target, cfg := c, step := fld w 512 64, version := fld w 576 64, count := fld w 640 64, park := fld w 704 64,
           good := digest == BitVec.ofNat 64 (fld w 768 64) && parts.map (·.length) == spans, arrays := arrays,
           anchor := if bitOf flags 0 then parts.getD k [] else p.anchor, momentum := if bitOf flags 1 then parts.getD (k + 1) [] else p.momentum,
           parking := parts.getD (k + 2) [], offcut := parts.getD (k + 3) [] }

/-- Two shards cover the same box of the same tensor. -/
def sameBox (a b : ShardCfg) : Bool :=
  a.tid == b.tid && a.rank == b.rank && a.boxStart.take a.rank == b.boxStart.take b.rank && a.boxExt.take a.rank == b.boxExt.take b.rank
/-- Their slots hold arrays of the same formats. -/
def sameArrays (a b : ShardCfg) : Bool := a.moments == b.moments && a.momBf16 == b.momBf16

/-- Slot bytes of arrays: each starts on a 64-byte boundary (R328). -/
def slotOf (arrays : List (List Byte)) : List Byte := arrays.flatMap (fun a => fitBytes (up64 a.length) a)

/-- A piece's own shard, restored as it stands. -/
def ExportPiece.whole (p : ExportPiece) (n : Nat) : ShardLoad :=
  { shard := n, step := p.step, version := p.version, count := p.count, park := p.park, slotBytes := slotOf p.arrays, anchor := p.anchor,
    momentum := p.momentum, parking := p.parking, offcut := p.offcut }

/-! ## Re-mapping (R519) -/

/-- The element of a piece that lies at some coordinates of the tensor, if its box holds them. -/
def ExportPiece.find (p : ExportPiece) (x : List Nat) : Option Nat :=
  let lo := p.cfg.boxStart.take p.cfg.rank
  let ext := p.cfg.boxExt.take p.cfg.rank
  if x.length = p.cfg.rank && (x.zip (lo.zip ext)).all (fun (a, b, e) => b ≤ a && a < b + e) then some (rowMajor (x.zipWith (· - ·) lo) ext) else none

/-- Where an element of a shard lies: a piece and the element's number in it. -/
def placeOf (ps : List ExportPiece) (c : ShardCfg) (i : Nat) : Option (ExportPiece × Nat) :=
  let x := (unRow i (c.boxExt.take c.rank)).zipWith (· + ·) c.boxStart
  ps.findSome? (fun p => (p.find x).map (fun j => (p, j)))

/-- The elements of b bytes that some places name, of one of the arrays. -/
def gather (b : Nat) (f : ExportPiece → List Byte) (at_ : List (ExportPiece × Nat)) : List Byte :=
  at_.flatMap (fun (p, j) => ((f p).drop (b * j)).take b)

/-- A shard cut from pieces of other boxes. Outer momentum in KFR blocks is cut by values, through a table given (log entry 139). -/
def remapped (ps : List ExportPiece) (n : Nat) (c : ShardCfg) (table : Option (Nat × Table)) : Option ShardLoad :=
  let places := (List.range c.count).filterMap (placeOf ps c)
  match places with
  | [] => none
  | (p, _) :: _ =>
    if places.length ≠ c.count then none
    else
      let mom : Option (List Byte) := match c.omFmt with
        | 1 => some (gather 4 (·.momentum) places)
        | 2 => some (gather 2 (·.momentum) places)
        | 3 => table.map (fun (k, t) =>
          let values (q : ExportPiece) : List Val :=
            let bs := pieces 32 (q.momentum.length / 32) q.momentum
            momValues bs ((bs.filter (fun b => blockNat b != 0)).map (kfrDecode t))
          let xs := places.map (fun (q, j) => (values q).getD j Val.zero)
          (pieces 64 (pad64 c.count / 64) (xs ++ List.replicate (pad64 c.count - c.count) Val.zero)).flatMap (fun b => (kfrEncode t k b).bytes))
        | _ => some []
      mom.map (fun m =>
        { shard := n, step := (places.map (·.1.step)).foldl max 0, version := (places.map (·.1.version)).foldl max 0, count := p.count, park := 0,
          slotBytes := slotOf (c.sizes.zipIdx.map (fun (b, k) => gather b (fun q => q.arrays.getD k []) places)),
          anchor := gather 2 (·.anchor) places, momentum := m, parking := [], offcut := gather 4 (·.offcut) places })

/-! ## The copy of a diverged shard (R520) -/

/-- The export that a majority member sent has arrived: a good one of the shard's box and of its own committed step. -/
def State.arrivedExport (s : State) (n : Nat) (c : ShardCfg) : Res (Option ExportPiece) :=
  match s.readMem (farAddr (Config.exportPlace n)) (256 + c.slotSize) with
  | (s, .error e) => (s, .error e)
  | (s, .ok bs) =>
    let slotOnly := bs.take 2 ++ leBytes 2 0 ++ bs.drop 4
    (s, .ok ((parseExport { target := 0, bytes := slotOnly, anchor := [], momentum := [] }).filter (fun p =>
      p.good && sameBox p.cfg c && sameArrays p.cfg c && p.step == (s.shardSt n).step)))

/-- A shard asked for is copied over the committed slot once its export has arrived, and committed again (R518). -/
def State.takeRepair (s : State) (n : Nat) (c : ShardCfg) : State :=
  let x := s.shardSt n
  if !x.repair then s
  else
    match s.arrivedExport n c with
    | (s, .ok (some p)) =>
      match s.writeMem (c.heldBase x.staged x.slot) ((slotOf p.arrays).take c.slotSize) with
      | (s, 0) =>
        match s.writeCommit n c { seq := x.seq + 1, version := p.version + 1, step := p.step, count := p.count, tid := c.tid, slot := x.slot } with
        | (s, 0) => s.modShard n (fun y => { y with diverged := false, repair := false, good := none })
        | (s, _) => s
      | (s, _) => s
    | (s, _) => s

end Sys2Proof.Machine
end

