-- ==== Sys2Proof/Machine/Rules.lean ====
section
/-! DEFINITION. The supplied update rules: SGD, MOMENTUM and ADAMW (10_parameter R355), and the outer rules of 13_freyn R472. A supplied
kernel runs on the staged arrays and ends at once (log entry 131). -/

namespace Sys2Proof.Machine

open Sys2Proof

/-! ## FP32 lanes, one rounding per operation (R237, R355) -/

def fadd (a b : Word) : Word := (laneAdd 0 a b).1
def fsub (a b : Word) : Word := (laneSub 0 a b).1
def fmul (a b : Word) : Word := (laneMul 0 a b).1
/-- a · b + c. -/
def ffma (a b c : Word) : Word := (laneFma 0 a b c).1
def fneg (a : Word) : Word := (laneNeg 0 a).1
def fone : Word := 0x3F800000

/-- What a rule takes from its argument block, k1 and k2 formed once per chunk. -/
structure RuleArgs where
  lr : Word
  b1 : Word
  b2 : Word
  eps : Word
  wd : Word
  mu : Word
  k1 : Word
  k2 : Word
  deriving DecidableEq, Repr

/-- 1 / (1 − b^n) as exp2(n · log2 b) has it. -/
def biasScale (n b : Word) : Word :=
  (laneFn rcpVal (fsub fone (laneFn exp2Val (fmul n (laneFn log2Val b).1)).1)).1

/-- Staged arrays that a rule reads: P and g, and the moments it keeps. -/
def ruleArrays : InnerRule → Nat
  | .sgd => 2
  | .momentum => 3
  | .adamw => 4

/-- One element: P′ and the moments' new values, from P, g and the moments (R355). -/
def innerRule (r : InnerRule) (k : RuleArgs) (p g m1 m2 : Word) : Word × Word × Word :=
  let put (w m1 m2 : Word) : Word × Word × Word := (ffma w (fneg k.lr) p, m1, m2)
  match r with
  | .sgd => put (ffma p k.wd g) m1 m2
  | .momentum =>
    let m1 := ffma m1 k.mu g
    put (ffma p k.wd m1) m1 m2
  | .adamw =>
    let m1 := ffma m1 k.b1 (fmul (fsub fone k.b1) g)
    let m2 := ffma m2 k.b2 (fmul (fsub fone k.b2) (fmul g g))
    let u := fmul (fmul m1 k.k1) (laneFn rsqrtVal (fadd (fmul m2 k.k2) k.eps)).1
    put (ffma p k.wd u) m1 m2

/-- Argument word `i` of a block: 8 bytes. -/
def argWord (args i : Nat) : Nat := fld args (64 * i) 64

/-- The arguments of a rule; lr is entry min(s div STRIDE, 4 095) of the table in SRAM. -/
def State.ruleArgs (s : State) (core args : Nat) : Res RuleArgs :=
  match s.readMem (sramAddr core (argWord args 0 + 4 * Nat.min (argWord args 23 / argWord args 1) 4095)) 4 with
  | (s, .error e) => (s, .error e)
  | (s, .ok lr) =>
    let w (i : Nat) : Word := BitVec.ofNat 32 (argWord args i)
    (s, .ok { lr := BitVec.ofNat 32 (leNat lr), b1 := w 2, b2 := w 3, eps := w 4, wd := w 5, mu := w 6,
              k1 := biasScale (w 22) (w 2), k2 := biasScale (w 22) (w 3) })

/-- FP32 arrays of `m` elements at SRAM offsets of a core. -/
def State.readFp32s (s : State) (core m : Nat) : List Nat → Res (List (List Word))
  | [] => (s, .ok [])
  | off :: rest =>
    match s.readMem (sramAddr core off) (4 * m) with
    | (s, .error e) => (s, .error e)
    | (s, .ok bs) =>
      match s.readFp32s core m rest with
      | (s, .error e) => (s, .error e)
      | (s, .ok xs) => (s, .ok ((wordsOf 4 bs).map (BitVec.ofNat 32) :: xs))

/-- Contributions to a tap set's kind, 256 values each (R251, R355). -/
def CoreSt.tapTiles (x : CoreSt) (set kind : Nat) (vs : List Word) : CoreSt :=
  (pieces 256 ((vs.length + 255) / 256) vs).foldl (fun x t => x.tap set kind (t.map fp32) 0) x

/-- A supplied inner rule on a staged chunk of `m` elements: arrays to write, by SRAM offset; WEIGHT is tapped as P′ and UPDATE as
P′ − P, on the set of argument word 8. -/
def State.runInner (s : State) (core : Nat) (d : UDesc) (r : InnerRule) (m : Nat) : Res (List (Nat × List Word)) :=
  match s.readMem (sramAddr core d.args) 256 with
  | (s, .error e) => (s, .error e)
  | (s, .ok bs) =>
    let args := leNat bs
    match s.ruleArgs core args with
    | (s, .error e) => (s, .error e)
    | (s, .ok k) =>
      let offs := (List.range (ruleArrays r)).map (fun i => argWord args (24 + i))
      match s.readFp32s core m offs with
      | (s, .error e) => (s, .error e)
      | (s, .ok xs) =>
        let old := xs.headD []
        let out := (List.range m).map (fun i =>
          let at_ (j : Nat) : Word := (xs.getD j []).getD i 0
          innerRule r k (at_ 0) (at_ 1) (at_ 2) (at_ 3))
        let new := out.map (·.1)
        let set := argWord args 8 % 256
        let s := s.modCore core (fun x => (x.tapTiles set 1 new).tapTiles set 3 ((new.zip old).map (fun p => fsub p.1 p.2)))
        (s, .ok ((offs.zip [new, [], out.map (·.2.1), out.map (·.2.2)]).filter (fun w => !w.2.isEmpty)))

/-! ## The supplied outer rules (13_freyn R472) -/

/-- One element under a supplied rule, in FP32: P′, OM′ and A′ from P_base, Δ̄, OM and A. -/
def outerRule (r : OuterRule) (eta mu : Val) (p d om a : Val) : Val × Val × Val :=
  let om' := rne ((om.mul mu).add d)
  let u := match r with
    | .nesterov => rne (eta.mul (rne ((om'.mul mu).add d)))
    | _ => rne (d.mul eta)
  (rne (p.add u), match r with | .nesterov => om' | _ => om, rne (a.add u))

/-- A supplied outer rule on a staged chunk, with η and μ from argument words 0 and 1: P′, OM′ and A′ by SRAM offset. -/
def State.runOuter (s : State) (core : Nat) (d : UDesc) (m : Nat) : Res (List (Nat × List Word)) :=
  match s.readMem (sramAddr core d.args) 16 with
  | (s, .error e) => (s, .error e)
  | (s, .ok ws) =>
    let eta := decodeElem 0 (leNat (ws.take 4))
    let mu := decodeElem 0 (leNat ((ws.drop 8).take 4))
    let offs := (List.range 4).map (fun k => d.stage + 4 * k * d.chunkSize)
    match s.readFp32s core m offs with
    | (s, .error e) => (s, .error e)
    | (s, .ok xs) =>
      let out := (List.range m).map (fun i =>
        let at_ (k : Nat) : Val := fp32 ((xs.getD k []).getD i 0)
        outerRule s.assoc.outerRule eta mu (at_ 0) (at_ 1) (at_ 2) (at_ 3))
      (s, .ok [(d.stage, out.map (fun x => toFp32 x.1)), (d.stage + 8 * d.chunkSize, out.map (fun x => toFp32 x.2.1)),
               (d.stage + 12 * d.chunkSize, out.map (fun x => toFp32 x.2.2))])

/-- The supplied rule of a segment's kernel, run on its staged chunk; none for a kernel of the image's own. -/
def State.runSupplied (s : State) (core : Nat) (d : UDesc) (m : Nat) : Option (Res (List (Nat × List Word))) :=
  if d.op = 2 then (if s.assoc.outerRule = .custom then none else some (s.runOuter core d m))
  else ((s.coreCfg core).supplied.find? (fun k => k.1 == d.kernel)).map (fun k => s.runInner core d k.2 m)

end Sys2Proof.Machine
end

