-- ==== Sys2Proof/Machine/Update.lean ====
section
/-! DEFINITION. Update segments and commits (10_parameter R336 to R362; 13_freyn R471 to R473; 14_checkpoint R502, R523). -/

namespace Sys2Proof.Machine

open Sys2Proof

def State.modUp (s : State) (core : Nat) (f : UpdateEngine → UpdateEngine) : State :=
  s.modCore core (fun x => { x with up := f x.up })
def State.headSeg (s : State) (core : Nat) : Option Segment := (s.core core).up.segs.head?
/-- The segment at the front of the unit changes. -/
def State.modHead (s : State) (core : Nat) (f : Segment → Segment) : State :=
  s.modUp core (fun u => { u with segs := match u.segs with | [] => [] | g :: gs => f g :: gs })
def Segment.udesc (g : Segment) : UDesc := UDesc.ofNat g.desc.toNat
/-- The segment waits or has failed, from now. -/
def State.segPhase (s : State) (core : Nat) (p : SegPhase) : State := s.modHead core (fun g => { g with phase := p, since := s.now })
def State.segFail (s : State) (core : Nat) (cause : Cause) : State := s.segPhase core (.failed cause)

/-- A segment of a shard, INNER or OUTER, is in some core's unit. -/
def State.shardBusy (s : State) (shard op : Nat) : Bool :=
  s.cores.any (fun c => c.2.up.segs.any (fun g => g.udesc.shard == shard && g.udesc.op == op))

/-! ## Chunks (R340 to R342) -/

/-- The gate record's scale LS and the record itself, as the core's ring holds them (R316). -/
def State.gateRec (s : State) (core step : Nat) : Nat := s.peekNat (sramAddr core ((s.coreCfg core).gateRing + step % 4 * 64)) 64

/-- A shard's gradient of a range: g, and for a staged update the parking buffer added once (R340, R353). -/
def State.gradient (s : State) (core : Nat) (g : Segment) (d : UDesc) (c : ShardCfg) (a n : Nat) : Res (List Word) :=
  match s.readGradient core d (a - d.start) n (fld (s.gateRec core g.step) 80 8) with
  | (s, .error e) => (s, .error e)
  | (s, .ok gs) =>
    if (s.shardSt d.shard).park = 0 then (s, .ok gs)
    else
      match s.readMem (c.parkBase + 4 * a) (4 * n) with
      | (s, .error e) => (s, .error e)
      | (s, .ok ps) => (s, .ok ((gs.zip (fp32List ps)).map (fun (x, p) => toFp32 ((fp32 x).add p))))

/-- The staged arrays of a chunk, in order. -/
def State.innerArrays (s : State) (core : Nat) (g : Segment) (d : UDesc) (c : ShardCfg) (a n : Nat) : Res (List (List Word)) :=
  let base := c.readBase (s.shardSt d.shard).slot
  match s.readStored c base a n with
  | (s, .error e) => (s, .error e)
  | (s, .ok p) =>
    match s.gradient core g d c a n with
    | (s, .error e) => (s, .error e)
    | (s, .ok gs) =>
      match s.readMoments c base a n (List.range c.moments) with
      | (s, .error e) => (s, .error e)
      | (s, .ok ms) => (s, .ok (p.map toFp32 :: gs :: ms.map (fun m => (momentList c.momBf16 m).map toFp32)))

def State.stagedArrays (s : State) (core : Nat) (g : Segment) (d : UDesc) (c : ShardCfg) (a n : Nat) : Res (List (List Word)) :=
  if d.op = 2 then
    match s.readStored c (c.readBase (s.shardSt d.shard).slot) a n with
    | (s, .error e) => (s, .error e)
    | (s, .ok p) =>
      match s.outerArrays core d.shard c p a n with
      | (s, .error e) => (s, .error e)
      | (s, .ok xs) => (s, .ok (xs.map (·.map toFp32)))
  else s.innerArrays core g d c a n

/-- Argument words 22 to 29 (R341; 13_freyn R472). -/
def State.segArgs (s : State) (g : Segment) (d : UDesc) (c : ShardCfg) (arrays a m : Nat) : List Byte :=
  let w22 : Nat := if d.op = 2 then s.outerWeight.toNat else (toFp32 (Val.ofInt ((s.shardSt d.shard).count + 1) 0)).toNat
  let w23 : Nat := if d.op = 2 then s.round.openRound else g.step
  leBytes 8 w22 ++ leBytes 8 w23 ++
    (List.range 4).flatMap (fun k => leBytes 8 (if k < arrays then d.stage + 4 * k * d.chunkSize else 0)) ++
    leBytes 8 m ++ leBytes 8 (c.logical a)

/-- The target slot of the step; that of an outer update is picked when its first segment stages a chunk (R336). -/
def State.takeTarget (s : State) (shard step : Nat) (c : ShardCfg) : State :=
  s.modShard shard (fun x => { x with target := some ((x.target.map (·.1)).getD (x.pickTarget c.nslot), step) })

/-- The kernel's arrays of a chunk. -/
def State.kernelArray (s : State) (core : Nat) (d : UDesc) (n k : Nat) : Res (List Val) :=
  match s.readMem (sramAddr core (d.stage + 4 * k * d.chunkSize)) (4 * n) with
  | (s, .ok bs) => (s, .ok (fp32List bs))
  | (s, .error e) => (s, .error e)
def State.kernelArrays (s : State) (core : Nat) (d : UDesc) (n : Nat) : List Nat → Res (List (List Val))
  | [] => (s, .ok [])
  | k :: ks =>
    match s.kernelArray core d n k with
    | (s, .error e) => (s, .error e)
    | (s, .ok x) =>
      match s.kernelArrays core d n ks with
      | (s, .error e) => (s, .error e)
      | (s, .ok xs) => (s, .ok (x :: xs))

/-- The kernel of a staged chunk starts: a supplied rule leaves its outputs in the staged arrays and ends (log entry 131); any other
kernel goes to the vector engine. -/
def State.startChunkKernel (s : State) (core : Nat) (g : Segment) (d : UDesc) (m : Nat) : State :=
  let s := s.segPhase core .kernel
  match s.runSupplied core d m with
  | some (s, r) =>
    let (s, e) := match r with
      | .error e => (s, e)
      | .ok xs => s.writeWhole (xs.map (fun (x : Nat × List Word) => (sramAddr core x.1, fp32Bytes x.2)))
    s.modCore core (·.modVx (fun v => { v with segEnd := some e }))
  | none => s.modCore core (·.modVx (fun v => { v with
    segEnd := none, queue := v.queue ++ [{ index := d.kernel, args := d.args, queue := g.queue, entry := g.entry, segment := true }] }))

/-- A chunk is staged and its kernel started. -/
def State.stageChunk (s : State) (core : Nat) (g : Segment) (c : ShardCfg) : State :=
  let d := g.udesc
  let s := s.takeTarget d.shard g.step c
  let (a, n) := d.chunkAt g.chunk
  let m := pad512 n
  match s.stagedArrays core g d c a n with
  | (s, .error e) => s.segFail core e
  | (s, .ok xs) =>
    let ws := xs.zipIdx.map (fun (x, k) => (sramAddr core (d.stage + 4 * k * d.chunkSize), fp32Bytes (x ++ List.replicate (m - n) 0)))
    match s.writeWhole (ws ++ [(sramAddr core (d.args + 176), s.segArgs g d c xs.length a m)]) with
    | (s, 0) => s.startChunkKernel core g d m
    | (s, e) => s.segFail core e

/-! ## A segment begins (R338, R339, R352, R354) -/

/-- The range of a parking step: g is written, or added to what is parked. -/
def State.parkRange (s : State) (core : Nat) (g : Segment) (c : ShardCfg) : State × Cause :=
  let d := g.udesc
  match s.gradient core g d c d.start d.count with
  | (s, .error e) => (s, e)
  | (s, .ok gs) => s.writeWhole [(c.parkBase + 4 * d.start, fp32Bytes gs)]

/-- What a segment that has ended Done tells the commit unit. -/
inductive SegReport where
  | applied | skipped | parked
  deriving DecidableEq, Repr

/-- The commit unit notes a report; a step that was skipped or parked by every segment is processed (R350, R352). -/
def State.noteReport (s : State) (shard step : Nat) (c : ShardCfg) (outer : Bool) : SegReport → State
  | .applied =>
    if outer then s.modShard shard (fun x => { x with outerReports := x.outerReports + 1, lastReportAt := s.now })
    else s.modShard shard (fun x => { x with reports := x.reports + 1, lastReportAt := s.now })
  | .skipped =>
    State.processSkips shard c.segCount 8 (s.modShard shard (fun x => { x with skipReports := x.skipReports.upd step (· + 1) }))
  | .parked =>
    let s := s.modShard shard (fun x => { x with parkReports := x.parkReports + 1 })
    if (s.shardSt shard).parkReports = c.segCount then
      State.processSkips shard c.segCount 8 ((s.modShard shard (fun x => { x with park := x.park + 1 })).shardProcessed shard step)
    else s

/-- The front segment ends Done: it reports, then its counter advances (R339, R346), once for all the times it is issued. -/
def State.segDone (s : State) (core : Nat) (g : Segment) (c : ShardCfg) (r : SegReport) : State :=
  let d := g.udesc
  let s := s.modUp core (fun u => { u with
    segs := u.segs.drop 1, ended := u.ended + 1, parked := if r = .parked then u.parked + 1 else u.parked,
    step := if d.op = 1 && d.last && !g.advanced then u.step + 1 else u.step,
    kept := if d.op = 1 then u.kept.filter (fun k => k.udesc.shard != d.shard || k.step == g.step) ++ [{ g with advanced := true, phase := .queued, chunk := 0 }]
      else u.kept })
  let s := s.noteReport d.shard g.step c (d.op == 2) r
  if g.advanced then s else s.advance core d.counter d.increment

/-- Where the front segment goes: failed, waiting, done or into its first chunk. -/
def State.segBegin (s : State) (core : Nat) (g : Segment) : State :=
  let d := g.udesc
  match s.shardCfg d.shard with
  | none => s.segFail core Cause.planReject
  | some c =>
    let x := s.shardSt d.shard
    if d.op = 2 then
      if !s.segmentOk core d c then s.segFail core Cause.planReject
      else if c.pool && !x.staged then (if g.phase = .waitStage then s else s.segPhase core .waitStage)
      else
      match (if g.issues = 0 then (s, .ok 0) else s.outerResume core d.shard c d) with
      | (s, .error e) => s.segFail core e
      | (s, .ok j) =>
        if j < d.chunks then (s.modHead core (fun g => { g with chunk := j })).stageChunk core { g with chunk := j } c
        else s.segDone core g c .applied
    else
      match s.readMem (sramAddr core ((s.coreCfg core).gateRing + g.step % 4 * 64)) 64 with
      | (s, .error e) => s.segFail core e
      | (s, .ok bs) =>
      let w := leNat bs
      if d.op ≠ 1 || !s.segmentOk core d c || fld w 0 64 ≠ g.step then s.segFail core Cause.planReject
      else if fld w 64 8 = 1 then s.segDone core g c .skipped
      else if fld w 64 8 = 2 then s.segFail core (BitVec.ofNat 8 (fld w 72 8))
      else if x.gaveUp && decide (s.nextStep d.shard < g.step) then s.segFail core x.cause
      else if g.step ≠ s.nextStep d.shard || s.shardBusy d.shard 2 || x.outerReports ≠ 0 then s.segPhase core .waitPrev
      else
      let s := s.takeRepair d.shard c
      if (s.shardSt d.shard).repair then s.segPhase core .waitPrev
      else if !x.hasState then s.segFail core Cause.planReject
      else if c.pool && !x.staged then
        if x.park < c.deferMax then
          match s.parkRange core g c with
          | (s, 0) => s.segDone core g c .parked
          | (s, e) => s.segFail core e
        else if g.phase = .waitStage then s
        else s.segPhase core .waitStage
      else s.stageChunk core g c

/-- Segments begin in order while the front one has not begun. -/
def State.runSegs : Nat → Nat → State → State
  | 0, _, s => s
  | fuel + 1, core, s =>
    match s.headSeg core with
    | some g =>
      if g.phase = .queued && s.dieRunning (coreDie core) then
        let g := if g.issues = 0 && !g.advanced && g.udesc.op == 1 then { g with step := (s.core core).up.step } else g
        State.runSegs fuel core ((s.modHead core (fun _ => g)).segBegin core g)
      else s
    | none => s

/-- Action of an UPDATE entry: its segment descriptor is read; an unreadable one halts the queue at once (02_dataflow R675). -/
def State.actUpdate (s : State) (core q : Nat) (e : Entry) : State :=
  match s.readOwn core e.addr 32 1 with
  | (s, .error c) => (s.modUp core (fun u => { u with lastFail := c })).haltQueue core q c
  | (s, .ok bs) =>
    let s := s.goNext core q
    let g : Segment := { desc := BitVec.ofNat 256 (leNat bs), queue := q, entry := (s.queue core q).pos - 1 }
    State.runSegs 4 core (s.modUp core (fun u => { u with segs := u.segs ++ [g] }))

/-- INNER_SEGMENT (R337 to R339). -/
def execInnerSegment (core q : Nat) (s : State) : Out := .next (s.issue core q 5 (fun s e => s.actUpdate core q e))

/-- PREVIOUS_STEP_RESUME (R339). -/
def execPreviousStepResume (core : Nat) (s : State) : Out :=
  .next (match s.headSeg core with
    | some g =>
      if g.phase = .waitPrev && s.dieRunning (coreDie core) then
        let t := s.segBegin core g
        if (t.headSeg core).any (fun h => h.phase == .waitPrev && h.entry == g.entry && h.step == g.step) then s else State.runSegs 4 core t
      else s
    | none => s)

/-- STAGED_RESUME (R354). -/
def execStagedResume (core : Nat) (s : State) : Out :=
  .next (match s.headSeg core with
    | some g =>
      if g.phase = .waitStage && (s.shardSt g.udesc.shard).staged && s.dieRunning (coreDie core) then
        State.runSegs 4 core (s.segBegin core g)
      else s
    | none => s)

/-- DEFERRAL_LIMIT (R354). -/
def execDeferralLimit (core : Nat) (s : State) : Out :=
  .next (match s.headSeg core with
    | some g => if g.phase = .waitStage && decide (g.since + s.img.deferWait < s.now) then s.segFail core Cause.deferralLimit else s
    | none => s)

/-! ## Write-back (R342, R343; 13_freyn R473) -/

/-- Writes of P′ and the moments into the target. -/
def slotWrites (c : ShardCfg) (base a : Nat) (p : List (Nat × Byte)) (moments : List (List Byte)) : List (Nat × List Byte) :=
  [(base + 2 * a, p.flatMap (fun x => leBytes 2 x.1)), (base + c.arrayOff 1 + a, p.map (·.2))] ++
    moments.zipIdx.map (fun (m, k) => (base + c.arrayOff (2 + k) + c.momSize * a, m))

/-- The working copy of what the chunk completes: the chunk itself, or the bands that end in it under SQUARE (R343). -/
def State.chunkCopy (s : State) (core : Nat) (g : Segment) (d : UDesc) (c : ShardCfg) (base a : Nat) (p : List Val) :
    State × Cause × List (Nat × List Byte) × List Byte :=
  if !d.wcEn then (s, 0, [], [])
  else if isBlock d.wcFmt && d.mode = 2 then
    let band := 32 * c.boxExt.headD 1
    let lo := d.start + (a - d.start) / band * band
    let hi := d.start + (a + p.length - d.start) / band * band
    if hi ≤ lo then (s, 0, [], [])
    else
      match s.readStored c base lo (a - lo) with
      | (s, .error e) => (s, e, [], [])
      | (s, .ok before) =>
        let (ws, fed) := s.workingCopy core d c g.step lo ((before ++ p).take (hi - lo))
        (s, 0, ws, fed)
  else
    let (ws, fed) := s.workingCopy core d c g.step a p
    (s, 0, ws, fed)

/-- The moments an OUTER segment copies, or those an INNER segment's kernel wrote. -/
def State.chunkMoments (s : State) (d : UDesc) (c : ShardCfg) (a n : Nat) (xs : List (List Val)) : Res (List (List Byte)) :=
  if d.op = 2 then s.readMoments c (c.readBase (s.shardSt d.shard).slot) a n (List.range c.moments)
  else (s, .ok ((xs.drop 1).map (momentBytes c.momBf16)))

/-- The front segment goes on after a chunk. -/
def State.nextChunk (s : State) (core : Nat) (g : Segment) (c : ShardCfg) : State :=
  if g.chunk + 1 < g.udesc.chunks then
    (s.modHead core (fun h => { h with chunk := g.chunk + 1 })).stageChunk core { g with chunk := g.chunk + 1 } c
  else State.runSegs 4 core (s.segDone core g c .applied)

/-- A chunk is written back. -/
def State.writeChunk (s : State) (core : Nat) (g : Segment) (c : ShardCfg) : State :=
  let d := g.udesc
  let (a, n) := d.chunkAt g.chunk
  let x := s.shardSt d.shard
  let base := c.writeBase ((x.target.map (·.1)).getD 0)
  let written := if d.op = 2 then (if s.inRebase then [0] else [0, 2, 3]) else 0 :: (List.range c.moments).map (· + 2)
  match s.kernelArrays core d n written with
  | (s, .error e) => s.segFail core e
  | (s, .ok xs) =>
    match (if d.op = 2 && s.inRebase then s.refMomentumOf c core d.shard a n else (s, .ok [])) with
    | (s, .error e) => s.segFail core e
    | (s, .ok om) =>
    let xs := if d.op = 2 && s.inRebase then xs ++ [om, s.refAnchorOf d.shard a n] else xs
    if xs.any (·.any (fun v => !v.isFinite)) then s.segFail core Cause.nonfiniteUpdate
    else
      match s.chunkMoments d c a n xs with
      | (s, .error e) => s.segFail core e
      | (s, .ok ms) =>
        let p := (xs.headD []).map storeValue
        let (s, e, wc, fed) := s.chunkCopy core g d c base a (p.map (fun x => storedValue x.1 x.2))
        if e ≠ 0 then s.segFail core e
        else
          let (s, outer) := if d.op = 2 then s.outerWrites core d.shard c d g.chunk a (xs.getD 1 []) (xs.getD 2 []) else (s, [])
          match s.writeWhole (slotWrites c base a p ms ++ outer ++ wc) with
          | (s, 0) => (s.modCore core (fun y => fed.foldl (fun y b => y.feedRecipe d.recipe (some b)) y)).nextChunk core g c
          | (s, e) => s.segFail core e

/-- Every hold has released the chunk in the target (R336). A POOL shard writes its output half, in which DELTA_FORM reads the committed
slot (log entry 72), so that hold counts as well. -/
def State.chunkReleased (s : State) (g : Segment) (c : ShardCfg) : Bool :=
  let d := g.udesc
  let x := s.shardSt d.shard
  let (a, n) := d.chunkAt g.chunk
  x.released ((x.target.map (·.1)).getD 0) (a + n) && (!c.pool || x.holds.all (fun h => h.holder != holdRound || a + n ≤ h.mark))

/-- CHUNK_WRITEBACK (R342): the chunk's kernel has ended. -/
def execChunkWriteback (core : Nat) (s : State) : Out :=
  .next (match s.headSeg core, (s.core core).vx.segEnd with
    | some g, some cause =>
      match g.phase = .kernel, s.shardCfg g.udesc.shard with
      | _, none => s
      | _, some c =>
        if g.phase ≠ .kernel then s
        else
          let s := s.modCore core (·.modVx (fun v => { v with segEnd := none }))
          if cause ≠ 0 then s.segFail core cause
          else if s.chunkReleased g c then s.writeChunk core g c
          else s.segPhase core .waitSlot
    | _, _ => s)

/-- SLOT_RELEASE_RESUME (R336): the wait is counted, and the wait limit of R76 applies to it. -/
def execSlotReleaseResume (core : Nat) (s : State) : Out :=
  .next (match s.headSeg core with
    | none => s
    | some g =>
      match s.shardCfg g.udesc.shard with
      | none => s
      | some c =>
        let count (s : State) : State := s.modUp core (fun u => { u with slotWaitUs := u.slotWaitUs + (s.now - g.since) / 1000 })
        if g.phase ≠ .waitSlot then s
        else if s.chunkReleased g c then (count s).writeChunk core g c
        else if g.since + s.waitLimit core g.queue < s.now then (count s).segFail core Cause.timeout
        else s)

/-! ## Failures (R349; 14_checkpoint R523; 13_freyn R473, R478) -/

/-- Causes that the commit unit re-issues for. -/
def retriable (cause : Cause) : Bool := cause == Cause.timeout || cause == Cause.sramUncorrectable || cause == Cause.targetResetting
def SegPhase.cause : SegPhase → Cause
  | .failed c => c
  | _ => 0

/-- Kept segments of a shard's step: core and segment. -/
def State.keptSegs (s : State) (shard step : Nat) : List (Nat × Segment) :=
  s.cores.flatMap (fun c => (c.2.up.kept.filter (fun g => g.udesc.shard == shard && g.step == step)).map (fun g => (c.1, g)))

/-- Every segment of the step is issued again on its core, outside the step lists. -/
def State.reissue (s : State) (shard step : Nat) : State :=
  let hit (g : Segment) : Bool := g.udesc.shard == shard && g.step == step
  let s := (s.modShard shard (fun x => { x with issues := x.issues + 1, reports := 0 }))
  let cores := (s.cores.filter (fun c => c.2.up.kept.any hit)).map (·.1)
  s.each cores (fun s c => State.runSegs 8 c (s.modUp c (fun u =>
    { u with segs := u.segs ++ (u.kept.filter hit).map (fun g => { g with phase := .queued, chunk := 0, issues := g.issues + 1 }),
             kept := u.kept.filter (fun g => !hit g) })))

/-- The commit unit gives up: each failed segment's counter latches the cause, and queue 7 of its core halts. -/
def State.giveUp (s : State) (shard step : Nat) (cause : Cause) : State :=
  let s := s.modShard shard (fun x => { x with gaveUp := true, cause := cause })
  s.each ((s.keptSegs shard step).filter (fun k => k.2.phase.cause != 0)) (fun s k =>
    (s.latch k.1 k.2.udesc.counter k.2.phase.cause).haltQueue k.1 7 k.2.phase.cause)

/-- The round unit starts a rebase (13_freyn R478). -/
def State.startRebase (s : State) (site : Nat) : State :=
  if s.round.rebaseStep ≠ 0 then s
  else s.dropRoundHolds.modRound (fun u => { u with rebaseStep := 1, rebaseSite := site, ownState := 3, closing := none, outerDone := [], outerIssued := [], formed := [] })
/-- Reference of a rebase: the first of the priority, else the lowest site of the majority of the last round closed with quorum. -/
def State.rebaseRef (s : State) : Nat :=
  let others := (List.range 16).filter (fun i => bitOf s.round.majority i && i != s.assoc.site)
  match s.assoc.priority.find? (fun i => i != s.assoc.site) with
  | some i => i
  | none => others.headD (((List.range 16).filter (fun i => bitOf s.assoc.members i && i != s.assoc.site)).headD 0)

/-- An OUTER segment has failed: issued again at most three times, then the module rebases. -/
def State.outerFailed (s : State) (core : Nat) (g : Segment) : State :=
  if g.issues < 2 then
    State.runSegs 4 core (s.modUp core (fun u => { u with segs := { g with phase := .queued, issues := g.issues + 1 } :: u.segs }))
  else
    let drop (u : UpdateEngine) : UpdateEngine := { u with segs := u.segs.filter (fun h => h.udesc.op != 2) }
    let s := { s with cores := s.cores.map (fun (e : Nat × CoreSt) => (e.1, { e.2 with up := drop e.2.up })) }
    let s := s.each s.roundShards (fun s n => s.modShard n (fun x => { x with outerReports := 0 }))
    s.startRebase s.rebaseRef

/-- SEGMENT_FAIL_REPORT (R349, R523): the front segment has ended Failed. -/
def execSegmentFailReport (core : Nat) (s : State) : Out :=
  .next (match s.headSeg core with
    | none => s
    | some g =>
      let cause := g.phase.cause
      let d := g.udesc
      if cause = 0 then s
      else
        let s := s.modUp core (fun u => { u with segs := u.segs.drop 1, ended := u.ended + 1, lastFail := cause })
        match s.shardCfg d.shard with
        | none => State.runSegs 4 core (s.latch core d.counter cause)
        | some c =>
          let s := (s.modCommit (fun u => { u with lastCause := cause, lastShard := d.shard })).event 0x0013 cause d.shard 0 0
          if d.op = 2 then s.outerFailed core g
          else
            let s := (s.modUp core (fun u => { u with
              kept := u.kept.filter (fun k => k.udesc.shard != d.shard || k.step == g.step) ++ [g] })).modShard d.shard
                (fun x => { x with uncommitted := true, cause := cause })
            let ks := s.keptSegs d.shard g.step
            let failed := (ks.filter (fun k => k.2.phase.cause != 0)).length
            let s := if !retriable cause || 3 ≤ (s.shardSt d.shard).issues || (s.shardSt d.shard).gaveUp then s.giveUp d.shard g.step cause
              else if failed + (s.shardSt d.shard).reports = c.segCount then s.reissue d.shard g.step
              else s
            State.runSegs 4 core s)

/-! ## Commits (R347, R348, R502) -/

/-- The commit of an INNER update waits for the holds of a checkpoint of the step before (14_checkpoint R502). -/
def State.commitReady (s : State) (n : Nat) (c : ShardCfg) : Bool :=
  let x := s.shardSt n
  c.segCount != 0 && x.reports == c.segCount && (!c.pool || x.written) &&
  (match x.processed with | some p => !s.ckStep p || s.img.ckTargets.isEmpty || c.count ≤ x.ckHeld | none => true)

/-- A diverged shard asks a majority member for its bytes (14_checkpoint R520); in service at the commit of the next step. -/
def State.replicaRepair (s : State) (n : Nat) : State :=
  match (s.shardSt n).good with
  | some m =>
    if (s.shardSt n).diverged && !(s.shardSt n).repair && !s.img.verifyTrust then
      (s.flood none (.exportRequest m n)).modShard n (fun x => { x with repair := true })
    else s
  | none => s

def State.commitInner (s : State) (n : Nat) (c : ShardCfg) : State :=
  let x := s.shardSt n
  match x.target with
  | none => s
  | some (slot, step) =>
    match s.writeCommit n c { seq := x.seq + 1, version := x.version + 1, step := step, count := x.count + 1, tid := c.tid, slot := slot } with
    | (s, 0) =>
      let us := (s.now - x.lastReportAt) / 1000
      let s := (s.modCommit (fun u => { u with commits := u.commits + 1, worst := max u.worst us })).modShard n (fun y =>
        { y with park := 0, staged := false })
      let s := (s.replicaRepair n).digestShard n step c
      State.processSkips n c.segCount 8 (s.shardProcessed n step)
    | (s, e) => (s.modShard n (fun y => { y with uncommitted := true, cause := e })).modCommit (fun u =>
        { u with lastCause := e, lastShard := n })

/-- The commit of an outer update: the STEP of the last inner step, COUNT unchanged (13_freyn R473). -/
def State.commitOuter (s : State) (n : Nat) (c : ShardCfg) : State :=
  let x := s.shardSt n
  match x.target with
  | none => s
  | some (slot, _) =>
    match s.writeCommit n c { seq := x.seq + 1, version := x.version + 1, step := x.step, count := x.count, tid := c.tid, slot := slot } with
    | (s, 0) =>
      let us := (s.now - x.lastReportAt) / 1000
      (((s.modCommit (fun u => { u with commits := u.commits + 1, worst := max u.worst us })).modShard n (fun y =>
        { y with outerReports := 0, target := none, staged := false, written := false })).pickNext n).outerCommitted n
    | (s, e) => (s.modShard n (fun y => { y with uncommitted := true, cause := e })).modCommit (fun u =>
        { u with lastCause := e, lastShard := n })

/-- SHARD_COMMIT (R347). -/
def execShardCommit (shard : Nat) (s : State) : Out :=
  .next (match s.shardCfg shard with
    | none => s
    | some c =>
      if s.commitReady shard c then s.commitInner shard c
      else if c.segCount ≠ 0 && (s.shardSt shard).outerReports = c.segCount && (!c.pool || (s.shardSt shard).written) then s.commitOuter shard c
      else s)

/-- DIGEST_EXCHANGE (R359): a member's digest of a shard arrives. -/
def execDigestExchange (shard coord : Nat) (digest : Word64) (s : State) : Out :=
  .next (match s.shardCfg shard with
    | none => s.when (coord ≠ s.img.node && decide (coord < s.nodes)) (fun s => s.ringSend coord (.digest shard coord digest))
    | some c =>
      let s := s.when (coord ≠ s.img.node && decide (coord < s.nodes)) (fun s => s.ringSend coord (.digest shard coord digest))
      if c.replicaSet = 0 || s.img.digestInterval = 0 || !(s.replicas c.replicaSet).contains coord || coord = s.img.node then s
      else
        let next := (s.nextStep shard + s.img.digestInterval - 1) / s.img.digestInterval * s.img.digestInterval
        let (step, held) := ((s.commit.digests.find? (fun e => e.1 == shard)).map (·.2)).getD (next, [])
        (s.modCommit (fun u => { u with digests := u.digests.filter (fun e => e.1 != shard) ++
          [(shard, step, held.filter (fun e => e.1 != coord) ++ [(coord, digest)])] })).compareDigests shard)

/-! ## Outer segments (13_freyn R471, R479) -/

/-- Every included delta is held whole and its stream has passed its check, or the reference's state where the module rebases. -/
def State.outerInputs (s : State) : Bool :=
  s.inRebase || (s.round.closing.isSome && s.closeIncluded.all (fun i => s.round.checked.contains i.site))

/-- OUTER_SEGMENT: the round unit issues the OUTER segments of a shard on one of its cores, once, between two inner commits. -/
def execOuterSegment (shard core : Nat) (s : State) : Out :=
  .next (
    let x := s.shardSt shard
    let mine := (s.core core).up.kept.filter (fun g => g.udesc.shard == shard && g.udesc.op == 1)
    if !s.roundShards.contains shard || s.round.outerDone.contains shard || s.round.outerIssued.contains (shard, core) || !s.outerInputs || x.reports ≠ 0 || s.shardBusy shard 1 ||
       x.uncommitted || !x.hasState || (s.core core).up.segs.any (fun g => g.udesc.shard == shard) || mine.isEmpty ||
       !s.dieRunning (coreDie core) then s
    else
      let outer (g : Segment) : Segment :=
        let w := g.desc.toNat
        { g with desc := BitVec.ofNat 256 (w - fld w 231 16 * 2 ^ 231 - fld w 0 8 + (if s.assoc.outerRule = .custom then s.assoc.outerKernel else 0) % 2 ^ 16 * 2 ^ 231 + 2),
                 phase := .queued, chunk := 0, issues := 0, advanced := false }
      State.runSegs 8 core ((s.modRound (fun u => { u with outerIssued := u.outerIssued ++ [(shard, core)] })).modUp core (fun u =>
        { u with segs := u.segs ++ mine.map outer })))

/-! ## Register reads that latch -/

/-- UPD_STEP_LO_READ (R361). -/
def execUpdStepLoRead (core : Nat) (s : State) : Out :=
  let step := (s.core core).up.step
  .next { s.modUp core (fun u => { u with stepHi := BitVec.ofNat 32 (step / 2 ^ 32) }) with bus := step % 2 ^ 32 }

/-- SHARD_STEP_LO_READ (R362). -/
def execShardStepLoRead (s : State) : Out :=
  let step := ((s.shardSt s.commit.sel).processed).getD 0
  .next { s.modCommit (fun u => { u with stepHi := BitVec.ofNat 32 (step / 2 ^ 32) }) with bus := step % 2 ^ 32 }

end Sys2Proof.Machine
end

