-- ==== Sys2Proof/Machine/Job.lean ====
section
/-! DEFINITION. Mailbox replies; loading of cores from the image; the start of a job, its links and its partner
(12_torus R442; 13_freyn R461; 14_checkpoint R509 to R511; 16_power R577; 18_configuration R630 to R632, R638, R644, R649). -/

namespace Sys2Proof.Machine

open Sys2Proof

/-! ## Mailbox replies (R632, R648, R649) -/

/-- CXL return codes that the spec names; their numbers are CXL 3.1's (log entry 26). -/
inductive Rc where
  | success | invalidInput | unsupported | retryRequired | busy | transferInProgress | transferOutOfOrder
  | invalidSlot | securityState
  deriving DecidableEq, Repr

def Rc.code : Rc → Nat
  | .success => 0x0 | .invalidInput => 0x2 | .unsupported => 0x3 | .retryRequired => 0x5 | .busy => 0x6
  | .transferInProgress => 0x8 | .transferOutOfOrder => 0x9 | .invalidSlot => 0xB | .securityState => 0x13

def State.modHost (s : State) (f : HostIf → HostIf) : State := { s with host := f s.host }
def State.site (s : State) (i : Nat) : SiteSt := s.sites.at i
def State.modSite (s : State) (i : Nat) (f : SiteSt → SiteSt) : State := { s with sites := s.sites.upd i f }

/-- The next SEQ of a message to a site: bit 63 set (13_freyn R455). -/
def State.nextSeq (s : State) (i : Nat) : Nat := 2 ^ 63 + (s.site i).msgCount
/-- A stream's packet as it is queued for sending. -/
def FrnOut.packet (e : FrnOut) (site : Nat) (resend : Bool) : WanOut :=
  { cls := e.service, site := site, type := e.type, seq := e.seq, payload := e.payload, resend := resend }

/-- Packets join the streams to a site (13_freyn R457): kept until acknowledged, and queued for sending unless the streams are paused. -/
def State.addStream (s : State) (i : Nat) (es : List FrnOut) : State :=
  let x := s.site i
  let s := s.modSite i (fun x => { x with
    out := x.out ++ es, lastAck := if x.out.isEmpty then s.now else x.lastAck, recoveryAck := if x.out.isEmpty then s.now else x.recoveryAck })
  if x.paused then s
  else s.modRound (fun u => { u with queue := u.queue ++ es.map (fun e => { e.packet i false with since := s.now }) })
def State.modPower (s : State) (f : Power → Power) : State := { s with power := f s.power }

/-- A mailbox command completes: return code and output, MSI-X vector 0. -/
def State.mbox (s : State) (rc : Rc) (out : List Byte) : State :=
  (s.modHost (fun h => { h with reply := rc.code, output := out })).msix 0
/-- A vendor command completes: its output begins with its cause word. -/
def State.vendorOk (s : State) (out : List Byte) : State := s.mbox .success (zeros 4 ++ out)
/-- A command fails: its cause is shown in LAST_CAUSE. -/
def State.vendorFail (s : State) (rc : Rc) (cause : Cause) : State :=
  (s.modHost (fun h => { h with lastCause := cause })).mbox rc (cause :: zeros 3)

/-- A command that changes job state while another change is in progress (R632). -/
def State.vendorBusy (s : State) : State := s.vendorFail .busy Cause.planReject

/-- The mailbox answers: BAR0 is reachable and firmware runs; in FAULT it answers while there is firmware (R580, R628, R635). -/
def State.mailboxUp (s : State) : Bool := s.barUp && s.power.state != .holdup && !s.host.noFirmware

/-- A change of job state is in progress, or a transfer is open (R632). -/
def State.jobBusy (s : State) : Bool :=
  s.host.starting.isSome || s.ck.restoring != 0 || s.host.ending || !s.power.resets.isEmpty || s.power.restPhase == 2 || s.host.xfer.isSome

/-- A module in Rest wakes (16_power R589); outside Rest a wake does nothing. -/
def State.wakeUp (s : State) : State :=
  if s.power.restPhase = 1 then s.modPower (fun p => { p with restPhase := 2, wakeWaves := 0 }) else s

/-! ## A core loaded from the image (16_power R577) -/

/-- Start index of each queue. -/
def CoreCfg.startQueues (c : CoreCfg) : Tab Queue :=
  c.queues.zipIdx.foldl (fun t (p, q) => match p with | some pos => t.set q { pos := pos } | none => t) []

/-- A core at its Compute reset values with a kernel region; CD.UPD_STEP is kept (10_parameter R361). -/
def State.freshCore (s : State) (core : Nat) (kernel : Tab (BitVec 64)) : CoreSt :=
  let c := s.coreCfg core
  let u := (s.core core).up
  { queues := CoreCfg.startQueues c, kernelRegion := kernel, up := { step := u.step, stepHi := u.stepHi },
    recipes := c.recipes.foldl (fun t r => t.set r.index { kind := r.kind, scale := r.scale }) [] }

/-- SRAM zeroed, then kernel region, step lists, recipes and SRAM contents of the image; every other register cleared. -/
def State.loadCore (s : State) (core : Nat) : State :=
  let c := s.coreCfg core
  let x := s.freshCore core (c.kernel.foldl (fun t (i, w) => t.set i w) [])
  let s := { s with mem := s.mem.clear (sramAddr core 0) (2 ^ 25), cores := s.cores.set core x }
  let s := s.modTiers (fun t => { t with wordErrs := t.wordErrs.clearRange (sramAddr core 0 / 16) ((sramAddr core 0 + 2 ^ 25) / 16) })
  s.each c.sram (fun s r => s.poke (sramAddr core r.1) r.2)

/-! ## Intake status (18_configuration R640, R641) -/

/-- An intake status record is updated. -/
def State.intakeStatus (s : State) (ring : Nat) : State :=
  let r := s.host.intake.at ring
  let r := { r with seq := r.seq + 2 }
  let s := s.modHost (fun h => { h with intake := h.intake.set ring r })
  s.hsWrite (hsAddr (0x1100080 + 64 * ring)) (leBytes 8 r.seq ++ leBytes 8 r.next ++ leBytes 8 r.released ++ leBytes 8 r.baseGen ++
    leBytes 8 r.mbBase ++ leBytes 1 (b2n r.skew + 2 * b2n r.badHeader + 4 * b2n r.waiting) ++ zeros 23)

/-- The rings of the image start anew (R638): buffers are counted from 0. -/
def State.startRing (mbBase : Nat) (s : State) (e : RingCfg × Nat) : State :=
  let rel := ((s.core e.1.releaseCore).counters.at e.1.releaseCtr).value
  (s.modHost (fun h => { h with intake := h.intake.upd e.2 (fun r =>
    { r with next := 0, released := 0, baseGen := r.lastGen + 1, mbBase := mbBase, skew := false, badHeader := false, waiting := false,
             relBase := rel }) })).intakeStatus e.2

/-- The FREE counter of each PLAN ring advances by its free count (R644). -/
def State.freePlan (s : State) (p : PlanRingCfg) : State := s.advance p.core p.free p.freeCount
/-- PLAN records are issued while their ring has room: one for each slot that the plan may write (R643, R644). -/
def State.issuePlan (p : PlanRingCfg) : Nat → State → State
  | 0, s => s
  | n + 1, s =>
    let r := s.host.rings.at p.ring
    if (r.issued - r.consumed).toNat < p.nr then
      let s := s.issueRec p.ring r.mbNext
      State.issuePlan p n (s.setRing p.ring { s.host.rings.at p.ring with mbNext := r.mbNext + 1 })
    else s
/-- A PLAN ring at a job's start or restore: records from a micro-batch index on. -/
def State.startPlan (mbBase : Nat) (s : State) (p : PlanRingCfg) : State :=
  let written := ((s.core p.core).counters.at p.written).value
  State.issuePlan p p.freeCount (s.setRing p.ring { s.host.rings.at p.ring with ready := written, mbNext := mbBase })

/-! ## The units at a job's start -/

/-- Queues start at their first step (10_parameter R361). -/
def State.startCore (step : Nat) (s : State) (c : CoreCfg) : State :=
  s.modCore c.core (fun x => { x with
    queues := c.queues.zipIdx.foldl (fun t (p, q) => match p with
      | some pos => t.set q { pos := pos, active := true, waitFrom := s.now }
      | none => t) []
    up := { x.up with step := step, kept := [] } })

/-- The gate unit at step n (09_training R308 to R313): formats of the image, no contribution taken. -/
def State.startGate (s : State) (n : Nat) : State :=
  s.modGate (fun g => { g with
    first := n, step := n, landed := [], taken := [], records := [], stage := 0, vector := [], held := [], firstAt := none, ls := [],
    growthRun := 0, stopped := false, patched := [], closed := [], gatesClosed := 0, selector := [],
    layers := s.img.layers.foldl (fun t l => t.set l.layer { format := l.format, base := l.format }) [] })

/-- The commit unit at step n: every shard's state from its commit record pair (10_parameter R334). -/
def State.startCommit (s : State) (n : Nat) : State :=
  let s := s.modCommit (fun u => { u with advanced := n, digests := [] })
  s.each s.shardList (fun s i => (s.modShard i (fun x =>
    { x with processed := none, target := none, reports := 0, parkReports := 0, skipReports := [], staged := false, written := false,
             uncommitted := false, cause := 0, issues := 0, gaveUp := false, holds := [], waiting := [], ckHeld := 0, outerReports := 0, repair := false })).loadShard i)

/-- Sites of a mask. -/
def maskSites (m : Nat) : List Nat := (List.range 16).filter (bitOf m)
/-- Every member site is ACTIVE and owes nothing to an earlier job. -/
def State.startSites (s : State) : State :=
  s.each (maskSites s.assoc.members) (fun s i => s.modSite i (fun x =>
    { x with state := 1, join := false, closedRound := none, out := [], sentRound := none }))

/-- A shard's round arrays at a job's start: the anchor is the master array of the committed slot, the outer momentum 0. -/
def State.firstAnchor (s : State) (n : Nat) : State :=
  match s.shardCfg n with
  | none => s
  | some c =>
    let (s, e) := s.writeMem c.omBase (zeros (omSize c))
    let s := s.when (e ≠ 0) (fun s => s.freynEvent e n 0)
    if (s.shardSt n).hasState then
      match s.readMem (c.heldBase (s.shardSt n).staged (s.shardSt n).slot) (2 * c.count) with
      | (s, .error e) => s.freynEvent e n 0
      | (s, .ok m) => let (s, e) := s.writeMem c.anchorBase m
                      s.when (e ≠ 0) (fun s => s.freynEvent e n 0)
    else s

/-- Round 0 of a job started from no checkpoint (13_freyn R461). -/
def State.firstRound (s : State) : State :=
  if s.img.assoc.isNone then s
  else
    let zero := zeros (4 * 64 * s.streamBlocks)
    let s := (s.writeMem s.assoc.offcutBase0 zero).1
    let s := (s.writeMem s.assoc.offcutBase1 zero).1
    let s := s.each s.roundShards State.firstAnchor
    (s.startSites).modRound (fun u => { u with
      openRound := 0, restored := false, pendingSend := false, boundaries := [], formed := [], formSlots := [], sentDelta := false, cur := false,
      anchorRound := 0, lastApplied := none, deltas := [], accepted := [], proposal := none, proposedRound := none, accepts := 0, closing := none,
      checked := [], failed := [], outerDone := [], outerIssued := [], majority := 0, closeSeen := none,
      orphans := [], rebaseStep := 0, joinStep := 0, fetch := none, active := s.assoc.members, ownSite := s.assoc.site, ownState := 1 })

/-- Result of a job start or restore: a JOB record, and LAST_CAUSE where it failed. -/
def State.startFailed (s : State) (cause : Cause) : State :=
  (s.modHost (fun h => { h with starting := none, lastCause := cause })).jobRecord 1 cause

/-- The job begins at step 0 from no checkpoint. -/
def State.beginJob (s : State) : State :=
  let s := s.modHost (fun h => { h with starting := none, ending := false })
  let s := (s.startGate 0).startCommit 0
  let s := s.each s.img.cores (State.startCore 0)
  let s := (s.modCk (fun u => { u with dataCursor := 0, grain := 0, targets := u.targets.map (fun t => (t.1, { t.2 with due := none, writes := [] })),
                                       cutStep := none })).firstRound
  let s := s.each s.img.rings.zipIdx (State.startRing 0)
  let s := s.each s.img.planRings (fun s p => (s.freePlan p).startPlan 0 p)
  let s := s.modPower (fun p => { p with stopIssue := false })
  (s.jobRecord 1 0).setJob .running 0

/-! ## Links and partner (12_torus R442; 14_checkpoint R509 to R511) -/

/-- Every port of every axis of size above 1 is UP at or above its floor. -/
def State.linksReady (s : State) : Bool :=
  (List.range 8).all (fun p => s.axis (p / 2) ≤ 1 || s.portInService p)

/-- Feeds differ: 0x0000 counts as equal to every feed. -/
def feedsDiffer (a b : Nat) : Bool := a != 0 && b != 0 && a != b

/-- A PARTNER target is configured. -/
def State.wantsPartner (s : State) : Bool := s.img.ckTargets.any (fun t => t.kind == 0)

/-- A partner on the same feed, which only PARTNER_FORCE allows. -/
def State.forcePartner (s : State) : Option Nat :=
  if s.img.partnerForce then s.img.partnerPorts.find? (fun p => (s.port p).state == 6) else none

/-- The candidates from an index on: the first that may be claimed is claimed; none left, PARTNER_FORCE or no partner.
Answers whether selection has ended, and with which cause. -/
def State.claimFrom (s : State) (i : Nat) : State × Option Cause :=
  let ok (p : Nat) : Bool := (s.port p).state == 6 && feedsDiffer (s.port p).nbrFeed s.power.feed
  match s.img.partnerPorts.zipIdx.find? (fun e => i ≤ e.2 && ok e.1) with
  | some (p, j) => ((s.modCk (fun u => { u with candidate := j, claiming := some p })).sendMsg p (.claim s.img.node), none)
  | none =>
    let s := s.modCk (fun u => { u with claiming := none })
    match s.forcePartner with
    | some p => ((s.modCk (fun u => { u with partner := some p, sameFeed := true })).event 0x0050 Cause.partnerSameFeed p 0 0, some 0)
    | none => (s, some Cause.partnerSameFeed)

/-- Partner selection begins anew (R510). -/
def State.selectPartner (s : State) : State × Option Cause :=
  let s := s.modCk (fun u => { u with partner := none, sameFeed := false, claimedBy := none, candidate := 0, claiming := none })
  if s.wantsPartner then s.claimFrom 0 else (s, some 0)

/-! ## The start (18_configuration R630) -/

/-- A job start whose links are ready goes on: a restore that the image names, or partner selection and the job. -/
def State.continueStart (s : State) : State :=
  if s.host.starting.isNone || !s.linksReady || s.power.state ≠ .ready || s.ck.claiming.isSome then s
  else if s.img.startRestore then
    ((s.modHost (fun h => { h with starting := none })).modCk (fun u => { u with restoring := 2, restoreAt := s.now })).setJob .restoring 0
  else
    match s.selectPartner with
    | (s, none) => s
    | (s, some 0) => s.beginJob
    | (s, some c) => s.startFailed c

/-- A job start is asked for: it waits for the links. -/
def State.askStart (s : State) : State := ((s.modHost (fun h => { h with starting := some s.now })).wakeUp).continueStart

/-- LINK_WAIT_EXPIRY (12_torus R442). -/
def execLinkWaitExpiry (s : State) : Out :=
  .next (if s.host.starting.any (fun t => t + s.img.linkWait < s.now) && !s.linksReady then s.startFailed Cause.linkDown else s)

end Sys2Proof.Machine
end

