-- ==== Sys2Proof/Machine/Checkpoint.lean ====
section
/-! DEFINITION. Checkpoints: CK_SHARD, CK_STATE, writes to targets, seals (14_checkpoint R496 to R508, R512, R513). -/

namespace Sys2Proof.Machine

open Sys2Proof

/-! ## Exports and pieces (10_parameter R360; R496, R497) -/

/-- An array of an export: its bit of FLAGS (4: one of the slot's), its device address and the bytes of its first e elements. -/
structure ExportPart where
  flag : Nat
  addr : Nat
  span : Nat → Nat

/-- What an export carries beside the slot: FLAGS [0] anchor, [1] outer momentum, [2] parking buffer, [3] offcut. A shard has a parking
buffer where it is a POOL shard with steps parked, and round arrays where it is a round shard (log entry 136). -/
def State.exportFlags (s : State) (n : Nat) (c : ShardCfg) (round offcut : Bool) : Nat :=
  let r := s.roundShards.contains n
  b2n (r && round) + 2 * b2n (r && round && c.omFmt != 0) + 4 * b2n (c.pool && (s.shardSt n).park != 0) + 8 * b2n (r && offcut)

/-- The arrays of an export, in order. -/
def State.exportParts (s : State) (n : Nat) (c : ShardCfg) (flags : Nat) : List ExportPart :=
  let base := c.heldBase (s.shardSt n).staged (s.shardSt n).slot
  c.sizes.zipIdx.map (fun (b, k) => { flag := 4, addr := base + c.arrayOff k, span := fun e => b * e }) ++
    (if bitOf flags 0 then [{ flag := 0, addr := c.anchorBase, span := fun e => 2 * e }] else []) ++
    (if bitOf flags 1 then [{ flag := 1, addr := c.omBase, span := omSpan c 0 }] else []) ++
    (if bitOf flags 2 then [{ flag := 2, addr := c.parkBase, span := fun e => 4 * e }] else []) ++
    (if bitOf flags 3 then [{ flag := 3, addr := s.offcutBase s.round.cur + 4 * s.streamOff n, span := fun e => 4 * e }] else [])

/-- Bytes of a range of elements of each array. -/
def State.readArrays (s : State) (a n : Nat) : List ExportPart → Res (List (List Byte))
  | [] => (s, .ok [])
  | p :: ps =>
    match s.readMem (p.addr + p.span a) (p.span (a + n) - p.span a) with
    | (s, .error e) => (s, .error e)
    | (s, .ok bs) =>
      match s.readArrays a n ps with
      | (s, .error e) => (s, .error e)
      | (s, .ok more) => (s, .ok (bs :: more))

/-- A range of a shard's export under some FLAGS, at its offsets, from the bytes read of the arrays; the header before the first range. -/
def State.layExport (s : State) (n : Nat) (c : ShardCfg) (flags : Nat) (digest : Word64) (a : Nat) (read : List (ExportPart × List Byte)) :
    List (Nat × List Byte) :=
  let x := s.shardSt n
  let ps := read.filter (fun p => p.1.flag == 4 || bitOf flags p.1.flag)
  let offs := exportOffs 256 (ps.map (fun p => p.1.span c.count))
  (if a = 0 then [(0, c.exportHeader flags x.step x.version x.count x.park digest)] else []) ++
    (offs.zip ps).map (fun (o, p) => (o + p.1.span a, p.2))

/-- The export of a shard's committed slot, read under a hold that ends with the read. -/
def State.exportBytes (s : State) (n : Nat) (c : ShardCfg) : Res (List Byte) :=
  match s.ownDigest n c with
  | (s, .error e) => (s, .error e)
  | (s, .ok digest) =>
    let flags := s.exportFlags n c true true
    let parts := s.exportParts n c flags
    match s.readArrays 0 c.count parts with
    | (s, .error e) => (s, .error e)
    | (s, .ok bs) => (s, .ok ((s.layExport n c flags digest 0 (parts.zip bs)).flatMap (fun p => fitBytes (up64 p.2.length) p.2)))

/-- The node of the partner. -/
def State.partnerNode (s : State) : Option Nat := s.ck.partner.map (fun p => (s.port p).nbrNode)

/-- Who a transfer to a PARTNER target stands for, as a source's core and item: the target, and one of its writes. -/
def carrierCore (t : Nat) : Nat := 4096 + t
def carrierItem (w : Nat × Nat) : Nat := w.1 + 4096 * w.2

/-- Bytes go to a target by the carrier of its KIND (R497): WRITE packets in TC3 into the partner's copy region, CXL writes to the pool or the
host, or DATA packets of class BULK to the site (13_freyn R451). The places are within the target's area. -/
def State.carry (s : State) (t : Nat) (k : TargetCfg) (w : Nat × Nat) (ps : List (Nat × List Byte)) : State :=
  match k.kind with
  | 0 => match s.partnerNode with
    | some n =>
      let s := s.knowPath n
      if n = s.img.node || s.nodes ≤ n || (s.torus.paths.at n).state = 3 then s.modTarget t (fun x => { x with lost := Cause.linkDown })
      else s.startSource (carrierCore t) (carrierItem w) { tc := 3, dst := n } (ps.map (fun p => (k.base + p.1, p.2)))
    | none => s.modTarget t (fun x => { x with lost := Cause.linkDown })
  | 3 =>
    let datas := ps.flatMap (fun p => (byteGroups 8192 ((p.2.length + 8191) / 8192) p.2).zipIdx.map (fun (b, i) => (p.1 + 8192 * i, b)))
    let es : List FrnOut := datas.zipIdx.map (fun (d, i) =>
      { type := 8, seq := s.nextSeq k.site + i, service := 3, piece := some (t, w.1, w.2),
        payload := DataBody.bytes { object := .checkpoint t, round := s.round.openRound, offset := d.1, data := d.2 } })
    (s.modSite k.site (fun x => { x with msgCount := x.msgCount + es.length })).addStream k.site es
  | _ =>
    if !s.host.cxlUp then s.modTarget t (fun x => { x with lost := Cause.linkDown })
    else s.modTarget t (fun x => { x with lines := x.lines ++ ps.map (fun p => (w, k.base + p.1, p.2)) })

/-- A range of a piece goes to a target, at the piece's place in the buffer (log entry 137). -/
def State.sendPiece (s : State) (t : Nat) (k : TargetCfg) (n buffer core id : Nat) (ps : List (Nat × List Byte)) : State :=
  s.carry t k (core, id) (ps.map (fun p => (Config.piecePlace t buffer n + p.1, p.2)))

/-- Round arrays go with the piece except at a PARTNER, which holds one copy of them outside the buffers (R497, R499). -/
def carriesRound (k : TargetCfg) : Bool := k.kind != 0

/-! ## CK_SHARD (R501, R502) -/

/-- Fields that CK_SHARD and CK_STATE leave unused are 0. -/
def ckFieldsOk (w : Nat) : Bool :=
  fld w 14 2 == 0 && fld w 32 32 == 0 && fld w 104 72 == 0 && fld w 216 6 == 0 && fld w 234 22 == 0 && fld w 16 16 != 0

/-- The newest checkpoint step that the shard has processed: committed, skipped or parked. -/
def State.ckStepOf (s : State) (shard : Nat) : Option Nat :=
  (s.shardSt shard).processed.map (fun p => p / s.img.ckInterval * s.img.ckInterval)

/-- Targets at which a range of a shard is due: those whose checkpoint of that step still lacks it. -/
def State.dueTargets (s : State) (shard n : Nat) : List Nat :=
  (s.ck.targets.filter (fun t => t.2.due.isSome && t.2.due == s.ckStepOf shard &&
    (t.2.piecesLeft.any (fun p => p.1 == shard && n ≤ p.2)))).map (·.1)

/-- A target takes a range: its write is outstanding, and the piece's DIGEST is known from its first range on. -/
def Target.takePiece (shard n core id : Nat) (digest : Word64) (t : Target) : Target :=
  { t with
    piecesLeft := (t.piecesLeft.map (fun p => if p.1 = shard then (p.1, p.2 - n) else p)).filter (fun p => p.2 != 0)
    writes := t.writes ++ [(core, id)]
    digests := if t.digests.any (fun d => d.1 == shard) then t.digests else t.digests ++ [(shard, digest)] }

/-- Range of a CK_SHARD descriptor. -/
def ckRange (w : Nat) : Nat × Nat := (fld w 64 40, fld w 176 40)

/-- The buffer that a checkpoint writes: not that of the newest sealed one; buffer 0 before any (R499, log entry 73). -/
def Target.nextBuffer (t : Target) : Nat := if t.sealed then 1 - t.buffer else 0

/-- Action of a CK_SHARD entry. -/
def State.actCkShard (s : State) (core q w : Nat) : State :=
  let ctr := fld w 8 6
  let inc := fld w 16 16
  let shard := fld w 222 12
  let (a, n) := ckRange w
  match s.shardCfg shard with
  | none => s.endXfer core ctr inc Cause.planReject
  | some c =>
    let x := s.shardSt shard
    if !ckFieldsOk w || q ≠ 7 || n = 0 || c.count < a + n || !x.hasState then s.endXfer core ctr inc Cause.planReject
    else
      let due := s.dueTargets shard n
      let s := s.modShard shard (fun x => { x with ckHeld := x.ckHeld + n })
      if due.isEmpty then s.endXfer core ctr inc 0
      else
        match s.ownDigest shard c with
        | (s, .error e) => s.endXfer core ctr inc e
        | (s, .ok digest) =>
        let parts := s.exportParts shard c (s.exportFlags shard c true true)
        match s.readArrays a n parts with
        | (s, .error e) => s.endXfer core ctr inc e
        | (s, .ok bs) =>
          let lay (k : TargetCfg) := s.layExport shard c (s.exportFlags shard c (carriesRound k) (carriesRound k)) digest a (parts.zip bs)
          let (s, id) := s.openXfer core {
            kind := .ckShard, op := 8, queue := q, entry := (s.queue core q).pos - 1, counter := ctr
            increment := inc, desc := BitVec.ofNat 256 w, shard := shard, bytes := n, outstanding := due }
          let s := s.addHold shard x.slot (holdCk core id) a
          let s := s.each due (fun s t => s.modTarget t (Target.takePiece shard n core id digest))
          s.each due (fun s t => match s.img.ckTargets[t]? with
            | some k => s.sendPiece t k shard (s.ck.targets.at t).nextBuffer core id (lay k)
            | none => s)

/-- A CK_SHARD whose slot takes its hold acts; otherwise nothing happens. An UNCOMMITTED shard is held once its re-issued
segments commit it. -/
def State.holdCkEntry (s : State) (core q : Nat) (t : State) (w : Nat) : State :=
  let x := s.shardSt (fld w 222 12)
  if x.canHold x.slot && !x.uncommitted then t.actCkShard core q w else s

/-- CK_SHARD (R502). A hold that the slot cannot take yet keeps the entry at the head (10_parameter R335). -/
def execCkShard (core q : Nat) (s : State) : Out := .next (s.issueXfer core q 0x08 (s.holdCkEntry core q))

/-! ## CK_STATE (R505, R512) -/

/-- The core record: counters, queues, where queue 7 takes the LEN of CK_STATE as its index, and CD.UPD_STEP. -/
def State.coreRecord (s : State) (core resume : Nat) : CoreRecord :=
  let x := s.core core
  { core := core, counters := x.counters.map (fun c => (c.1, c.2.value)),
    queues := (List.range 8).map (fun q => (if q = 7 then resume else (x.queues.at q).pos, (x.queues.at q).loops, (x.queues.at q).retired)),
    updStep := x.up.step }

/-- Action of a CK_STATE entry. -/
def State.actCkState (s : State) (core q w : Nat) : State :=
  let ctr := fld w 8 6
  let inc := fld w 16 16
  if !ckFieldsOk w || q ≠ 7 || fld w 64 40 ≠ 0 || fld w 222 12 ≠ 0 || fld w 192 24 ≠ 0 then s.endXfer core ctr inc Cause.planReject
  else
    match ((s.core core).counters.map (fun c => c.2.cause)).filter (· != 0) with
    | cause :: _ => s.endXfer core ctr inc cause
    | [] =>
      let rec0 := s.coreRecord core (fld w 176 16)
      let due := (s.ck.targets.filter (fun t => t.2.due.isSome && t.2.coresLeft.contains core)).map (·.1)
      (s.each due (fun s t => s.modTarget t (fun t =>
        { t with coresLeft := t.coresLeft.filter (· != core), records := t.records ++ [rec0], writes := t.writes ++ [(1024 + core, 0)] }))).endXfer
        core ctr inc 0

/-- CK_STATE (R505). -/
def execCkState (core q : Nat) (s : State) : Out := .next (s.issueXfer core q 0x09 (fun s w => s.actCkState core q w))

/-! ## Writes to targets (R506, R507) -/

/-- A target has no more to do with a CK_SHARD item: once no target has, its hold goes and it ends Done. -/
def State.pieceOver (target : Nat) (s : State) (w : Nat × Nat) : State :=
  if 1024 ≤ w.1 then s
  else
    let s := s.modXf w.1 (fun t => { t with open_ := t.open_.map (fun x =>
      if x.id = w.2 then { x with outstanding := x.outstanding.erase target } else x) })
    match s.findXfer w.1 w.2 with
    | some x => if x.outstanding.isEmpty then (s.dropHold x.shard (holdCk w.1 w.2)).endOpen w.1 w.2 0 else s
    | none => s

/-- A write to a target has not ended: packets to a REMOTE one are not all acknowledged, a transfer to a PARTNER has no COMPLETION, or a
transfer has failed (R507). -/
def State.unacked (s : State) (target : Nat) (w : Nat × Nat) : Bool :=
  s.sites.any (fun x => x.2.out.any (fun e => e.piece == some (target, w.1, w.2))) ||
  s.torus.sources.any (fun y => y.core == carrierCore target && y.item == carrierItem w) || (s.ck.targets.at target).lost != 0

/-- DIGEST fields of the pieces, in shard order. -/
def Target.pieceDigests (t : Target) (shards : List Nat) : List Byte :=
  shards.flatMap (fun n => leBytes 8 (((t.digests.filter (fun d => d.1 == n)).map (fun d => d.2.toNat)).headD 0))

/-- The manifest of R508; STATE_DIGEST, over records whose byte layout is not in the spec, is a free value. -/
def State.manifestBytes (s : State) (k : TargetCfg) (t : Target) (step : Nat) : List Byte :=
  let flags := b2n s.img.assoc.isSome + 2 * b2n (s.img.assoc.isSome && k.kind != 0) + 4 * b2n s.ck.sameFeed
  let body := leBytes 8 (t.seq + 1) ++ leBytes 8 step ++ leBytes 8 t.cutRound ++ leBytes 8 t.cutCursor ++ leBytes 8 (step + 1) ++
    leBytes 4 s.img.job ++ leBytes 2 s.img.node ++ leBytes 1 (s.img.site % 16 + 16 * t.nextBuffer) ++ leBytes 1 flags ++
    leBytes 4 s.img.shards.length ++ leBytes 4 s.listCores.length ++ leBytes 4 s.img.m ++ zeros 4 ++
    leBytes 8 (crc64 (t.pieceDigests s.shardList)).toNat ++ leBytes 8 (Config.stateDigest s.free).toNat ++ zeros 40
  body ++ leBytes 8 (crc64 body).toNat

/-- The write that stands for a target's manifest copy. -/
def manifestWrite : Nat × Nat := (2048, 0)

/-- The round arrays of the round shards, which a PARTNER holds in one copy outside the buffers (R499). -/
def State.roundCopy (s : State) (target : Nat) : Res (List (Nat × List Byte)) :=
  s.roundShards.foldl (fun st n => match st, s.shardCfg n with
    | (s, .ok ps), some c =>
      let parts := (s.exportParts n c 3).drop c.sizes.length
      match s.readArrays 0 c.count parts with
      | (s, .ok bs) => (s, .ok (ps ++ bs.zipIdx.map (fun (b, k) => (Config.piecePlace target (2 + k) n, b))))
      | (s, .error e) => (s, .error e)
    | st, _ => st) (s, .ok [])

/-- A target holds every piece and record. -/
def Target.holdsAll (t : Target) : Bool := t.piecesLeft.isEmpty && t.coresLeft.isEmpty && t.writes.isEmpty

/-- Every piece and record is held: at a PARTNER the round state is rewritten where a round has closed since (R499), and then the manifest
copy is written at BASE + 128 × (SEQ mod 2) (R507, R508). -/
def State.writeManifest (s : State) (target : Nat) : State :=
  let t := s.ck.targets.at target
  match t.due, s.img.ckTargets[target]? with
  | some step, some k =>
    if !t.holdsAll || !t.manifestNext.isEmpty then s
    else
      let rewrite := k.kind = 0 && s.img.assoc.isSome && t.roundTag.map (·.2) ≠ some s.round.lastApplied
      match (if rewrite then s.roundCopy target else (s, .ok [])) with
      | (s, .error e) => s.modTarget target (fun t => { t with lost := e })
      | (s, .ok ps) =>
        let bs := s.manifestBytes k t step
        let tag := (s.round.openRound, s.round.lastApplied)
        ((s.modTarget target (fun t => { t with manifestNext := bs, roundTag := if rewrite then some tag else t.roundTag })).draw).carry target k
          manifestWrite (ps ++ [(128 * ((t.seq + 1) % 2), bs)])
  | _, _ => s

/-- TARGET_WRITE_DONE (R507): the oldest write outstanding at a target has ended Done; after the last one the manifest is written. -/
def execTargetWriteDone (target : Nat) (s : State) : Out :=
  .next (match (s.ck.targets.at target).writes with
    | [] => s
    | w :: ws =>
      if s.unacked target w then s
      else
        (State.pieceOver target (s.modTarget target (fun t =>
          { t with writes := ws, lines := t.lines.filter (fun l => l.1 != w) })) w).writeManifest target)

/-- Causes with which a write to a target may fail (R506). -/
def targetCauses : List Cause :=
  [Cause.linkDown, Cause.timeout, Cause.pathChanged, Cause.targetResetting, Cause.authFail, Cause.keyErased, Cause.counterExhausted,
   Cause.memUncorrectable, Cause.powerLoss]

/-- Packets and transfers of pieces bound for a target are dropped. -/
def State.dropPieces (s : State) (target : Nat) : State :=
  let hit (e : FrnOut) : Bool := e.piece.any (fun p => p.1 == target)
  let tags := (s.torus.sources.filter (fun y => y.core == carrierCore target)).map (·.tag)
  let s := (s.unqueue tags).modTorus (fun t => { t with sources := t.sources.filter (fun y => y.core != carrierCore target) })
  s.each (s.sites.map (·.1)) (fun s i =>
    let gone := ((s.site i).out.filter hit).map (·.seq)
    (s.modSite i (fun x => { x with out := x.out.filter (fun e => !hit e) })).modRound (fun u => { u with
      queue := u.queue.filter (fun o => !(o.site == i && gone.contains o.seq)) }))

/-- A target's checkpoint is abandoned; the items that read its data go on without it. -/
def State.abandonTarget (s : State) (target : Nat) (cause : Cause) : State :=
  let t := s.ck.targets.at target
  let s := (s.dropPieces target).modTarget target (fun t => { t with
    due := none, writes := [], lines := [], lost := 0, manifestNext := [], piecesLeft := [], coresLeft := [], digests := [], records := [], modRec := none, lastCause := cause })
  let s := s.each t.writes (State.pieceOver target)
  ((s.modCk (fun u => { u with lastCause := cause })).event 0x0050 cause target 0 (t.due.getD 0)).tryEnd

/-- TARGET_WRITE_FAIL (R506). -/
def execTargetWriteFail (target : Nat) (cause : Cause) (s : State) : Out :=
  .next (if ((s.ck.targets.at target).writes.isEmpty && (s.ck.targets.at target).manifestNext.isEmpty) || !targetCauses.contains cause then s else s.abandonTarget target cause)

/-! ## The seal (R507, R508, R513) -/

/-- Counters named as checkpoint counters are saved with their values at the seal. -/
def State.sealRecord (s : State) (r : CoreRecord) : CoreRecord :=
  let late := (s.coreCfg r.core).ckCounters
  { r with counters := r.counters.filter (fun c => !late.contains c.1) ++
      late.map (fun n => (n, ((s.core r.core).counters.at n).value)) }

/-- CHECKPOINT_SEAL (R507): every piece and record is held, and the manifest copy is valid. -/
def execCheckpointSeal (target : Nat) (s : State) : Out :=
  .next (
    let t := s.ck.targets.at target
    match t.due, s.img.ckTargets[target]? with
    | some step, some k =>
      if t.holdsAll && !s.unacked target manifestWrite then
        let bs := if t.manifestNext.isEmpty then s.manifestBytes k t step else t.manifestNext
        let ms := (s.now - t.dueAt) / 1000000
        let s := (s.modTarget target (fun t => { t with
          due := none, seq := t.seq + 1, buffer := t.nextBuffer, sealed := true, sealedStep := step, manifest := bs, manifestNext := [], lines := [],
          records := t.records.map s.sealRecord })).draw
        ((s.modCk (fun u => { u with seals := u.seals + 1, sealedStep := max u.sealedStep step, slowest := max u.slowest ms })).jobStatus).tryEnd
      else s
    | _, _ => s)

/-- CK_SEALED_LO_READ (R525). -/
def execCkSealedLoRead (s : State) : Out :=
  .next { s.modCk (fun u => { u with sealedHi := BitVec.ofNat 32 (s.ck.sealedStep / 2 ^ 32) }) with bus := s.ck.sealedStep % 2 ^ 32 }

end Sys2Proof.Machine
end

