-- ==== Sys2Proof/Machine/Launch.lean ====
section
/-! DEFINITION. The issue of LAUNCH entries: an entry of any kind at its launch instant, on time or late (02_dataflow R72, R86, R90). -/

namespace Sys2Proof.Machine

open Sys2Proof

/-- First byte of a descriptor: its KIND or OP. -/
def State.descOp (s : State) (e : Entry) : Nat := s.peekNat e.addr 1

/-- What an entry of any kind does when it issues. -/
def State.actAny (s : State) (core q : Nat) (e : Entry) : State :=
  match e.kind with
  | 0 => s.actWait core q
  | 1 =>
    let kind := (MDesc.ofNat (s.peekNat e.addr 64)).kind
    s.actMatrix core q kind e
  | 2 => s.actVector core q e
  | 3 =>
    match s.descOp e with
    | 2 => s.actReduce core q 2 (State.runSum core) e
    | 3 => s.actReduce core q 3 (State.runRows core) e
    | 4 => s.actReduce core q 4 (State.runTapread core) e
    | _ => s.actReduce core q 1 (State.runTree core) e
  | 4 =>
    match s.descOp e with
    | 0x02 => s.actXfer core q 0x02 (s.holdStageEntry core q) e
    | 0x03 => s.actXfer core q 0x03 (fun s w => s.actWriteback core q w) e
    | 0x20 => s.actXfer core q 0x20 (fun s w => s.actDispatch core q w) e
    | 0x21 => s.actXfer core q 0x21 (fun s w => s.actCombine core q w) e
    | 0x40 => s.actXfer core q 0x40 (State.actLoad core q) e
    | 0x41 => s.actXfer core q 0x41 (fun s w => s.changeHolds core (TDesc.ofNat w) true) e
    | 0x42 => s.actXfer core q 0x42 (fun s w => s.changeHolds core (TDesc.ofNat w) false) e
    | 0x08 => s.actXfer core q 0x08 (s.holdCkEntry core q) e
    | 0x09 => s.actXfer core q 0x09 (fun s w => s.actCkState core q w) e
    | _ => s.actXfer core q 0x01 (fun s w => s.actCopy core q w) e
  | 5 => s.actUpdate core q e
  | 6 => s.actAdd core q e
  | 7 => s.actJump core q e
  | _ => s.actEnd core q

/-- A LAUNCH entry that has sent its arrival issues under a condition on its queue when its other conditions hold and no
lower-numbered queue is ready (R72, R74). -/
def State.issueLaunch (s : State) (core q : Nat) (may : State → Entry → Bool) (act : State → Entry → State) : State :=
  let first := s.firstReady core q
  s.atHead core q (fun s e =>
    if e.launch && (s.queue core q).arrived && first && may s e && s.conditions core q e then act s e else s)

/-- LAUNCH_ISSUE (R72): an entry that is on time: its instant has been reached and its conditions hold, or held when it was
reached (State.judge). That the command comes within 5 ns of the instant is its own matter (log entry 31). -/
def execLaunchIssue (core q : Nat) (s : State) : Out :=
  .next (s.issueLaunch core q
    (fun s e => !(s.queue core q).late && ((s.queue core q).onTime || (s.launchTime core q e.slot).any (· ≤ s.dieTime (coreDie core))))
    (fun s e => s.actAny core q e))

/-- LATE_LAUNCH_ISSUE (R72): a late entry issues at once when its conditions hold again. -/
def execLateLaunchIssue (core q : Nat) (s : State) : Out :=
  .next (s.issueLaunch core q (fun s _ => (s.queue core q).late)
    (fun s e => ({ s with time := { s.time with launchLate := s.time.launchLate + 1 } }).actAny core q e))

end Sys2Proof.Machine
end

