-- ==== Sys2Proof/Machine/Restore.lean ====
section
/-! DEFINITION. Partner claims, restores, served copies, halts and wakes by message (14_checkpoint R509 to R522; 16_power R589). -/

namespace Sys2Proof.Machine

open Sys2Proof

/-! ## Outcome of a restore -/

/-- A restore ends FAILED: HOLD applies (R515). -/
def State.restoreFail (s : State) (cause : Cause) : State :=
  let s := s.modCk (fun u => { u with restoring := 0, claiming := none, pieces := [], lastCause := cause, noMajority := false })
  ((s.modPower (fun p => { p with stopIssue := true })).jobRecord 3 cause).setJob .halted cause

/-- Step 1 is done, or there was none: the manifests are read, and a partner is asked for its copy region. -/
def State.restoreReady (s : State) : State :=
  let s := s.modCk (fun u => { u with restoring := 2, manifests := [] })
  match s.ck.partner with
  | some p => if s.wantsPartner then s.sendMsg p .copyRegionRequest else s
  | none => s

/-- RESTORE (R514, R515). -/
def execRestore (s : State) : Out :=
  .next (
    if !s.mailboxUp then s
    else if s.jobBusy then s.vendorBusy
    else
      let start (s : State) : State := s.modCk (fun u => { u with restoreAt := s.now, siteSteps := [], noMajority := false })
      match s.host.job with
      | .running | .halted =>
        let s := (start s).modPower (fun p => { p with stopIssue := true })
        ((s.modCk (fun u => { u with restoring := 1 })).setJob .restoring 0).vendorOk []
      | .waitStart | .ended => (((start s).wakeUp.restoreReady).setJob .restoring 0).vendorOk []
      | _ => s.vendorFail .invalidInput Cause.planReject)

/-! ## Choosing S (R515 step 3) -/

/-- Sealed steps that every module of the site holds. -/
def State.commonSteps (s : State) : List Nat :=
  (s.ck.manifests.map (·.step)).filter (fun t => s.ck.siteSteps.all (fun e => e.2.contains t))

/-- Once every module's steps are held, S is the largest that all hold. -/
def State.tryChoose (s : State) : State :=
  if s.ck.restoring = 3 && (List.range s.nodes).all (fun n => s.ck.siteSteps.any (fun e => e.1 == n)) then
    match s.commonSteps with
    | [] => s.restoreFail Cause.planReject
    | t :: ts =>
      let best := ts.foldl max t
      let m := (sortBy (·.target) (s.ck.manifests.filter (fun m => m.step == best))).head?
      s.modCk (fun u => { u with restoring := 4, chosen := best, chosenManifest := m })
  else s

/-- The manifest of a valid copy (R508). -/
def parseManifest (c : ManifestCopy) : Option Manifest :=
  let w := leNat c.bytes
  if c.bytes.length = 128 && crc64 (c.bytes.take 120) = BitVec.ofNat 64 (fld w 960 64) && fld w 0 64 % 2 = c.copy then
    some { target := c.target, seq := fld w 0 64, step := fld w 64 64, round := fld w 128 64, dataCursor := fld w 192 64, grain := fld w 256 64,
           node := fld w 352 16, buffer := fld w 372 1, pieces := fld w 384 32, mbPerStep := fld w 448 32 }
  else none

/-- A sealed checkpoint that the module may restore: one at a PARTNER needs the same node and layout, and round state of its ROUND or of the
one before (R516). -/
def State.usable (s : State) (m : Manifest) (roundTag : Nat) : Bool :=
  (s.img.ckTargets[m.target]?).any (fun k => k.kind != 0 ||
    (m.node == s.img.node && m.pieces == s.img.shards.length && (s.img.assoc.isNone || roundTag == m.round || roundTag + 1 == m.round)))

/-- The sealed checkpoints that manifest copies show. -/
def State.sealedFound (s : State) (copies : List ManifestCopy) : List Manifest :=
  copies.filterMap (fun c => (parseManifest c).filter (fun m => s.usable m c.roundTag))

/-- RESTORE_MANIFESTS_READ (R515): the manifest copies at the targets have been read. -/
def execRestoreManifestsRead (found : List ManifestCopy) (s : State) : Out :=
  .next (
    let found := s.sealedFound found
    if s.ck.restoring ≠ 2 || s.power.restPhase ≠ 0 then s
    else
      let steps := (found.map (·.step)).dedup
      let s := s.modCk (fun u => { u with restoring := 3, manifests := found,
                                          siteSteps := u.siteSteps.filter (fun e => e.1 != s.img.node) ++ [(s.img.node, steps)] })
      (s.ringSend s.img.node (.sealedSteps s.img.node steps)).tryChoose)

/-- SEALED_STEP_EXCHANGE (R515): another module's sealed steps, passed on along the rings. -/
def execSealedStepExchange (coord : Nat) (steps : List Nat) (s : State) : Out :=
  .next (if coord = s.img.node || s.nodes ≤ coord then s
    else if 3 < s.ck.restoring then s.ringSend coord (.sealedSteps coord steps)
    else ((s.ringSend coord (.sealedSteps coord steps)).modCk (fun u => { u with siteSteps := u.siteSteps.filter (fun e => e.1 != coord) ++ [(coord, steps)] })).tryChoose)

/-! ## Pieces and checks (R515 steps 4 and 5, R517, R519) -/

def State.pieceOf (s : State) (n : Nat) : Option ShardLoad := s.ck.pieces.find? (fun p => p.shard == n)

/-- The pieces from targets that hold S, in image order; those of one target stand as loaded. -/
def State.goodPieces (s : State) (pieces : List PieceLoad) : List ExportPiece :=
  sortBy (·.target) ((pieces.filter (fun p => s.ck.manifests.any (fun m => m.target == p.target && m.step == s.ck.chosen))).filterMap parseExport |>.filter (·.good))

/-- Some shard's box is that of no piece: the restore re-maps (R519). -/
def State.remaps (s : State) (ps : List ExportPiece) : Bool :=
  s.img.shards.any (fun c => ps.any (fun p => p.cfg.tid == c.tid) && !ps.any (fun p => sameBox p.cfg c && sameArrays p.cfg c))

/-- One piece of each box: the first in image order (R515). -/
def firstBoxes : List ExportPiece → List ExportPiece
  | [] => []
  | p :: ps => p :: (firstBoxes ps).filter (fun q => !sameBox p.cfg q.cfg)

/-- The outer momentum table of a core that has one. -/
def State.someMomentumTable (s : State) : Option (Nat × Table) := s.listCores.findSome? s.momentumTable

/-- What the pieces give a shard: its own piece, or in a re-mapping the elements of the pieces that hold them, all of one COUNT and none
parked; a PARTNER's pieces serve no re-mapping (R497, R516, R519). -/
def State.shardLoad (s : State) (remap : Bool) (ps : List ExportPiece) (n : Nat) (c : ShardCfg) : Option ShardLoad :=
  let far := ps.filter (fun p => !remap || (s.img.ckTargets[p.target]?).any (fun k => k.kind != 0))
  let own := (firstBoxes (far.filter (fun p => p.cfg.tid == c.tid && sameArrays p.cfg c)))
  if remap && own.any (fun p => p.park != 0 || own.any (fun q => p.count != q.count)) then none
  else match own.find? (fun p => sameBox p.cfg c) with
    | some p => some (p.whole n)
    | none => if remap then remapped own n c s.someMomentumTable else none

/-- What the loaded pieces give every shard, or why they do not make a restore: DIGEST_MISMATCH where a piece failed its digest,
PLAN_REJECT otherwise (R515). -/
def State.assemble (s : State) (pieces : List PieceLoad) : Except Cause (Bool × List ShardLoad) :=
  let ps := s.goodPieces pieces
  let remap := s.remaps ps
  let loads := s.img.shards.zipIdx.filterMap (fun (c, n) => s.shardLoad remap ps n c)
  if loads.length = s.img.shards.length then .ok (remap, loads)
  else .error (if pieces.any (fun p => !(parseExport p).any (·.good)) then Cause.digestMismatch else Cause.planReject)

/-- Checks of R517; the step's data cursor and grain are taken, aligned where the policy says so. -/
def State.restoreChecks (s : State) : State :=
  match s.ck.chosenManifest with
  | none => s.restoreFail Cause.planReject
  | some m =>
    let n := m.step + 1
    if m.mbPerStep = 0 || m.dataCursor % m.mbPerStep ≠ 0 || m.mbPerStep ≠ s.img.m then s.restoreFail Cause.planReject
    else if m.grain = n && m.dataCursor / m.mbPerStep = n then
      s.modCk (fun u => { u with restoring := 6, grain := n, dataCursor := m.dataCursor })
    else
      let s := (s.event 0x0050 Cause.streamSkew 0 0 m.step).modCk (fun u => { u with lastCause := Cause.streamSkew })
      if s.img.skewRefuse then s.restoreFail Cause.streamSkew
      else s.modCk (fun u => { u with restoring := 6, grain := n, dataCursor := n * s.img.m })

/-- RESTORE_LOADED (R515 step 4, R517). -/
def execRestoreLoaded (pieces : List PieceLoad) (moduleRec : ModuleRecord) (s : State) : Out :=
  .next (
    if s.ck.restoring ≠ 4 then s
    else
      match s.assemble pieces with
      | .error cause => s.restoreFail cause
      | .ok (remap, loads) =>
        match (s.modCk (fun u => { u with restoring := 5, pieces := loads, remap := remap, moduleRec := some moduleRec })).selectPartner with
        | (s, none) => s
        | (s, some 0) => s.restoreChecks
        | (s, some c) => s.restoreFail c)

/-! ## Writing the shards (R515 step 6, R516, R518) -/

/-- Update segments of a core's queue 7, as its step list names them. -/
def State.listSegs (s : State) (core : Nat) : Nat → Nat → List UDesc
  | 0, _ => []
  | fuel + 1, pos =>
    let e := Entry.ofNat (s.peekNat (sramAddr core ((s.coreCfg core).stepList + 32 * pos)) 32)
    if e.kind = 8 then []
    else if e.kind = 5 then UDesc.ofNat (s.peekNat e.addr 32) :: s.listSegs core fuel (pos + 1)
    else s.listSegs core fuel (pos + 1)
/-- The working copy's segments of a shard, by core. -/
def State.copySegs (s : State) (n : Nat) : List (Nat × UDesc) :=
  s.img.cores.flatMap (fun c =>
    match c.queues.getD 7 none with
    | none => []
    | some pos => ((s.listSegs c.core (65536 - pos) pos).filter (fun d => d.shard == n && d.op == 1 && d.wcEn)).dedup.map (fun d => (c.core, d)))

/-- A segment's working copy formed from the stored slot with the grain words of the piece's step. -/
def State.formCopy (s : State) (c : ShardCfg) (base step : Nat) (e : Nat × UDesc) : State × Cause :=
  match s.readStored c base e.2.start e.2.count with
  | (s, .error x) => (s, x)
  | (s, .ok xs) => s.writeWhole (s.workingCopy e.1 e.2 c step e.2.start xs).1

/-- Round arrays of a piece: anchor, outer momentum and the current offcut, the other offcut +0 (R516). -/
def State.roundArrays (s : State) (n : Nat) (c : ShardCfg) (p : ShardLoad) : State × Cause :=
  let cur := (s.ck.moduleRec.map (·.cur)).getD false
  let off := 4 * s.streamOff n
  let size := 4 * pad64 c.count
  s.writeAll ([(c.anchorBase, p.anchor.take (2 * c.count)), (c.omBase, p.momentum)] ++
    (if s.roundShards.contains n then
      [(s.offcutBase (!cur) + off, zeros size), (s.offcutBase cur + off, fitBytes size (p.offcut.take (4 * c.count)))] else []))

/-- One shard is written to slot 0 and committed. -/
def State.restoreShard (st : State × Cause) (n : Nat) : State × Cause :=
  match st with
  | (s, 0) =>
    match s.shardCfg n, s.pieceOf n with
    | some c, some p =>
      let base := c.writeBase 0
      match s.writeAll [(base, p.slotBytes.take c.slotSize), (c.parkBase, if c.pool then p.parking else [])] with
      | (s, 0) =>
        let (s, old) := s.readCommit c
        match s.writeCommit n c { seq := (old.map (fun r => r.seq + 1)).getD 1, version := p.version + 1, step := p.step, count := p.count,
                                  tid := c.tid, slot := 0 } with
        | (s, 0) =>
          match (s.modShard n (fun x => { x with park := p.park, diverged := false, repair := false, good := none })).roundArrays n c p with
          | (s, 0) => (s.copySegs n).foldl (fun st e => match st with
            | (s, 0) => s.formCopy c base p.step e
            | st => st) (s, 0)
          | r => r
        | r => r
      | r => r
    | _, _ => (s, Cause.planReject)
  | st => st

/-- RESTORE_COMMITTED (R515 steps 6 and 7, R520). -/
def execRestoreCommitted (s : State) : Out :=
  .next (
    if s.ck.restoring ≠ 6 then s
    else
      match s.shardList.foldl State.restoreShard (s, 0) with
      | (s, 0) =>
        let s := s.modCk (fun u => { u with restoring := 7, pieces := [] })
        if s.img.verifyTrust then s
        else s.each s.shardList (fun s n => match s.shardCfg n with
          | some c => if c.replicaSet = 0 then s else s.digestNow n (s.shardSt n).step c
          | none => s)
      | (s, cause) => s.restoreFail cause)

/-! ## The end of a restore (R515 step 8, R512) -/

/-- The module record is loaded. -/
def State.loadModule (s : State) (r : ModuleRecord) : State :=
  let s := s.modGate (fun g => { g with
    ls := r.ls.zipIdx.foldl (fun t (x, i) => t.insert (r.step + i) x) [], growthRun := r.growthRun,
    layers := r.layers.foldl (fun t l =>
      let ps := ((r.pending.find? (fun p => p.1 == l.1)).map (·.2)).getD []
      t.set l.1 { format := (ps.getLast?.map (·.2)).getD l.2.1, base := l.2.1, silent := l.2.2.1, vanishing := l.2.2.2, pending := ps }) g.layers })
  let passed := if s.assoc.h = 0 then 0 else (s.ck.chosen + 1) / s.assoc.h
  let s := (s.startSites).modRound (fun u => { u with
    openRound := r.openRound, lastApplied := r.lastApplied, cur := r.cur, anchorRound := r.anchorRound, formed := [],
    boundaries := ((List.range passed).filter (fun n => r.openRound ≤ n)).map (fun n => (n, s.now)),
    restored := s.img.assoc.isSome, pendingSend := false, active := s.assoc.members, ownSite := s.assoc.site, ownState := 1,
    sentDelta := false, deltas := [], accepted := [], formSlots := [], checked := [], failed := [], proposal := none, proposedRound := none, accepts := 0, closing := none,
    outerDone := [], outerIssued := [], majority := 0, closeSeen := none, rebaseStep := 0, joinStep := 0, fetch := none })
  let s := s.holdForm
  s.each s.img.cores (fun s c => s.patchCore c (fun layer =>
    (s.img.layers.find? (fun l => l.layer == layer)).bind (fun l =>
      let f := (s.gate.layers.at layer).base
      if f = l.format then none else some f)))

/-- A core record is loaded. -/
def State.loadRecord (s : State) (r : CoreRecord) : State :=
  s.modCore r.core (fun x => { x with
    counters := r.counters.foldl (fun t c => t.set c.1 { value := c.2 }) []
    queues := r.queues.zipIdx.foldl (fun t (q, i) =>
      if (x.queues.at i).active then t.set i { pos := q.1, loops := q.2.1, retired := q.2.2, active := !q.2.2, waitFrom := s.now } else t) []
    up := { x.up with step := r.updStep } })

/-- A shard in the minority is asked for at a majority member, and copied and committed again once its export has arrived (R520, R518). -/
def State.repairShard (s : State) (n : Nat) : State :=
  match s.shardCfg n with
  | some c => (s.replicaRepair n).takeRepair n c
  | none => s

/-- RESTORE_VERIFIED (R515 step 8); a shard of the minority is waited for (R520). -/
def execRestoreVerified (s : State) : Out :=
  .next (
    if s.ck.restoring ≠ 7 || (!s.img.verifyTrust && !s.commit.digests.isEmpty) then s
    else if s.ck.noMajority then s.restoreFail Cause.digestMismatch
    else
      match s.ck.moduleRec with
      | none => s.restoreFail Cause.planReject
      | some r =>
        let n := s.ck.chosen + 1
        let s := s.each s.shardList State.repairShard
        if s.shardList.any (fun k => (s.shardSt k).repair) then s
        else
        let s := (s.startGate n).startCommit n
        let s := (s.each s.img.cores (State.startCore n)).loadModule r
        let s := s.each (if s.ck.remap then [] else r.cores) State.loadRecord
        let s := s.each s.img.rings.zipIdx (State.startRing s.ck.dataCursor)
        let s := if s.ck.remap then s.each s.img.planRings State.freePlan else s
        let s := s.each s.img.planRings (State.startPlan s.ck.dataCursor)
        let s := s.modCk (fun u => { u with restoring := 0, restores := u.restores + 1, moduleRec := none, remap := false, cutStep := none,
                                            targets := u.targets.map (fun t => (t.1, { t.2 with due := none, writes := [], lines := [], manifestNext := [] })) })
        let s := s.modPower (fun p => { p with stopIssue := false })
        (s.jobRecord 3 0).setJob .running 0)

/-! ## Partner messages (R509, R510) -/

/-- Selection has ended for a job start or a restore. -/
def State.partnerDecided (s : State) (cause : Cause) : State :=
  if s.ck.restoring = 5 then (if cause = 0 then s.restoreChecks else s.restoreFail cause)
  else if s.host.starting.isSome then (if cause = 0 then s.beginJob else s.startFailed cause)
  else s

/-- PARTNER_CLAIM (R510): the first claim is accepted. -/
def execPartnerClaim (port node : Nat) (s : State) : Out :=
  .next (if (s.port port).state ≠ 6 then s
    else if s.ck.claimedBy.isNone then (s.modCk (fun u => { u with claimedBy := some port })).sendMsg port (.claimAccepted s.img.node)
    else s.sendMsg port (.claimRefused node))

/-- PARTNER_REFUSAL (R510): the next candidate. -/
def execPartnerRefusal (port : Nat) (s : State) : Out :=
  .next (if s.ck.claiming ≠ some port then s
    else match s.claimFrom (s.ck.candidate + 1) with
      | (s, none) => s
      | (s, some cause) => s.partnerDecided cause)

/-- PARTNER_ACCEPTANCE (R509). -/
def execPartnerAcceptance (port : Nat) (s : State) : Out :=
  .next (if s.ck.claiming ≠ some port then s
    else (s.modCk (fun u => { u with claiming := none, partner := some port, sameFeed := false })).partnerDecided 0)

/-! ## Copies served to others (R515, R520) -/

/-- Bytes leave over TC3 for a node. -/
def State.serve (s : State) (node : Nat) (bytes : List Byte) : State :=
  let (s, tag) := (s.openSource 1024 0 { tc := 3, dst := node } [(Config.copyDest s.free, bytes)])
  (s.sendSource tag).draw

/-- COPY_REGION_REQUEST (R515): the module whose claim was accepted asks for its copy. -/
def execCopyRegionRequest (port : Nat) (s : State) : Out :=
  .next (match s.img.ckTargets.find? (fun t => t.kind == 0) with
    | some t =>
      if s.ck.claimedBy = some port && (s.port port).state = 6 then
        match s.readMem s.img.copyRegion t.size with
        | (s, .ok bs) => s.serve (s.port port).nbrNode bs
        | (s, .error _) => s
      else s
    | none => s)

/-- A shard's export goes to a node, under a hold that ends with the read; a sixteenth hold waits (10_parameter R335). -/
def State.exportTo (s : State) (node shard : Nat) (c : ShardCfg) : State :=
  if !(s.shardSt shard).canHold (s.shardSt shard).slot then s.modShard shard (fun x => { x with waiting := x.waiting ++ [.exportTo node] })
  else
    match s.exportBytes shard c with
    | (s, .ok bs) => s.serve node bs
    | (s, .error _) => s

/-- SHARD_EXPORT_REQUEST (R520). -/
def execShardExportRequest (node shard : Nat) (s : State) : Out :=
  .next (match s.shardCfg shard with
    | some c => if !(s.shardSt shard).hasState || s.nodes ≤ node || node = s.img.node then s else s.exportTo node shard c
    | none => s)

/-- Reads that waited for a hold go on where their slot takes one again (10_parameter R335). -/
def State.serveHolds (s : State) : State :=
  s.each s.shardList (fun s n =>
    match (s.shardSt n).waiting, s.shardCfg n with
    | w :: ws, some c =>
      if !(s.shardSt n).canHold (s.shardSt n).slot then s
      else
        let s := s.modShard n (fun x => { x with waiting := ws })
        match w with
        | .digest step => s.digestNow n step c
        | .exportTo node => s.exportTo node n c
    | _, _ => s)

/-! ## Halts and wakes (R522; 16_power R589) -/

/-- HALT_MESSAGE (R522): flooded on once, and the policy acts on this module. -/
def execHaltMessage (arrived node seq : Nat) (s : State) : Out :=
  .next (
    let known := s.torus.haltSeq.any (fun e => e.1 == node && seq ≤ e.2)
    if known || node = s.img.node then s
    else
      let s := s.modTorus (fun t => { t with haltSeq := t.haltSeq.filter (fun e => e.1 != node) ++ [(node, seq)] })
      let s := s.flood (some arrived) (.halt node seq)
      if s.host.job = .running && !s.power.stopIssue then (s.haltPolicy (failCause (Config.remoteHalt s.free))).draw else s)

/-- WAKE_MESSAGE (R589). -/
def execWakeMessage (_node : Nat) (s : State) : Out := .next s.wakeUp

end Sys2Proof.Machine
end

