-- ==== Sys2Proof/Machine/Cipher.lean ====
section
/-! DEFINITION. Alarms and key erasure, the key store and the cipher engines (15_security R542 to R558; 13_freyn R486 to
R491). -/

namespace Sys2Proof.Machine

open Sys2Proof

def State.modSec (s : State) (f : Security → Security) : State := { s with sec := f s.sec }
def State.modEngine (s : State) (p : Nat) (f : Engine → Engine) : State := { s with engines := s.engines.upd p f }
def State.engine (s : State) (p : Nat) : Engine := s.engines.at p
def State.modWan (s : State) (p : Nat) (f : WanPort → WanPort) : State := { s with wan := s.wan.upd p f }
/-- The security record is written to flash with the next sequence number (18_configuration R615, R616). -/
def State.modRecord (s : State) (f : SecurityRecord → SecurityRecord) : State :=
  let g (r : SecurityRecord) : SecurityRecord := { f r with seq := r.seq + 1 }
  { s with flash := { s.flash with security := g s.flash.security } }

/-- WAN port and engine p exist (13_freyn R447; R560). -/
def State.wanExists (s : State) (p : Nat) : Bool := p < 4 && !(s.fuses.variantM && (p == 1 || p == 3))
/-- The edge domain is powered (16_power R569, R575). -/
def State.edgePowered (s : State) : Bool :=
  match s.power.boot with | .off | .charging => false | .standby => s.power.state == .fault | _ => s.power.holdup < 3
/-- RETIRED module (R530). -/
def State.retired (s : State) : Bool := s.fuses.lifecycle == 3
/-- No key is unwrapped or derived (R530, R557). -/
def State.kekClosed (s : State) : Bool := s.sec.kekClosed || s.retired

/-! ## Freyn items that lose their key (13_freyn R488, R493) -/

/-- Every Freyn item ends Failed: the streams to each site and a fetch in progress. -/
def State.failFreyn (s : State) (cause : Cause) : State :=
  let busy := ((s.sites.filter (fun e => !e.2.out.isEmpty)).map (·.1))
  let s := s.each busy (fun s i => (s.freynEvent cause i s.round.openRound).modSite i (fun x => { x with out := [] }))
  let s := s.modRound (fun u => { u with queue := [] })
  match s.round.fetch with
  | some f => if f.done then s else (s.freynEvent cause f.site f.round).modRound (fun u => { u with fetch := none })
  | none => s

/-! ## Alarms (R556 to R558) -/

/-- Group of an alarm bit. -/
def alarmGroup (bit : Nat) : Nat := if bit ≤ 1 then 1 else if bit = 2 then 2 else 3

/-- KM, derived keys, every key slot and the write-only key registers are erased (R557). -/
def State.eraseKeys (s : State) : State :=
  { s with
    sec := { s.sec with km := none, prevKm := none, windowEnd := 0, keyWr := List.replicate 8 0, keyWrAssoc := 0, keyWrLost := 0x1FF }
    engines := s.engines.foldl (fun t (e : Nat × Engine) => t.set e.1 { e.2 with slots := [] }) [] }

/-- An alarm is raised: erasure, latch, event record, and what its group decides. -/
def State.raiseAlarm (s : State) (bit : Nat) : State :=
  let s := (s.eraseKeys).modSec (fun c => { c with alarm := c.alarm ||| BitVec.ofNat 6 (2 ^ bit), alarms := c.alarms + 1 })
  let s := (s.reportDetail 0x8060 Cause.keyErased (BitVec.ofNat 8 bit) 0 0 0).failFreyn Cause.keyErased
  let group := max (alarmGroup bit) (s.sec.recovering.getD 0)
  if group = 3 || s.sec.identityErased then
    s.modSec (fun c => { c with identityKeys := false, identityErased := true, kekClosed := true, recovering := none })
  else s.modSec (fun c => { c with recovering := some group, alarmAt := s.now })

/-- The security core monitors while the headstock is powered. -/
def State.alarm (s : State) (bit : Nat) : State := if s.edgePowered then s.raiseAlarm bit else s

/-- VOLTAGE_ALARM (R556). -/
def execVoltageAlarm (s : State) : Out := .next (s.alarm 0)
/-- TEMPERATURE_ALARM (R556). -/
def execTemperatureAlarm (s : State) : Out := .next (s.alarm 1)
/-- GLITCH_ALARM (R556). -/
def execGlitchAlarm (s : State) : Out := .next (s.alarm 3)
/-- ALARM_CLEAR (R559): writing 1s to SEC.ALARM LATCHED clears those bits. -/
def execAlarmClear (value : Word) (s : State) : Out :=
  .next (s.when s.barUp (·.modSec (fun c => { c with alarm := c.alarm &&& ~~~(value.setWidth 6) })))

/-- A failed unwrap, commit or owner signature: counted, and from the 8th since Cold reset the AUTH alarm (R556). -/
def State.authFailed (s : State) : State :=
  let s := s.modSec (fun c => { c with authFails := c.authFails + 1, authCount := c.authCount + 1 })
  if 8 ≤ s.sec.authCount then s.raiseAlarm 2 else s

/-! ## Key derivation and slots of Freyn keys (13_freyn R486; R552, R553) -/

/-- The key of a sending site and epoch under a master key. -/
def freynKey (km : List Byte) (assoc site epoch bits : Nat) : List Byte :=
  let block (i : Nat) : List Byte :=
    cmac km ([BitVec.ofNat 8 i, 0x46, 0x52, 0x45, 0x59, 0x4E, 0] ++ leBytes 4 assoc ++ leBytes 1 site ++ leBytes 2 epoch ++ leBytes 2 bits)
  if bits = 256 then block 1 ++ block 2 else block 1
def State.keyBits (s : State) : Nat := if s.assoc.keyBits256 then 256 else 128

/-- WAN ports that carry a route, with an engine. -/
def State.routePorts (s : State) : List Nat := ((s.assoc.routes.map (·.port)).dedup).filter s.wanExists
/-- WAN ports of the routes of one site. -/
def State.sitePorts (s : State) (i : Nat) : List Nat :=
  (((s.assoc.routes.filter (fun r => r.site == i)).map (·.port)).dedup).filter s.wanExists

/-- Key slot of the module's send key, and of a site's receive key of an epoch (log entry 33). -/
def sendSlot : Nat := 0
def recvSlot (site epoch : Nat) : Nat := 1 + 2 * site + epoch % 2

def State.setSlot (s : State) (p n : Nat) (k : KeySlot) : State := s.modEngine p (fun e => { e with slots := e.slots.set n k })

/-- The send key of the present epoch is loaded into SEND slot 0 of each engine that carries a route (R553). -/
def State.loadSendKeys (s : State) : State :=
  match s.sec.km with
  | none => s
  | some km =>
    let a := s.assoc
    let key := freynKey km.key a.assoc a.site s.round.txEpoch s.keyBits
    s.each s.routePorts (fun s p => s.setSlot p sendSlot
      { key := key, usage := 0, site := a.site, epoch := s.round.txEpoch, fixed := a.assoc, nextCtr := p * 2 ^ 40, loadedAt := s.now })

/-- The receive key of a site's epoch is loaded (R552). -/
def State.loadRecvKey (s : State) (i epoch : Nat) : State :=
  match s.sec.km with
  | none => s
  | some km =>
    let key := freynKey km.key s.assoc.assoc i epoch s.keyBits
    s.each (s.sitePorts i) (fun s p => s.setSlot p (recvSlot i epoch) { key := key, usage := 1, site := i, epoch := epoch, loadedAt := s.now })

/-- A new send epoch begins: written to flash first, send counts at 0, send keys loaded (13_freyn R487). -/
def State.beginEpoch (s : State) (e : Nat) : State :=
  let s := s.modRecord (fun r => { r with sendEpoch := e })
  let s := s.each [0, 1, 2, 3] (fun s p => s.modWan p (fun w => { w with count := 0 }))
  (s.modRound (fun u => { u with txEpoch := e, epochAt := s.now, epochStarted := true, rekeyWanted := false, exhausted := false })).loadSendKeys

/-- A sender that needs an epoch beyond 0xFFFF sends nothing further: its items end COUNTER_EXHAUSTED (13_freyn R488). -/
def State.exhaust (s : State) : State :=
  (s.modRound (fun u => { u with exhausted := true, rekeyWanted := false })).failFreyn Cause.counterExhausted

/-! ## Installing KM (R542 to R547) -/

/-- A KM is installed: a recorded fingerprint continues the epochs, another opens a change window. -/
def State.installKm (s : State) (k : MasterKey) : State :=
  let fp := (cmac k.key (zeros 16)).take 8
  if s.flash.security.fingerprint = fp then
    let e := s.flash.security.sendEpoch
    let s := s.modSec (fun c => { c with km := some k })
    if e = 0xFFFF then s.exhaust else s.beginEpoch (e + 1)
  else
    let s := s.modSec (fun c => { c with km := some k, prevKm := c.km, windowEnd := s.now + 60000000000 })
    let s := s.modRecord (fun r => { r with fingerprint := fp, rxEpochs := [] })
    let s := { s with sites := s.sites.foldl (fun t (e : Nat × SiteSt) => t.set e.1
      { e.2 with rxEpoch := none, prevEpoch := none, newerSinceReset := false, windows := [], prevWindows := [] }) [] }
    s.beginEpoch 0

/-- The blob's key, where R544 lets it be installed. -/
def State.blobKey (s : State) (blob : List Byte) : Option MasterKey :=
  match unwrapKey s.fuses.kek blob, s.img.assoc with
  | some p, some a =>
    let bits := leNat ((p.drop 3).take 1)
    let assoc := leNat ((p.drop 4).take 4)
    let serial := leNat ((p.drop 8).take 8)
    if leNat (p.take 2) = 1 && leNat ((p.drop 2).take 1) = 1 && bits ≤ 1 && p.length = 32 + 16 * bits && assoc = a.assoc &&
       (serial = 0 || serial = s.fuses.serial) then some { key := p.drop 16, assoc := assoc }
    else none
  | _, _ => none

/-- A blob is unwrapped: the cause NONE where KM is installed. -/
def State.unwrapBlob (s : State) (blob : List Byte) : State × Cause :=
  if s.kekClosed then (s, Cause.keyErased)
  else
    match s.blobKey blob with
    | some k => (s.installKm k, 0)
    | none => (s.authFailed, Cause.authFail)

/-- The key blobs of the running configuration image are unwrapped: whether all were. -/
def State.unwrapImage (s : State) : State × Bool :=
  if s.kekClosed then (s, true)
  else s.img.keys.foldl (fun (r : State × Bool) b => match r.1.unwrapBlob b with | (s, c) => (s, r.2 && c == 0)) (s, true)

/-- ALARM_RECOVERY (R557): a group 1 or 2 alarm's condition has been clear for 1 s. -/
def execAlarmRecovery (s : State) : Out :=
  .next (if s.sec.recovering.isSome && s.sec.alarmAt + 1000000000 ≤ s.now && s.edgePowered then
      ((s.modSec (fun c => { c with recovering := none })).unwrapImage).1
    else s)

/-- CHANGE_WINDOW_END (R546): the previous KM is erased. -/
def execChangeWindowEnd (s : State) : Out :=
  .next (if s.sec.windowEnd ≠ 0 && s.sec.windowEnd ≤ s.now then s.modSec (fun c => { c with prevKm := none, windowEnd := 0 }) else s)

/-- A change window is open. -/
def State.inWindow (s : State) : Bool := s.sec.windowEnd != 0 && s.now < s.sec.windowEnd

/-! ## Cipher jobs (R549 to R555) -/

/-- A cipher job descriptor (R550). -/
structure CipherJob where
  aadAddr : Nat
  dst : Nat
  src : Nat
  iv : List Byte
  aadLen : Nat
  len : Nat
  nonceOff : Nat
  slot : Nat
  tagLen : Nat
  pad : Bool
  mode : Nat
  op : Nat
  reservedZero : Bool
  deriving DecidableEq, Repr

def CipherJob.ofNat (w : Nat) : CipherJob :=
  { aadAddr := fld w 448 56, dst := fld w 392 56, src := fld w 336 56, iv := leBytes 16 (fld w 128 128), aadLen := fld w 96 32,
    len := fld w 56 40, nonceOff := fld w 48 8, slot := fld w 32 6, tagLen := fld w 28 4 + 1, pad := bitOf w 27, mode := fld w 24 3,
    op := fld w 0 8, reservedZero := fld w 504 8 == 0 && fld w 256 80 == 0 && fld w 38 10 == 0 && fld w 8 16 == 0 }

/-- A job has ended. -/
def State.jobEnd (s : State) (p : Nat) (cause : Cause) : State :=
  s.modEngine p (fun e => { e with jobs := e.jobs + 1, lastFail := if cause = 0 then e.lastFail else cause,
                                   refused := if cause = Cause.counterExhausted then e.refused + 1 else e.refused })

/-- A tag or pad has failed: counted; 4 096 tag failures of one engine within 1 s raise the AUTH alarm, outside a change
window (R546, R556). -/
def State.tagFailed (s : State) (p : Nat) (tag : Bool) : State :=
  let s := s.modEngine p (fun e => { e with tagFails := e.tagFails + 1 })
  if !tag || s.inWindow then s
  else
    let s := s.modEngine p (fun e => { e with recentFails := e.recentFails.filter (fun t => s.now < t + 1000000000) ++ [s.now] })
    if 4096 ≤ (s.engine p).recentFails.length then s.raiseAlarm 2 else s

/-- Bytes of padding that a CBC encryption appends. -/
def padCount (n : Nat) : Nat := 16 - n % 16
/-- The input without a valid PKCS#7 pad. -/
def unpad (bs : List Byte) : Option (List Byte) :=
  let n := (bs.getLastD 0).toNat
  if 1 ≤ n && n ≤ 16 && n ≤ bs.length && (bs.drop (bs.length - n)).all (fun b => b.toNat == n) then some (bs.take (bs.length - n)) else none

/-- Largest LEN of a mode (R551); a GCM decryption on a RECV slot takes 16 384 bytes (R555). -/
def CipherJob.limit (j : CipherJob) (usage : Nat) : Nat :=
  if j.mode = 3 then (if j.op = 2 && usage = 1 then 16384 else 2 ^ 36 - 32) else 2 ^ 36
/-- The slot's usage allows the job (R549). -/
def CipherJob.usageOk (j : CipherJob) (usage : Nat) : Bool :=
  match usage with
  | 0 => j.mode == 3 && j.op == 1
  | 1 => j.mode == 3 && j.op == 2
  | 2 => j.mode == 4 && j.op == 3
  | _ => true
/-- The operation and the mode fit each other, and the mode's fields are in range. -/
def CipherJob.shapeOk (j : CipherJob) : Bool :=
  (if j.op = 3 then j.mode == 4 else j.mode < 4) &&
  (j.mode != 3 || (12 ≤ j.tagLen)) && (j.mode != 4 || 4 ≤ j.tagLen) &&
  (j.mode != 0 || j.pad || j.len % 16 == 0) && j.slot < 48
/-- Bytes written at DST. -/
def CipherJob.outLen (j : CipherJob) : Nat :=
  match j.mode with
  | 0 => if j.pad && j.op = 1 then j.len + padCount j.len else j.len
  | 3 => if j.op = 1 then j.len + j.tagLen else j.len
  | 4 => j.tagLen
  | _ => j.len
def CipherJob.inLen (j : CipherJob) : Nat := if j.mode = 3 && j.op = 2 then j.len + j.tagLen else j.len
/-- Every region lies in its space (00_scope R10), and no write of the job touches the gate area, which only a contributing core's
transfer may write (09_training R313). -/
def State.jobRegions (s : State) (j : CipherJob) (send : Bool) : Bool :=
  let ok (a n : Nat) : Bool := n == 0 || s.inSpace a n
  let into (a n : Nat) : Bool := n == 0 || (s.inSpace a n && !inGateArea a n)
  ok j.src j.inLen && into j.dst j.outLen && (j.mode != 3 || (ok j.aadAddr j.aadLen && (!send || into (j.aadAddr + j.nonceOff) 12)))

/-- Result of a job: output bytes, and whether a tag or a pad failed instead. -/
inductive CipherOut where
  | bytes (bs : List Byte)
  | badTag
  | badPad
  deriving DecidableEq, Repr

/-- The mode's computation on the input and the additional data. -/
def CipherJob.run (j : CipherJob) (key nonce input aad : List Byte) : CipherOut :=
  match j.mode with
  | 0 =>
    if j.op = 1 then
      let p := if j.pad then input ++ List.replicate (padCount j.len) (BitVec.ofNat 8 (padCount j.len)) else input
      .bytes (cbcEnc key j.iv (blocks16 p))
    else
      let p := cbcDec key j.iv (blocks16 input)
      if !j.pad then .bytes p
      else if j.len % 16 ≠ 0 then .badPad
      else match unpad p with | some q => .bytes q | none => .badPad
  | 1 => .bytes (cfb key (j.op == 2) j.iv (blocks16 input))
  | 2 => .bytes (ctr 64 key j.iv input)
  | 3 =>
    if j.op = 1 then
      let c := gcmCrypt key nonce input
      .bytes (c ++ (gcmTag key nonce aad c).take j.tagLen)
    else
      let c := input.take j.len
      if (gcmTag key nonce aad c).take j.tagLen = input.drop j.len then .bytes (gcmCrypt key nonce c) else .badTag
  | _ => .bytes ((cmac key input).take j.tagLen)

/-- The nonce of a GCM job: formed by the engine on a SEND slot, else from the descriptor. -/
def CipherJob.nonce (j : CipherJob) (k : KeySlot) : List Byte := if k.usage = 0 then leBytes 4 k.fixed ++ leBytes 8 k.nextCtr else j.iv.take 12

/-- Why a job on a loaded slot is refused before any byte is read (R549, R551, R553 to R555). -/
def State.jobRefusal (s : State) (p : Nat) (j : CipherJob) (k : KeySlot) : Cause :=
  if !j.reservedZero || !j.shapeOk || k.usage ≥ 4 || !j.usageOk k.usage || j.limit k.usage < j.len || !s.jobRegions j (k.usage == 0) then
    Cause.planReject
  else if j.mode = 2 && 2 ^ 64 < beNat j.iv % 2 ^ 64 + (j.len + 15) / 16 then Cause.counterExhausted
  else if j.mode = 3 && k.usage = 0 && ((p + 1) * 2 ^ 40 ≤ k.nextCtr || k.loadedAt + 3601000000000 < s.now) then Cause.counterExhausted
  else if j.mode = 3 && j.op = 1 && k.usage = 3 && 2 ^ 32 ≤ k.encryptions then Cause.counterExhausted
  else 0

/-- A job runs on a loaded slot. -/
def State.runJob (s : State) (p : Nat) (j : CipherJob) (k : KeySlot) : State :=
  let nonce := j.nonce k
  let (s, e) := if j.mode = 3 && k.usage = 0 then s.writeMem (j.aadAddr + j.nonceOff) nonce else (s, 0)
  if e ≠ 0 then s.jobEnd p e
  else
    match s.readMem j.src j.inLen with
    | (s, .error e) => s.jobEnd p e
    | (s, .ok input) =>
      match (if j.mode = 3 then s.readMem j.aadAddr j.aadLen else (s, .ok [])) with
      | (s, .error e) => s.jobEnd p e
      | (s, .ok aad) =>
        let used (x : KeySlot) : KeySlot :=
          if j.mode = 3 && j.op = 1 then { x with nextCtr := if x.usage = 0 then x.nextCtr + 1 else x.nextCtr,
                                                  encryptions := if x.usage = 3 then x.encryptions + 1 else x.encryptions } else x
        let s := s.setSlot p j.slot (used k)
        match j.run k.key nonce input aad with
        | .badTag => (s.jobEnd p Cause.authFail).tagFailed p true
        | .badPad => (s.jobEnd p Cause.authFail).tagFailed p false
        | .bytes bs => match s.writeMem j.dst bs with | (s, e) => s.jobEnd p e

/-- A job of one operation: an OP the table does not name is refused. -/
def State.cipherJob (s : State) (p : Nat) (w : BitVec 512) (op : Nat) : State :=
  let j := CipherJob.ofNat w.toNat
  if !s.wanExists p || !s.edgePowered || (j.op ≠ op && (j.op = 1 || j.op = 2 || j.op = 3)) then s
  else if j.op ≠ op then s.jobEnd p Cause.planReject
  else
    let k := (s.engine p).slots.at j.slot
    if j.slot < 48 && k.key.isEmpty then s.jobEnd p (if j.reservedZero && j.shapeOk then Cause.keyErased else Cause.planReject)
    else
      let c := s.jobRefusal p j k
      if c ≠ 0 then s.jobEnd p c else s.runJob p j k

/-- ENCRYPT (R551). -/
def execEncrypt (engine : Nat) (desc : BitVec 512) (s : State) : Out := .next (s.cipherJob engine desc 1)
/-- DECRYPT (R551, R555). -/
def execDecrypt (engine : Nat) (desc : BitVec 512) (s : State) : Out := .next (s.cipherJob engine desc 2)
/-- MAC (R551). -/
def execMac (engine : Nat) (desc : BitVec 512) (s : State) : Out := .next (s.cipherJob engine desc 3)

/-- KEY_SLOT_LOAD (R552, R553): a SEND slot starts at p × 2^40. -/
def execKeySlotLoad (engine slot : Nat) (load : SlotLoad) (s : State) : Out :=
  .next (if !s.wanExists engine || !s.edgePowered || 48 ≤ slot || 4 ≤ load.usage || (load.key.length ≠ 16 && load.key.length ≠ 32) then s
    else s.setSlot engine slot { key := load.key, usage := load.usage, site := load.site, epoch := load.epoch,
                                 fixed := if load.usage = 0 then load.fixed else 0,
                                 nextCtr := if load.usage = 0 then engine * 2 ^ 40 else 0, loadedAt := s.now })

/-- SLOT_CTR_LO_READ (R560). -/
def execSlotCtrLoRead (engine : Nat) (s : State) : Out :=
  let e := s.engine engine
  let k := e.slots.at e.sel
  let ctr := if k.usage = 0 then k.nextCtr else 0
  .next { (if s.wanExists engine then s.modEngine engine (fun e => { e with ctrHi := BitVec.ofNat 32 (ctr / 2 ^ 32) }) else s) with
          bus := if s.wanExists engine then ctr % 2 ^ 32 else 0 }

end Sys2Proof.Machine
end

