-- ==== Sys2Proof/Machine/Security.lean ====
section
/-! DEFINITION. Measurements and SPDM responses, owner commands, provisioning and key entry (15_security R530 to R548). -/

namespace Sys2Proof.Machine

open Sys2Proof

/-! ## Registers that are measured (R541, R559) -/

/-- SEC.PROTECT. -/
def State.protectReg (s : State) : Nat :=
  let f := s.fuses
  f.rollback * 2 ^ 16 + f.ownerRevoke % 16 * 2 ^ 12 + f.vendorRevoke % 4 * 2 ^ 10 + b2n f.debugOpen * 2 ^ 9 + b2n f.variantM * 2 ^ 8 + f.lifecycle % 4
/-- SEC.KEY_STATE. -/
def State.keyStateReg (s : State) : Nat :=
  b2n s.flash.security.ownerLock * 8 + b2n s.sec.km.isSome * 4 + b2n s.sec.identityErased * 2 + b2n s.kekClosed

/-! ## Fuses (R527, R529; 16_power R572, R573) -/

/-- Numbers side by side, the first lowest, each with its width in bits. -/
def sideBySide : List (Nat × Nat) → Nat
  | [] => 0
  | (w, n) :: rest => n % 2 ^ w + 2 ^ w * sideBySide rest
/-- Field values of the protection fuses in the order of R527 (log entry 142). -/
def Fuses.protection (f : Fuses) : List (Nat × Nat) :=
  let hash (bs : List (List Byte)) (i : Nat) : Nat × Nat := (384, leNat (bs.getD i []))
  [(1, b2n f.variantM), (2, f.lifecycle), (1, b2n f.debugOpen), (64, f.serial), (384, leNat f.uds)] ++ [0, 1].map (hash f.vendorKeyHash) ++
  [(2, f.vendorRevoke)] ++ [0, 1, 2, 3].map (hash f.ownerKeyHash) ++ [(4, f.ownerRevoke), (256, leNat f.kek), (64, 2 ^ f.rollback - 1)]
/-- Field values of the repair fuses in the order of 16_power R573. -/
def Fuses.repair (f : Fuses) : List (Nat × Nat) :=
  (List.range 8).map (fun d => (9, f.clusterGood.getD d 0)) ++
  (List.range 8).flatMap (fun d => (List.range 9).map (fun k => (18, (f.coreGood.getD d []).getD k 0))) ++
  f.rowReplacements.map (fun r => (32, r.1 + 65536 * r.2)) ++
  (List.range 8).map (fun p => (17, f.laneFail.getD p 0)) ++ (List.range 4).map (fun p => (8, f.wanLaneFail.getD p 0))
/-- CRC-32 of fields side by side, the last byte filled with 0. -/
def crcOf (fs : List (Nat × Nat)) : Nat := (crc32 (leBytes (((fs.map (·.1)).sum + 7) / 8) (sideBySide fs))).toNat
/-- FUSE_CRC holds (R529), and REPAIR_CRC (16_power R572). -/
def Fuses.fuseCrcOk (f : Fuses) : Bool := f.crc == crcOf f.protection
def Fuses.repairCrcOk (f : Fuses) : Bool := f.repairCrc == crcOf f.repair
/-- Fuses with the CRCs of their fields. -/
def Fuses.sealed (f : Fuses) : Fuses := { f with crc := crcOf f.protection }

/-! ## Images in flash (18_configuration R618, R622) -/

/-- Field of n bytes at an offset of bytes. -/
def byteField (bs : Memory) (off n : Nat) : Nat := leNat (bs.read off n)
def State.fwSlotOf (s : State) (b : Bool) : FwSlot := if b then s.flash.fwB else s.flash.fwA
def State.cfgSlotOf (s : State) (b : Bool) : CfgSlot := if b then s.flash.cfgB else s.flash.cfgA
/-- Bytes of a firmware image and of a configuration image, by the LENGTH of their headers. -/
def FwSlot.image (f : FwSlot) : List Byte := Memory.read f.bytes 0 (byteField f.bytes 8 4)
def CfgSlot.image (c : CfgSlot) : List Byte := Memory.read c.bytes 0 (byteField c.bytes 8 4)

/-! ## Measurements (R541) -/

/-- A measurement's value; that of the boot ROM, whose content no rule gives, is free. -/
def State.measurement (s : State) (i : Nat) : List Byte :=
  match i with
  | 1 => (List.range 48).map (Config.reply 1)
  | 2 => sha384 (s.fwSlotOf s.host.fwSlot).image
  | 3 => sha384 (s.cfgSlotOf s.host.cfgSlot).image
  | 4 => leBytes 4 s.protectReg
  | _ => leBytes 4 (s.keyStateReg + b2n s.flash.security.ownerLock * 2 ^ 31)
/-- A measurement block as DSP0274 lays it out (log entry 34). -/
def State.measurementBlock (s : State) (i : Nat) : List Byte :=
  let v := s.measurement i
  let kind : Nat := match i with | 1 => 0 | 2 => 1 | 3 => 3 | 4 => 0x82 | _ => 0x83
  leBytes 1 i ++ [1] ++ leBytes 2 (3 + v.length) ++ leBytes 1 kind ++ leBytes 2 v.length ++ v
def State.allBlocks (s : State) : List Byte := [1, 2, 3, 4, 5].flatMap s.measurementBlock

/-! ## Identity keys (R534) -/

def State.deviceKey (s : State) : Nat := beNat (sha384 (s.fuses.uds ++ [0x44, 0x45, 0x56, 0x49, 0x44])) % (curveN - 1) + 1
def State.aliasKey (s : State) : Nat :=
  beNat (sha384 (s.fuses.uds ++ [0x41, 0x4C, 0x49, 0x41, 0x53] ++ s.measurement 2)) % (curveN - 1) + 1
def publicKey (d : Nat) : List Byte := pointBytes (pointMul 384 d (some curveG))

/-- The certificate chain of slot 0: length, root hash, the certificates in flash and, unless RETIRED, the alias
certificate, whose bytes are free. -/
def State.certChain (s : State) : List Byte :=
  let alias_ := if s.retired then [] else
    (List.range (leNat [Config.certificate 0, Config.certificate 1])).map (fun i => Config.certificate (2 + i))
  let certs := s.flash.certChain ++ alias_
  leBytes 2 (52 + certs.length) ++ zeros 2 ++ (List.range 48).map (fun i => Config.certificate (0x10000 + i)) ++ certs

/-! ## SPDM (R538 to R540) -/

def State.spdmReply (s : State) (bs : List Byte) : State := (s.modSec (fun c => { c with response := bs })).draw
/-- ERROR with its code and data. -/
def State.spdmError (s : State) (code data : Nat) : State := s.spdmReply ([0x13, 0x7F] ++ leBytes 1 code ++ leBytes 1 data)
/-- Why a request is answered ERROR whatever it asks: a group 3 alarm (R540), or algorithms not offered (R539). -/
def State.spdmShut (s : State) : Bool := s.sec.identityErased || s.sec.spdmAlgos == some false
/-- A request is answered: ERROR where R539 or R540 says so. -/
def State.spdm (s : State) (f : State → State) : Out :=
  .next (if !s.mailboxUp then s else if s.spdmShut then s.spdmError 5 0 else f s)

/-- GET_VERSION (R538): 1.3 only. -/
def execGetVersion (s : State) : Out :=
  .next (if !s.mailboxUp then s
    else if s.sec.identityErased then s.spdmError 5 0
    else (s.modSec (fun c => { c with spdmVersion := true, spdmAlgos := none })).spdmReply [0x10, 0x04, 0, 0, 0, 1, 0x00, 0x13])

/-- GET_CAPABILITIES (R530, R538). -/
def execGetCapabilities (s : State) : Out :=
  s.spdm (fun s => s.spdmReply ([0x13, 0x61, 0, 0, 0, Config.reply s.free 0, 0, 0] ++ leBytes 4 (if s.retired then 0x0A else 0x16) ++
    (List.range 8).map (fun i => Config.reply s.free (1 + i))))

/-- NEGOTIATE_ALGORITHMS (R539). -/
def execNegotiateAlgorithms (offersExtAsym : Bool) (s : State) : Out :=
  s.spdm (fun s =>
    let ext : List Byte := if offersExtAsym then [Config.reply s.free 0, 0, 0x01, 0x00] else []
    (s.modSec (fun c => { c with spdmAlgos := some offersExtAsym })).spdmReply
      ([0x13, 0x63, 0, 0] ++ leBytes 2 (36 + ext.length) ++ [1, 0] ++ leBytes 4 4 ++ leBytes 4 0 ++ leBytes 4 2 ++ zeros 12 ++
       [if offersExtAsym then 1 else 0, 0, 0, 0] ++ ext))

/-- GET_DIGESTS (R538): slot 0 only. -/
def execGetDigests (s : State) : Out := s.spdm (fun s => s.spdmReply ([0x13, 0x01, 1, 1] ++ sha384 s.certChain))

/-- GET_CERTIFICATE (R538): slot 0 only. -/
def execGetCertificate (slot offset length : Nat) (s : State) : Out :=
  s.spdm (fun s =>
    let chain := s.certChain
    if slot ≠ 0 || chain.length ≤ offset then s.spdmError 1 0
    else
      let part := (chain.drop offset).take length
      s.spdmReply ([0x13, 0x02, 0, 0] ++ leBytes 2 part.length ++ leBytes 2 (chain.length - offset - part.length) ++ part))

/-- Signature of a response by the alias key (R535, R536); the bytes it covers and its secret number are free. -/
def State.spdmSign (s : State) (nonce response : List Byte) : List Byte :=
  ecdsaSign s.aliasKey (Config.signSecret s.free % (curveN - 1) + 1) (Config.spdmSigned s.free (nonce ++ response))

/-- CHALLENGE (R530, R538): the module's nonce and the request context are free. -/
def execChallenge (slot : Nat) (nonce : List Byte) (s : State) : Out :=
  s.spdm (fun s =>
    if s.retired then s.spdmError 7 0x83
    else if slot ≠ 0 then s.spdmError 1 0
    else
      let body := [0x13, 0x03, 0, 1] ++ sha384 s.certChain ++ (List.range 32).map (Config.random s.free) ++ sha384 s.allBlocks ++ zeros 2 ++
        (List.range 8).map (Config.reply s.free)
      s.spdmReply (body ++ s.spdmSign nonce body))

/-- GET_MEASUREMENTS (R530, R538, R541): indices 1 to 5, or 0xFF for all. -/
def execGetMeasurements (index : Nat) (signed : Bool) (nonce : List Byte) (s : State) : Out :=
  s.spdm (fun s =>
    if s.retired && signed then s.spdmError 7 0xE0
    else if index ≠ 0xFF && (index = 0 || 5 < index) then s.spdmError 1 0
    else
      let blocks := if index = 0xFF then s.allBlocks else s.measurementBlock index
      let body := [0x13, 0x60, 0, 0] ++ leBytes 1 (if index = 0xFF then 5 else 1) ++ leBytes 3 blocks.length ++ blocks ++
        (List.range 32).map (Config.random s.free) ++ zeros 2 ++ (List.range 8).map (Config.reply s.free)
      s.spdmReply (body ++ if signed then s.spdmSign nonce body else []))

/-- SPDM_UNSUPPORTED (R538): ERROR, UnsupportedRequest. -/
def execSpdmUnsupported (code : Nat) (s : State) : Out := s.spdm (fun s => s.spdmError 7 code)

/-! ## Nonces (R537) -/

/-- NONCE_GET: 32 random bytes; a newer nonce ends an older one. -/
def execNonceGet (s : State) : Out :=
  .next (if !s.mailboxUp then s
    else
      let n := (List.range 32).map (Config.random s.free)
      ((s.modSec (fun c => { c with nonce := some (n, s.now) })).draw).vendorOk n)

/-- A nonce is older than 60 s. -/
def State.nonceOld (s : State) : Bool := s.sec.nonce.any (fun n => n.2 + 60000000000 < s.now)
/-- NONCE_LAPSE. -/
def execNonceLapse (s : State) : Out := .next (if s.nonceOld then s.modSec (fun c => { c with nonce := none }) else s)

/-! ## Owner commands (R532, R533, R536, R537) -/

/-- A command fails: AUTH_FAIL answers Invalid Security State, another cause Invalid Input (log entry 26). -/
def State.ownerFail (s : State) (cause : Cause) : State :=
  s.vendorFail (if cause = Cause.authFail || cause = Cause.keyErased then .securityState else .invalidInput) cause

/-- The key entry is written, unrevoked and the hash of the key. -/
def State.ownerKeyOk (s : State) (entry : Nat) (pub : List Byte) : Bool :=
  let h := s.fuses.ownerKeyHash.getD entry []
  entry < 4 && !h.isEmpty && !s.fuses.ownerRevoke.testBit entry && sha384 pub == h

/-- An owner command: its nonce is used, its signature checked over code, nonce, SERIAL and arguments. -/
def State.owner (s : State) (code : Nat) (auth : OwnerAuth) (args : List Byte) (f : State → State) : Out :=
  .next (
    if !s.mailboxUp then s
    else if !(s.sec.nonce.any (fun n => n.1 == auth.nonce)) || s.nonceOld then s.ownerFail Cause.authFail
    else
      let s := s.modSec (fun c => { c with nonce := none })
      if s.ownerKeyOk auth.keyEntry auth.pub && ecdsaOk auth.pub (leBytes 2 code ++ auth.nonce ++ leBytes 8 s.fuses.serial ++ args) auth.sig then f s
      else (s.authFailed).ownerFail Cause.authFail)

/-- A firmware update is in progress: transferring, or verified and not activated. -/
def State.fwUpdating (s : State) : Bool := s.host.fwReady || s.host.xfer.any (·.firmware)
/-- A LOCK that waited takes effect once no update is in progress (R533). -/
def State.releaseLock (s : State) : State :=
  if s.sec.lockWaiting && !s.fwUpdating then
    ((s.modSec (fun c => { c with lockWaiting := false })).modRecord (fun r => { r with ownerLock := true })).vendorOk []
  else s

/-- LOCK (R533). -/
def execLock (auth : OwnerAuth) (s : State) : Out :=
  s.owner 1 auth [] (fun s => (s.modSec (fun c => { c with lockWaiting := true })).releaseLock)

/-- UNLOCK (R533). -/
def execUnlock (auth : OwnerAuth) (s : State) : Out :=
  s.owner 2 auth [] (fun s => ((s.modSec (fun c => { c with lockWaiting := false })).modRecord (fun r => { r with ownerLock := false })).vendorOk [])

/-- Fuses are blown, and FUSE_CRC follows them (R527, log entry 142). -/
def State.modFuses (s : State) (f : Fuses → Fuses) : State := { s with fuses := (f s.fuses).sealed }

/-- ENROL (R528, R532): an empty entry takes the hash of a key. -/
def execEnrol (auth : OwnerAuth) (entry : Nat) (key : List Byte) (s : State) : Out :=
  s.owner 3 auth (leBytes 1 entry ++ key) (fun s =>
    if 4 ≤ entry || key.length ≠ 97 || !(s.fuses.ownerKeyHash.getD entry []).isEmpty then s.ownerFail Cause.planReject
    else (s.modFuses (fun f => { f with ownerKeyHash := f.ownerKeyHash.set entry (sha384 key) })).vendorOk [])

/-- REVOKE (R528, R532): never the last unrevoked key, never by the key itself. -/
def execRevoke (auth : OwnerAuth) (entry : Nat) (s : State) : Out :=
  s.owner 4 auth (leBytes 1 entry) (fun s =>
    let left := (List.range 4).filter (fun i => i != entry && !(s.fuses.ownerKeyHash.getD i []).isEmpty && !s.fuses.ownerRevoke.testBit i)
    if 4 ≤ entry || left.isEmpty then s.ownerFail Cause.planReject
    else if auth.keyEntry = entry then s.ownerFail Cause.authFail
    else (s.modFuses (fun f => { f with ownerRevoke := f.ownerRevoke ||| 2 ^ entry })).vendorOk [])

/-- RETIRE (R530): key paths close for good, keys held are erased (log entry 35). -/
def execRetire (auth : OwnerAuth) (s : State) : Out :=
  s.owner 5 auth [] (fun s =>
    let s := (s.modFuses (fun f => { f with lifecycle := 3 })).eraseKeys
    ((s.modSec (fun c => { c with identityKeys := false, recovering := none })).failFreyn Cause.keyErased).vendorOk [])

/-! ## Provisioning (R531) -/

/-- The key that seals a provisioning payload: the first 32 bytes of SHA-384 over the x-coordinate of d_DK × Q_E. -/
def State.provisionKey (s : State) (qe : List Byte) : Option (List Byte) :=
  match pointMul 384 s.deviceKey (pointOf qe) with
  | some (x, _) => some ((sha384 (beBytes 48 x)).take 32)
  | none => none

/-- PROVISION: SHIPPED to OWNED. -/
def execProvision (qe ct tag : List Byte) (s : State) : Out :=
  .next (
    if !s.mailboxUp then s
    else if qe.length ≠ 97 || ct.length ≠ 96 || tag.length ≠ 16 || s.fuses.lifecycle ≠ 1 then s.ownerFail Cause.planReject
    else if !s.sec.identityKeys then s.ownerFail Cause.keyErased
    else
      match s.provisionKey qe with
      | none => s.ownerFail Cause.authFail
      | some key =>
        if gcmTag key (zeros 12) (leBytes 8 s.fuses.serial) ct = tag then
          let p := gcmCrypt key (zeros 12) ct
          (s.modFuses (fun f => { f with ownerKeyHash := f.ownerKeyHash.set 0 (p.take 48), kek := (p.drop 48).take 32, lifecycle := 2 })).vendorOk []
        else s.ownerFail Cause.authFail)

/-! ## Key entry (R544, R548) -/

/-- KEY_INSTALL (R544). -/
def execKeyInstall (blob : List Byte) (s : State) : Out :=
  .next (
    if !s.mailboxUp then s
    else if blob.length ≠ 40 && blob.length ≠ 56 then s.ownerFail Cause.planReject
    else match s.unwrapBlob blob with
      | (s, 0) => s.vendorOk []
      | (s, c) => s.ownerFail c)

/-- A word that a commit takes, or ASSOC, was erased by an alarm and not written again (R548). -/
def State.keyWrErased (s : State) (bits256 : Bool) : Bool :=
  (List.range 9).any (fun i => bitOf s.sec.keyWrLost i && (i == 8 || i < (if bits256 then 8 else 4)))

/-- KEY_WR_COMMIT (R548): a write of CIP.KEY_WR_CTL, on the KD960-M only; without COMMIT it changes nothing. -/
def execKeyWrCommit (value : Word) (s : State) : Out :=
  .next (
    if !s.fuses.variantM || !value.getLsbD 31 || !s.barUp then s
    else
      let w := s.sec.keyWr
      let assoc := s.sec.keyWrAssoc.toNat
      let erased := s.keyWrErased (value.getLsbD 8)
      let key := (w.flatMap (fun x => leBytes 4 x.toNat)).take (if value.getLsbD 8 then 32 else 16)
      let s := s.modSec (fun c => { c with keyWr := List.replicate 8 0, keyWrAssoc := 0, keyWrLost := 0 })
      let done (s : State) (c : Cause) : State := s.modSec (fun x => { x with keyWrStatus := some c })
      if s.flash.security.ownerLock then done s Cause.authFail
      else if erased || s.kekClosed then done s Cause.keyErased
      else if bitsOf value.toNat 0 8 = 1 && s.img.assoc.isSome && assoc = s.assoc.assoc then
        done (s.installKm { key := key, assoc := assoc }) 0
      else done s.authFailed Cause.authFail)

end Sys2Proof.Machine
end

