-- ==== Sys2Proof/Machine/Wan.lean ====
section
/-! DEFINITION. Freyn's transport: WAN ports, routes, the token bucket, key epochs, what a received packet must pass,
acknowledgements and heartbeats' timers (13_freyn R446 to R457, R467, R483 to R492). -/

namespace Sys2Proof.Machine

open Sys2Proof

/-! ## Sites and routes (R450, R483) -/

/-- The other member sites. -/
def State.otherSites (s : State) : List Nat := (maskSites s.assoc.members).filter (· != s.assoc.site)
def State.isOther (s : State) (i : Nat) : Bool := s.img.assoc.isSome && i < 16 && bitOf s.assoc.members i && i != s.assoc.site
def State.route (s : State) (i : Nat) (second : Bool) : Option RouteCfg := s.assoc.routes.find? (fun r => r.site == i && r.second == second)
def State.wanUp (s : State) (p : Nat) : Bool := s.wanExists p && (s.wan.at p).state == 2
/-- A HEARTBEAT has arrived on the route within 5 s (R483). -/
def SiteSt.up (x : SiteSt) (second : Bool) : Bool := if second then x.secondUp else x.primaryUp
/-- A route is down: no HEARTBEAT, or its port is down. -/
def State.routeUp (s : State) (i : Nat) (second : Bool) : Bool :=
  (s.site i).up second && (s.route i second).any (fun r => s.wanUp r.port)

/-- The route that a packet takes, by its class; SERVICE and BULK wait while the primary route is down (R451, R483, R484). -/
def State.outRoute (s : State) (o : WanOut) : Option RouteCfg :=
  let second := match o.cls with
    | 0 => if o.type = 1 then o.second else !(s.site o.site).primaryUp
    | 2 => (s.site o.site).recoverySecond
    | _ => false
  let waits := (o.cls == 1 || o.cls == 3) && !(s.site o.site).primaryUp
  (s.route o.site second).filter (fun r => s.wanUp r.port && !waits)

/-! ## Next hops (R449) -/

def State.answer (s : State) (port kind : Nat) (bs : List Byte) : State :=
  s.modRound (fun u => { u with answers := u.answers ++ [(port, kind, bs)] })

/-- The MAC address of a route's next hop: static, resolved before, or asked for now by Neighbor Discovery or ARP, whose answer is
a free value (log entry 132). -/
def State.nextHopMac (s : State) (r : RouteCfg) : State × List Byte :=
  if r.nextHop.length = 6 then (s, r.nextHop)
  else
    match (s.wan.at r.port).neighbors.find? (fun n => n.1 == r.nextHop) with
    | some n => (s, n.2)
    | none =>
      let mac := fitBytes 6 (Config.neighborMac r.port r.nextHop)
      ((s.answer r.port (if isIpv4 r.nextHop then 5 else 4) (r.nextHop ++ r.localAddr)).modWan r.port (fun w =>
        { w with neighbors := w.neighbors ++ [(r.nextHop, mac)] }), mac)

/-! ## Key epochs (R487, R488) -/

/-- The module holds a key and may send. -/
def State.maySend (s : State) : Bool := s.sec.km.isSome && !s.round.exhausted
/-- A new epoch is due: 1 h, a send count of 2^40, or a REKEY taken more than 10 s after the last one. -/
def State.epochDue (s : State) : Bool :=
  s.round.epochAt + 3600000000000 ≤ s.now || s.wan.any (fun w => 2 ^ 40 ≤ w.2.count)
def State.rekeyDue (s : State) : Bool := s.round.rekeyWanted && s.round.rekeyAt.all (fun t => t + 10000000000 ≤ s.now)
def State.nextEpoch (s : State) : State := if s.round.txEpoch = 0xFFFF then s.exhaust else s.beginEpoch (s.round.txEpoch + 1)

/-- KEY_EPOCH_START (R487). -/
def execKeyEpochStart (s : State) : Out :=
  .next (if !s.maySend then s
    else if s.rekeyDue then (s.modRound (fun u => { u with rekeyAt := some s.now })).nextEpoch
    else if s.epochDue then s.nextEpoch
    else s)

/-! ## Token bucket (R452) -/

/-- IP packet bytes, from the IP header to the end of the tag (R452, R453). -/
def ipBytes (r : RouteCfg) (len : Nat) : Nat := (if isIpv4 r.localAddr then 20 else 40) + 8 + 32 + len + 16
def State.packetBytes (s : State) (o : WanOut) : Nat := (s.outRoute o).elim 0 (fun r => ipBytes r o.payload.length)

/-- The bucket filled up to now: at most RATE × 4 ms. -/
def State.refill (s : State) : State :=
  let r := s.assoc.mbps
  s.modRound (fun u => { u with bucket := min (4000000 * r) (u.bucket + (s.now - u.bucketAt) * r), bucketAt := s.now })

def RoundUnit.headOf (u : RoundUnit) (cls : Nat) : Option WanOut := u.queue.find? (fun o => o.cls == cls)
/-- The next packet to send: CONTROL first, then deficit round robin with a quantum of weight × 8 192 bytes. -/
def pickWan (bytes : WanOut → Nat) (weight : Nat → Nat) : Nat → RoundUnit → Option (WanOut × RoundUnit)
  | 0, _ => none
  | turns + 1, u =>
    match u.headOf 0 with
    | some o => some (o, u)
    | none =>
      let d := u.deficits.getD (u.turn - 1) 0
      let next := u.turn % 3 + 1
      match u.headOf u.turn with
      | some o =>
        if bytes o ≤ d then some (o, { u with deficits := u.deficits.set (u.turn - 1) (d - bytes o) })
        else pickWan bytes weight turns { u with turn := next, deficits := u.deficits.set (next - 1) (u.deficits.getD (next - 1) 0 + 8192 * weight next) }
      | none =>
        pickWan bytes weight turns { u with
          turn := next, deficits := (u.deficits.set (u.turn - 1) 0).set (next - 1) (u.deficits.getD (next - 1) 0 + 8192 * weight next) }

/-- The header of a packet that leaves by a route (R453, R487, R491, R492). -/
def State.headerOf (s : State) (o : WanOut) (r : RouteCfg) : FrnHeader :=
  { wanPort := r.port, net := { source := r.localAddr, dest := r.remoteAddr, srcPort := s.assoc.udpPort, destPort := s.assoc.udpPort, sum := 0 },
    version := 1, type := o.type, resend := o.resend, second := r.second, rekey := o.type == 1 && !(s.site o.site).newerSinceReset,
    flagsReserved := 0, src := s.assoc.site, dst := o.site, keyEpoch := s.round.txEpoch, assoc := s.assoc.assoc,
    ctr := (s.wan.at r.port).count, ctrPort := r.port, ctrReserved := 0, seq := o.seq, length := o.payload.length, cipher := [], tag := [] }

/-- The Ethernet frame of a packet: header, payload and tag under the send key, in UDP and IP (R446, R448, R453, R485). -/
def State.frameOf (s : State) (o : WanOut) (r : RouteCfg) (mac : List Byte) : List Byte :=
  let h := s.headerOf o r
  let (ct, tag) := sealPacket h ((s.engine r.port).slots.at sendSlot).key o.payload
  let data := h.bytes ++ ct ++ tag
  let udp := udpBytes h.net.srcPort h.net.destPort (udpSum r.localAddr r.remoteAddr h.net.srcPort h.net.destPort data) data
  etherFrame mac (s.fuses.wanMac.getD r.port []) r.vlan (isIpv4 r.localAddr)
    (ipPacket r.localAddr r.remoteAddr (s.assoc.dscp.getD o.cls 0) udp)

/-- A packet leaves: its port's send count, the engine's NEXT_CTR and the counters advance; its stream entry is sent. -/
def State.sendNow (s : State) (o : WanOut) : State :=
  let s := if s.epochDue then s.nextEpoch else s
  match s.outRoute o with
  | none => s
  | some r =>
    if !s.maySend then s
    else
      let (s, mac) := s.nextHopMac r
      let frame := s.frameOf o r mac
      let s := s.modWan r.port (fun w => { w with count := w.count + 1, tx := w.tx + 1 })
      let s := s.modEngine r.port (fun e => { e with jobs := e.jobs + 1, slots :=
        let k := e.slots.at sendSlot
        if k.usage = 0 && !k.key.isEmpty then e.slots.set sendSlot { k with nextCtr := k.nextCtr + 1 } else e.slots })
      let s := s.modRound (fun u => { u with sent := u.sent ++ [{ port := r.port, type := o.type, site := o.site, seq := o.seq, frame := frame }],
                                             resends := if o.resend then u.resends + 1 else u.resends })
      s.modSite o.site (fun x => { x with out := x.out.map (fun e => if e.seq = o.seq then { e with sent := true, sentAt := s.now } else e) })

/-- Packets whose route's port is up. -/
def State.sendable (s : State) : List WanOut := s.round.queue.filter (fun o => (s.outRoute o).isSome)

/-- Waiting packets leave while the bucket holds their bytes; the wait is counted. A packet whose port is down waits for it. -/
def State.pump : Nat → State → State
  | 0, s => s
  | fuel + 1, s =>
    match pickWan s.packetBytes (fun cls => s.assoc.weights.getD (cls - 1) 1) 16 { s.round with queue := s.sendable } with
    | none => s
    | some (o, u) =>
      let cost := 8000 * s.packetBytes o
      if cost ≤ s.round.bucket then
        State.pump fuel (({ s with round := { u with queue := s.round.queue.erase o, bucket := u.bucket - cost,
                                                     rateWaitNs := u.rateWaitNs + (s.now - o.since) } }).sendNow o)
      else s

def State.drainWan (s : State) : State := if s.power.holdup = 0 && s.maySend then (s.refill).pump (s.round.queue.length + 1) else s

/-- A packet is queued for sending; a CONTROL packet without a route that is up is not sent, a stream's packet waits (R457, R483). -/
def State.post (s : State) (o : WanOut) : State :=
  if !s.maySend || (o.cls == 0 && (s.outRoute o).isNone) then s
  else (s.modRound (fun u => { u with queue := u.queue ++ [{ o with since := s.now }] })).drainWan

/-- RATE_TOKENS (R452). -/
def execRateTokens (s : State) : Out := .next s.drainWan

/-! ## Messages (R454, R455) -/

def State.countMsg (s : State) (i : Nat) : State := s.modSite i (fun x => { x with msgCount := x.msgCount + 1 })
/-- A CONTROL message to a site. -/
def State.control (s : State) (i type : Nat) (payload : List Byte) : State :=
  (s.post { cls := 0, site := i, type := type, seq := s.nextSeq i, payload := payload }).countMsg i
/-- A CONTROL message to every other member. -/
def State.controlAll (s : State) (type : Nat) (payload : List Byte) : State := s.each s.otherSites (fun s i => s.control i type payload)

/-- Packets of a stream are kept until acknowledged, and queued unless the destination's streams are paused. -/
def State.stream (s : State) (i : Nat) (es : List FrnOut) : State := (s.addStream i es).drainWan

/-- Every unacknowledged packet of some classes is sent again (R457, R484). -/
def State.resendAll (s : State) (i : Nat) (p : FrnOut → Bool) : State :=
  s.each ((s.site i).out.filter (fun e => !e.acked && p e)) (fun s e =>
    if s.round.queue.any (fun o => o.site == i && o.seq == e.seq) then s
    else s.post (e.packet i e.sent))

/-! ## What a received packet must pass (R453, R489 to R491) -/

/-- A packet is discarded and counted (R494). -/
def State.dropWan (s : State) (p : Nat) : State := s.modWan p (fun w => { w with drop := w.drop + 1 })

/-- An address of the module on a port (R450). -/
def State.ownAddress (s : State) (port : Nat) (a : List Byte) : Bool := s.assoc.routes.any (fun r => r.port == port && r.localAddr == a)

/-- The UDP datagram is for this module, without extension headers, and its checksum holds (R448, R449). -/
def State.netOk (s : State) (h : FrnHeader) : Bool :=
  s.ownAddress h.wanPort h.net.dest && !h.net.extension && h.net.destPort == s.assoc.udpPort &&
  udpSumOk h.net.source h.net.dest h.net.srcPort h.net.destPort h.net.sum (h.bytes ++ h.cipher ++ h.tag)

/-- Header fields in range, the association's, from another member to this site. -/
def State.headerOk (s : State) (h : FrnHeader) (type : Nat) : Bool :=
  h.version == 1 && h.type == type && h.flagsReserved == 0 && h.reserved5 == 0 && h.reserved30 == 0 && h.ctrReserved == 0 && h.ctrPort < 4 &&
  h.ctr < 2 ^ 40 && h.keyEpoch < 2 ^ 16 && h.length ≤ 8256 && h.length == h.cipher.length && h.assoc == s.assoc.assoc && h.dst == s.assoc.site &&
  s.isOther h.src

/-- The tag verifies under a master key's key of the packet's epoch, and the payload deciphers to the command's body (R485, R486). -/
def State.tagOk (s : State) (h : FrnHeader) (km : Option MasterKey) (payload : List Byte) : Bool :=
  km.any (fun k =>
    let key := freynKey k.key h.assoc h.src h.keyEpoch s.keyBits
    sealPacket h key payload == (h.cipher, h.tag))

/-- The packet's epoch may be accepted. -/
def State.epochOk (s : State) (h : FrnHeader) : Bool :=
  let x := s.site h.src
  match x.rxEpoch with
  | some c => c ≤ h.keyEpoch || (x.prevEpoch == some h.keyEpoch && s.now ≤ x.epochAt + 2000000000)
  | none => (s.flash.security.rxEpochs.find? h.src).all (· < h.keyEpoch)

/-- A count is above the window, or in it and not seen (R490). -/
def RxWindow.ok (w : RxWindow) (c : Nat) : Bool := !w.any || w.highest < c || (w.highest ≤ c + 4096 && !w.seen.contains c)
def RxWindow.take (w : RxWindow) (c : Nat) : RxWindow :=
  let top := max w.highest c
  { highest := top, any := true, seen := (c :: w.seen).filter (fun k => top ≤ k + 4096) }
/-- The window of the packet's epoch and sending port. -/
def State.windowOf (s : State) (h : FrnHeader) : RxWindow :=
  let x := s.site h.src
  if x.rxEpoch = some h.keyEpoch then x.windows.at h.ctrPort
  else if x.prevEpoch = some h.keyEpoch then x.prevWindows.at h.ctrPort
  else {}

/-- A tag has failed: counted; on a fetch's stream 16 of them end it Failed (R489, R493). -/
def State.tagDrop (s : State) (h : FrnHeader) : State :=
  let s := ((s.dropWan h.wanPort).modRound (fun u => { u with authFails := u.authFails + 1 })).jobEnd h.wanPort Cause.authFail
  let s := s.tagFailed h.wanPort true
  match s.round.fetch with
  | some f =>
    if f.done || f.site ≠ h.src || h.type ≠ 8 then s
    else if f.tagFails + 1 < 16 then s.modRound (fun u => { u with fetch := some { f with tagFails := f.tagFails + 1 } })
    else (s.freynEvent Cause.authFail f.site f.round).modRound (fun u => { u with fetch := none })
  | none => s

/-- An epoch becomes current: recorded in flash, its key loaded, the previous key kept for its grace period (R489, R491).
A restarted sender's messages are told from its earlier ones by its REKEY (log entry 36). -/
def State.newEpoch (s : State) (h : FrnHeader) : State :=
  if (s.site h.src).rxEpoch = some h.keyEpoch || (s.site h.src).prevEpoch = some h.keyEpoch then s
  else
    let s := s.modRecord (fun r => { r with rxEpochs := r.rxEpochs.insert h.src h.keyEpoch })
    (s.modSite h.src (fun x => { x with
      prevEpoch := x.rxEpoch, prevWindows := x.windows, rxEpoch := some h.keyEpoch, windows := [], epochAt := s.now, newerSinceReset := true,
      heldSeqs := if h.rekey then x.heldSeqs.filter (· < 2 ^ 63) else x.heldSeqs })).loadRecvKey h.src h.keyEpoch

/-- A packet's count enters its window. -/
def State.noteCount (s : State) (h : FrnHeader) : State :=
  s.modSite h.src (fun x =>
    if x.rxEpoch = some h.keyEpoch then { x with windows := x.windows.upd h.ctrPort (·.take h.ctr) }
    else { x with prevWindows := x.prevWindows.upd h.ctrPort (·.take h.ctr) })

/-- A packet arrives: whether it is accepted. For 60 s after a new KM, the previous one's keys verify as well (15_security R546). -/
def State.receive (s : State) (h : FrnHeader) (type : Nat) (payload : List Byte) : State × Bool :=
  if !s.wanUp h.wanPort || s.power.holdup ≠ 0 then (s, false)
  else if !s.netOk h || !s.headerOk h type || s.sec.km.isNone || !s.epochOk h || !(s.windowOf h).ok h.ctr then (s.dropWan h.wanPort, false)
  else if !(s.tagOk h s.sec.km payload || (s.inWindow && s.tagOk h s.sec.prevKm payload)) then (s.tagDrop h, false)
  else
    let s := s.modWan h.wanPort (fun w => { w with rx := w.rx + 1 })
    (((s.jobEnd h.wanPort 0).newEpoch h).noteCount h, true)

/-- SEQ is held; those of streams wait to be acknowledged (R457). -/
def State.noteSeq (s : State) (h : FrnHeader) : State :=
  let acked := h.type == 2 || h.type == 7 || h.type == 8
  s.modSite h.src (fun x => { x with
    heldSeqs := if x.heldSeqs.contains h.seq then x.heldSeqs else x.heldSeqs ++ [h.seq],
    rxFirstAt := if acked && x.rxSeqs.isEmpty then s.now else x.rxFirstAt,
    rxSeqs := if acked then x.rxSeqs ++ [h.seq] else x.rxSeqs,
    rxSinceAck := if acked then x.rxSinceAck + 1 else x.rxSinceAck,
    rxRecovery := x.rxRecovery || (acked && h.type != 2) })

/-- A packet of a type: its payload is taken unless its SEQ is held or it cannot be held now. -/
def State.allow (s : State) (h : FrnHeader) (type : Nat) (payload : List Byte) (fits : State → Bool) (f : State → State) : Out :=
  .next (match s.receive h type payload with
    | (s, false) => s
    | (s, true) => if (s.site h.src).heldSeqs.contains h.seq then s.noteSeq h else if fits s then f (s.noteSeq h) else s)

/-! ## Streams (R457) -/

/-- ACK: marks SEQ ranges as received; a stream whose packets are all acknowledged ends Done. -/
def execAck (hdr : FrnHeader) (ranges : List SeqRange) (s : State) : Out :=
  s.allow hdr 3 (ackBytes ranges) (fun _ => ranges.length ≤ 64) (fun s =>
    let hit (e : FrnOut) : Bool := ranges.any (fun r => r.first ≤ e.seq && e.seq < r.first + r.count)
    let x := s.site hdr.src
    let sample := ((x.out.filter (fun e => hit e && e.sent && !e.acked)).map (fun e => s.now - e.sentAt)).getLast?
    let gone := (x.out.filter hit).map (·.seq)
    let s := s.modRound (fun u => { u with queue := u.queue.filter (fun o => o.site != hdr.src || !gone.contains o.seq) })
    s.modSite hdr.src (fun x => { x with out := x.out.filter (fun e => !hit e), lastAck := s.now, recoveryAck := s.now, rtt := sample.getD x.rtt }))

/-- Runs of successive numbers in a rising list. -/
def seqRuns : List Nat → List SeqRange
  | [] => []
  | a :: as =>
    match seqRuns as with
    | [] => [{ first := a, count := 1 }]
    | r :: rs => if r.first = a + 1 then { first := a, count := r.count + 1 } :: rs else { first := a, count := 1 } :: r :: rs

/-- ACK_SEND: after 256 packets or 10 ms of a stream, of a RECOVERY stream after 64 packets or 1 ms. -/
def execAckSend (site : Nat) (s : State) : Out :=
  let x := s.site site
  let (n, t) := if x.rxRecovery then (64, 1000000) else (256, 10000000)
  .next (if !s.isOther site || x.rxSeqs.isEmpty || (x.rxSinceAck < n && s.now < x.rxFirstAt + t) then s
    else
      let runs := (seqRuns (sortBy id x.rxSeqs.dedup)).take 64
      let left := x.rxSeqs.filter (fun q => !(runs.any (fun r => r.first ≤ q && q < r.first + r.count)))
      (s.modSite site (fun x => { x with rxSeqs := left, rxSinceAck := left.length, rxFirstAt := s.now, rxRecovery := x.rxRecovery && !left.isEmpty })).control
        site 3 (ackBytes runs))

/-- PACKET_RESEND: a packet unacknowledged for four round trips and at least 20 ms is sent again. -/
def execPacketResend (site seq : Nat) (s : State) : Out :=
  let x := s.site site
  .next (match x.out.find? (fun e => e.seq == seq) with
    | some e =>
      if x.paused || !e.sent || e.acked || s.now < e.sentAt + max (4 * x.rtt) 20000000 ||
         s.round.queue.any (fun o => o.site == site && o.seq == seq) then s
      else s.post (e.packet site true)
    | none => s)

/-- STREAM_PAUSE: no ACK from a destination for 1 s. -/
def execStreamPause (site : Nat) (s : State) : Out :=
  let x := s.site site
  .next (if x.out.any (fun e => !e.acked) && x.lastAck + 1000000000 < s.now then
      (s.modSite site (fun x => { x with paused := true })).modRound (fun u => { u with
        queue := u.queue.filter (fun o => o.site != site || o.cls == 0) })
    else s)

/-! ## Deltas held (R456, R467, R468) -/

/-- The module's own stream of the open round is whole. -/
def State.ownHeld (s : State) : Bool := s.round.sentDelta
/-- Sites whose delta for the open round is held (FRN.MASKS HELD). -/
def State.heldSites (s : State) : List Nat :=
  (maskSites s.assoc.members).filter (fun i =>
    if i = s.assoc.site then s.ownHeld else (s.heldDelta i s.round.openRound).any HeldDelta.whole)
def maskOf (is : List Nat) : Nat := is.foldl (fun m i => m ||| 2 ^ i) 0

/-- The last round that closed or that the module orphaned, if any. -/
def RoundUnit.lastClosed (u : RoundUnit) : Option Nat :=
  match u.closing with
  | some b => some b.proposal.round
  | none => if u.lastKind = 2 then u.orphans.getLast? else u.lastApplied
/-- What the module's HEARTBEAT reports (R454). -/
def State.ownReport (s : State) : HeartbeatBody :=
  { openRound := s.round.openRound, lastClosed := s.round.lastClosed, lastKind := s.round.lastKind, state := s.round.ownState,
    active := s.round.active, held := maskOf s.heldSites }

/-! ## Timers of reachability, routes and epochs -/

/-- HEARTBEAT_SEND (R467): on each route to each other member, with REKEY until a newer epoch is accepted (R491). -/
def execHeartbeatSend (s : State) : Out :=
  .next (if s.img.assoc.isNone || !s.maySend then s
    else
      let s := s.modRound (fun u => { u with lastHeartbeatAt := s.now })
      s.each (s.otherSites.flatMap (fun i => [(i, false), (i, true)])) (fun s e =>
        (s.post { cls := 0, site := e.1, type := 1, seq := s.nextSeq e.1, payload := s.ownReport.bytes, second := e.2 }).countMsg e.1))

/-- REACHABILITY_LAPSE (R467). -/
def execReachabilityLapse (site : Nat) (s : State) : Out :=
  .next (if (s.site site).reachable && (s.site site).lastHeartbeat.all (fun t => t + 5000000000 < s.now) then
      s.modSite site (fun x => { x with reachable := false })
    else s)

/-- Since when both routes to a site are down. -/
def State.noteRoutes (s : State) (i : Nat) : State :=
  let down := !s.routeUp i false && !s.routeUp i true
  s.modSite i (fun x => { x with routesDownAt := if down then some (x.routesDownAt.getD s.now) else none })

/-- ROUTE_DOWN (R483). -/
def execRouteDown (site : Nat) (second : Bool) (s : State) : Out :=
  let x := s.site site
  .next (if x.up second && (if second then x.secondAt else x.primaryAt) + 5000000000 < s.now then
      (s.modSite site (fun x => if second then { x with secondUp := false } else { x with primaryUp := false })).noteRoutes site
    else s)

/-- GRACE_PERIOD_END (R489): the previous receive key is dropped and its slot overwritten with zeros (R552). -/
def execGracePeriodEnd (site : Nat) (s : State) : Out :=
  let x := s.site site
  .next (match x.prevEpoch with
    | some e =>
      if s.now < x.epochAt + 2000000000 then s
      else
        let s := s.modSite site (fun x => { x with prevEpoch := none, prevWindows := [] })
        s.each (s.sitePorts site) (fun s p =>
          if ((s.engine p).slots.at (recvSlot site e)).epoch = e then s.setSlot p (recvSlot site e) {} else s)
    | none => s)

/-! ## RECOVERY failover (R484) -/

/-- A RECOVERY item with the site is open: packets unacknowledged, or a fetch from it. -/
def State.recoveryOpen (s : State) (i : Nat) : Bool :=
  (s.site i).out.any (fun e => e.service == 2 && !e.acked) || s.round.fetch.any (fun f => f.site == i && !f.done)

/-- RECOVERY_FAILOVER: no ACK for 3 ms, or the port is down: the stream goes on by the other route. -/
def execRecoveryFailover (site : Nat) (s : State) : Out :=
  let x := s.site site
  let portDown := !((s.route site x.recoverySecond).any (fun r => s.wanUp r.port))
  .next (if s.recoveryOpen site && (x.recoveryAck + 3000000 < s.now || portDown) && (s.route site !x.recoverySecond).any (fun r => s.wanUp r.port) then
      let s := (s.modSite site (fun x => { x with recoverySecond := !x.recoverySecond, recoveryAck := s.now })).modRound (fun u => { u with
        failovers := u.failovers + 1 })
      s.resendAll site (fun e => e.service == 2)
    else s)

/-- RECOVERY_ROUTES_DOWN: both routes down for 1 s end the site's RECOVERY items Failed with LINK_DOWN. -/
def execRecoveryRoutesDown (site : Nat) (s : State) : Out :=
  .next (if s.recoveryOpen site && (s.site site).routesDownAt.any (fun t => t + 1000000000 ≤ s.now) then
      let s := (s.freynEvent Cause.linkDown site s.round.openRound).modSite site (fun x => { x with out := x.out.filter (fun e => e.service != 2) })
      if s.round.fetch.any (fun f => f.site == site) then s.modRound (fun u => { u with fetch := none }) else s
    else s)

/-! ## WAN ports (R446 to R449, R494) -/

/-- WAN_PORT_DOWN. -/
def execWanPortDown (port : Nat) (localFault remoteFault : Bool) (s : State) : Out :=
  .next (if !s.wanExists port || !s.edgePowered then s
    else
      let s := s.modWan port (fun w => { w with state := 0, localFault := localFault, remoteFault := remoteFault })
      s.each s.otherSites State.noteRoutes)

/-- WAN_PORT_UP. -/
def execWanPortUp (port : Nat) (s : State) : Out :=
  .next (if !s.wanExists port || !s.edgePowered then s
    else
      let s := s.modWan port (fun w => { w with state := 2, localFault := false, remoteFault := false })
      (s.each s.otherSites State.noteRoutes).drainWan)

/-- NEIGHBOR_SOLICITATION (R449): answered for its own addresses, discarded and counted otherwise. -/
def execNeighborSolicitation (port : Nat) (target sender : List Byte) (s : State) : Out :=
  .next (if !s.wanUp port then s else if target.length = 16 && s.ownAddress port target then s.answer port 1 (target ++ sender ++ s.fuses.wanMac.getD port []) else s.dropWan port)

/-- ARP_REQUEST (R449). -/
def execArpRequest (port : Nat) (target sender : List Byte) (s : State) : Out :=
  .next (if !s.wanUp port then s else if target.length = 4 && s.ownAddress port target then s.answer port 2 (target ++ sender ++ s.fuses.wanMac.getD port []) else s.dropWan port)

/-- ECHO_REQUEST (R449): at most 10 answers per second; others are discarded and counted. -/
def execEchoRequest (port : Nat) (sender payload : List Byte) (s : State) : Out :=
  let w := s.wan.at port
  let fresh := w.echoAt + 1000000000 ≤ s.now
  let used := if fresh then 0 else w.echoes
  .next (if !s.wanUp port then s
    else if used < 10 then
      (s.modWan port (fun w => { w with echoes := used + 1, echoAt := if fresh then s.now else w.echoAt })).answer port 3 (sender ++ payload)
    else s.dropWan port)

/-- PACKET_TOO_BIG (R449). -/
def execPacketTooBig (port mtu : Nat) (s : State) : Out := .next (if s.wanUp port then s.event 0x0031 0 port mtu 0 else s)

end Sys2Proof.Machine
end

