-- ==== Sys2Proof/Machine/Freyn.lean ====
section
/-! DEFINITION. Rounds: deltas, proposals, closes, orphans, rebases, joins, fetches and anchor digests (13_freyn R458 to R482,
R493). -/

namespace Sys2Proof.Machine

open Sys2Proof

/-! ## Coordinator (R467) -/

def State.reachableSites (s : State) : List Nat :=
  (maskSites s.assoc.members).filter (fun i => i == s.assoc.site || (s.site i).reachable)
/-- The coordinator, while Q sites are reachable: the first of the priority, where the image gives one, or else the lowest site, that is
reachable and ACTIVE. -/
def State.coordinator (s : State) : Option Nat :=
  let rs := s.reachableSites
  if s.img.assoc.isNone || rs.length < s.assoc.q then none
  else
    let ok := rs.filter (bitOf s.round.active)
    if s.assoc.priority.isEmpty then ok.head? else s.assoc.priority.find? ok.contains
def State.isCoordinator (s : State) : Bool := s.coordinator == some s.assoc.site

/-! ## The site's own state and a rebase or join -/

/-- A module that lags behind the association: a restored one joins (R481), another rebases (R478). -/
def State.fallBehind (s : State) : State :=
  if s.round.rebaseStep ≠ 0 || s.round.joinStep ≠ 0 then s
  else if s.round.restored then s.dropRoundHolds.modRound (fun u => { u with joinStep := 1, ownState := 4, fetch := none })
  else (s.startRebase s.rebaseRef).modRound (fun u => { u with fetch := none })

/-- A rebase begins; a fetch in progress is dropped. -/
def State.rebase (s : State) : State :=
  if s.round.rebaseStep ≠ 0 || s.round.joinStep ≠ 0 then s
  else (s.startRebase s.rebaseRef).modRound (fun u => { u with fetch := none, refAnchor := [], refMomentum := [] })

/-! ## Closing a round (R471, R475, R476) -/

def State.setSiteState (s : State) (i st : Nat) : State := s.modSite i (fun x => { x with state := st })

/-- Delta copies of a round end: Done where included, else Failed with a cause (R493). -/
def State.endCopies (s : State) (cause : Cause) : State :=
  s.each s.otherSites (fun s i =>
    let open_ := (s.site i).out.filter (fun e => e.type == 2)
    let s := if cause ≠ 0 && !open_.isEmpty then s.freynEvent cause i s.round.openRound else s
    (s.modSite i (fun x => { x with out := x.out.filter (fun e => e.type != 2) })).modRound (fun u => { u with
      queue := u.queue.filter (fun o => !(o.type == 2 && o.site == i)) }))

/-- Members of the present ACTIVE set that a close leaves out become LAGGING; those it names become ACTIVE. -/
def State.closeStates (s : State) (next : Nat) : State :=
  s.each (maskSites s.assoc.members) (fun s i =>
    if bitOf next i then (s.setSiteState i 1).modSite i (fun x => { x with join := false })
    else if bitOf s.round.active i then s.setSiteState i 2
    else s)

/-- An included stream that the module holds whole. -/
def State.streamHeld (s : State) (i : Nat) : Bool :=
  if i = s.assoc.site then s.ownHeld else (s.heldDelta i s.round.openRound).any HeldDelta.whole
/-- Every included stream that is held is checked against its STREAM_CRC (R471). -/
def State.checkStreams (s : State) : State :=
  s.each s.closeIncluded (fun s i =>
    if !s.streamHeld i.site then s
    else
      match s.readMem (s.deltaBase i.site) (8 * s.assoc.rate * s.streamBlocks) with
      | (s, .ok bs) => s.modRound (fun u => if crc64 bs = i.crc then { u with checked := u.checked ++ [i.site] } else { u with failed := u.failed ++ [i.site] })
      | (s, .error _) => s.modRound (fun u => { u with failed := u.failed ++ [i.site] }))

/-- A CLOSE of the open round takes effect. -/
def State.takeClose (s : State) (src : Nat) (b : CloseBody) : State :=
  let mask := b.proposal.mask
  let full := (maskSites s.assoc.members).all (bitOf mask)
  let own := s.ownIn mask
  let s := (s.dropRoundHolds.endCopies (if own then 0 else Cause.staleDropped)).closeStates b.nextActive
  (s.modRound (fun u => { u with
    closing := some b, closeFrom := src, checked := [], failed := [], outerDone := [], outerIssued := [], active := b.nextActive, lastMask := mask, majority := mask, lastKind := if full then 0 else 1,
    lastCause := 0, fetch := none, pendingSend := false,
    ownState := if s.ownIn b.nextActive then 1 else if u.ownState = 4 then 4 else 2,
    joinStep := if s.ownIn b.nextActive then 0 else u.joinStep })).checkStreams

/-- A CLOSE arrives or is sent: it takes effect on the open round; one of a later round, or of a round that the module
orphaned, shows that the module lags behind (R478, R479). -/
def State.applyClose (s : State) (src : Nat) (b : CloseBody) : State :=
  let r := b.proposal.round
  let s := s.modRound (fun u => { u with closeSeen := some r })
  if s.round.ownState = 3 || (s.round.joinStep ≠ 0 && s.round.joinStep < 4) || s.round.closing.isSome then s
  else if r = s.round.openRound then s.takeClose src b
  else if (s.round.openRound < r || s.round.orphans.contains r) && (s.site src).reachable then
    (s.modRound (fun u => { u with majority := b.proposal.mask })).fallBehind
  else s

/-! ## Proposals (R468, R469, R480) -/

/-- Weight entry for a staleness: none beyond the table. -/
def State.staleWeight (s : State) (st : Nat) : Option Word := s.assoc.staleness[st]?
def HeldDelta.staleness (d : HeldDelta) : Nat := if d.pending then d.round - d.baseRound else 0

/-- Deltas that a proposal includes, in site order. -/
def State.included (s : State) : List Included :=
  s.heldSites.filterMap (fun i =>
    if i = s.assoc.site then
      (s.staleWeight 0).map (fun w => { site := i, baseRound := s.round.anchorRound, weight := w, crc := s.round.streamCrc })
    else (s.heldDelta i s.round.openRound).bind (fun d =>
      (s.staleWeight d.staleness).map (fun w => { site := i, baseRound := d.baseRound, weight := w, crc := d.crc })))

/-- CRC-64 of a PROPOSE payload, which an ACCEPT names. -/
def proposeCrc (p : ProposeBody) : Word64 := crc64 p.bytes

/-- Once Q sites accept, CLOSE goes to every member. -/
def State.tryClose (s : State) : State :=
  match s.round.proposal with
  | some p =>
    if s.round.closing.isNone && p.round = s.round.openRound && s.assoc.q ≤ (maskSites s.round.accepts).length then
      let joined := (maskSites s.assoc.members).filter (fun i => (s.site i).join)
      let b : CloseBody := { proposal := p, accepting := s.round.accepts, nextActive := p.mask ||| maskOf joined }
      (s.controlAll 6 b.bytes).applyClose s.assoc.site b
    else s
  | none => s

/-- The coordinator proposes the open round, once, and accepts its own proposal where it has accepted no other. -/
def State.propose (s : State) : State :=
  if s.round.proposedRound = some s.round.openRound || s.round.closing.isSome then s
  else
    let is := s.included
    let mask := maskOf (is.map (·.site))
    let p : ProposeBody := { round := s.round.openRound, mask := mask, included := is }
    let own := s.round.accepted.all (fun a => a.round != p.round)
    let s := s.modRound (fun u => { u with
      proposal := some p, proposedRound := some p.round, accepted := if own then u.accepted ++ [p] else u.accepted,
      accepts := if own then 2 ^ s.assoc.site else 0 })
    (s.controlAll 4 p.bytes).tryClose

/-- First moment of R468: deltas from every ACTIVE site and every pending delta that has arrived. -/
def State.allHeld (s : State) : Bool :=
  (maskSites s.round.active).all s.heldSites.contains &&
  s.round.deltas.all (fun d => d.round != s.round.openRound || !d.pending || d.whole)
def State.tryPropose (s : State) : State := if s.isCoordinator && s.ownHeld && s.allHeld then s.propose else s

/-- PROPOSE (R469): the first for a round is accepted. -/
def execPropose (hdr : FrnHeader) (body : ProposeBody) (s : State) : Out :=
  s.allow hdr 4 body.bytes (fun _ => true) (fun s =>
    if s.round.openRound ≤ body.round && s.round.accepted.all (fun a => a.round != body.round) then
      (s.modRound (fun u => { u with accepted := u.accepted ++ [body] })).control hdr.src 5 (acceptBytes body.round (proposeCrc body))
    else s)

/-- ACCEPT (R469). -/
def execAccept (hdr : FrnHeader) (round : Nat) (crc : Word64) (s : State) : Out :=
  s.allow hdr 5 (acceptBytes round crc) (fun _ => true) (fun s =>
    if s.round.proposal.any (fun p => p.round == round && proposeCrc p == crc) then
      (s.modRound (fun u => { u with accepts := u.accepts ||| 2 ^ hdr.src })).tryClose
    else s)

/-- CLOSE (R471, R475). -/
def execClose (hdr : FrnHeader) (body : CloseBody) (s : State) : Out := s.allow hdr 6 body.bytes (fun _ => true) (fun s => s.applyClose hdr.src body)

/-- ROUND_DEADLINE (R468): D after its boundary a coordinator that holds Q deltas proposes. -/
def execRoundDeadline (s : State) : Out :=
  .next (if s.isCoordinator && s.boundaryAt.any (fun t => t + s.assoc.deadline * 1000000000 ≤ s.now) && s.assoc.q ≤ s.heldSites.length then s.propose
    else s)

/-- ROUND_ORPHAN (R470, R477): no CLOSE by D + CLOSE_WAIT after the boundary. -/
def execRoundOrphan (s : State) : Out :=
  .next (if s.round.closing.isNone && s.round.closeSeen ≠ some s.round.openRound &&
        s.boundaryAt.any (fun t => t + (s.assoc.deadline + s.assoc.closeWait) * 1000000000 ≤ s.now) then
      let r := s.round.openRound
      let s := (s.endCopies Cause.quorumLost).freynEvent Cause.quorumLost s.assoc.site r
      let s := if s.formsPending then s else s.dropRoundHolds.modRound (fun u => { u with formed := [] })
      (s.modRound (fun u => { u with
        orphans := u.orphans ++ [r], lastKind := 2, lastCause := Cause.quorumLost, lastMask := 0, openRound := r + 1, sentDelta := false, proposal := none, accepts := 0, accepted := u.accepted.filter (fun p => r < p.round),
        deltas := u.deltas.filter (fun d => r < d.round) })).holdForm
    else s)

/-! ## Forming a delta (R463, R464, R479) -/

/-- DELTA_FORM may run on the shard: its hold stands on the slot that it reads. -/
def State.mayForm (s : State) (shard core : Nat) : Bool :=
  s.formsDelta && s.round.formSlots.any (fun e => e.1 == shard) && !s.round.formed.contains shard &&
  (s.core core).up.kept.any (fun g => g.udesc.shard == shard && g.udesc.op == 1) && s.dieRunning (coreDie core)

/-- x of every element of a shard, padded with +0; P is that of the slot on which the hold stands. -/
def State.deltaValues (s : State) (shard : Nat) (c : ShardCfg) : Res (List Val) :=
  match s.readStored c (((s.round.formSlots.find? (fun e => e.1 == shard)).map (·.2)).getD 0) 0 c.count with
  | (s, .error e) => (s, .error e)
  | (s, .ok p) =>
    match s.readAnchor c 0 c.count with
    | (s, .error e) => (s, .error e)
    | (s, .ok a) =>
      match s.readOffcut s.round.cur (s.streamOff shard) c.count with
      | (s, .error e) => (s, .error e)
      | (s, .ok o) =>
        (s, .ok ((p.zip (a.zip o)).map (fun (p, a, o) => (p.sub a).add o) ++ List.replicate (pad64 c.count - c.count) Val.zero))

/-- Buffer that DELTA_FORM writes. -/
def State.formBase (s : State) : Nat := if s.formsPending then s.assoc.pendingBase else s.assoc.sendBase

/-- Every round shard is formed: the stream is whole, and its CRC has been taken as it was formed; a pending delta is sent unless it is too stale (R480). -/
def State.formedAll (s : State) (rate : Nat) : State :=
  if !(s.roundShards.all s.round.formed.contains) then s
  else
    let crc := crc64 (s.peek s.formBase (8 * rate * s.streamBlocks))
    if s.formsPending then
      let stale := s.round.refRound - s.round.anchorRound
      let s := s.modRound (fun u => { u with rebaseStep := 5, streamCrc := crc, outerDone := [], outerIssued := [], pendingSend := true })
      if (s.staleWeight stale).isSome then s
      else ((s.freynEvent Cause.staleDropped s.assoc.site s.round.refRound).modRound (fun u => { u with
        pendingSend := false, staleDropped := u.staleDropped + 1 }))
    else (s.modRound (fun u => { u with sentDelta := true, streamCrc := crc })).tryPropose

/-- DELTA_FORM of a shard on a core that holds its working copy. -/
def execDeltaForm (shard core : Nat) (s : State) : Out :=
  let s := s.holdForm
  .next (
    if !s.mayForm shard core then s
    else
      match s.shardCfg shard, s.deltaTable core with
      | some c, some t =>
        match s.deltaValues shard c with
        | (s, .error e) => s.freynEvent e shard s.round.openRound
        | (s, .ok xs) =>
          let encs := (pieces 64 (xs.length / 64) xs).map (kfrEncode t s.assoc.cslot)
          let s := s.countEncoded core encs
          if encs.any (·.nan) then (s.freynEvent Cause.nonfiniteUpdate shard s.round.openRound).rebase
          else
            let off := s.streamOff shard
            let rest := (xs.zip (encs.flatMap (·.decoded))).map (fun (x, d) => toFp32 (x.sub d))
            match s.writeAll [(s.formBase + off / 64 * (8 * t.rate), encs.flatMap (·.bytes)), (s.offcutBase (!s.round.cur) + 4 * off, fp32Bytes rest)] with
            | (s, 0) => ((s.dropRoundHold shard).modRound (fun u => { u with formed := u.formed ++ [shard] })).formedAll t.rate
            | (s, e) => s.freynEvent e shard s.round.openRound
      | _, _ => s.freynEvent Cause.planReject shard s.round.openRound)

/-! ## Sending a delta (R455, R465, R479) -/

/-- Packets of a stream of n blocks: index, first block and blocks of each. -/
def streamPackets (n : Nat) : List (Nat × Nat × Nat) := (List.range ((n + 255) / 256)).map (fun k => (k, 256 * k, min 256 (n - 256 * k)))
/-- SEQ of a DELTA packet. -/
def deltaSeq (round index : Nat) : Nat := round % 2 ^ 31 * 2 ^ 32 + index

/-- Fragment header of a packet of the module's stream (R456, R479). -/
def State.fragment (s : State) (round first n : Nat) (pending : Bool) : DeltaFragment :=
  { round := round, baseRound := s.round.anchorRound, firstBlock := first, totalBlocks := s.streamBlocks, blocks := n,
    tableId := s.assoc.tableId, rate := s.assoc.rate, pending := pending, streamCrc := s.round.streamCrc }

/-- WAN_SEND (R465): one copy of the stream to another member; a pending delta goes to the reference (R479). -/
def execWanSend (site : Nat) (s : State) : Out :=
  .next (
    let pending := s.round.pendingSend && site == s.round.rebaseSite
    let ready := s.ownHeld && s.round.closing.isNone && (s.site site).sentRound != some s.round.openRound
    if !s.isOther site || !(pending || ready) then s
    else if s.sec.km.isNone then s.freynEvent Cause.keyErased site s.round.openRound
    else if s.round.exhausted then s.freynEvent Cause.counterExhausted site s.round.openRound
    else
      let round := if pending then s.round.refRound else s.round.openRound
      let r := 8 * s.assoc.rate
      match s.readMem (if pending then s.assoc.pendingBase else s.assoc.sendBase) (r * s.streamBlocks) with
      | (s, .error e) => s.freynEvent e site round
      | (s, .ok bs) =>
        let es : List FrnOut := (streamPackets s.streamBlocks).map (fun (k, first, n) =>
          { type := 2, seq := deltaSeq round k, service := 1,
            payload := (s.fragment round first n pending).bytes ++ (bs.drop (r * first)).take (r * n) })
        let s := if pending then s.modRound (fun u => { u with pendingSend := false })
          else s.modSite site (fun x => { x with sentRound := some round })
        s.stream site es)

/-! ## Receiving a delta (R456, R471, R480) -/

/-- The round that a fragment counts toward: a pending delta that comes after the proposal counts toward the next. -/
def State.fragRound (s : State) (f : DeltaFragment) : Nat :=
  if f.pending && s.round.proposedRound = some f.round then f.round + 1 else f.round

/-- The fragment's fields are in range and its receive buffer is free for its round. -/
def State.fragOk (s : State) (i : Nat) (f : DeltaFragment) (blocks : List Byte) : Bool :=
  let a := s.assoc
  f.reserved38 == 0 && f.reserved48 == 0 && 1 ≤ f.blocks && f.blocks ≤ 256 && blocks.length == 8 * a.rate * f.blocks && f.rate == a.rate && f.tableId == a.tableId &&
  f.totalBlocks == s.streamBlocks && f.firstBlock + f.blocks ≤ f.totalBlocks && s.round.openRound ≤ s.fragRound f && s.deltaBase i != 0 &&
  s.round.deltas.all (fun d => d.site != i || d.round == s.fragRound f)

/-- DELTA: the fragment is stored; a coordinator that holds all deltas proposes. -/
def execDelta (hdr : FrnHeader) (frag : DeltaFragment) (blocks : List Byte) (s : State) : Out :=
  s.allow hdr 2 (frag.bytes ++ blocks) (fun s => s.fragOk hdr.src frag blocks) (fun s =>
    match s.writeMem (s.deltaBase hdr.src + 8 * s.assoc.rate * frag.firstBlock) blocks with
    | (s, 0) =>
      let r := s.fragRound frag
      let d := (s.heldDelta hdr.src r).getD { site := hdr.src, round := r, baseRound := frag.baseRound, pending := frag.pending, total := frag.totalBlocks,
                                              crc := frag.streamCrc }
      let d := { d with got := d.got ++ [(frag.firstBlock, frag.blocks)] }
      if d.whole && (s.staleWeight d.staleness).isNone then
        ((s.freynEvent Cause.staleDropped hdr.src r).modRound (fun u => { u with
          staleDropped := u.staleDropped + 1, deltas := u.deltas.filter (fun e => e.site != hdr.src) }))
      else (s.modRound (fun u => { u with deltas := u.deltas.filter (fun e => e.site != hdr.src) ++ [d] })).tryPropose
    | (s, _) => s)

/-! ## Objects that a FETCH names (R454, R471, R479, R481) -/

/-- Regions that an object's bytes are read from, in order. -/
def State.objectRegions (s : State) (o : FetchObject) : Option (List (Nat × Nat)) :=
  let each (f : Nat → ShardCfg → Nat × Nat) : List (Nat × Nat) := s.roundShards.flatMap (fun n => (s.shardCfg n).elim [] (fun c => [f n c]))
  match o with
  | .deltaOf i => if (s.heldSites.contains i || s.closeIncluded.any (fun x => x.site == i)) && s.deltaBase i ≠ 0 then
      some [(s.deltaBase i, 8 * s.assoc.rate * s.streamBlocks)] else none
  | .anchor => some (each (fun _ c => (c.anchorBase, 2 * c.count)))
  | .momentum => some (each (fun _ c => (c.omBase, omSize c)))
  | .slotImage => some (each (fun n c => (c.heldBase (s.shardSt n).staged (s.shardSt n).slot, c.slotSize)))
  | .openRound => some []
  | .checkpoint _ => none

/-- Bytes of regions, one after another. -/
def State.readAll (s : State) : List (Nat × Nat) → Res (List Byte)
  | [] => (s, .ok [])
  | (a, n) :: rest =>
    match s.readMem a n with
    | (s, .error e) => (s, .error e)
    | (s, .ok bs) =>
      match s.readAll rest with
      | (s, .error e) => (s, .error e)
      | (s, .ok more) => (s, .ok (bs ++ more))

/-- Bytes of an object at this module, for a request that it can answer. -/
def State.objectBytes (s : State) (o : FetchObject) : Option (Res (List Byte)) :=
  match o with
  | .openRound => some (s, .ok (leBytes 8 s.round.openRound))
  | _ => (s.objectRegions o).map s.readAll

/-- Bytes that a fetch of an object holds when complete. -/
def State.objectSize (s : State) (o : FetchObject) : Nat :=
  let each (f : ShardCfg → Nat) : Nat := (s.roundShards.map (fun n => (s.shardCfg n).elim 0 f)).sum
  match o with
  | .deltaOf _ => 8 * s.assoc.rate * s.streamBlocks
  | .anchor => each (fun c => 2 * c.count)
  | .momentum => each omSize
  | .slotImage => each ShardCfg.slotSize
  | .openRound => 8
  | .checkpoint _ => 0

/-- FETCH: answered with DATA packets of the object requested, as a RECOVERY stream. -/
def execFetch (hdr : FrnHeader) (req : FetchBody) (s : State) : Out :=
  s.allow hdr 7 req.bytes (fun _ => true) (fun s =>
    match s.objectBytes req.object with
    | none => s
    | some (s, .error e) => s.freynEvent e hdr.src req.round
    | some (s, .ok bs) =>
      let part := (bs.drop req.first).take req.length
      let chunks := byteGroups 8192 ((part.length + 8191) / 8192) part
      let es : List FrnOut := chunks.zipIdx.map (fun (b, k) =>
        { type := 8, seq := s.nextSeq hdr.src + k, service := 2,
          payload := DataBody.bytes { object := req.object, round := req.round, offset := req.first + 8192 * k, data := b } })
      (s.modSite hdr.src (fun x => { x with msgCount := x.msgCount + es.length })).stream hdr.src es)

/-! ## WAN_FETCH (R471, R479, R481, R493) -/

/-- The next object to fetch: object, site and round. A rebase or join fetches anchor, momentum, open round and, under
policy FULL, the slots; a close fetches the included deltas that are lacking or fail their stream check, from the coordinator; the
coordinator itself has only the delta's own site to ask (log entry 133). -/
def State.nextFetch (s : State) : Option (FetchObject × Nat × Nat) :=
  let u := s.round
  if (1 ≤ u.rebaseStep && u.rebaseStep ≤ 2) || (1 ≤ u.joinStep && u.joinStep ≤ 2) then
    let from_ := if u.rebaseStep ≠ 0 then u.rebaseSite else s.coordinator.getD s.rebaseRef
    match u.fetch with
    | none => some (.anchor, from_, u.openRound)
    | some f =>
      if !f.done then none
      else match f.object with
        | .anchor => some (.momentum, from_, u.openRound)
        | .momentum => some (.openRound, from_, u.openRound)
        | .openRound => some (.slotImage, from_, u.openRound)
        | _ => none
  else if u.closing.isSome && u.fetch.isNone then
    (s.closeIncluded.find? (fun i => !u.checked.contains i.site)).map
      (fun i => (.deltaOf i.site, if u.closeFrom = s.assoc.site then i.site else u.closeFrom, u.openRound))
  else none

/-- A fetch begins: FETCH goes out as a RECOVERY packet. -/
def State.beginFetch (s : State) (f : FetchSt) : State :=
  let seq := s.nextSeq f.site
  ((s.modRound (fun u => { u with fetch := some f })).countMsg f.site).stream f.site [{
    type := 7, seq := seq, service := 2,
    payload := FetchBody.bytes { object := f.object, round := f.round, first := 0, length := f.total } }]

/-- The state of a joining module is committed: P = A, moments and offcuts +0, or the reference's slots (R481). -/
def State.joinShard (slots : List Byte) (s : State) (n : Nat) : State :=
  match s.shardCfg n with
  | none => s
  | some c =>
    let x := s.shardSt n
    let a := (s.round.refAnchor.drop (2 * s.refOff n)).take (2 * c.count)
    let om := (s.round.refMomentum.drop (s.refOmOff n)).take (omSize c)
    let slot := x.pickTarget c.nslot
    let base := c.writeBase slot
    let before := ((s.roundShards.takeWhile (· != n)).map (fun k => (s.shardCfg k).elim 0 ShardCfg.slotSize)).sum
    let image := if slots.isEmpty then fitBytes c.slotSize a else (slots.drop before).take c.slotSize
    let off := 4 * s.streamOff n
    let size := 4 * pad64 c.count
    match s.writeAll [(c.anchorBase, a), (c.omBase, om), (base, image), (s.assoc.offcutBase0 + off, zeros size),
        (s.assoc.offcutBase1 + off, zeros size)] with
    | (s, 0) =>
      match s.writeCommit n c { seq := x.seq + 1, version := x.version + 1, step := x.step, count := x.count, tid := c.tid, slot := slot } with
      | (s, 0) => (s.copySegs n).foldl (fun s e => (s.formCopy c base x.step e).1) s
      | (s, e) => s.freynEvent e n s.round.openRound
    | (s, e) => s.freynEvent e n s.round.openRound

def State.joinCommit (s : State) (slots : List Byte) : State :=
  let s := s.each s.roundShards (State.joinShard slots)
  let s := s.modRound (fun u => { u with
    joinStep := 4, openRound := u.refRound, anchorRound := u.refRound, cur := false, formed := [], sentDelta := false, deltas := [],
    refAnchor := [], refMomentum := [], fetch := none })
  s.control (s.coordinator.getD s.rebaseRef) 10 JoinBody.complete.bytes

/-- A fetched delta: stored after its stream check; a second failure ends the fetch and rebases (R471). -/
def State.deltaFetched (s : State) (f : FetchSt) (i : Nat) (bs : List Byte) : State :=
  if crc64 bs = f.crc then
    match s.writeMem (s.deltaBase i) bs with
    | (s, 0) => s.modRound (fun u => { u with
        fetch := none, checked := u.checked ++ [i],
        deltas := if i = s.assoc.site then u.deltas else u.deltas.filter (fun d => d.site != i) ++
          [{ site := i, round := f.round, baseRound := f.round, total := s.streamBlocks, crc := f.crc, got := [(0, s.streamBlocks)] }] })
    | (s, e) => (s.freynEvent e i f.round).modRound (fun u => { u with fetch := none })
  else if f.tries = 0 then s.beginFetch { f with tries := 1, got := [], started := s.now }
  else ((s.freynEvent Cause.digestMismatch i f.round).modRound (fun u => { u with fetch := none })).rebase

/-- All bytes of a fetch are held. -/
def State.fetchDone (s : State) (f : FetchSt) : State :=
  let bs := (sortBy (·.1) f.got).flatMap (·.2)
  let done (s : State) : State := s.modRound (fun u => { u with fetch := some { f with got := [], done := true } })
  match f.object with
  | .deltaOf i => s.deltaFetched f i bs
  | .anchor => done (s.modRound (fun u => { u with refAnchor := bs }))
  | .momentum => done (s.modRound (fun u => { u with refMomentum := bs }))
  | .openRound =>
    let s := s.modRound (fun u => { u with refRound := leNat bs })
    if s.round.rebaseStep ≠ 0 then (s.modRound (fun u => { u with rebaseStep := 3, formed := [], fetch := none })).holdForm
    else if s.assoc.joinFull then done s
    else s.joinCommit []
  | .slotImage => s.joinCommit bs
  | .checkpoint _ => done s

/-- WAN_FETCH: JOIN goes to the reference first where a rebase or join begins. -/
def execWanFetch (site : Nat) (s : State) : Out :=
  .next (match s.nextFetch with
    | none => s
    | some (obj, from_, round) =>
      if from_ = s.assoc.site && site = from_ then (s.freynEvent Cause.digestMismatch site round).rebase
      else if from_ ≠ site || !s.isOther site then s
      else if s.sec.km.isNone then s.freynEvent Cause.keyErased site round
      else if s.round.exhausted then s.freynEvent Cause.counterExhausted site round
      else
        let begin_ := s.round.rebaseStep == 1 || s.round.joinStep == 1
        let s := if begin_ then (s.control site 10 (if s.round.rebaseStep == 1 then JoinBody.rebasing else .request).bytes).modRound (fun u => { u with
            rebaseStep := if u.rebaseStep = 1 then 2 else u.rebaseStep, joinStep := if u.joinStep = 1 then 2 else u.joinStep }) else s
        let crc := match obj with
          | .deltaOf i => ((s.closeIncluded.find? (fun x => x.site == i)).map (·.crc)).getD 0
          | _ => 0
        let failed := match obj with | .deltaOf i => s.round.failed.contains i | _ => false
        let f : FetchSt := { object := obj, site := site, round := round, total := s.objectSize obj, crc := crc, started := s.now,
                             tries := b2n failed }
        if f.total = 0 then s.fetchDone f else s.beginFetch f)

/-- DATA: stored toward a fetch, or in the area of a remote site's checkpoint (R451; 14_checkpoint R497). -/
def execData (hdr : FrnHeader) (body : DataBody) (s : State) : Out :=
  s.allow hdr 8 body.bytes (fun _ => body.data.length ≤ 8192) (fun s =>
    match body.object, s.round.fetch with
    | .checkpoint _, _ => (s.writeMem (farAddr (Config.remoteArea hdr.src + body.offset)) body.data).1
    | obj, some f =>
      if f.done || f.object ≠ obj || f.site ≠ hdr.src || f.round ≠ body.round || f.total < body.offset + body.data.length then s
      else
        let f := { f with got := f.got ++ [(body.offset, body.data)] }
        let s := s.modRound (fun u => { u with fetch := some f })
        if (f.got.map (·.2.length)).sum = f.total then s.fetchDone f else s
    | _, none => s)

/-- FETCH_LIMIT (R493): a fetch not complete in FETCH_LIMIT ends Failed with TIMEOUT. -/
def execFetchLimit (s : State) : Out :=
  .next (match s.round.fetch with
    | some f =>
      if !f.done && f.started + s.assoc.fetchLimit * 1000000000 < s.now then
        (s.freynEvent Cause.timeout f.site f.round).modRound (fun u => { u with fetch := none })
      else s
    | none => s)

/-! ## Heartbeats (R467, R478, R483, R491) -/

/-- A HEARTBEAT's report of its sender: its state; a closed round that the module lacks makes it rebase or join. -/
def State.siteReport (s : State) (i : Nat) (b : HeartbeatBody) : State :=
  let s := s.modSite i (fun x => { x with
    closedRound := if b.lastKind = 2 then x.closedRound else b.lastClosed,
    state := if b.state = 0 || b.state = 3 || b.state = 4 then b.state
      else if x.state = 0 || x.state = 3 || x.state = 4 then (if bitOf s.round.active i then 1 else 2) else x.state })
  match b.lastClosed with
  | some r =>
    if b.lastKind ≠ 2 && s.host.job = .running && s.round.closing.isNone &&
       (s.round.openRound < r || s.round.orphans.contains r) then
      (s.modRound (fun u => { u with majority := b.active })).fallBehind
    else s
  | none => s

/-- HEARTBEAT. -/
def execHeartbeat (hdr : FrnHeader) (body : HeartbeatBody) (s : State) : Out :=
  s.allow hdr 1 body.bytes (fun _ => true) (fun s =>
    let i := hdr.src
    let paused := (s.site i).paused
    let s := s.modSite i (fun x => { x with
      lastHeartbeat := some s.now, reachable := true, paused := false, lastAck := if x.paused then s.now else x.lastAck,
      primaryUp := x.primaryUp || !hdr.second, primaryAt := if hdr.second then x.primaryAt else s.now,
      secondUp := x.secondUp || hdr.second, secondAt := if hdr.second then s.now else x.secondAt })
    let s := (s.noteRoutes i).modRound (fun u => { u with rekeyWanted := u.rekeyWanted || hdr.rekey })
    let s := if paused then s.resendAll i (fun _ => true) else s
    (s.siteReport i body).tryPropose.drainWan)

/-- JOIN (R475, R479, R481). -/
def execJoin (hdr : FrnHeader) (body : JoinBody) (s : State) : Out :=
  s.allow hdr 10 body.bytes (fun _ => true) (fun s =>
    match body with
    | .rebasing => s.setSiteState hdr.src 3
    | .request => s.setSiteState hdr.src 4
    | .complete => (s.setSiteState hdr.src 4).modSite hdr.src (fun x => { x with join := true }))

/-! ## Anchor digests (R482; 14_checkpoint R520) -/

/-- What an anchor digest covers: a header and the anchor of every round shard. -/
def State.anchorInput (s : State) (r : Nat) : List Nat → Res (List Byte)
  | [] => (s, .ok [])
  | n :: ns =>
    match s.shardCfg n with
    | none => s.anchorInput r ns
    | some c =>
      match s.readMem c.anchorBase (2 * c.count) with
      | (s, .error e) => (s, .error e)
      | (s, .ok bs) =>
        match s.anchorInput r ns with
        | (s, .error e) => (s, .error e)
        | (s, .ok more) => (s, .ok (leBytes 4 c.tid ++ zeros 4 ++ leBytes 8 (r + 1) ++ zeros 8 ++ leBytes 8 c.count ++ bs ++ more))

/-- Every member's digest of the last FULL round is held: one that differs from the majority makes the policy act. -/
def State.compareAnchors (s : State) (r : Nat) : State :=
  match s.round.ownDigest with
  | none => s
  | some (own, w) =>
    let ds := (s.assoc.site, w) :: (s.round.digests.filter (fun d => d.2.1 == r)).map (fun d => (d.1, d.2.2))
    if own ≠ r || s.round.ownState = 3 || s.round.ownState = 4 || !((maskSites s.assoc.members).all (fun i => ds.any (fun d => d.1 == i))) then s
    else
      let s := s.modRound (fun u => { u with digests := u.digests.filter (fun d => r < d.2.1) })
      match majority ds with
      | some best =>
        if best.2 = w then s
        else
          let s := s.freynEvent Cause.digestMismatch s.assoc.site r
          if s.img.verifyTrust then s else s.rebase
      | none => s

/-- ANCHOR_DIGEST: after the commits of a FULL close. -/
def execAnchorDigest (s : State) : Out :=
  .next (match s.round.lastApplied with
    | some r =>
      if s.round.lastKind ≠ 0 || s.round.closing.isSome || r + 1 ≠ s.round.openRound || s.round.ownDigest.any (fun d => d.1 == r) ||
         s.round.ownState = 3 || s.round.ownState = 4 then s
      else
        match s.anchorInput r s.roundShards with
        | (s, .error e) => s.freynEvent e s.assoc.site r
        | (s, .ok bs) =>
          let s := s.modRound (fun u => { u with ownDigest := some (r, crc64 bs) })
          (s.controlAll 9 (digestBytes r (crc64 bs))).compareAnchors r
    | none => s)

/-- DIGEST: a member's anchor digest. -/
def execDigest (hdr : FrnHeader) (round : Nat) (digest : Word64) (s : State) : Out :=
  s.allow hdr 9 (digestBytes round digest) (fun _ => true) (fun s =>
    (s.modRound (fun u => { u with digests := u.digests.filter (fun d => !(d.1 == hdr.src && d.2.1 == round)) ++ [(hdr.src, round, digest)] })).compareAnchors
      round)

/-- ROUND_LO_READ (R495). -/
def execRoundLoRead (s : State) : Out :=
  .next { s.modRound (fun u => { u with roundHi := BitVec.ofNat 32 (u.openRound / 2 ^ 32) }) with bus := s.round.openRound % 2 ^ 32 }

end Sys2Proof.Machine
end

