-- ==== Sys2Proof/Machine/Recorder.lean ====
section
/-! DEFINITION. The event recorder: acceptance, the ring, the flash mirror, reading and clearing (19_event_recorder). -/

namespace Sys2Proof.Machine

open Sys2Proof

def State.modRec (s : State) (f : Recorder → Recorder) : State := { s with recorder := f s.recorder }

/-- SEQ a is newer than b (R655). -/
def newer (a b : Word) : Bool := 1 ≤ (a - b).toNat && (a - b).toNat < 2 ^ 31

def ringSize : Nat := 0x1000000
def seqMark : Nat := 0x8006

/-! ## Writing a record (R653 to R656) -/

/-- A record's bytes: header, then the payload padded with 0 to a multiple of 8. -/
def recordBytes (type : Nat) (seq : Word) (time : Nat) (payload : List Byte) : List Byte :=
  let body := payload ++ zeros ((8 - payload.length % 8) % 8)
  leBytes 2 type ++ leBytes 2 (16 + body.length) ++ leBytes 4 seq.toNat ++ leBytes 8 time ++ body

/-- The oldest records are dropped until the ring has room for n bytes. -/
def dropOldest (n : Nat) : List RingRecord → List RingRecord
  | [] => []
  | r :: rs => if ringSize < ((r :: rs).map (·.len)).sum + n then dropOldest n rs else r :: rs

/-- Bytes stored in the ring from an offset on, past its end at offset 0. -/
def State.ringWrite (s : State) (off : Nat) (bs : List Byte) : State :=
  let n := ringSize - off
  (s.hsWrite (hsAddr off) (bs.take n)).hsWrite (hsAddr 0) (bs.drop n)

/-- A record is accepted: SEQ, TIME, its bytes in the ring, and its place for the mirror where critical. A SEQ_MARK's
limit lies 2^24 above its own SEQ (R663). -/
def State.writeRecord (s : State) (e : EventRecord) : State :=
  let r := s.recorder
  let payload := if e.type = seqMark then leBytes 4 (r.next + 0x1000000).toNat ++ zeros 4 else e.payload
  let bs := recordBytes e.type r.next s.now payload
  let x : RingRecord := { seq := r.next, off := r.writeOff, len := bs.length, type := e.type, bytes := bs }
  let kept := dropOldest bs.length r.ring
  (s.ringWrite r.writeOff bs).modRec (fun r =>
    { r with ring := kept ++ [x], wrapped := r.wrapped || kept.length < r.ring.length, writeOff := (r.writeOff + bs.length) % ringSize,
             next := r.next + 1, toMirror := if critical e.type then r.toMirror ++ [x] else r.toMirror,
             markPending := r.markPending || e.type == seqMark, firstMark := r.firstMark && e.type != seqMark })

/-! ## Acceptance (R657, R663) -/

/-- The reserved limit that holds now. -/
def State.seqLimit (s : State) : Word := if s.power.holdup ≠ 0 then s.recorder.limit0 else s.recorder.limit
/-- A SEQ_MARK is due: the first after a reset, or the next SEQ within 2^23 of the limit. -/
def State.markDue (s : State) : Bool :=
  s.recorder.firstMark || (!s.recorder.markPending && !newer s.seqLimit (s.recorder.next + 0x7FFFFF))
/-- The next SEQ may be assigned. -/
def State.seqFree (s : State) : Bool := !newer s.recorder.next s.seqLimit
/-- The recorder runs: its domain is powered. -/
def State.recorderOn (s : State) : Bool := s.edgePowered

/-- Reports that waited at their source move into the queue while it has room. -/
def Recorder.refill (r : Recorder) : Recorder :=
  let n := 256 - r.input.length
  { r with input := r.input ++ r.waiting.take n, waiting := r.waiting.drop n }

/-- One record is accepted, a SEQ_MARK before any other where one is due. -/
def State.acceptOne (s : State) : State :=
  if s.recorder.firstMark || (s.markDue && s.seqFree) then s.writeRecord { type := seqMark, payload := [] }
  else if !s.seqFree then s
  else
    match s.recorder.input with
    | [] => s
    | e :: rest => (s.modRec (fun r => ({ r with input := rest }).refill)).writeRecord e

/-- EVENT_REPORT (R655, R657): the recorder accepts the next record. -/
def execEventReport (s : State) : Out := .next (if s.recorderOn then s.acceptOne else s)

/-- LOST (R657): the queue has drained below 128. -/
def execLost (s : State) : Out :=
  let r := s.recorder
  .next (if s.recorderOn && 0 < r.lostCount && r.input.length < 128 && s.seqFree && !r.firstMark && !r.criticalOnly then
      (s.modRec (fun r => { r with lostCount := 0 })).writeRecord
        { type := 0x0005, payload := leBytes 4 r.lostCount ++ zeros 4 ++ leBytes 8 r.lostAt }
    else s)

/-! ## The mirror (R659 to R663) -/

/-- A record appended to a device's sectors of 64 KiB: one sector stays erased, so at most 511 hold records. -/
def appendMirror (m : List (List RingRecord)) (x : RingRecord) : List (List RingRecord) :=
  let last := m.getLastD []
  if !m.isEmpty && (last.map (·.len)).sum + x.len ≤ 65536 then m.dropLast ++ [last ++ [x]]
  else (if 511 ≤ m.length then m.drop 1 else m) ++ [[x]]
def mirrorHolds (m : List (List RingRecord)) (x : RingRecord) : Bool := (m.getLastD []).any (fun r => r.seq == x.seq)

def State.modFlash (s : State) (f : Flash → Flash) : State := { s with flash := f s.flash }
/-- Reserved limit that a SEQ_MARK's payload gives. -/
def RingRecord.limit (x : RingRecord) : Word := BitVec.ofNat 32 (leNat ((x.bytes.drop 16).take 4))

/-- One pending critical record is appended, to F0 and then to F1 (to F0 only in hold-up). A failed append sets
MIRROR_FAULT; a SEQ_MARK stays pending until both devices hold it (log entry 40). -/
def State.mirrorOne (s : State) (f0 f1 : Bool) : State :=
  match s.recorder.toMirror with
  | [] => s
  | x :: rest =>
    let hold := s.power.holdup ≠ 0
    let g0 := f0 && !mirrorHolds s.flash.mirror0 x
    let g1 := f1 && !hold && !mirrorHolds s.flash.mirror1 x
    let s := s.modFlash (fun f => { f with
      mirror0 := if g0 then appendMirror f.mirror0 x else f.mirror0, mirror1 := if g1 then appendMirror f.mirror1 x else f.mirror1 })
    let held0 := mirrorHolds s.flash.mirror0 x
    let both := held0 && mirrorHolds s.flash.mirror1 x
    let keep := x.type = seqMark && !(both || (hold && held0))
    s.modRec (fun r => { r with
      toMirror := if keep then rest ++ [x] else rest,
      mirrorFault := if both then false else r.mirrorFault || !f0 || (!f1 && !hold),
      limit0 := if x.type = seqMark && held0 then x.limit else r.limit0,
      limit := if x.type = seqMark && both then x.limit else r.limit,
      markPending := if x.type = seqMark && !keep then false else r.markPending })

/-- MIRROR_APPEND (R659, R661). -/
def execMirrorAppend (f0Ok f1Ok : Bool) (s : State) : Out := .next (if s.recorderOn then s.mirrorOne f0Ok f1Ok else s)

/-- Every report is accepted and every critical record appended, before a reset proceeds (R658). -/
def State.flushRecorder : Nat → State → State
  | 0, s => s
  | fuel + 1, s =>
    let s := (s.acceptOne).mirrorOne true true
    if s.recorder.input.isEmpty && s.recorder.waiting.isEmpty && s.recorder.toMirror.isEmpty then s else State.flushRecorder fuel s
def State.flushAll (s : State) : State :=
  if s.recorderOn then State.flushRecorder (2 * (s.recorder.input.length + s.recorder.waiting.length + s.recorder.toMirror.length) + 4) s else s

/-- Hold-up: pending critical records go to F0 only, at most 2 KiB (R660, R592). -/
def State.flushHoldup : Nat → Nat → State → State
  | 0, _, s => s
  | fuel + 1, room, s =>
    let s := s.acceptOne
    match s.recorder.toMirror with
    | [] => if s.recorder.input.isEmpty && s.recorder.waiting.isEmpty then s else State.flushHoldup fuel room s
    | x :: _ => if room < x.len then s else State.flushHoldup fuel (room - x.len) (s.mirrorOne true false)

/-! ## After a Cold or Full reset (R658, R660, R662, R671, R673) -/

/-- A record among records in SEQ order. -/
def insertRecord (x : RingRecord) : List RingRecord → List RingRecord
  | [] => [x]
  | y :: ys => if newer y.seq x.seq then x :: y :: ys else y :: insertRecord x ys
/-- Records of both mirrors in SEQ order: those that one device lacks stand in the other. -/
def State.mirrorRecords (s : State) : List RingRecord :=
  let a := s.flash.mirror0.flatten
  (a ++ s.flash.mirror1.flatten.filter (fun x => !(a.any (fun y => y.seq == x.seq)))).foldl (fun rs x => insertRecord x rs) []
/-- The newest of some SEQ values. -/
def newestSeq (ws : List Word) : Option Word :=
  ws.foldl (fun b w => match b with | none => some w | some v => if newer w v then some w else some v) none
def oldestSeq (ws : List Word) : Option Word :=
  ws.foldl (fun b w => match b with | none => some w | some v => if newer v w then some w else some v) none
/-- The newest CLEARED record whose scope covers the mirror. -/
def State.clearedAt (s : State) : Option Word :=
  newestSeq ((s.mirrorRecords.filter (fun x => x.type == 0x8004 && x.bytes.getD 24 0 == 1)).map (·.seq))

/-- The recorder starts after a Cold or Full reset: ring empty, the first SEQ above every SEQ reserved before. -/
def State.startRecorder (s : State) : State :=
  let rs := s.mirrorRecords
  let base := (newestSeq ((rs.map (·.seq)) ++ (rs.filter (fun x => x.type == seqMark)).map RingRecord.limit)).getD 0
  s.modRec (fun r =>
    { ring := [], writeOff := 0, wrapped := false, next := base + 1, start := base + 1, limit := base, limit0 := base, firstMark := true,
      input := r.input, waiting := r.waiting, skipBefore := s.clearedAt, telemetryAt := s.now })

/-- Firmware copies to F1 every F0 sector that F1 lacks, and erases sectors that a clear left behind (R660, R673). -/
def State.syncMirror (s : State) : State :=
  let keep (m : List (List RingRecord)) : List (List RingRecord) :=
    match s.clearedAt with
    | some c => m.filter (fun t => t.any (fun x => !newer c x.seq))
    | none => m
  s.modFlash (fun f =>
    let own := f.mirror1.filter (fun t => !(t.all (fun x => f.mirror0.any (fun u => u.contains x))))
    { f with mirror0 := keep f.mirror0, mirror1 := keep (own ++ f.mirror0) })

/-! ## Reading (R669 to R671) -/

/-- Records of a source that a reader may have, oldest first. -/
def State.sourceRecords (s : State) (source : Nat) : List RingRecord :=
  if source = 0 then s.recorder.ring
  else s.mirrorRecords.filter (fun x => s.recorder.skipBefore.all (fun c => !newer c x.seq))
/-- OLDEST and NEWEST of a source. -/
def State.sourceEnds (s : State) (source : Nat) : Word × Word :=
  let ws := (s.sourceRecords source).map (·.seq)
  let newest := (newestSeq ws).getD (s.recorder.next - 1)
  ((oldestSeq ws).getD (newest + 1), newest)

/-- Whole records in order while they fit. -/
def takeRecords : Nat → List RingRecord → List RingRecord
  | _, [] => []
  | room, r :: rs => if r.len ≤ room then r :: takeRecords (room - r.len) rs else []

/-- REC_READ (R669). -/
def execRecRead (source : Nat) (fromSeq : Word) (maxBytes : Nat) (s : State) : Out :=
  .next (
    if !s.mailboxUp then s
    else
      let (oldest, newest) := s.sourceEnds source
      if 1 < source || maxBytes < 16 || 1048544 < maxBytes || newer fromSeq (newest + 1) then s.vendorFail .invalidInput Cause.planReject
      else
        let start := if newer oldest fromSeq then oldest else fromSeq
        let rs := takeRecords maxBytes ((s.sourceRecords source).filter (fun x => !newer start x.seq))
        let bytes := rs.flatMap (·.bytes)
        s.mbox .success (zeros 4 ++ leBytes 4 oldest.toNat ++ leBytes 4 newest.toNat ++ leBytes 4 rs.length ++
          leBytes 4 ((rs.head?.map (·.seq)).getD fromSeq).toNat ++ leBytes 4 bytes.length ++ zeros 8 ++ bytes))

/-! ## Clearing (R672, R673) -/

/-- RECORDER_CLEAR: ring, or ring and mirror; CLEARED is the first record after the clear. -/
def execRecorderClear (auth : OwnerAuth) (scope : Nat) (s : State) : Out :=
  s.owner 6 auth (leBytes 1 scope) (fun s =>
    if 1 < scope then s.ownerFail Cause.planReject
    else
      let (oldest, newest) := s.sourceEnds 0
      let payload := leBytes 4 oldest.toNat ++ leBytes 4 newest.toNat ++ leBytes 1 scope ++ leBytes 1 auth.keyEntry ++ zeros 6 ++ fitBytes 32 auth.nonce
      let e : EventRecord := { type := 0x8004, payload := payload }
      let s := { s with mem := s.mem.clear (hsAddr 0) ringSize,
                        tiers := { s.tiers with wordErrs := s.tiers.wordErrs.clearRange (hsAddr 0 / 16) ((hsAddr 0 + ringSize) / 16) } }
      let s := (s.modRec (fun r => { r with
        ring := [], clears := r.clears + 1,
        toMirror := if scope = 1 then r.toMirror.filter (fun x => x.type == seqMark) else r.toMirror })).writeRecord e
      if scope = 0 then s.vendorOk []
      else
        let x := s.recorder.ring.getLastD {}
        let s := s.modFlash (fun f => { f with mirror0 := [[x]], mirror1 := [[x]] })
        (s.modRec (fun r => { r with toMirror := r.toMirror.filter (fun y => y.seq != x.seq), skipBefore := some x.seq, firstMark := true })).vendorOk [])

end Sys2Proof.Machine
end

