-- ==== Sys2Proof/Machine/ImageCheck.lean ====
section
/-! DEFINITION. The checks by which the module refuses a configuration image (18_configuration R618 to R621 and every content
rule they gather; each check names its rule). -/

namespace Sys2Proof.Machine

open Sys2Proof

/-- lo ≤ n ≤ hi. -/
def within (lo hi n : Nat) : Bool := lo ≤ n && n ≤ hi

/-- Sections (R619, R621): the required ones, no reserved type, none twice but CORE; one CORE per logical core. The 16-bit count
of R618 is not held to 256, which one CORE per logical core exceeds (log entry 74). -/
def imageSectionsOk (s : State) (i : Image) : Bool :=
  let n (t : Nat) : Nat := i.sectionTypes.count t
  i.sectionTypes.all (within 1 11) && i.sectionTypes.length < 65536 && n 1 == 1 && n 2 == 1 && n 11 == 1 && n 4 == s.coreList.length &&
  [3, 5, 6, 7, 8, 9, 10].all (fun t => n t ≤ 1) && i.cores.map (·.core) == s.coreList

/-- Header (R618; 12_torus R406). -/
def imageHeaderOk (s : State) (i : Image) : Bool :=
  (if s.fuses.variantM then i.variant.testBit 1 else i.variant.testBit 0) && i.variant < 4 && 1 ≤ i.imageSeq && i.job != 0

/-- MODULE settings in range (09_training R288, R306, R313, R319; 10_parameter R354; 11_memory R384; 12_torus R418, R421, R425,
R435, R440 to R442; 06_fixed_rate R201; 14_checkpoint R522; 19_event_recorder R667, R668). -/
def imageModuleOk (i : Image) : Bool :=
  let nodes := i.axes.foldl (· * ·) 1
  i.axes.length == 4 && i.axes.all (within 1 64) && nodes ≤ 65535 && i.node < nodes && within 1 1024 i.m &&
  i.floors.all (fun f => f == 8 || f == 12 || f == 16) && i.lsInit ≤ 63 && i.lsMin ≤ i.lsInit && within i.lsInit 63 i.lsMax &&
  i.growth < 2 ^ 32 && i.lag ≤ 3 && (i.flushed || 1 ≤ i.lag) && within 1 16 i.gateSets &&
  within 100000000 60000000000 i.gateWait && within 1000 1000000000 i.tableWait && within 1000000 60000000000 i.deferWait &&
  within 1000000 1000000000 i.poolTimeout && within 1000000 10000000000 i.fabricTimeout && within 10000 10000000 i.drainLimit &&
  i.retryWindow.length == 4 && i.retryWindow.all (· ≤ 10000000000) && within 1000000000 600000000000 i.linkWait &&
  i.tcWeights.length == 3 && i.tcWeights.all (within 1 16) && i.restoreLimit ≤ 15 && i.layerEvery ≤ 65535 &&
  i.telemetry ≤ 3600 && (fp32 i.globalLimit).isFinite && !i.globalLimit.getLsbD 31

/-- GOVERNOR (02_dataflow R47, R50): a setting that the image does not give takes its default. -/
def imageGovernorOk (i : Image) : Bool :=
  i.targets.length ≤ 8 && i.targets.all (·.all (fun t => within 900 1900 t && t % 10 == 0)) && i.junctions.length ≤ 8 &&
  i.junctions.all (·.all (· ≤ 100))

/-- LAUNCH: settings, existing participants (any set of them, the empty one too), and at most 16 cores of a die in any 50 ns (02_dataflow R80, R89). -/
def imageLaunchOk (s : State) (i : Image) : Bool :=
  (i.launch.map (·.slot)).Nodup && i.launch.all (fun l =>
    let cores := LaunchCfg.order l s
    l.slot ≤ 63 && l.participants.all s.coreExists && within 500 65535 l.lead && l.spacing < 2 ^ 32 &&
    [8, 16, 32].contains l.groupSize && within 4 255 l.groupSpacing &&
    cores.all (fun c => (cores.filter (fun k => coreDie k == coreDie c && LaunchCfg.offset l s c ≤ LaunchCfg.offset l s k &&
      LaunchCfg.offset l s k < LaunchCfg.offset l s c + 50)).length ≤ 16))

/-- Bytes that a CORE section loads into SRAM. -/
def coreSectionBytes (c : CoreCfg) : Memory := c.sram.foldl (fun m p => Memory.write m p.1 p.2) []

/-- The first entry at or after an index that the section loads in whole or in part; those before it are 0, that is WAIT. -/
def nextLoaded (c : CoreCfg) (pos : Nat) : Option Nat :=
  (c.sram.filterMap (fun p =>
    let first := max pos ((p.1 - c.stepList) / 32)
    if !p.2.isEmpty && c.stepList + 32 * first < p.1 + p.2.length then some first else none)).min?

/-- The loaded entries that queues starting at some indices reach (02_dataflow R70, R71), following every JUMP that jumps. -/
def listEntries (m : Memory) (c : CoreCfg) : Nat → List Nat → List Nat → List Entry
  | 0, _, _ => []
  | _, [], _ => []
  | fuel + 1, pos :: todo, seen =>
    match nextLoaded c pos with
    | none => listEntries m c fuel todo seen
    | some p =>
      if seen.contains p || 65536 ≤ p then listEntries m c fuel todo seen
      else
        let e := Entry.ofNat (leNat (m.read (c.stepList + 32 * p) 32))
        let next := if e.kind = 8 then [] else if e.kind = 7 && 2 ≤ e.loop then [p + 1, e.target] else [p + 1]
        e :: listEntries m c fuel (next ++ todo) (p :: seen)

/-- A CORE section: queues, limits, kernel, recipes and loads in range (02_dataflow R62, R76; 07_vector R224; 09_training
R303); no LAUNCH entry that a queue reaches and R78 refuses, and no slot named by two queues (R81). -/
def imageCoreOk (i : Image) (c : CoreCfg) : Bool :=
  let m := coreSectionBytes c
  let lists := c.queues.map (fun q => match q with | some pos => listEntries m c 262144 [pos] [] | none => [])
  let slots := lists.map (fun es => ((es.filter (·.launch)).map (·.slot)).dedup)
  c.queues.length ≤ 8 && c.queues.all (fun q => q.all (· < 65536)) && c.waits.all (within 1000000 60000000000) &&
  c.kernel.all (fun k => k.1 < 65536) && c.recipes.all (fun r => r.index < 256 && r.kind ≤ 7 && r.kind != 6) &&
  c.sram.all (fun p => p.1 + p.2.length ≤ 2 ^ 25) && c.gateCtr < 64 && c.selectorCtr < 64 && c.commitCtr < 64 &&
  c.gateFirst.all (fun f => f + i.gateSets ≤ 256) &&
  lists.all (fun es => es.all (fun e => !e.launch || i.launch.any (fun l => l.slot == e.slot && l.participants.contains c.core))) &&
  slots.flatten.Nodup

/-- Formats that a layer can reach by widening (09_training R309). -/
def reachable (f : Nat) : List Nat := match f with | 4 => [1, 0] | 1 => [0] | 2 => [0] | _ => []
/-- LAYERS and the patch lists (09_training R309, R310, R321 to R323). -/
def imageLayersOk (i : Image) : Bool :=
  i.layers.all (fun l => [0, 1, 2, 4].contains l.format && within 1 24 l.vf && within 1 65535 l.n && l.policy ≤ 2 && l.tapSets.all (· < 256)) &&
  (i.layers.map (·.layer)).Nodup &&
  i.cores.all (fun c => c.patches.all (fun p => match i.layers.find? (fun l => l.layer == p.layer) with
    | some l => l.policy != 1 || (reachable l.format).all (fun f => p.addrs.any (fun a => a.1 == f))
    | none => true))

/-- Regions of a shard with their lengths (10_parameter R325 to R328, R351). -/
def shardRegions (c : ShardCfg) (round : Bool) : List (Nat × Nat) :=
  (c.slotBase.take c.nslot).map (fun b => (b, c.slotSize)) ++ [(c.commitBase, 128)] ++
  (if round || c.anchorBase != 0 then [(c.anchorBase, 2 * c.count)] else []) ++
  (if c.omFmt != 0 && (round || c.omBase != 0) then [(c.omBase, omSize c)] else []) ++
  (if c.pool then [(c.parkBase, 4 * c.count), (c.windowBase, 2 * c.slotSize)] else [])

def State.shardOk (s : State) (c : ShardCfg) (round : Bool) : Bool :=
  let dims := (c.dims.take c.rank).zip ((c.boxStart.take c.rank).zip (c.boxExt.take c.rank))
  c.tid < 2 ^ 32 && within 2 4 c.nslot && c.moments ≤ 2 && c.omFmt ≤ 3 && within 1 4 c.rank && dims.length == c.rank &&
  dims.all (fun d => 1 ≤ d.2.2 && d.1 < 2 ^ 32 && d.2.1 + d.2.2 ≤ d.1) && c.count ≤ 2 ^ 40 &&
  (c.slotBase.take c.nslot).length == c.nslot && (c.slotBase.take c.nslot).all (fun b => addrSpace b == (if c.pool then 3 else 2)) &&
  addrSpace c.commitBase == 2 && (!c.pool || (addrSpace c.parkBase == 2 && addrSpace c.windowBase == 2)) && c.segCount < 2 ^ 16 && c.replicaSet < 256 && (!c.pool || within 1 255 c.deferMax) &&
  (shardRegions c round).all (fun r => r.1 % 64 == 0 && s.inSpace r.1 r.2)

/-- No two of some regions share a byte. -/
def disjoint : List (Nat × Nat) → Bool
  | [] => true
  | r :: rs => rs.all (fun t => !overlaps r.1 r.2 t.1 t.2) && disjoint rs

/-- SHARDS (10_parameter R325, R326; 09_training R301: one role per tensor, log entry 41). `s` holds the image, so that pool
addresses are checked against its windows. -/
def imageShardsOk (s : State) (i : Image) : Bool :=
  let round (n : Nat) : Bool := i.assoc.any (fun a => a.roundShards.contains n)
  i.shards.length ≤ 4096 && (i.shards.map (·.tid)).Nodup && i.shards.zipIdx.all (fun c => s.shardOk c.1 (round c.2)) &&
  disjoint (i.shards.zipIdx.flatMap (fun c => shardRegions c.1 (round c.2)))

/-- POOL (11_memory R381). -/
def imagePoolOk (i : Image) : Bool :=
  i.pool.length ≤ 64 && i.pool.all (fun p => 1 ≤ p.size && p.hpa % 2 ^ 30 == 0 && p.base + p.size ≤ 2 ^ 16) &&
  (i.pool.map (·.size)).sum ≤ 65536 && disjoint (i.pool.map (fun p => (p.base, p.size)))

/-- A region lies inside one pool window entry of a KIND. -/
def imageInPool (i : Image) (host : Bool) (a len : Nat) : Bool :=
  addrSpace a == 3 && i.pool.any (fun p => p.host == host && p.base * 2 ^ 30 ≤ addrOff a && addrOff a + len ≤ (p.base + p.size) * 2 ^ 30)

/-- CHECKPOINT (14_checkpoint R496 to R498, R509, R511): a target's SIZE holds at least the slot arrays of two buffers. -/
def imageCheckpointOk (i : Image) : Bool :=
  let pieces := (i.shards.map ShardCfg.slotSize).sum
  i.ckInterval < 2 ^ 32 && i.ckTargets.length ≤ 4 && i.partnerPorts.length ≤ 4 && i.partnerPorts.all (· < 8) &&
  (i.ckTargets.filter (fun t => t.kind == 0)).length ≤ 1 &&
  i.ckTargets.all (fun t => t.kind ≤ 3 && within 1 65535 t.every && 2 * pieces ≤ t.size &&
    (t.kind != 1 || imageInPool i false t.base t.size) && (t.kind != 2 || imageInPool i true t.base t.size)) &&
  (!i.partnerForce || i.ckTargets.any (fun t => (t.kind == 1 || t.kind == 2) && t.every == 1))

/-- A buffer of the association lies in the far tier. -/
def State.farRegion (s : State) (a len : Nat) : Bool := addrSpace a == 2 && s.inSpace a len
/-- Elements of the round stream, each shard padded to whole blocks of 64 (13_freyn R455). -/
def streamElements (i : Image) (a : AssocCfg) : Nat :=
  (a.roundShards.map (fun n => ((i.shards[n]?.map ShardCfg.count).getD 0 + 63) / 64 * 64)).sum
/-- The buffers of the association lie in the far tier, one receive buffer per other member (13_freyn R458). -/
def imageBuffersOk (s : State) (i : Image) (a : AssocCfg) : Bool :=
  let n := streamElements i a
  let stream := n / 64 * (8 * a.rate)
  let others := (maskSites a.members).filter (· != a.site)
  s.farRegion a.offcutBase0 (4 * n) && s.farRegion a.offcutBase1 (4 * n) && s.farRegion a.sendBase stream && s.farRegion a.pendingBase stream &&
  s.farRegion a.journalBase 64 && a.recvBases.all (fun r => others.contains r.1 && s.farRegion r.2 stream) &&
  others.all (fun t => (a.recvBases.filter (fun r => r.1 == t)).length == 1)

/-- ASSOCIATION (13_freyn R447, R450, R452, R458). -/
def imageAssocOk (s : State) (i : Image) : Bool :=
  i.assoc.all (fun a =>
    let n := (maskSites a.members).length
    a.assoc < 2 ^ 32 && a.site ≤ 15 && a.members < 2 ^ 16 && within 2 16 n && bitOf a.members a.site && within (n / 2 + 1) n a.q &&
    within 1 (2 ^ 32 - 1) a.h && within 10 86400 a.deadline && within 10 3600 a.closeWait && within 1 3600 a.fetchLimit &&
    [4, 6, 8].contains a.rate && (a.carried == 9 || a.carried == 3) && within 1 8 a.staleness.length && within 100 3200000 a.mbps &&
    a.weights.length == 3 && a.weights.all (within 1 16) && imageBuffersOk s i a && a.priority.all (bitOf a.members) && a.priority.Nodup &&
    a.dscp.length ≤ 4 && a.dscp.all (· < 64) && a.roundShards.all (· < i.shards.length) && a.roundShards.Nodup &&
    a.routes.all (fun r => s.wanExists r.port && bitOf a.members r.site && r.site != a.site) &&
    (maskSites a.members).all (fun t => t == a.site ||
      (match a.routes.find? (fun r => r.site == t && !r.second), a.routes.find? (fun r => r.site == t && r.second) with
       | some p, some q => p.port != q.port
       | _, _ => false)))

/-- HOST (18_configuration R636, R640, R644). -/
def imageHostOk (s : State) (i : Image) : Bool :=
  within 4096 (64 * 2 ^ 30) i.intakeSize && i.intakeBase + i.intakeSize ≤ imageCopyOff && i.rings.length ≤ 16 &&
  i.rings.all (fun r => within 2 1024 r.nb && r.bufSize % 4096 == 0 && within 4096 (2 ^ 30) r.bufSize && r.consumers.length ≤ 64 &&
    r.consumers.all (fun c => s.coreExists c.1 && c.2 < 64) && s.coreExists r.releaseCore && r.releaseCtr < 64) &&
  (i.rings.map (fun r => r.nb * r.bufSize)).sum ≤ i.intakeSize &&
  i.planRings.all (fun p => within 2 15 p.ring && 0x1124000 ≤ p.base && p.base + p.nr * p.recSize ≤ 0x2000000 && 64 ≤ p.recSize && 1 ≤ p.nr &&
    s.coreExists p.core && p.written < 64 && p.free < 64) &&
  (i.planRings.map (·.ring)).Nodup && disjoint (i.planRings.map (fun p => (p.base, p.nr * p.recSize)))

/-- Role BENCH (17_module_signals R611). -/
def imageRoleOk (s : State) (i : Image) : Bool := s.power.role != 1 || (i.axes == [1, 1, 1, 1] && i.assoc.all (fun a => a.routes.isEmpty))

/-- The image breaks no content rule. -/
def imageAccepted (s : State) (i : Image) : Bool :=
  let t := { s with image := some i }
  imageHeaderOk s i && imageSectionsOk s i && imageModuleOk i && imageGovernorOk i && imageLaunchOk s i && i.cores.all (imageCoreOk i) && imageLayersOk i && imagePoolOk i &&
  imageShardsOk t i && imageCheckpointOk i && imageAssocOk s i && imageHostOk s i && imageRoleOk s i

end Sys2Proof.Machine
end

