-- ==== Sys2Proof/Machine/Ports.lean ====
section
/-! DEFINITION. Torus ports: training, identity, lanes, frames and replay (12_torus R401 to R420, R441, R442). -/

namespace Sys2Proof.Machine

open Sys2Proof

/-! ## Lanes (R402) -/

/-- Set bits of a lane mask, lowest first. -/
def lanesOf (mask : Nat) : List Nat := (List.range 17).filter (bitOf mask)
/-- Logical width of a number of good lanes. -/
def widthOf (n : Nat) : Nat := if 16 ≤ n then 16 else if 12 ≤ n then 12 else if 8 ≤ n then 8 else 0
/-- A lane passes when its bit error ratio before FEC is at most 2 × 10^−5 over at least 2^33 bits. -/
def lanePasses (t : LaneTest) : Bool := 2 ^ 33 ≤ t.bits && 50000 * t.errors ≤ t.bits
/-- Mask of the lanes that pass, tests in lane order. -/
def passMask (tests : List LaneTest) : Nat := ((tests.take 17).zipIdx.map (fun (t, l) => if lanePasses t then 2 ^ l else 0)).sum
/-- Lanes of a mask that did not fail at test (16_power R573). -/
def State.fusedLanes (s : State) (port mask : Nat) : Nat :=
  ((lanesOf mask).filter (fun l => !bitOf (s.fuses.laneFail.getD port 0) l)).foldl (fun m l => m + 2 ^ l) 0
/-- Lane 16 carries a logical lane (R444). -/
def Port.spareUsed (x : Port) : Bool := x.width != 0 && ((lanesOf x.good).take x.width).contains 16

/-- The port's axis floor. -/
def State.floor (s : State) (port : Nat) : Nat := s.img.floors.getD (port / 2) 8

/-- A port takes a lane mask: its width, and whether it lies below its floor (R441); an event record says that it fell
below (R442). -/
def State.setLanes (s : State) (port mask : Nat) : State :=
  let was := s.port port
  let w := widthOf (lanesOf mask).length
  let low := w < s.floor port
  let s := s.modPort port (fun x => { x with good := mask, width := w, belowFloor := low })
  let s := s.when (low && !was.belowFloor && was.state == 6) (fun s => s.event 0x0030 0 port w 0)
  if was.state = 6 && low ≠ was.belowFloor then (s.portServiceChanged port).continueStart else s

/-! ## Training (R401) -/

/-- An attempt has failed: the port returns to DETECT 100 ms later. -/
def State.attemptFails (s : State) (port reason : Nat) : State :=
  s.modPort port (fun x => { x with failing := true, retryAt := s.now + 100000000, downReason := if reason = 0 then x.downReason else reason,
                                    width := 0, good := 0, belowFloor := false, nbrId := none, ownSent := false, bothAt := none })
/-- An attempt step acts on a port in a state, unless its attempt has failed. -/
def State.inState (s : State) (port st : Nat) (f : State → State) : State :=
  if (s.port port).state = st && !(s.port port).failing then f s else s

/-- DETECT (R401): `lanes` is the mask of lanes that detect the neighbour. -/
def execDetect (port lanes : Nat) (s : State) : Out :=
  .next ((s.retryPort port).inState port 1 (fun s => if 8 ≤ (lanesOf lanes).length then s.portState port 2 else s.attemptFails port 0))
/-- EQUALIZE (R401). -/
def execEqualize (port : Nat) (ok : Bool) (s : State) : Out :=
  .next (s.inState port 2 (fun s => if ok then s.portState port 3 else s.attemptFails port 0))
/-- LANE_MAP (R401, R402): `tests` of the lanes that this end receives on, and the good-lane mask that the neighbour sends. -/
def execLaneMap (port : Nat) (tests : List LaneTest) (goodOut : Nat) (s : State) : Out :=
  .next (s.inState port 3 (fun s =>
    let mask := s.fusedLanes port (passMask tests &&& goodOut)
    if 8 ≤ (lanesOf mask).length then (s.setLanes port mask).portState port 4 else s.attemptFails port 3))
/-- Bound of an attempt in a state, in ns. -/
def attemptBound (st : Nat) : Nat := match st with | 1 => 10000000 | 2 => 200000000 | 3 => 20000000 | 4 => 5000000 | _ => 1000000

/-- ATTEMPT_TIMEOUT (R401): in EXCHANGE the bound counts from the moment both ends have sent a configured identity (R406). -/
def execAttemptTimeout (port : Nat) (s : State) : Out :=
  .next (
    let x := s.port port
    let from? := if x.state = 5 then x.bothAt else if 1 ≤ x.state && x.state ≤ 4 then some x.since else none
    if !x.failing && from?.any (fun t => t + attemptBound x.state < s.now) then s.attemptFails port 5 else s)

/-! ## Identity (R404 to R406) -/

/-- The image is verified: the port sends its identity from it (R406). -/
def State.configured (s : State) : Bool := s.image.isSome && s.img.job != 0
def State.identity (s : State) (port : Nat) : PortIdentity :=
  if s.configured then { site := s.img.site, job := s.img.job, node := s.img.node, port := port, feed := s.power.feed, serial := s.fuses.serial }
  else { site := 0, job := 0, node := 0, port := port, feed := s.power.feed, serial := s.fuses.serial }

/-- A port comes UP: full credits, an empty replay buffer; its width is held to the image's floor (R441), and where it is in service, its
service is told to the site. -/
def State.portUp (s : State) (port : Nat) (id : PortIdentity) : State :=
  let s := (s.portState port 6).modPort port (fun x => { x with
    nbrPort := id.port, nbrNode := id.node, nbrFeed := id.feed, txSeq := 0, rxSeq := 0xFFFF, nak := false, replay := [], credits := fullCredits,
    owed := [], partBytes := [], lastFrameAt := s.now, lastRetest := s.now, switch := none, switching := false, retraining := false,
    laneCmd := none, toldAck := 0xFFFF, toldNak := false, belowFloor := decide (x.width < s.floor port) })
  (if s.portInService port then s.portServiceChanged port else s).continueStart

/-- Both ends have sent a configured identity: UP, or MISCABLED (R404). -/
def State.checkIdentity (s : State) (port : Nat) : State :=
  match (s.port port).nbrId with
  | none => s
  | some id =>
    if (s.port port).state ≠ 5 || (s.port port).failing || !(s.port port).ownSent || id.job = 0 then s
    else
      let s := s.modPort port (fun x => { x with bothAt := some (x.bothAt.getD s.now) })
      if id.site = s.img.site && id.job = s.img.job && id.port = port ^^^ 1 && id.node = s.neighbour s.img.node port then s.portUp port id
      else
        ((s.portState port 7).modPort port (fun x =>
          { x with downReason := 4, nbrPort := id.port, nbrNode := id.node, nbrFeed := id.feed })).event 0x0030 0 port 0 0

/-- The port in EXCHANGE sends its identity. -/
def State.sendIdentity (s : State) (port : Nat) : State :=
  ((s.sendMsg port (.identity (s.identity port))).modPort port (fun x => { x with idSentAt := s.now, ownSent := s.configured })).checkIdentity port

/-- ALIGN (R401): frames start, and the port sends its identity. -/
def execAlign (port : Nat) (ok : Bool) (s : State) : Out :=
  .next (s.inState port 4 (fun s => if ok then
      ((s.portState port 5).modPort port (fun x => { x with nbrId := none, ownSent := false, bothAt := none })).sendIdentity port
    else s.attemptFails port 0))

/-- EXCHANGE (R404): the neighbour's identity arrives. -/
def execExchange (port : Nat) (id : PortIdentity) (s : State) : Out :=
  .next (s.inState port 5 (fun s => (s.modPort port (fun x => { x with nbrId := some id })).checkIdentity port))

/-- IDENTITY_SEND (R404, R406): an identity every 100 µs in EXCHANGE. -/
def execIdentitySend (port : Nat) (s : State) : Out :=
  .next (s.inState port 5 (fun s => if (s.port port).idSentAt = 0 || (s.port port).idSentAt + 100000 ≤ s.now then s.sendIdentity port else s))

/-- CONFIGURED_WAIT_LIMIT (R406). -/
def execConfiguredWaitLimit (port : Nat) (s : State) : Out :=
  .next (s.inState port 5 (fun s =>
    let x := s.port port
    if x.nbrId.all (fun id => id.job == 0) && x.since + 600000000000 ≤ s.now then
      (s.portState port 1).event 0x0030 Cause.timeout port 0 0
    else s))

/-- MISCABLED_RETRY (R401). -/
def execMiscabledRetry (port : Nat) (s : State) : Out :=
  .next (if (s.port port).state = 7 && (s.port port).since + 1000000000 ≤ s.now then s.portState port 1 else s)

/-! ## Going down (R407) -/

/-- An UP port goes down: its replay buffer and what waits for it are discarded, and where it was in service, the site is told (R431). -/
def State.portDown (s : State) (port reason : Nat) : State :=
  let x := s.port port
  if x.state ≠ 6 then s
  else
    let lost := x.waiting.length
    let served := s.portInService port
    let s := (s.portState port 1).modPort port (fun x => { x with
      downReason := reason, downs := x.downs + 1, replay := [], waiting := [], partBytes := [], credits := [], owed := [],
      switch := none, switching := false, retraining := false, laneCmd := none, badPkt := x.badPkt + BitVec.ofNat 32 lost })
    let s := s.event 0x0030 Cause.linkDown port reason 0
    if served then s.portServiceChanged port else s

/-- NO_VALID_FRAME (R407): 1 µs without a valid frame, outside a lane switch and an in-service retrain. -/
def execNoValidFrame (port : Nat) (s : State) : Out :=
  .next (
    let x := s.port port
    if x.state = 6 && !x.switching && !x.retraining && x.lastFrameAt + 1000 < s.now then s.portDown port 1 else s)

/-! ## Lane switches (R408) -/

/-- A lane command leaves in the link slot of the port's next frame (R410). -/
def State.sendLaneCmd (s : State) (port cmd mask seq : Nat) : State :=
  (s.modPort port (fun x => { x with laneCmd := some (cmd, mask, seq) })).runPort port

/-- This end proposes a mask; fewer than 8 lanes take the port down. The frame number is a free value after the next frame's. -/
def State.proposeMask (s : State) (port mask : Nat) : State :=
  if (lanesOf mask).length < 8 then s.portDown port 3
  else
    let seq := ((s.port port).txSeq + (Config.switchSeq s.free).toNat % 1024) % 65536
    ((s.modPort port (fun x => { x with switch := some (mask, seq, false) })).sendLaneCmd port 1 mask seq).draw

/-- LANE_ERROR_LIMIT (R408): more than 1 correction in 10^4 symbols over 1 ms takes the lane out of service. -/
def execLaneErrorLimit (port lane corrections symbols : Nat) (s : State) : Out :=
  .next (
    let x := s.port port
    if x.state = 6 && bitOf x.good lane && symbols < corrections * 10000 then s.proposeMask port (x.good - 2 ^ lane) else s)

/-- LANE_RETEST (R408): failed lanes that pass by R402 at both ends come back. -/
def execLaneRetest (port : Nat) (results : LaneResults) (s : State) : Out :=
  .next (
    let x := s.port port
    if x.state = 6 && (lanesOf x.good).length < 17 && x.lastRetest + 10000000000 ≤ s.now then
      let s := s.modPort port (fun x => { x with lastRetest := s.now })
      let mask := x.good ||| s.fusedLanes port (passMask results.tests &&& results.goodOut)
      if mask = x.good then s else s.proposeMask port mask
    else s)

/-- The neighbour's proposal is accepted. -/
def State.acceptMask (s : State) (port mask seq : Nat) : State :=
  if (s.port port).state = 6 && 8 ≤ (lanesOf mask).length then
    (s.modPort port (fun x => { x with switch := some (mask, seq, false) })).sendLaneCmd port 2 mask seq
  else s
/-- The neighbour has accepted this end's proposal: the switch is agreed, and SWITCH says so. -/
def State.maskAccepted (s : State) (port mask seq : Nat) : State :=
  if (s.port port).switch = some (mask, seq, false) then
    (s.modPort port (fun x => { x with switch := some (mask, seq, true) })).sendLaneCmd port 3 mask seq
  else s
/-- The proposer's SWITCH: the switch is agreed at this end too. -/
def State.switchAgreed (s : State) (port mask seq : Nat) : State :=
  if (s.port port).switch = some (mask, seq, false) then s.modPort port (fun x => { x with switch := some (mask, seq, true) }) else s

/-- LANE_PROPOSE (R408). -/
def execLanePropose (port mask switchSeq : Nat) (s : State) : Out := .next (s.acceptMask port mask switchSeq)
/-- LANE_ACCEPT (R408). -/
def execLaneAccept (port mask switchSeq : Nat) (s : State) : Out := .next (s.maskAccepted port mask switchSeq)

/-- Frames from ACK + 1 on are sent again, in order (R412); a TC0 frame at its second replay is counted (R420). -/
def State.replayFrames (s : State) (port : Nat) : State :=
  let x := s.port port
  let late := (x.replay.filter (fun f => f.tc0 && f.times == 1)).length
  let s := { s with torus := x.replay.foldl (fun (t : Torus) (f : HeldFrame) => t.emit port f.bytes) s.torus }
  s.modPort port (fun x => { x with
    replays := x.replays + BitVec.ofNat 32 x.replay.length, tc0Late := x.tc0Late + BitVec.ofNat 32 late,
    replay := x.replay.map (fun f => { f with replays := f.replays + 1, times := f.times + 1 }) })

/-- The next frame has the agreed number or a later one, or nothing waits to be sent before it (log entry 127). -/
def Port.atSwitch (x : Port) (seq : Nat) : Bool := seqLe seq x.txSeq || x.waiting.isEmpty

/-- LANE_SWITCH (R408): at the agreed frame both directions change mapping. Frames in flight are replayed, and frames go on. -/
def execLaneSwitch (port : Nat) (s : State) : Out :=
  .next (match (s.port port).switch with
    | some (mask, seq, true) =>
      if (s.port port).state = 6 && (s.port port).atSwitch seq then
        let s := s.modPort port (fun x => { x with switch := none, switching := true, since := s.now })
        let s := (s.setLanes port mask).replayFrames port
        { s with torus := s.torus.sendIdle port }
      else s
    | _ => s)

/-- LANE_SWITCH_TIMEOUT (R407): valid frames have not resumed within 10 µs. -/
def execLaneSwitchTimeout (port : Nat) (s : State) : Out :=
  .next (
    let x := s.port port
    if x.state = 6 && x.switching && x.since + 10000 < s.now then s.portDown port 1 else s)

/-! ## Frames (R409 to R412, R416) -/

/-- A packet that a frame has delivered: for this module it waits in its buffer, otherwise it goes on (R428). Firmware takes MESSAGE and
LINK_STATE packets at once, and their buffer is free (R416, R423). -/
def State.deliver (s : State) (port : Nat) (p : Packet) : State :=
  let free (s : State) : State := s.modPort port (fun x => { x with owed := x.owed.upd (4 * p.tc + p.vc) (· + p.cost) })
  if p.dst ≠ s.img.node then (free s).forward (some port) p
  else if p.kind < 7 then s.modPort port (fun x => { x with inbox := x.inbox ++ [p] })
  else if s.olderEpoch p then (free s).badPacket port
  else ((free s).noteEpoch p).modTorus (fun t => { t with msgIn := t.msgIn ++ [(port, p)] })

/-- Packets of a byte stream; what is left is a packet not yet whole. A header that breaks R423 is discarded. -/
def State.parsePackets (port : Nat) : Nat → State → List Byte → State
  | 0, s, bs => s.modPort port (fun x => { x with partBytes := bs })
  | fuel + 1, s, bs =>
    if bs.length < 32 then s.modPort port (fun x => { x with partBytes := bs })
    else
      let w := leNat (bs.take 32)
      if w = 0 then State.parsePackets port fuel s (bs.drop 32)
      else
        let units := bitsOf w 16 8
        if 128 < units then State.parsePackets port fuel (s.badPacket port) (bs.drop 32)
        else if bs.length < 32 * (units + 1) then s.modPort port (fun x => { x with partBytes := bs })
        else
          let rest := bs.drop (32 * (units + 1))
          if !pktHeaderOk w then State.parsePackets port fuel (s.badPacket port) rest
          else State.parsePackets port fuel (s.deliver port (Packet.ofHeader w ((bs.drop 32).take (32 * units)))) rest

/-- The link slot of a frame received in order: acknowledged frames leave the replay buffer, NAK replays the rest or, after eight replays
in a row, starts a retrain, credits return, and lane commands act (R408, R410, R412, R413, R416). -/
def State.linkSlotIn (s : State) (port slot : Nat) : State :=
  let ack := bitsOf slot 16 16
  let s := s.modPort port (fun x => { x with
    replay := x.replay.filter (fun f => !seqLe f.seq ack),
    credits := (List.range 16).foldl (fun t f => t.upd f (· + bitsOf slot (64 + 12 * f) 12)) x.credits })
  let s := if !bitOf slot 32 then s
    else if (s.port port).replay.any (fun f => 8 ≤ f.replays) then s.modPort port (fun x => { x with retraining := true, since := s.now })
    else s.replayFrames port
  match bitsOf slot 33 3 with
  | 1 => s.acceptMask port (bitsOf slot 256 17) (bitsOf slot 48 16)
  | 2 => s.maskAccepted port (bitsOf slot 256 17) (bitsOf slot 48 16)
  | 3 => s.switchAgreed port (bitsOf slot 256 17) (bitsOf slot 48 16)
  | _ => s

/-- A valid frame: taken where its number is the next one, and discarded with its link slot otherwise, a later one with NAK (R412). One
without payload between two packets is idle and uses no number (log entry 71). -/
def State.frameIn (s : State) (port : Nat) (bytes : List Byte) : State :=
  let slot := leNat (bytes.drop 1216)
  let seq := bitsOf slot 0 16
  let payload := bytes.take 1216
  let next := ((s.port port).rxSeq + 1) % 65536
  let part := (s.port port).partBytes
  let s := s.modPort port (fun x => { x with lastFrameAt := s.now, switching := false })
  if seq ≠ next then (if seqLe seq (s.port port).rxSeq then s else s.modPort port (fun x => { x with nak := true }))
  else if payload.all (· == 0) && part.isEmpty then (s.modPort port (fun x => { x with nak := false })).linkSlotIn port slot
  else
    let s := s.modPort port (fun x => { x with rxSeq := seq, nak := false, partBytes := [] })
    State.parsePackets port 200 (s.linkSlotIn port slot) (part ++ payload)

/-- The symbols that arrive of the block that a frame is sent in: each may be wrong by what the way adds to it. -/
def fecArrive (count : Nat) (sent : List Byte) (errors : List Nat) : List Nat :=
  ((fecBlock count (leNat sent)).zip errors).map (fun p => p.1 ^^^ p.2)

/-- FRAME (R409, R412): a block is received. Its codewords are decoded and counted, and the frame's CRC is checked; a port in a
retrain takes none (R413). What waits is sent then, and what the link slot has to tell. -/
def execFrame (port count : Nat) (sent : List Byte) (errors : List Nat) (s : State) : Out :=
  .next (
    if (s.port port).state ≠ 6 || (s.port port).retraining then s
    else
      let r := fecReceive (fecArrive count sent errors)
      let s := s.modPort port (fun x => { x with fecFixed := x.fecFixed + BitVec.ofNat 32 r.fixed, fecLost := x.fecLost + BitVec.ofNat 32 r.lost })
      let bytes := (r.frame.map (leBytes 1280)).getD []
      (if r.frame.isNone || leNat (bytes.drop 1276) ≠ (crc32 (bytes.take 1276)).toNat then s.modPort port (fun x => { x with nak := true })
       else s.frameIn port bytes).runPort port)

/-- IN_SERVICE_RETRAIN (R413): within 50 ms, or the port goes down. -/
def execInServiceRetrain (port : Nat) (ok : Bool) (s : State) : Out :=
  .next (
    let x := s.port port
    if x.state ≠ 6 || !x.retraining then s
    else if ok && x.since + 50000000 ≥ s.now then
      ((s.modPort port (fun x => { x with retraining := false, lastFrameAt := s.now,
                                          replay := x.replay.map (fun f => { f with replays := 0 }) })).replayFrames port).runPort port
    else s.portDown port 2)

/-- Payload bytes of a port's width in 10 µs (R411). -/
def windowBytes (width : Nat) : Nat := match width with | 16 => 4006000 | 12 => 3004000 | 8 => 2003000 | _ => 0

/-- TC0_WINDOW (R419, R420): TC0 bytes offered in a window of 10 µs. -/
def execTc0Window (port tc0Bytes : Nat) (s : State) : Out :=
  .next (if (s.port port).state = 6 && 2 * windowBytes (s.port port).width < 100 * tc0Bytes then
      s.modPort port (fun x => { x with tc0Over := x.tc0Over + 1 })
    else s)

end Sys2Proof.Machine
end

