-- ==== Sys2Proof/Machine/Boot.lean ====
section
/-! DEFINITION. What a Cold and a Full reset keep; firmware and configuration slots; the steps from input to READY (16_power
R572 to R582; 17_module_signals R607, R612; 18_configuration R616 to R630). -/

namespace Sys2Proof.Machine

open Sys2Proof

/-! ## Faults of the bring-up (R580) -/

/-- A step fails its condition: event record and FAULT; no step is repeated until a reset. -/
def State.enterFault (s : State) (type : Nat) (cause : Cause) (arg : Nat) : State := (s.event type cause 0 arg 0).setPwr .fault cause

/-! ## Resets (R582) -/

/-- The RESET record of a request (19_event_recorder R664). -/
def ResetSource.code : ResetSource → Nat
  | .input => 0 | .resetInput => 1 | .i3c => 2 | .mailbox => 3 | .firmware => 4 | .restore => 5 | .thermalTrip => 6
def State.resetRecord (s : State) (kind : Nat) (src : ResetSource) (die : Nat) : State :=
  s.report 0x8002 (leBytes 1 kind ++ leBytes 1 (ResetSource.code src) ++ leBytes 1 die ++ zeros 5)
/-- PWR.LAST_RESET (R597). -/
def State.lastReset (s : State) (kind : Nat) (src : ResetSource) (die : Nat) : State :=
  s.modPower (fun p => { p with lastKind := kind, lastSource := src, lastDie := die })

/-- What lives through a Cold reset: fuses, flash, the levels outside the module. -/
def State.coldBase (s : State) : State :=
  let p := s.power
  ({ pending := s.pending, bus := s.bus, free := s.free, fuses := s.fuses, flash := s.flash
     power := { resetNLow := p.resetNLow, resetHeld := p.resetHeld, tamper := p.tamper, perstLow := p.perstLow, refclkOk := p.refclkOk,
                vin := p.vin, iin := p.iin, vbulk := p.vbulk, hotDie := p.hotDie, hotC := p.hotC,
                readyN := p.readyN, faultN := p.faultN, throttleN := p.throttleN }
     host := { ibi := s.host.ibi, i3cOut := s.host.i3cOut } } : State).settle

/-- What lives through a Full reset: that, the tiers in self-refresh, the standby domain and the registers of R559 and R597
that are kept. Package time counts from 0. -/
def State.fullBase (s : State) : State :=
  let h := s.host
  let c := s.sec
  { pending := s.pending, bus := s.bus, free := s.free, fuses := s.fuses, flash := s.flash
    mem := s.mem.filter (fun x => addrSpace x.1 == 1 || addrSpace x.1 == 2)
    tiers := { lineErrs := s.tiers.lineErrs }
    time := { released := true }
    sec := { identityErased := c.identityErased, kekClosed := c.kekClosed, alarm := c.alarm, alarms := c.alarms, authFails := c.authFails,
             authCount := c.authCount }
    power := { s.power with
      boot := .standby, full := true, wave := 0, diesUp := 0, thermalCapped := false, resets := [], restPhase := 0, wakeWaves := 0,
      zeroing := false, stopIssue := false }
    host := { ibi := h.ibi, i3cAddr := h.i3cAddr, i3cArmedAt := h.i3cArmedAt, i3cOffset := h.i3cOffset, i3cOut := h.i3cOut } }

/-! ## Firmware slots (18_configuration R622, R623, R628) -/

/-- Slot bit: A false, B true. -/
def slotBit (n : Nat) : Bool := n != 0
/-- The header check of R623, over bytes that hold a header. -/
def State.fwHeaderOk (s : State) (bs : Memory) : Bool :=
  let key := byteField bs 7 1
  let len := byteField bs 8 4
  byteField bs 0 4 == 0x5746444B && byteField bs 4 2 == 1 && (byteField bs 6 1).testBit (b2n s.fuses.variantM) && key < 2 &&
  !s.fuses.vendorRevoke.testBit key && sha384 (bs.read 24 97) == s.fuses.vendorKeyHash.getD key [] && s.fuses.rollback ≤ byteField bs 12 4 &&
  len ≤ 48 * 2 ^ 20 && 96 ≤ len
/-- The signature: the last 96 bytes, over all before them. -/
def fwSignatureOk (bs : Memory) : Bool :=
  let len := byteField bs 8 4
  ecdsaOk (bs.read 24 97) (bs.read 0 (len - 96)) (bs.read (len - 96) 96)
/-- A slot passes the boot ROM's checks. A header not yet written reads erased (R617). -/
def State.fwSlotOk (s : State) (b : Bool) : Bool :=
  let f := s.fwSlotOf b
  f.header && s.fwHeaderOk f.bytes && fwSignatureOk f.bytes

/-- The boot record: the valid copy with the larger SEQ; none: slot A, no trial (log entry 27). -/
def State.bootRecord (s : State) : BootRecord :=
  match s.flash.boot0, s.flash.boot1 with
  | some a, some b => if a.seq < b.seq then b else a
  | some a, none => a
  | none, some b => b
  | none, none => {}
/-- The boot record is written to F0 and then to F1 (R616). -/
def State.writeBoot (s : State) (r : BootRecord) : State :=
  let r := { r with seq := s.bootRecord.seq + 1 }
  s.modFlash (fun f => { f with boot0 := some r, boot1 := some r })

/-- The boot ROM's choice (R628): the slot to run, and whether it runs in trial; none when neither passes. -/
def State.chooseFirmware (s : State) : State :=
  let r := s.bootRecord
  let first : State × Nat × Bool :=
    if r.trial && r.boots = 0 then (s.writeBoot { r with boots := 1 }, r.active, true)
    else if r.trial then ((s.writeBoot { r with active := r.previous, trial := false }).event 0x8080 0 0 r.active 0, r.previous, false)
    else (s, r.active, false)
  match first with
  | (s, n, trial) =>
    let b := slotBit n
    if s.fwSlotOk b then s.modHost (fun h => { h with fwSlot := b, fwTrial := trial })
    else if s.fwSlotOk (!b) then (s.modHost (fun h => { h with fwSlot := !b, fwTrial := false })).event 0x8080 Cause.authFail 0 n 0
    else (s.modHost (fun h => { h with noFirmware := true })).enterFault 0x8080 Cause.authFail n

/-! ## Configuration slots (18_configuration R618 to R621) -/

/-- A candidate: MAGIC, FORMAT and a LENGTH that fits. -/
def CfgSlot.candidate (c : CfgSlot) : Bool :=
  c.header && byteField c.bytes 0 4 == 0x4943444B && byteField c.bytes 4 2 == 1 && byteField c.bytes 8 4 ≤ 160 * 2 ^ 20
def CfgSlot.seqNo (c : CfgSlot) : Nat := byteField c.bytes 16 8
/-- The image that a slot holds: header fields and section types from its bytes, the sections' content as log entry 6 says. -/
def CfgSlot.parsed (c : CfgSlot) : Option Image :=
  let f (off n : Nat) : Nat := byteField c.bytes off n
  c.content.map (fun i => { i with
    magic := f 0 4, format := f 4 2, sectionTypes := (List.range (f 6 2)).map (fun k => f (256 + 32 * k) 2), length := f 8 4, job := f 12 4,
    imageSeq := f 16 8, variant := f 24 1, ownerKey := f 25 1, startHold := f 26 1 != 0, ownerPub := Memory.read c.bytes 32 97 })
/-- The signature of R618 and R620 step 4, by an unrevoked owner key. -/
def State.cfgSignatureOk (s : State) (c : CfgSlot) : Bool :=
  let len := byteField c.bytes 8 4
  let pub := Memory.read c.bytes 32 97
  96 ≤ len && s.ownerKeyOk (byteField c.bytes 25 1) pub && ecdsaOk pub (Memory.read c.bytes 0 (len - 96)) (Memory.read c.bytes (len - 96) 96)
/-- Sections lie in the image at multiples of 64, and START is AUTO or HOLD. -/
def CfgSlot.tableOk (c : CfgSlot) : Bool :=
  let n := byteField c.bytes 6 2
  1 ≤ n && byteField c.bytes 26 1 ≤ 1 && (List.range n).all (fun k =>
    let off := byteField c.bytes (256 + 32 * k + 8) 8
    off % 64 == 0 && off + byteField c.bytes (256 + 32 * k + 16) 8 + 96 ≤ byteField c.bytes 8 4)
/-- Why an image is refused: NONE, AUTH_FAIL or PLAN_REJECT (R621). -/
def State.cfgRefusal (s : State) (c : CfgSlot) : Cause :=
  if s.fuses.lifecycle ≠ 2 || !s.cfgSignatureOk c then Cause.authFail
  else match c.parsed with
    | some i => if c.tableOk && imageAccepted s i then 0 else Cause.planReject
    | none => Cause.planReject
/-- Candidates in the order they are read: the larger IMAGE_SEQ first, A on equality. -/
def State.cfgOrder (s : State) : List Bool :=
  let both := if s.flash.cfgA.seqNo < s.flash.cfgB.seqNo then [true, false] else [false, true]
  both.filter (fun b => (s.cfgSlotOf b).candidate)
/-- Slots are read until one is accepted: its content is the image copy. -/
def State.readCfg : List Bool → State → State
  | [], s => s.enterFault 0x8080 s.host.lastCause 0
  | b :: rest, s =>
    let c := s.cfgSlotOf b
    match s.cfgRefusal c with
    | 0 => { s.modHost (fun h => { h with cfgSlot := b }) with image := c.parsed, copyGood := true }
    | cause =>
      State.readCfg rest ((s.modHost (fun h => { h with lastCause := cause, cfgFallback := true })).event 0x8080 cause 0 (b2n b) 0)

/-! ## Steps 1 to 3 (R575) -/

/-- INPUT_START: the hot-swap switch closes and charges the bulk. A latched fault of R566 keeps it open; after a thermal
shutdown only a rising input counts (R595). -/
def execInputStart (mv : Nat) (s : State) : Out :=
  .next (
    let p := s.power
    let latch := p.faultLatched && (!p.latchThermal || 4800 ≤ p.vin)
    if p.boot ≠ .off || (p.holdup ≠ 0 && p.holdup ≠ 4) || latch || mv < 48000 || 66000 < mv then s
    else
      let s' := (s.coldBase).modPower (fun q => { q with boot := .charging, switchOpen := false, vin := mv / 10 })
      if p.coldAsked then s'.lastReset 0 p.lastSource 0
      else (s'.lastReset 0 .input 0).resetRecord 0 .input 0)

/-- The code of a strap pin (17_module_signals R609): 15 − floor(16 r), from 0 to 15, with r the pin's voltage over VSTBY; an open
pin reads 0. -/
def strapCode : StrapPin → Nat
  | .unconnected => 0
  | .level pin vstby => 15 - 16 * pin / vstby
/-- The code that pin `i` of FEED0 to FEED3, SLOT0, SLOT1 and ROLE reads. -/
def strapAt (pins : List StrapPin) (i : Nat) : Nat := strapCode (pins.getD i .unconnected)

/-- Digits of 4 bits, lowest first. -/
def nibbles : List Nat → Nat
  | [] => 0
  | c :: cs => c % 16 + 16 * nibbles cs
/-- Straps (17_module_signals R610): codes of FEED0 to FEED3, SLOT0, SLOT1 and ROLE. -/
def strapField (pins : List StrapPin) (first n : Nat) : Nat := nibbles (((pins.drop first).take n).map strapCode)

/-- BULK_CHARGED: package time is released at 0; the bulk is measured and the straps are read twice (R567, R612). -/
def execBulkCharged (capUf : Nat) (straps straps2 : List StrapPin) (s : State) : Out :=
  .next (
    if s.power.boot ≠ .charging || s.power.resetHeld then s
    else
      let role := strapAt straps 6
      let s := (s.modPower (fun p => { p with
        boot := .standby, coldAsked := false, cap := capUf % 65536, vbulk := p.vin, feed := strapField straps 0 4, slot := strapField straps 4 2, role := role }))
      let s := { s with time := { released := true } }
      let differ := (List.range 7).filter (fun i => strapAt straps i != strapAt straps2 i)
      let named := (differ ++ (if 2 ≤ role && !differ.contains 6 then [6] else [])).foldl (fun m i => m + 2 ^ i) 0
      if named = 0 then s else (s.startRecorder).enterFault 0x8080 Cause.planReject named)

/-- Set bits of a mask. -/
def popcount (n m : Nat) : Nat := ((List.range n).filter (bitOf m)).length
/-- Every die has the clusters and cores its variant needs (R574). -/
def State.repairOk (s : State) : Bool :=
  (List.range 8).all (fun d =>
    let good := s.fuses.clusterGood.getD d 0
    s.clustersPerDie ≤ popcount 9 good &&
    (List.range 9).all (fun k => !bitOf good k || 16 ≤ popcount 18 ((s.fuses.coreGood.getD d []).getD k 0)))

/-- HEADSTOCK_RAILS_GOOD: fuses (15_security R529), identity keys (R534), a tamper at power-up (17_module_signals R607), repair
maps (R572, R574), firmware slot. -/
def execHeadstockRailsGood (s : State) : Out :=
  .next (
    if s.power.boot ≠ .standby || s.power.state == .fault then s
    else
      let s := (s.modPower (fun p => { p with boot := .headstock })).startRecorder
      let s := s.when (!s.fuses.fuseCrcOk) (·.raiseAlarm 5)
      let s := s.when (!s.sec.identityErased && !s.kekClosed) (·.modSec (fun c => { c with identityKeys := true }))
      let s := s.when (s.power.tamper && (!s.power.full || !s.sec.identityErased)) (·.raiseAlarm 4)
      if !s.fuses.fuseCrcOk then s.enterFault 0x8080 0 0
      else if !s.fuses.repairCrcOk then s.enterFault 0x8080 0 1
      else if !s.repairOk then s.enterFault 0x8080 0 2
      else s.chooseFirmware)

/-! ## Steps 4 and 5 -/

/-- The port is fused off (12_torus R403): every lane of it failed at test (16_power R573). -/
def State.portFused (s : State) (port : Nat) : Bool := s.fuses.laneFail.getD port 0 == 0x1FFFF

/-- FIRMWARE_RUNNING: channels and ports start training, but for ports fused off; the UDS read path closes; a trial's 10 min begin (R624). -/
def execFirmwareRunning (s : State) : Out :=
  .next (
    if s.power.boot ≠ .headstock || s.power.state == .fault then s
    else
      let s := (s.modPower (fun p => { p with boot := .firmware })).modHost (fun h => { h with trialAt := s.now })
      let s := s.modTiers (fun t => { t with channels := [] })
      let s := s.each (List.range 8) (fun s p => s.portState p (if s.portFused p then 0 else 1))
      s.each (List.range 4) (fun s p => s.modWan p (fun w => { w with state := if s.wanExists p then 1 else 3 })))

/-- Near and far tiers zeroed with valid check symbols (R579). -/
def State.zeroTiers (s : State) : State :=
  { s with mem := s.mem.filter (fun x => addrSpace x.1 != 1 && addrSpace x.1 != 2), tiers := { s.tiers with lineErrs := [] } }

/-- Ports that R403 disables go DISABLED; the others are held to their axis floor (R441), and those in EXCHANGE send the image's identity
(12_torus R406). -/
def State.configurePorts (s : State) : State :=
  s.each (List.range 8) (fun s p =>
    if s.axis (p / 2) ≤ 1 || !(s.img.axesUsed.getD (p / 2) true) || s.portFused p then s.portState p 0
    else
      let s := s.modPort p (fun x => { x with belowFloor := x.width != 0 && decide (x.width < s.floor p) })
      s.inState p 5 (fun s => s.sendIdentity p))

/-- CHANNELS_TRAINED (11_memory R376; R620, R621): `failed` lists the channels that failed training. -/
def execChannelsTrained (failed : List Nat) (s : State) : Out :=
  .next (
    if s.power.boot ≠ .firmware || s.power.state == .fault then s
    else match failed.filter (· < 96) with
      | c :: cs =>
        let s := s.each (c :: cs) (fun s n => (s.modChannel n (fun x => { x with state := 3 })).event 0x0020 0 n 0 0)
        s.enterFault 0x8070 0 c
      | [] =>
        let s := s.each (List.range 96) (fun s n => s.modChannel n (fun x => { x with state := 1 }))
        let s := s.modPower (fun p => { p with boot := .channels, zeroing := !p.full })
        let s := s.when (!s.power.full) State.zeroTiers
        let s := State.readCfg s.cfgOrder s
        if s.image.isSome then s.configurePorts else s)

/-! ## Steps 6 to 8 -/

/-- A die's target handshake rate in M tokens/s: of the image, 1.50 G tokens/s where it gives none (02_dataflow R47). -/
def Image.targetOf (i : Image) (die : Nat) : Nat := (i.targets.getD die none).getD 1500
/-- A die's junction target: of the image, 95 °C where it gives none (R50). -/
def Image.junctionOf (i : Image) (die : Nat) : Nat := (i.junctions.getD die none).getD 95
/-- A die's governor takes over its rail (R47, R48): target and junction target of the image, 0.70 V; the time limited is kept. -/
def State.startGovernor (s : State) (die : Nat) : State :=
  s.modGov die (fun g => { target := Image.targetOf s.img die, working := 100 * Image.targetOf s.img die,
                           junctionTarget := (Image.junctionOf s.img die : Nat), junction := g.junction, limitedUs := g.limitedUs })

/-- The ring directory of headstock SRAM (18_configuration R640). -/
def State.writeDirectory (s : State) : State :=
  let row (r : Nat) : List Byte :=
    let kind := if r = 0 then 1 else if r = 1 then 2 else if s.img.planRings.any (fun p => p.ring == r) then 3 else 0
    match s.ringGeom r with
    | (base, size, nr) => leBytes 4 base ++ leBytes 4 size ++ leBytes 4 nr ++ leBytes 4 kind
  s.hsWrite (hsAddr 0x1101000) ((List.range 16).flatMap row)

/-- IMAGE_VERIFIED: key blobs (15_security R542); READY needs every unwrap that the key paths allow (R578). -/
def execImageVerified (s : State) : Out :=
  .next (
    if s.power.boot ≠ .channels || s.power.state == .fault then s
    else
      let s := (s.modPower (fun p => { p with boot := .verified, wave := 0 })).writeDirectory
      let s := s.each (List.range 8) State.startGovernor
      match s.unwrapImage with
      | (s, true) => s
      | (s, false) => s.enterFault 0x8070 Cause.authFail 0)

/-- Wave w on some dies: logical cluster w (R577). The clusters' compressors are at their reset values. -/
def State.waveOn (s : State) (w : Nat) (dies : List Nat) : State :=
  let s := { s with clusters := s.clusters.filter (fun c => !(c.1 % 8 == w && dies.contains (c.1 / 8))) }
  s.each (s.coreList.filter (fun c => c / 16 % 8 == w && dies.contains (coreDie c))) State.loadCore

/-- WAVE (R577, R583): the next wave of a bring-up, or of every Compute and Die reset whose image copy is good. -/
def execWave (s : State) : Out :=
  .next (
    let p := s.power
    let bring := (p.boot == .verified || p.boot == .waves) && p.wave < 8 && p.state == .bringup
    if bring then (s.waveOn p.wave (List.range 8)).modPower (fun p => { p with boot := .waves, wave := p.wave + 1, waveAt := s.now })
    else
      let due (r : ResetRun) : Bool := r.phase == 3 && r.wavesDone < 8
      let s := s.each (p.resets.filter due) (fun s r => s.waveOn r.wavesDone r.dies)
      s.modPower (fun p => { p with
        wave := match p.resets.find? (fun r => due r && r.compute) with | some r => r.wavesDone + 1 | none => p.wave
        resets := p.resets.map (fun r => if due r then { r with wavesDone := r.wavesDone + 1 } else r) }))

/-- The copies of package time are aligned: their largest difference is a free value within R56. -/
def State.measureSkew (s : State) : State :=
  ({ s with time := { s.time with skewMax := max s.time.skewMax (Config.skew s.free % 21) } }).draw

/-- READY: JOB_STATE is WAIT_START, and with START AUTO the job begins (18_configuration R630). Mirror sectors are copied
first (19_event_recorder R660). -/
def State.becomeReady (s : State) : State :=
  let s := ((s.syncMirror).modPower (fun p => { p with boot := .ready, full := false })).setPwr .ready 0
  let s := s.setJob .waitStart 0
  if s.img.startHold then s else s.askStart

/-- LAST_WAVE_DONE (11_memory R383): `unbound` lists the pool entries whose first line was not read. Without a CXL link
none is read. -/
def execLastWaveDone (unbound : List Nat) (s : State) : Out :=
  .next (
    if s.power.boot ≠ .waves || s.power.wave ≠ 8 || s.power.state != .bringup then s
    else
      let n := s.img.pool.length
      let lost := (List.range n).filter (fun e => unbound.contains e || !s.host.cxlUp)
      let s := s.modTiers (fun t => { t with poolValid := 2 ^ n - 1, poolUnbound := 0 })
      let s := s.each lost (fun s e => (s.markUnbound e).event 0x0020 Cause.linkDown e 0 (poolAddr ((s.img.pool.map (·.base)).getD e 0 * 2 ^ 30)))
      let s := (s.modPower (fun p => { p with boot := .pool, diesUp := 0xFF })).measureSkew
      if s.power.zeroing then s else s.becomeReady)

/-- ZEROING_COMPLETE (R575 step 8). -/
def execZeroingComplete (s : State) : Out :=
  .next (
    if !s.power.zeroing then s
    else
      let s := s.modPower (fun p => { p with zeroing := false })
      if s.power.boot = .pool && s.power.state == .bringup then s.becomeReady else s)

end Sys2Proof.Machine
end

