-- ==== Sys2Proof/Machine/Power.lean ====
section
/-! DEFINITION. Resets in service, input loss, hold-up, thermal limits and Rest (16_power R561 to R595; 14_checkpoint R521, R522;
18_configuration R631, R632). -/

namespace Sys2Proof.Machine

open Sys2Proof

/-! ## Items that a fault ends (14_checkpoint R521) -/

/-- Matrix operations of a core. -/
def State.failMatrices (s : State) (core : Nat) (cause : Cause) : State :=
  s.each (s.core core).mx.ops (fun s op => s.modCore core (·.endMatrix op true cause))
/-- Kernels of a core, running and queued; a segment's kernel ends with its segment. -/
def State.failKernels (s : State) (core : Nat) (cause : Cause) : State :=
  let v := (s.core core).vx
  let s := match v.run with | some r => s.failKernel core r cause | none => s
  let s := s.each (v.queue.filter (fun k => !k.segment)) (fun s k =>
    (s.modCore core (·.vxFailed cause)).latch core (fld (s.peekNat (sramAddr core (k.args + 240)) 8) 0 6) cause)
  s.modCore core (·.modVx (fun v => { v with queue := [], segEnd := none }))
/-- Open transfers and waiting LOADs of a core. -/
def State.failXfers (s : State) (core : Nat) (cause : Cause) : State :=
  let s := s.each (s.core core).xf.open_ (fun s x => s.endPool core x cause)
  s.each (s.core core).xp.waiting (fun s w =>
    let d := TDesc.ofNat w.desc.toNat
    (s.dropWaiting core w).endXfer core d.counter d.increment cause)
/-- Update segments of a core: their shards stay UNCOMMITTED, and a step's segments are not issued again (R523). -/
def State.failSegs (s : State) (core : Nat) (cause : Cause) : State :=
  let gs := (s.core core).up.segs
  let s := s.each (gs.filter (fun g => g.udesc.op != 2)) (fun s g =>
    (s.latch core g.udesc.counter cause).modShard g.udesc.shard (fun x => { x with uncommitted := true, cause := cause, gaveUp := true }))
  let s := s.each (gs.filter (fun g => g.udesc.op == 2)) (fun s g => s.freynEvent cause g.udesc.shard s.round.openRound)
  s.modUp core (fun u => { u with segs := [], kept := [], ended := u.ended + BitVec.ofNat 32 gs.length,
                                  lastFail := if gs.isEmpty then u.lastFail else cause })
/-- Every item that a core has issued. -/
def State.failCore (s : State) (cause : Cause) (core : Nat) : State :=
  (((s.failMatrices core cause).failKernels core cause).failXfers core cause).failSegs core cause

/-- Cores of some dies that hold any state. -/
def State.coresOf (s : State) (dies : List Nat) : List Nat := (s.cores.map (·.1)).filter (fun c => dies.contains (coreDie c))
/-- Running queues of some dies. -/
def State.queuesOf (s : State) (dies : List Nat) : List (Nat × Nat) := s.runningQueues.filter (fun a => dies.contains (coreDie a.1))

/-- A Compute or Die reset reaches the dies: pending launches are cancelled (02_dataflow R85), items end with the cause and queues
halt. A thermal trip gives THERMAL to items only: its queues halt with COMPUTE_RESET (R595, R85). -/
def State.stopDies (s : State) (cause : Cause) (dies : List Nat) : State :=
  let halt := if cause = Cause.thermal then Cause.computeReset else cause
  let s := s.cancelLaunches halt dies
  let s := s.each (s.coresOf dies) (fun s c => s.failCore cause c)
  s.each (s.queuesOf dies) (fun s a => s.haltOnly a.1 a.2 halt)

/-- Every item of the module, edge dies included. -/
def State.failAll (s : State) (cause : Cause) : State :=
  let s := s.each (s.coresOf (List.range 8)) (fun s c => s.failCore cause c)
  let s := (s.modTorus (fun t => { t with sources := [], openIn := [] })).failFreyn cause
  s.each ((s.ck.targets.filter (fun t => t.2.due.isSome)).map (·.1)) (fun s t => s.abandonTarget t cause)

/-! ## Compute and Die resets (R581 to R586) -/

/-- Write-only key registers are cleared by every reset kind (15_security R560). -/
def State.clearKeyWr (s : State) : State :=
  s.modSec (fun c => { c with keyWr := List.replicate 8 0, keyWrAssoc := 0, keyWrLost := 0, keyWrStatus := none })

/-- What a reset does to the job: asked for by the mailbox it makes a running job HALTED (18_configuration R631); a restore
has taken the job already; otherwise halted queues fall under the policy (14_checkpoint R522). -/
def State.resetJob (s : State) (src : ResetSource) (cause : Cause) (halted : Bool) : State :=
  match src with
  | .mailbox => if s.host.job = .running then s.setJob .halted cause else s
  | .restore => s
  | _ => if halted then s.haltSite cause else s

/-- Steps 1 of a Compute reset. A Die reset in progress is taken over. -/
def State.computeReset (s : State) (src : ResetSource) : State :=
  let thermal := src == .thermalTrip
  let cause := if thermal then Cause.thermal else Cause.computeReset
  let s := (((s.lastReset 2 src 0).modPower (fun p => { p with computeCount := p.computeCount + 1 })).resetRecord 2 src 0)
  let halted := !(s.queuesOf (List.range 8)).isEmpty
  let s := ((s.stopDies cause (List.range 8)).clearKeyWr)
  let s := if s.gateOpen then s.failGate Cause.computeReset else s.modGate (·.clearStep)
  let s := { s with time := { s.time with slots := s.time.slots.foldl (fun t (e : Nat × LaunchSlot) => t.set e.1 { previous := e.2.previous }) [] } }
  let s := s.modPower (fun p => { p with
    resets := [{ dies := List.range 8, compute := true, startedAt := s.now, thermal := thermal }], diesUp := 0, wave := 0, restPhase := 0, wakeWaves := 0 })
  (s.setPwr .resetting cause).resetJob src Cause.computeReset halted

/-- A Compute reset is requested: one in progress goes on, and a Full or Cold reset in progress stands (R586). -/
def State.requestCompute (s : State) (src : ResetSource) : State :=
  if s.power.boot ≠ .ready || s.power.holdup ≠ 0 || s.power.resets.any (·.compute) then s else s.computeReset src

/-- A Die reset is requested: dropped during a Compute reset (R586); in Rest the module wakes with it. -/
def State.requestDie (s : State) (die : Nat) (src : ResetSource) : State :=
  if s.power.boot ≠ .ready || s.power.holdup ≠ 0 || 8 ≤ die || s.power.resets.any (fun r => r.compute || r.dies.contains die) then s
  else
    let s := (((s.lastReset 3 src die).modPower (fun p => { p with dieCount := p.dieCount + 1 })).resetRecord 3 src die).wakeUp
    let halted := !(s.queuesOf [die]).isEmpty
    let s := (s.stopDies Cause.dieReset [die]).clearKeyWr
    let bit (n : Nat) : BitVec n := BitVec.ofNat n (2 ^ die)
    let s := { s with time := { s.time with aligned := s.time.aligned &&& ~~~(bit 10) } }
    let s := s.modPower (fun p => { p with resets := p.resets ++ [{ dies := [die], startedAt := s.now }], diesUp := p.diesUp &&& ~~~(bit 8) })
    s.resetJob src Cause.dieReset halted

/-- A Full reset (R585): RESET record and mirror flush first (19_event_recorder R658); a firmware transfer closes, and a LOCK
that waited for it takes effect (15_security R533). -/
def State.requestFull (s : State) (src : ResetSource) : State :=
  if s.power.holdup ≠ 0 || s.power.resetHeld || s.power.boot == .off || s.power.boot == .charging then s
  else
    let s := (s.modHost (fun h => { h with xfer := none })).releaseLock
    let s := (((s.failAll Cause.computeReset).resetRecord 1 src 0).flushAll).fullBase
    let s := ((s.lastReset 1 src 0).modPower (fun p => { p with fullCount := p.fullCount + 1 })).startRecorder
    s.setPwr .bringup Cause.computeReset

/-- A Cold reset by I3C or RESET_N (R581, R606): the second RESET record and flush, then everything but fuses and flash is
lost. -/
def State.requestCold (s : State) (src : ResetSource) (boot : Boot) : State :=
  if s.power.holdup ≠ 0 && s.power.holdup ≠ 4 then s
  else
    let s := (s.modHost (fun h => { h with xfer := none })).releaseLock
    let s := (((s.failAll Cause.computeReset).resetRecord 0 src 0).flushAll).coldBase
    (s.lastReset 0 src 0).modPower (fun p => { p with boot := boot, coldAsked := true, switchOpen := boot == .off })

/-- The mailbox RESET command (18_configuration R632, R648): Busy while another change of job state is in progress. A reset in
progress is not one: R586 decides (log entry 28). -/
def State.mailboxReset (s : State) (ok : Bool) (f : State → State) : State :=
  let busy := s.host.starting.isSome || s.ck.restoring != 0 || s.host.ending || s.power.restPhase == 2 || s.host.xfer.isSome
  if !s.mailboxUp then s
  else if busy then s.vendorBusy
  else if ok then f (s.vendorOk []) else s.vendorFail .invalidInput Cause.planReject

/-- FULL_RESET (R585): the sources of R581. -/
def execFullReset (source : ResetSource) (s : State) : Out :=
  .next (match source with
    | .mailbox => s.mailboxReset true (fun s => s.requestFull .mailbox)
    | .i3c | .resetInput | .firmware => s.requestFull source
    | _ => s)

/-! ## Thermal trip (R595) -/

/-- The trip: a Compute reset with THERMAL. One in progress finishes step 2 and then holds the rails off (R586); during the
waves of a bring-up the rails fall again. -/
def State.thermalTrip (s : State) : State :=
  let s := s.modPower (fun p => { p with trips := p.trips + 1 })
  match s.power.boot with
  | .ready =>
    if s.power.resets.any (·.compute) then
      let off := s.power.resets.any (fun r => r.compute && r.phase != 1)
      let s := (s.resetRecord 2 .thermalTrip 0).modPower (fun p => { p with
        wave := if off then 0 else p.wave
        resets := p.resets.map (fun r => { r with thermal := true, phase := min r.phase 2, wavesDone := 0 }) })
      if off then s.setPwr .thermalHold Cause.thermal else s
    else s.requestCompute .thermalTrip
  | .verified | .waves | .pool =>
    ((s.resetRecord 2 .thermalTrip 0).modPower (fun p => { p with boot := .verified, wave := 0, diesUp := 0 })).setPwr .thermalHold Cause.thermal
  | _ => s

/-- COMPUTE_RESET (R583): by the mailbox, by a restore (14_checkpoint R515) or by a thermal trip. -/
def execComputeReset (source : ResetSource) (s : State) : Out :=
  .next (match source with
    | .mailbox => s.mailboxReset (s.power.boot == .ready) (fun s => s.requestCompute .mailbox)
    | .restore => if s.ck.restoring = 1 then s.requestCompute .restore else s
    | .thermalTrip => if s.power.holdup = 0 then s.thermalTrip else s
    | _ => s)

/-- DIE_RESET (R583): by the mailbox, or by firmware on a fault of one die. -/
def execDieReset (die : Nat) (source : ResetSource) (s : State) : Out :=
  .next (match source with
    | .mailbox => s.mailboxReset (s.power.boot == .ready && die < 8) (fun s => s.requestDie die .mailbox)
    | .firmware => s.requestDie die .firmware
    | _ => s)

/-- Errors that the image copy holds and its check symbols do not correct. -/
def State.copyIntact (s : State) : Bool :=
  let first := nearAddr imageCopyOff / 64
  s.copyGood && (s.tiers.lineErrs.filter (fun e => first ≤ e.1 && e.1 < first + 160 * 2 ^ 14)).all (fun e => (lineDecode e.2).isSome)
/-- A copy that differs from measurement 3 is read from flash again (R576). -/
def State.checkCopy (s : State) : State :=
  if s.copyIntact then s
  else
    let first := nearAddr imageCopyOff / 64
    ({ s with copyGood := true, tiers := { s.tiers with lineErrs := s.tiers.lineErrs.clearRange first (first + 160 * 2 ^ 14) } }).event 0x8080 0 0 0 0

/-- COMPUTE_RAILS_OFF (R583 step 3, R576): the rails of every reset in step 1 are off; after a thermal trip they stay off. -/
def execComputeRailsOff (s : State) : Out :=
  .next (
    if !s.power.resets.any (fun r => r.phase == 1) || s.power.holdup ≠ 0 then s
    else
      let hot := s.power.resets.any (fun r => r.phase == 1 && r.thermal)
      let s := (s.checkCopy).modPower (fun p => { p with
        resets := p.resets.map (fun r => if r.phase = 1 then { r with phase := if r.thermal then 2 else 3, wavesDone := 0 } else r) })
      if hot then s.setPwr .thermalHold Cause.thermal else s)

/-- THERMAL_HOLD_EXIT (R595): every sensor at 85 °C or below for 1 s; a die whose junction target is not below that has no thermal cap. -/
def execThermalHoldExit (hottest : Int) (s : State) : Out :=
  .next (
    if s.power.state != .thermalHold || 85 < hottest then s
    else
      let s := (s.each (List.range 8) (fun s d => s.modGov d (fun g =>
        { g with junction := min g.junction hottest, thermalOver := g.thermalOver && g.junctionTarget < hottest }))).refreshCapped
      let s := s.modPower (fun p => { p with resets := p.resets.map (fun r => if r.phase = 2 then { r with phase := 3, thermal := false } else r) })
      s.setPwr (if s.power.boot == .ready then .resetting else .bringup) 0)

/-- A die returns: its copy of package time is loaded and aligned (02_dataflow R58), its governor takes over. The copy equals the
headstock's, where R56 allows any difference up to 2 ns (DESIGN CHOICE, log entry 114). -/
def State.dieBack (s : State) (d : Nat) : State :=
  let s := { s with time := { s.time with copies := s.time.copies.set d s.now, aligned := s.time.aligned ||| BitVec.ofNat 10 (2 ^ d) } }
  ((s.modPower (fun p => { p with diesUp := p.diesUp ||| BitVec.ofNat 8 (2 ^ d) })).startGovernor d).measureSkew

/-- RESET_WAVES_DONE (R583 step 5): queues do not start (R584); a restore goes on (14_checkpoint R515). -/
def execResetWavesDone (s : State) : Out :=
  .next (
    let done (r : ResetRun) : Bool := r.phase == 3 && r.wavesDone == 8
    let ended := s.power.resets.filter done
    if ended.isEmpty then s
    else
      let s := s.modPower (fun p => { p with resets := p.resets.filter (fun r => !done r) })
      let s := s.each (ended.flatMap (·.dies)) State.dieBack
      if ended.any (·.compute) then
        let s := s.setPwr .ready 0
        if s.ck.restoring = 1 then s.restoreReady else s.continueStart
      else s)

/-! ## Input (R561 to R568, R591 to R594) -/

/-- OVERCURRENT (R566): above 100 A for 1 µs. -/
def execOvercurrent (ma : Nat) (s : State) : Out :=
  .next (if 100000 < ma && s.power.boot ≠ .off && !s.power.switchOpen then
      (s.modPower (fun p => { p with switchOpen := true, faultLatched := true, iin := ma / 10 })).settle
    else s)

/-- Input loss is declared (R592 step 1). -/
def State.inputLoss (s : State) (mv : Nat) : State :=
  let s := s.modPower (fun p => { p with vin := mv / 10, inputLow := p.inputLow || mv < 50000 })
  match s.power.boot with
  | .off => s.settle
  | .charging => (s.modPower (fun p => { p with boot := .off, switchOpen := true })).settle
  | _ =>
    if s.power.holdup ≠ 0 then s.settle
    else
      let s := s.failAll Cause.powerLoss
      let s := s.modPower (fun p => { p with holdup := 1, holdupAt := s.now, stopIssue := true, resets := [], restPhase := 0 })
      let s := s.each (List.range 8) (fun s d => s.modGov d (fun g => { g with working := min g.working 90000 }))
      let s := (s.modCk (fun u => { u with restoring := 0 })).modRec (fun r => { r with criticalOnly := true })
      (s.setPwr .holdup Cause.powerLoss).settle

/-- INPUT_LOSS (R591): below 46.0 V for 2 µs. -/
def execInputLoss (mv : Nat) (s : State) : Out := .next (if mv < 46000 then s.inputLoss mv else s)
/-- OVERVOLTAGE (R564): the switch opens. -/
def execOvervoltage (mv : Nat) (s : State) : Out :=
  .next (if 63000 < mv then (s.modPower (fun p => { p with switchOpen := true })).inputLoss mv else s)
/-- FAULT_LATCH_CLEAR (R566): below 10 V for 1 s. -/
def execFaultLatchClear (mv : Nat) (s : State) : Out :=
  .next (if mv < 10000 then
      (s.modPower (fun p => { p with vin := mv / 10, faultLatched := p.faultLatched && p.latchThermal })).settle
    else s)
/-- INPUT_LOW (R563). -/
def execInputLow (mv : Nat) (s : State) : Out :=
  .next (if 46000 ≤ mv && mv < 50000 && s.power.boot ≠ .off && s.power.holdup = 0 then
      let was := s.power.inputLow
      let s := s.modPower (fun p => { p with vin := mv / 10, vbulk := mv / 10, inputLow := true, powerCap := true })
      (s.when (!was) (·.event 0x8070 0 0 0 0)).settle
    else s)
/-- INPUT_LOW_CLEAR (R563). -/
def execInputLowClear (mv : Nat) (s : State) : Out :=
  .next (if 50000 ≤ mv && s.power.boot ≠ .off && s.power.holdup = 0 then
      (s.modPower (fun p => { p with vin := mv / 10, vbulk := mv / 10, inputLow := false, powerCap := false })).settle
    else s)

/-- HOLDUP_READY (R594). -/
def State.holdupReady (s : State) : Bool :=
  let p := s.power
  2200 ≤ p.cap && p.vin ≤ p.vbulk + 100 && p.vbulk ≤ p.vin + 100 && 5000 ≤ p.vin

/-- HOLDUP_THROTTLED (R592 step 2; 19_event_recorder R660). -/
def execHoldupThrottled (s : State) : Out :=
  .next (if s.power.holdup = 1 then
      let s := (s.modPower (fun p => { p with holdup := 2 })).event 0x8070 Cause.powerLoss 0 0 0
      State.flushHoldup (2 * (s.recorder.input.length + s.recorder.waiting.length + s.recorder.toMirror.length) + 4) 2048 s
    else s)

/-- Every rail except standby falls: tier contents and all else outside flash, fuses and the standby domain are lost. -/
def State.dropRails (s : State) : State :=
  let h := s.host
  { pending := s.pending, bus := s.bus, free := s.free, fuses := s.fuses, flash := s.flash
    power := { s.power with boot := .off, diesUp := 0, wave := 0, resets := [], restPhase := 0, wakeWaves := 0, zeroing := false, thermalCapped := false }
    host := { ibi := h.ibi, i3cAddr := h.i3cAddr, i3cArmedAt := h.i3cArmedAt, i3cOffset := h.i3cOffset, i3cOut := h.i3cOut } }

/-- HOLDUP_FLUSH_DONE (R592 step 3). -/
def execHoldupFlushDone (s : State) : Out :=
  .next (if s.power.holdup = 2 then ((s.modPower (fun p => { p with holdup := 3 })).dropRails).settle else s)
/-- HOLDUP_RAILS_OFF (R592 step 4, R565): the bulk falls below 40.8 V; its voltage there is a free value. -/
def execHoldupRailsOff (s : State) : Out :=
  .next (if s.power.holdup = 3 then
      (s.modPower (fun p => { p with holdup := 4, switchOpen := true, vbulk := Config.bulk s.free % 4080 })).draw
    else s)

/-! ## Thermal actions (R595; 11_memory R378) -/

/-- EDGE_THERMAL_SHUTDOWN: headstock (8) or tailstock (9). The POWER record is held in the mirror before the rails fall. -/
def execEdgeThermalShutdown (die : Nat) (junction : Int) (s : State) : Out :=
  .next (if (die = 8 ∨ die = 9) ∧ 110 ≤ junction ∧ s.power.boot ≠ .off ∧ s.power.holdup = 0 then
      let s := s.modPower (fun p => { p with hotDie := die, hotC := junction, faultLatched := true, latchThermal := true })
      let s := (((s.failAll Cause.thermal).event 0x8070 Cause.thermal die 0 0).setPwr .fault Cause.thermal).flushAll
      (s.dropRails).settle
    else s)

/-- THERMAL_TRIP. -/
def execThermalTrip (die : Nat) (junction : Int) (s : State) : Out :=
  .next (if die < 8 ∧ 110 ≤ junction ∧ s.power.holdup = 0 then ((s.modGov die (fun g => { g with junction := junction, thermalOver := true })).refreshCapped).thermalTrip else s)

/-- THERMAL_THROTTLE: 0.90 G tokens/s at once; from 110 °C on the row before it matches first. -/
def execThermalThrottle (die : Nat) (junction : Int) (s : State) : Out :=
  .next (if die < 8 ∧ 105 ≤ junction ∧ junction < 110 then
      ((s.modGov die (fun g => { g with junction := junction, working := 90000, thermalLimited := true, thermalOver := true })).refreshCapped).event
        0x8070 Cause.thermal die 0 0
    else s)

/-- DRAM_TEMPERATURE_REPORT (11_memory R378): above the operating limit a trip, else the thermal cap of the channel's die. -/
def execDramTemperatureReport (channel : Nat) (aboveOperating : Bool) (s : State) : Out :=
  .next (if 96 ≤ channel || s.power.holdup ≠ 0 then s
    else if aboveOperating then s.thermalTrip
    else s.modChannel channel (fun c => { c with hot := true }))

/-! ## Rest (R587 to R590) -/

/-- Compute domains are switched out; SRAM and kernel regions stay, every other compute register reads its Compute reset
value. -/
def State.enterRest (s : State) : State :=
  let s := s.each (s.coresOf (List.range 8)) (fun s c => s.setCore c (s.freshCore c (s.core c).kernelRegion))
  let s := s.each (List.range 8) State.startGovernor
  ({ s with clusters := [] }.modPower (fun p => { p with restPhase := 1, wakeWaves := 0, diesUp := 0 })).setPwr .rest 0

/-- REST (R587). -/
def execRest (s : State) : Out :=
  .next (
    if !s.mailboxUp then s
    else if s.jobBusy then s.vendorBusy
    else if s.power.state != .ready || s.host.job == .running || s.host.job == .restoring then s.vendorFail .invalidInput Cause.planReject
    else (s.enterRest).vendorOk [])

/-- WAKE (R589). -/
def execWake (s : State) : Out :=
  .next (
    if !s.mailboxUp then s
    else if s.jobBusy then s.vendorBusy
    else (s.wakeUp).vendorOk [])

/-- WAKE_WAVE (R589): after the eighth the governors take over and the module is READY; a job start that waited goes on. -/
def execWakeWave (s : State) : Out :=
  .next (
    if s.power.restPhase ≠ 2 || s.power.holdup ≠ 0 then s
    else
      let s := s.modPower (fun p => { p with wakeWaves := p.wakeWaves + 1 })
      if s.power.wakeWaves < 8 then s
      else
        let up := (List.range 8).filter (fun d => !s.power.resets.any (fun r => r.dies.contains d))
        let s := s.modPower (fun p => { p with restPhase := 0, wakeWaves := 0 })
        let s := s.each up (fun s d => (s.modPower (fun p => { p with diesUp := p.diesUp ||| BitVec.ofNat 8 (2 ^ d) })).startGovernor d)
        (s.setPwr .ready 0).continueStart)

end Sys2Proof.Machine
end

