-- ==== Sys2Proof/Machine/Firmware.lean ====
section
/-! DEFINITION. Firmware and configuration transfers, trials, and the standard mailbox commands (18_configuration R617, R622 to
R628, R647, R648). -/

namespace Sys2Proof.Machine

open Sys2Proof

/-! ## Refusals (R626, R627) -/

/-- A standard command fails with a code; its cause is shown in LAST_CAUSE (R649). -/
def State.fwFail (s : State) (rc : Rc) (cause : Cause) : State := (s.modHost (fun h => { h with lastCause := cause })).mbox rc []
/-- A transfer or vendor command fails: CFG commands carry their cause word. -/
def State.xferFail (s : State) (fw : Bool) (rc : Rc) (cause : Cause) : State := if fw then s.fwFail rc cause else s.vendorFail rc cause
def State.xferOk (s : State) (fw : Bool) : State := if fw then s.mbox .success [] else s.vendorOk []

/-- Update refusals of R626, in their order. -/
def State.updateRefusal (s : State) : Option (Rc × Cause) :=
  if s.flash.security.ownerLock then some (.securityState, Cause.authFail)
  else if s.host.job == .running || s.host.job == .halted || s.host.job == .restoring then some (.busy, Cause.planReject)
  else if s.power.vin < 5200 || !s.holdupReady then some (.retryRequired, Cause.powerLoss)
  else none

/-- The slot in use: the running firmware, or the selected configuration. -/
def State.activeSlot (s : State) (fw : Bool) : Nat := if fw then 1 + b2n s.host.fwSlot else 1 + b2n s.host.cfgSlot

/-- Header bytes of a slot: firmware 4 KiB; a configuration slot's first 4 KiB too (R617). -/
def headLen : Nat := 4096
def slotSize (fw : Bool) : Nat := if fw then 48 * 2 ^ 20 else 160 * 2 ^ 20

/-- Bytes written to a slot of flash whose header reads erased. -/
def State.slotWrite (s : State) (fw : Bool) (slot at0 : Nat) (bs : List Byte) : State :=
  s.modFlash (fun f =>
    match fw, slot with
    | true, 1 => { f with fwA := { bytes := Memory.write f.fwA.bytes at0 bs, header := false } }
    | true, _ => { f with fwB := { bytes := Memory.write f.fwB.bytes at0 bs, header := false } }
    | false, 1 => { f with cfgA := { bytes := Memory.write f.cfgA.bytes at0 bs, header := false, content := none } }
    | false, _ => { f with cfgB := { bytes := Memory.write f.cfgB.bytes at0 bs, header := false, content := none } })
/-- A slot is erased. -/
def State.slotErase (s : State) (fw : Bool) (slot : Nat) : State :=
  s.modFlash (fun f =>
    match fw, slot with
    | true, 1 => { f with fwA := {} }
    | true, _ => { f with fwB := {} }
    | false, 1 => { f with cfgA := {} }
    | false, _ => { f with cfgB := {} })
def State.slotBytes (s : State) (fw : Bool) (slot : Nat) : Memory :=
  if fw then (s.fwSlotOf (slot == 2)).bytes else (s.cfgSlotOf (slot == 2)).bytes
/-- The header is written last: the slot is an image from now on. -/
def State.slotSeal (s : State) (fw : Bool) (slot : Nat) (head : List Byte) (content : Option Image) : State :=
  s.modFlash (fun f =>
    match fw, slot with
    | true, 1 => { f with fwA := { bytes := Memory.write f.fwA.bytes 0 head, header := true } }
    | true, _ => { f with fwB := { bytes := Memory.write f.fwB.bytes 0 head, header := true } }
    | false, 1 => { f with cfgA := { bytes := Memory.write f.cfgA.bytes 0 head, header := true, content := content } }
    | false, _ => { f with cfgB := { bytes := Memory.write f.cfgB.bytes 0 head, header := true, content := content } })

/-- The open transfer closes; its slot stays unusable unless sealed (R627). A LOCK that waited takes effect. -/
def State.closeXfer (s : State) : State := (s.modHost (fun h => { h with xfer := none })).releaseLock

/-! ## Parts of a transfer (R624, R627) -/

/-- Why a first part is refused: R626, an open transfer, the slot, the offset, then the header (R623; of a configuration, MAGIC,
FORMAT and LENGTH). -/
def State.firstRefusal (s : State) (fw : Bool) (slot offset : Nat) (bytes : List Byte) : Option (Rc × Cause) :=
  match s.updateRefusal with
  | some r => some r
  | none =>
    let m := Memory.write [] 0 bytes
    if s.host.xfer.isSome then some (.transferInProgress, Cause.planReject)
    else if (slot ≠ 1 && slot ≠ 2) || slot = s.activeSlot fw then some (.invalidSlot, Cause.planReject)
    else if offset ≠ 0 then some (.transferOutOfOrder, Cause.planReject)
    else if bytes.length < headLen && fw then some (.invalidInput, Cause.planReject)
    else if fw then (if s.fwHeaderOk m then none else some (.invalidInput, Cause.authFail))
    else if bytes.length < 256 || !({ bytes := m, header := true } : CfgSlot).candidate then some (.invalidInput, Cause.planReject)
    else none

/-- A transfer opens: bytes after the header are written, the header is kept. -/
def State.openTransfer (s : State) (fw : Bool) (slot : Nat) (bytes : List Byte) : State :=
  let s := (s.slotErase fw slot).slotWrite fw slot headLen (bytes.drop headLen)
  (s.modHost (fun h => { h with
    fwReady := h.fwReady && !fw
    xfer := some { firmware := fw, slot := slot, sum := bytes.length, lastAt := s.now, head := bytes.take headLen } })).releaseLock

/-- Initiate. -/
def State.transferFirst (s : State) (fw : Bool) (slot offset : Nat) (bytes : List Byte) : State :=
  if !s.mailboxUp then s
  else match s.firstRefusal fw slot offset bytes with
    | some (rc, c) => s.xferFail fw rc c
    | none => (s.openTransfer fw slot bytes).xferOk fw

/-- The next part of an open transfer is written; part of the header may still be among its bytes. -/
def State.addPart (s : State) (fw : Bool) (x : OpenXfer) (bytes : List Byte) : State :=
  let more := bytes.take (headLen - x.sum)
  let s := s.slotWrite fw x.slot (max headLen x.sum) (bytes.drop (headLen - x.sum))
  s.modHost (fun h => { h with xfer := some { x with sum := x.sum + bytes.length, lastAt := s.now, head := x.head ++ more } })

/-- The open transfer of the kind that a part continues, where the slot and the offset (128-byte units) fit. -/
def State.openPart (s : State) (fw : Bool) (slot offset : Nat) : Option OpenXfer :=
  s.host.xfer.filter (fun x => x.firmware == fw && x.slot == slot && 128 * offset == x.sum)

/-- Continue. -/
def State.transferNext (s : State) (fw : Bool) (slot offset : Nat) (bytes : List Byte) : State :=
  if !s.mailboxUp then s
  else match s.openPart fw slot offset with
    | none => s.xferFail fw .transferOutOfOrder Cause.planReject
    | some x => if slotSize fw < x.sum + bytes.length then s.xferFail fw .invalidInput Cause.planReject else (s.addPart fw x bytes).xferOk fw

/-- The whole image has arrived: byte count, signature, and for a configuration an IMAGE_SEQ above the selected image's
(R624, R648). -/
def State.imageWhole (s : State) (fw : Bool) (x : OpenXfer) : Cause :=
  let m := Memory.write (s.slotBytes fw x.slot) 0 x.head
  if byteField m 8 4 ≠ x.sum then Cause.planReject
  else if fw then (if s.fwHeaderOk m && fwSignatureOk m then 0 else Cause.authFail)
  else
    let c : CfgSlot := { bytes := m, header := true }
    if !s.cfgSignatureOk c then Cause.authFail
    else if s.image.any (fun i => c.seqNo ≤ i.imageSeq) then Cause.planReject
    else 0

/-- The end of a transfer whose parts are all written. -/
def State.finishTransfer (s : State) (fw : Bool) (content : Option Image) : State :=
  match s.host.xfer with
  | none => s
  | some x =>
    match s.imageWhole fw x with
    | 0 =>
      let s := (s.slotSeal fw x.slot x.head content).modHost (fun h => { h with xfer := none, fwReady := h.fwReady || fw })
      (s.releaseLock).xferOk fw
    | c => (s.closeXfer).xferFail fw .invalidInput c

/-- End: the refusals of R626 again, then the last part. -/
def State.transferEnd (s : State) (fw : Bool) (slot offset : Nat) (bytes : List Byte) (content : Option Image) : State :=
  if !s.mailboxUp then s
  else match s.updateRefusal, s.openPart fw slot offset with
    | some (rc, c), _ => s.xferFail fw rc c
    | none, none => s.xferFail fw .transferOutOfOrder Cause.planReject
    | none, some x =>
      if slotSize fw < x.sum + bytes.length then s.xferFail fw .invalidInput Cause.planReject
      else (s.addPart fw x bytes).finishTransfer fw content

/-- Full: first and end part in one. -/
def State.transferFull (s : State) (fw : Bool) (slot offset : Nat) (bytes : List Byte) (content : Option Image) : State :=
  if !s.mailboxUp then s
  else match s.firstRefusal fw slot offset bytes with
    | some (rc, c) => s.xferFail fw rc c
    | none => (s.openTransfer fw slot bytes).finishTransfer fw content

/-- Abort (R627): without an open transfer of the kind nothing closes. -/
def State.transferAbort (s : State) (fw : Bool) : State :=
  if !s.mailboxUp then s
  else if s.host.xfer.any (fun x => x.firmware == fw) then (s.closeXfer).xferOk fw
  else s.xferOk fw

/-- TRANSFER_FW_FULL (R624). -/
def execTransferFwFull (slot offset : Nat) (bytes : List Byte) (s : State) : Out := .next (s.transferFull true slot offset bytes none)
/-- TRANSFER_FW_INITIATE (R624). -/
def execTransferFwInitiate (slot offset : Nat) (bytes : List Byte) (s : State) : Out := .next (s.transferFirst true slot offset bytes)
/-- TRANSFER_FW_CONTINUE (R627). -/
def execTransferFwContinue (slot offset : Nat) (bytes : List Byte) (s : State) : Out := .next (s.transferNext true slot offset bytes)
/-- TRANSFER_FW_END (R624). -/
def execTransferFwEnd (slot offset : Nat) (bytes : List Byte) (s : State) : Out := .next (s.transferEnd true slot offset bytes none)
/-- TRANSFER_FW_ABORT (R627). -/
def execTransferFwAbort (s : State) : Out := .next (s.transferAbort true)
/-- CFG_TRANSFER_FULL (R648); `content` is what the bytes spell (log entry 6). -/
def execCfgTransferFull (slot offset : Nat) (bytes : List Byte) (content : Image) (s : State) : Out :=
  .next (s.transferFull false slot offset bytes (some content))
/-- CFG_TRANSFER_INITIATE (R648). -/
def execCfgTransferInitiate (slot offset : Nat) (bytes : List Byte) (s : State) : Out := .next (s.transferFirst false slot offset bytes)
/-- CFG_TRANSFER_CONTINUE (R627). -/
def execCfgTransferContinue (slot offset : Nat) (bytes : List Byte) (s : State) : Out := .next (s.transferNext false slot offset bytes)
/-- CFG_TRANSFER_END (R648). -/
def execCfgTransferEnd (slot offset : Nat) (bytes : List Byte) (content : Image) (s : State) : Out :=
  .next (s.transferEnd false slot offset bytes (some content))
/-- CFG_TRANSFER_ABORT (R627). -/
def execCfgTransferAbort (s : State) : Out := .next (s.transferAbort false)
/-- TRANSFER_IDLE_TIMEOUT (R627): 30 s without a part. -/
def execTransferIdleTimeout (s : State) : Out :=
  .next (if s.host.xfer.any (fun x => x.lastAt + 30000000000 ≤ s.now) then s.closeXfer else s)

/-! ## Activation and trial (R624, R625) -/

/-- ACTIVATE_FW (R624 step 4, R647). -/
def execActivateFw (slot : Nat) (online : Bool) (s : State) : Out :=
  .next (
    if !s.mailboxUp then s
    else if online then s.fwFail .unsupported Cause.planReject
    else match s.updateRefusal with
      | some (rc, c) => s.fwFail rc c
      | none =>
        if (slot ≠ 1 && slot ≠ 2) || slot = s.activeSlot true then s.fwFail .invalidSlot Cause.planReject
        else
          let s := s.modHost (fun h => { h with fwReady := false })
          if s.fwSlotOk (slot == 2) then
            ((s.writeBoot { active := slot - 1, previous := b2n s.host.fwSlot, trial := true, boots := 0 }).releaseLock).mbox .success []
          else (s.releaseLock).fwFail .invalidInput Cause.authFail)

/-- FW_CONFIRM (R624 step 7, R625). -/
def execFwConfirm (s : State) : Out :=
  .next (
    if !s.mailboxUp then s
    else if !s.host.fwTrial || s.power.boot ≠ .ready then s.vendorFail .invalidInput Cause.planReject
    else if s.power.vin < 5200 || !s.holdupReady then s.vendorFail .retryRequired Cause.powerLoss
    else
      let svn := byteField (s.fwSlotOf s.host.fwSlot).bytes 12 4
      let s := (s.writeBoot { s.bootRecord with trial := false }).modHost (fun h => { h with fwTrial := false })
      (s.modFuses (fun f => { f with rollback := max f.rollback (min svn 64) })).vendorOk [])

/-- TRIAL_TIMEOUT (R625): 10 min after the firmware started. -/
def execTrialTimeout (s : State) : Out :=
  .next (if s.host.fwTrial && s.host.trialAt + 600000000000 ≤ s.now && s.power.boot ≠ .off then
      (s.event 0x8080 Cause.timeout 0 0 0).requestFull .firmware
    else s)

/-! ## Standard commands (R647) -/

/-- Decimal digits in ASCII. -/
def digits : Nat → Nat → List Byte
  | 0, _ => []
  | fuel + 1, n => if n < 10 then [BitVec.ofNat 8 (0x30 + n)] else digits fuel (n / 10) ++ [BitVec.ofNat 8 (0x30 + n % 10)]
/-- VERSION in ASCII: four parts, the most significant first. -/
def versionText (v : Nat) : List Byte :=
  digits 5 (v / 2 ^ 48 % 65536) ++ [0x2E] ++ digits 5 (v / 2 ^ 32 % 65536) ++ [0x2E] ++ digits 5 (v / 2 ^ 16 % 65536) ++ [0x2E] ++ digits 5 (v % 65536)
/-- Revision of a slot, none where its header reads erased. -/
def FwSlot.revision (f : FwSlot) : List Byte := fitBytes 16 (if f.header then versionText (byteField f.bytes 16 8) else [])
/-- GET_FW_INFO: layout of CXL 3.1 (log entry 26). The staged slot is shown while the boot record's TRIAL is set. -/
def execGetFwInfo (s : State) : Out :=
  .next (if !s.mailboxUp then s
    else
      let r := s.bootRecord
      let staged := if r.trial then r.active + 1 else 0
      s.mbox .success ([2, BitVec.ofNat 8 (s.activeSlot true + 8 * staged), 0] ++ zeros 13 ++ s.flash.fwA.revision ++ s.flash.fwB.revision ++ zeros 32))
/-- GET_TIMESTAMP. -/
def execGetTimestamp (s : State) : Out := .next (if s.mailboxUp then s.mbox .success (leBytes 8 s.host.timestamp.toNat) else s)
/-- SET_TIMESTAMP: a HOST_TIME record (19_event_recorder R664). -/
def execSetTimestamp (value : Word64) (s : State) : Out :=
  .next (if s.mailboxUp then
      (((s.modHost (fun h => { h with timestamp := value })).report 0x0001 (leBytes 8 value.toNat))).mbox .success []
    else s)

/-- Opcodes that the mailbox supports (R647, R648). -/
def opcodes : List Nat :=
  [0x0200, 0x0201, 0x0202, 0x0300, 0x0301, 0x0400, 0x0401, 0xC000, 0xC001, 0xC002, 0xC003, 0xC004, 0xC005, 0xC010, 0xC011, 0xC012, 0xC020,
   0xC021, 0xC022, 0xC023, 0xC030]
/-- The Command Effects Log: opcode and effects of each command; the effects are free. -/
def State.effectsLog (s : State) : List Byte :=
  opcodes.zipIdx.flatMap (fun (op, i) => leBytes 2 op ++ [Config.reply s.free (2 * i), Config.reply s.free (2 * i + 1)])
/-- UUID of the Command Effects Log in CXL 3.1 (log entry 26). -/
def celUuid : List Byte := [0x0D, 0xA9, 0xC0, 0xB5, 0xBF, 0x41, 0x4B, 0x78, 0x8F, 0x79, 0x96, 0xB1, 0x62, 0x3B, 0x3F, 0x17]
/-- GET_SUPPORTED_LOGS. -/
def execGetSupportedLogs (s : State) : Out :=
  .next (if s.mailboxUp then s.mbox .success (leBytes 2 1 ++ zeros 6 ++ celUuid ++ leBytes 4 (4 * opcodes.length)) else s)
/-- GET_LOG. -/
def execGetLog (s : State) : Out := .next (if s.mailboxUp then (s.mbox .success s.effectsLog).draw else s)
/-- UNSUPPORTED_OPCODE. -/
def execUnsupportedOpcode (opcode : Nat) (s : State) : Out :=
  .next (if s.mailboxUp && !opcodes.contains opcode then s.fwFail .unsupported Cause.planReject else s)

end Sys2Proof.Machine
end

