-- ==== Sys2Proof/Machine/Host.lean ====
section
/-! DEFINITION. The job commands, intake rings, result rings and data object exchange of the host (18_configuration R630 to
R633, R636 to R648). -/

namespace Sys2Proof.Machine

open Sys2Proof

/-! ## Job commands (R630 to R632, R648) -/

/-- JOB_START: WAIT_START only. A module in Rest wakes first (16_power R589). -/
def execJobStart (s : State) : Out :=
  .next (
    if !s.mailboxUp then s
    else if s.jobBusy then s.vendorBusy
    else if s.host.job ≠ .waitStart then s.vendorFail .invalidInput Cause.planReject
    else (s.vendorOk []).askStart)

/-- The job ends at once: queues retire, the end is recorded (R631). -/
def State.endJob (s : State) : State := ((s.retireQueues false).jobRecord 2 0).setJob .ended 0

/-- JOB_STOP: a halted job ends at once, a running one after the step in progress. -/
def execJobStop (s : State) : Out :=
  .next (
    if !s.mailboxUp then s
    else if s.jobBusy then s.vendorBusy
    else match s.host.job with
      | .halted => (s.endJob).vendorOk []
      | .running => ((s.modHost (fun h => { h with ending := true })).tryEnd).vendorOk []
      | _ => s.vendorFail .invalidInput Cause.planReject)

/-- What CFG_INFO says of a slot: candidate flag, IMAGE_SEQ and JOB (the layout is log entry 43). -/
def CfgSlot.info (c : CfgSlot) : List Byte := leBytes 4 (b2n c.candidate) ++ leBytes 8 c.seqNo ++ leBytes 4 (byteField c.bytes 12 4)
/-- CFG_INFO (R648). -/
def execCfgInfo (s : State) : Out :=
  .next (if s.mailboxUp then
      s.vendorOk (s.flash.cfgA.info ++ s.flash.cfgB.info ++ leBytes 4 (if s.image.isSome then s.activeSlot false else 0))
    else s)

/-! ## Intake (R636 to R641) -/

/-- Device address of buffer n of a ring: the rings lie one after another in the intake area (log entry 44). -/
def State.bufAddr (s : State) (ring : Nat) (c : RingCfg) (n : Nat) : Nat :=
  nearAddr (s.img.intakeBase + ((s.img.rings.take ring).map (fun c => c.nb * c.bufSize)).sum + n % c.nb * c.bufSize)

/-- What the intake unit finds at the next expected buffer. -/
inductive Intake where
  | waiting | taken (gen : Nat) | skew | badHeader
  deriving DecidableEq, Repr

/-- The header of the next expected buffer (R637 to R639). -/
def RingCfg.judge (c : RingCfg) (r : IntakeRing) (h : List Byte) : Intake :=
  let field (off n : Nat) : Nat := leNat ((h.drop off).take n)
  let gen := r.baseGen + r.next / c.nb
  if field 0 8 ≠ gen then .waiting
  else if c.bufSize - 64 < field 16 4 || !(h.drop 20).all (· == 0) then .badHeader
  else if field 8 8 ≠ r.mbBase + r.next then .skew
  else .taken gen

def State.modIntake (s : State) (ring : Nat) (f : IntakeRing → IntakeRing) : State :=
  s.modHost (fun h => { h with intake := h.intake.upd ring f })

/-- An event record about a ring: its TYPE and payload are free (log entry 45). -/
def State.intakeEvent (s : State) : State := (s.report (Config.eventType s.free).toNat ((List.range 16).map (Config.reply s.free))).draw

/-- The intake unit acts on what it found. A header that stays unfit is reported once. -/
def State.intakeAct (s : State) (ring : Nat) (c : RingCfg) : Intake → State
  | .waiting => if (s.host.intake.at ring).waiting then s else (s.modIntake ring (fun r => { r with waiting := true })).intakeStatus ring
  | .skew =>
    if (s.host.intake.at ring).skew then s
    else ((s.modIntake ring (fun r => { r with skew := true, waiting := false })).intakeEvent).intakeStatus ring
  | .badHeader =>
    if (s.host.intake.at ring).badHeader then s
    else ((s.modIntake ring (fun r => { r with badHeader := true, waiting := false })).intakeEvent).intakeStatus ring
  | .taken gen =>
    let s := s.modIntake ring (fun r =>
      { r with next := r.next + 1, lastGen := max r.lastGen gen, skew := false, badHeader := false, waiting := false })
    (s.each c.consumers (fun s k => s.advance k.1 k.2 1)).intakeStatus ring

/-- INTAKE_POLL (R639): a buffer whose header cannot be read is read again. -/
def execIntakePoll (ring : Nat) (s : State) : Out :=
  .next (match s.img.rings[ring]? with
    | none => s
    | some c =>
      if s.host.job ≠ .running || s.power.holdup ≠ 0 then s
      else
        let r := s.host.intake.at ring
        match s.readMem (s.bufAddr ring c r.next) 64 with
        | (s, .ok h) => s.intakeAct ring c (RingCfg.judge c r h)
        | (s, .error _) => s.intakeAct ring c .waiting)

/-- INTAKE_RELEASE (R639): the release counter has advanced past a buffer; MSI-X vector 2. -/
def execIntakeRelease (ring : Nat) (s : State) : Out :=
  .next (match s.img.rings[ring]? with
    | none => s
    | some c =>
      let r := s.host.intake.at ring
      let count := ((s.core c.releaseCore).counters.at c.releaseCtr).value - r.relBase
      let more := (count - BitVec.ofNat 32 r.released).toNat
      if more = 0 || 2 ^ 31 ≤ more || s.host.job ≠ .running then s
      else ((s.modIntake ring (fun r => { r with released := r.released + more })).intakeStatus ring).msix 2)

/-! ## Result rings (R643 to R646) -/

/-- The oldest PENDING record of a ring. -/
def ResultRing.oldestPending (r : ResultRing) : Option ResultRec := r.recs.find? (·.state == 1)

/-- PLAN_RECORD_READY (R644): the next record is complete with the payload the plan wrote; a word of it that cannot be corrected
makes it CORRUPT (00_scope R18). -/
def execPlanRecordReady (ring : Nat) (s : State) : Out :=
  .next (match s.img.planRings.find? (fun p => p.ring == ring) with
    | none => s
    | some p =>
      let r := s.host.rings.at ring
      let passed := (((s.core p.core).counters.at p.written).value - r.ready).toNat
      match r.oldestPending with
      | none => s
      | some e =>
        if passed = 0 || 2 ^ 31 ≤ passed then s
        else
          let s := s.setRing ring { r with ready := r.ready + 1 }
          let a := s.recAddr ring e.index + 64
          match s.readMem a (p.recSize - 64) with
          | (s, .ok bs) => s.closeRec ring e.index 2 0 bs
          | (s, .error _) => s.closeRec ring e.index 4 0 (s.peek a (p.recSize - 64)))

/-- A consume of n records passes one that is EMPTY or PENDING. -/
def ResultRing.passesOpen (r : ResultRing) (n : Nat) : Bool :=
  decide ((r.issued - r.consumed).toNat < n) ||
  r.recs.any (fun e => e.state == 1 && decide ((BitVec.ofNat 32 e.index - r.consumed).toNat < n))

/-- Host software consumes the records of a ring before index `value`, or the write is ignored and HOST_ERR set (R646). FREE of
a PLAN ring advances for each slot (R644), whose next record is issued while the job runs. -/
def State.consume (s : State) (ring : Nat) (value : Word) : State :=
  let r := s.host.rings.at ring
  let n := (value - r.consumed).toNat
  if 2 ^ 31 ≤ n || r.passesOpen n then s.modHost (fun h => { h with hostErr := true })
  else
    let s := s.setRing ring { r with consumed := value, recs := r.recs.filter (fun e => n ≤ (BitVec.ofNat 32 e.index - r.consumed).toNat) }
    match s.img.planRings.find? (fun p => p.ring == ring) with
    | none => s
    | some p => (s.advance p.core p.free n).when (s.host.job == .running) (State.issuePlan p n)

/-- RES_CONSUMED_WRITE (R646). -/
def execResConsumedWrite (ring : Nat) (value : Word) (s : State) : Out :=
  .next (if s.barUp && ring < 16 then s.consume ring value else s)

/-- HOST_ERR_CLEAR (R652). -/
def execHostErrClear (s : State) : Out := .next (s.when s.barUp (·.modHost (fun h => { h with hostErr := false })))

/-! ## Data object exchange (R633; layouts of PCIe Base 6.0 and CXL 3.1: log entry 46) -/

def State.doeReply (s : State) (bs : List Byte) : State := (s.modHost (fun h => { h with doe := bs })).draw

/-- The data object protocols: vendor and type. -/
def doeProtocols : List (Nat × Nat) := [(0x0001, 0), (0x0001, 1), (0x1E98, 2)]
/-- DOE_DISCOVERY: protocol `index` and the next index, 0 after the last. -/
def execDoeDiscovery (index : Nat) (s : State) : Out :=
  .next (if !s.mailboxUp then s
    else match doeProtocols[index]? with
      | some (vendor, type) => s.doeReply (leBytes 2 vendor ++ leBytes 1 type ++ leBytes 1 ((index + 1) % doeProtocols.length))
      | none => s.doeReply (leBytes 2 0xFFFF ++ [Config.reply s.free 0, 0]))

/-- The DSMAS entry of the intake area: it starts at HDM device address 0 (R636). Its flags are free. -/
def State.dsmas (s : State) : List Byte :=
  [0, 0] ++ leBytes 2 24 ++ [0, Config.reply s.free 0, 0, 0] ++ leBytes 8 0 ++ leBytes 8 s.img.intakeSize
/-- The CDAT header: length, revision, checksum, sequence number; revision and sequence number are free. -/
def State.cdatHeader (s : State) : List Byte :=
  let head := leBytes 4 (16 + s.dsmas.length) ++ [Config.reply s.free 1]
  let tail := zeros 6 ++ (List.range 4).map (fun i => Config.reply s.free (2 + i))
  head ++ [0 - (head ++ tail ++ s.dsmas).sum] ++ tail
/-- TABLE_ACCESS: entry handle 0 is the CDAT header, 1 the DSMAS entry. -/
def execTableAccess (handle : Nat) (s : State) : Out :=
  .next (if !s.mailboxUp then s
    else match handle with
      | 0 => s.doeReply ([0, 0] ++ leBytes 2 1 ++ s.cdatHeader)
      | 1 => s.doeReply ([0, 0] ++ leBytes 2 0xFFFF ++ s.dsmas)
      | _ => s.doeReply ([0, 0] ++ leBytes 2 0xFFFF))

end Sys2Proof.Machine
end

