-- ==== Sys2Proof/Machine/Pins.lean ====
section
/-! DEFINITION. Input pins and the CXL link (17_module_signals R602 to R608; 18_configuration R635; 11_memory R384). -/

namespace Sys2Proof.Machine

open Sys2Proof

/-- RESET_N_LOW (R606): low for 1 µs, a Full reset is requested at once. -/
def execResetNLow (s : State) : Out :=
  .next (if s.power.resetNLow.isSome then s
    else (s.modPower (fun p => { p with resetNLow := some s.now })).requestFull .resetInput)
/-- RESET_N_HELD (R606): still low 1 s after it fell; a Cold reset holds every rail but standby off. -/
def execResetNHeld (s : State) : Out :=
  .next (if s.power.resetNLow.isNone || s.power.resetHeld || s.power.boot == .off then s
    else (s.modPower (fun p => { p with resetHeld := true })).requestCold .resetInput .charging)
/-- RESET_N_RELEASE (R606): the Cold start goes on from step 2. -/
def execResetNRelease (s : State) : Out := .next (s.modPower (fun p => { p with resetNLow := none, resetHeld := false }))
/-- TAMPER (R607): above 2.0 V for 1 µs. -/
def execTamper (mv : Nat) (s : State) : Out :=
  .next (
    let up := 2000 < mv
    let new := up && !s.power.tamper
    let s := s.modPower (fun p => { p with tamper := up })
    if new then s.alarm 4 else s)

/-- The CXL link goes down: pool requests end LINK_DOWN, those of a checkpoint's writes too (14_checkpoint R506); intake and results wait
(R384, R608, R635). -/
def State.cxlDown (s : State) : State :=
  ((s.modHost (fun h => { h with cxlUp := false })).endPools Cause.linkDown).modCk (fun u => { u with
    targets := u.targets.map (fun t => (t.1, if t.2.lines.isEmpty then t.2 else { t.2 with lost := Cause.linkDown })) })
/-- PERST_N (R608). -/
def execPerstN (s : State) : Out := .next ((s.modPower (fun p => { p with perstLow := true })).cxlDown)
/-- PERST_N_DEASSERT (R608). -/
def execPerstNDeassert (s : State) : Out := .next (s.modPower (fun p => { p with perstLow := false }))
/-- REFCLK_CHANGE (R602): a reference within ±300 ppm. -/
def execRefclkChange (present : Bool) (ppm : Int) (s : State) : Out :=
  .next (s.modPower (fun p => { p with refclkOk := present && -300 ≤ ppm && ppm ≤ 300 }))
/-- CXL_LINK_DOWN (R384). -/
def execCxlLinkDown (s : State) : Out := .next s.cxlDown
/-- CXL_LINK_UP (R602, R635): from cold-start step 4, with a reference, outside PERST_N. -/
def execCxlLinkUp (s : State) : Out :=
  .next (
    let trained := match s.power.boot with | .off | .charging | .standby | .headstock => false | _ => s.power.holdup == 0
    if trained && s.power.refclkOk && !s.power.perstLow then s.modHost (fun h => { h with cxlUp := true }) else s)

end Sys2Proof.Machine
end

