-- ==== Sys2Proof/Machine/Registers.lean ====
section
/-! DEFINITION. Register space as the host and the board management controller see it: the value of every register, writes by
access code, the I3C target, and telemetry records (00_scope R11 to R13; 18_configuration R634, R650 to R652; 19_event_recorder
R667). -/

namespace Sys2Proof.Machine

open Sys2Proof

/-- A register from its fields: value, lowest bit, width. Bits of no field are reserved and read 0 (R13). -/
def pack (fs : List (Nat × Nat × Nat)) : Nat := (fs.map (fun f => f.1 % 2 ^ f.2.2 * 2 ^ f.2.1)).sum
/-- Bits of a Bool list, the first lowest. -/
def bitMask (bs : List Bool) : Nat := bs.foldr (fun b m => b2n b + 2 * m) 0
/-- A value of a loaded image: 0 before it is read. -/
def State.ofImage (s : State) (v : Nat) : Nat := if s.image.isSome then v else 0

/-! ## HS: gate unit, commit unit, checkpoint unit (09_training R324; 10_parameter R362; 14_checkpoint R525) -/

def ShardSt.info (x : ShardSt) : Nat :=
  pack [(x.slot, 30, 2), (bitMask ((List.range 4).map (fun k => !(x.holdsOn k).isEmpty)), 26, 4), (x.park, 18, 8), (x.cause.toNat, 10, 8),
        (b2n x.diverged, 9, 1), (b2n x.uncommitted, 8, 1), (b2n x.staged, 7, 1)]

def State.ckTargetReg (s : State) (t : Nat) : Nat :=
  let x := s.ck.targets.at t
  match s.img.ckTargets[t]? with
  | some c => pack [(1, 31, 1), (c.kind, 29, 2), (x.buffer, 28, 1), (b2n x.sealed, 27, 1), (x.lastCause.toNat, 0, 8)]
  | none => 0

def State.readHs (s : State) (o : Nat) : Nat :=
  let g := s.gate
  let u := s.commit
  let k := s.ck
  match o with
  | 0x8000 => g.step
  | 0x8004 => g.stepHi.toNat
  | 0x8008 => pack [(g.lastCause.toNat, 24, 8), (g.lsSet, 16, 8), (b2n g.halted, 3, 1), (b2n g.firstAt.isSome, 2, 1), (g.lastDecision, 0, 2)]
  | 0x800C => g.skipped.toNat
  | 0x8010 => g.growthRun
  | 0x8014 => g.worst
  | 0x9000 => pack [(u.lastCause.toNat, 24, 8), (u.lastShard, 12, 12), (b2n (!u.digests.isEmpty), 1, 1), (b2n (decide (u.advanced < g.step)), 0, 1)]
  | 0x9004 => u.commits.toNat
  | 0x9008 => u.worst
  | 0x900C => u.divergedCount.toNat
  | 0x9010 => u.sel
  | 0x9014 => (s.shardSt u.sel).info
  | 0x9018 => (s.shardSt u.sel).processed.getD 0
  | 0x901C => u.stepHi.toNat
  | 0xA000 => pack [(k.lastCause.toNat, 24, 8), (k.partner.getD 15, 16, 4), (b2n k.sameFeed, 2, 1), (b2n (k.restoring != 0), 1, 1),
                    (b2n (k.targets.any (fun t => t.2.due.isSome)), 0, 1)]
  | 0xA004 => k.sealedStep
  | 0xA008 => k.sealedHi.toNat
  | 0xA010 => s.ckTargetReg 0
  | 0xA014 => s.ckTargetReg 1
  | 0xA018 => s.ckTargetReg 2
  | 0xA01C => s.ckTargetReg 3
  | 0xA020 => k.skipped.toNat
  | 0xA024 => k.seals.toNat
  | 0xA028 => k.restores.toNat
  | 0xA02C => k.slowest
  | _ => 0

/-! ## PWR (16_power R597; 17_module_signals R613) -/

/-- The hottest die with its junction: the Drehal dies, and an edge die where one has reported. -/
def State.hottest (s : State) : Nat × Int :=
  let dies := (List.range 8).map (fun d => (d, (s.governors.at d).junction))
  let all := if 8 ≤ s.power.hotDie then dies ++ [(s.power.hotDie, s.power.hotC)] else dies
  all.foldl (fun m x => if m.2 < x.2 then x else m) (0, (s.governors.at 0).junction)

def State.readPwr (s : State) (o : Nat) : Nat :=
  let p := s.power
  match o with
  | 0x000 => pack [(p.state.code, 28, 4), (p.wave, 24, 4), (p.diesUp.toNat, 16, 8), (b2n p.inputLow, 4, 1), (b2n s.holdupReady, 3, 1),
                   (b2n p.thermalCapped, 2, 1), (b2n p.faultLatched, 1, 1), (b2n (p.state == .ready), 0, 1)]
  | 0x004 => pack [(p.vin, 16, 16), (p.iin, 0, 16)]
  | 0x008 => pack [(p.vbulk, 16, 16), (p.cap, 0, 16)]
  | 0x00C => p.pin % 2 ^ 16
  | 0x010 => pack [(ResetSource.code p.lastSource, 16, 8), (p.lastDie, 8, 3), (p.lastKind, 0, 2)]
  | 0x014 => pack [(p.fullCount.toNat, 24, 8), (p.computeCount.toNat, 16, 8), (p.dieCount.toNat, 8, 8), (p.trips.toNat, 0, 8)]
  | 0x018 => pack [(s.hottest.1, 24, 8), ((s.hottest.2 % 256).toNat, 16, 8)]
  | 0x040 => pack [(p.role, 24, 4), (p.slot, 16, 8), (p.feed, 0, 16)]
  | 0x044 => pack [(b2n p.refclkOk, 3, 1), (b2n (!p.perstLow), 2, 1), (b2n p.tamper, 1, 1), (b2n (p.resetNLow.isNone && !p.resetHeld), 0, 1)]
  | o => if 0x020 ≤ o ∧ o < 0x040 ∧ o % 4 = 0 then s.fuses.clusterGood.getD ((o - 0x020) / 4) 0 % 2 ^ 9 else 0

/-! ## TIME (02_dataflow R61, R91) -/

def LaunchSlot.status (x : LaunchSlot) : Nat :=
  pack [(x.generation, 16, 16), (b2n x.instant.isSome, 15, 1), (b2n x.cancelled, 14, 1), (x.arrived.length, 0, 11)]

def State.readTime (s : State) (o : Nat) : Nat :=
  let t := s.time
  match o with
  | 0x0000 => s.now
  | 0x0004 => t.hiLatch.toNat
  | 0x0008 => pack [(b2n t.oscFault, 1, 1), (b2n (!t.oscFault), 0, 1)]
  | 0x0010 => pack [(t.skewMax, 16, 8), (t.aligned.toNat, 0, 10)]
  | 0x0014 => t.launchLate.toNat
  | o => if 0x0100 ≤ o ∧ o < 0x0200 ∧ o % 4 = 0 then (t.slots.at ((o - 0x0100) / 4)).status else 0

/-! ## TOR (12_torus R444, R445) -/

def Port.read (x : Port) (o : Nat) : Nat :=
  let width := match x.width with | 8 => 1 | 12 => 2 | 16 => 3 | _ => 0
  match o with
  | 0x00 => pack [(x.state, 29, 3), (width, 27, 2), (b2n x.spareUsed, 26, 1), (b2n x.belowFloor, 25, 1), (x.good, 0, 17)]
  | 0x04 => x.downReason % 256
  | 0x08 => x.downs.toNat
  | 0x0C => x.replays.toNat
  | 0x10 => x.fecFixed.toNat
  | 0x14 => x.fecLost.toNat
  | 0x18 => x.tc0Over.toNat
  | 0x1C => x.tc0Late.toNat
  | 0x20 => x.badPkt.toNat
  | 0x24 => pack [(x.nbrPort, 16, 4), (x.nbrNode, 0, 16)]
  | 0x28 => x.nbrFeed % 2 ^ 16
  | _ => 0

/-- TOR.ROUTE_INFO of the selected destination: the path in use, or the one that a first use would choose (R429). -/
def State.routeInfo (s : State) : Nat :=
  let dst := s.torus.routeSel
  if s.image.isNone || dst = s.img.node then 0
  else if s.nodes ≤ dst then pack [(3, 30, 2)]
  else
    let p := (s.knowPath dst).torus.paths.at dst
    pack [(p.state, 30, 2), (p.epoch, 16, 8), (p.route, 8, 8), ((s.nextPort p.route s.img.node dst).getD 0, 0, 3)]

def State.readTor (s : State) (o : Nat) : Nat :=
  match o with
  | 0x1000 => s.ofImage (s.img.node % 2 ^ 16)
  | 0x1004 => s.ofImage (pack [(s.axis 3, 24, 8), (s.axis 2, 16, 8), (s.axis 1, 8, 8), (s.axis 0, 0, 8)])
  | 0x1008 => s.torus.routeSel
  | 0x100C => s.routeInfo
  | 0x1010 => s.torus.epochsLost.toNat
  | 0x1014 => s.torus.refusedSent.toNat
  | o => if o < 0x800 then (s.torus.ports.at (o / 0x100)).read (o % 0x100) else 0

/-! ## FRN (13_freyn R494, R495) -/

def State.readWan (s : State) (p o : Nat) : Nat :=
  if !s.wanExists p then (if o = 0 then 3 * 2 ^ 30 else 0)
  else
    let w := s.wan.at p
    match o with
    | 0x00 => pack [(w.state, 30, 2), (b2n w.remoteFault, 29, 1), (b2n w.localFault, 28, 1)]
    | 0x04 => w.tx.toNat
    | 0x08 => w.rx.toNat
    | 0x0C => w.drop.toNat
    | _ => 0

/-- The coordinator's number; none is a free value (log entry 47). -/
def State.coordReg (s : State) : Nat :=
  if s.img.assoc.isNone then 0 else s.coordinator.getD ((Config.reply s.free 0).toNat % 16)
def sitesMask (xs : List Nat) : Nat := bitMask ((List.range 16).map xs.contains)

def State.readFrn (s : State) (o : Nat) : Nat :=
  let u := s.round
  match o with
  | 0x1000 => u.openRound
  | 0x1004 => u.roundHi.toNat
  | 0x1008 => pack [(s.coordReg, 28, 4), (s.ofImage s.assoc.site, 24, 4), (u.ownState, 21, 3), (u.active, 0, 16)]
  | 0x100C => pack [(sitesMask s.heldSites, 16, 16), (sitesMask s.reachableSites, 0, 16)]
  | 0x1010 => pack [(u.lastMask, 16, 16), (u.lastKind, 8, 2), (u.lastCause.toNat, 0, 8)]
  | 0x1014 => u.txEpoch % 2 ^ 16
  | 0x1018 => u.resends.toNat
  | 0x101C => u.authFails.toNat
  | 0x1020 => u.staleDropped.toNat
  | 0x1024 => u.failovers.toNat
  | 0x1028 => u.rebases.toNat
  | 0x102C => u.rateWaitNs / 1000
  | 0x1030 => if s.img.assoc.isSome then s.assoc.mbps else 0
  | o =>
    if o < 0x400 then s.readWan (o / 0x100) (o % 0x100)
    else if 0x1040 ≤ o ∧ o < 0x1080 ∧ o % 4 = 0 then
      let x := s.site ((o - 0x1040) / 4)
      pack [(x.state, 29, 3), (b2n x.secondUp, 25, 1), (b2n x.primaryUp, 24, 1), (x.rxEpoch.getD 0, 0, 16)]
    else 0

/-! ## CIP and SEC (15_security R559, R560) -/

def KeySlot.info (k : KeySlot) : Nat :=
  if k.key.isEmpty then 0
  else pack [(1, 31, 1), (k.usage, 29, 2), (b2n (k.key.length == 32), 28, 1), (k.site, 24, 4), (k.epoch, 0, 16)]

/-- Registers of one engine; those of an absent engine read ABSENT 1 and 0 elsewhere. Each job is one command, so none is
running between commands. -/
def State.readEngine (s : State) (p o : Nat) : Nat :=
  if !s.wanExists p then (if o = 0 then 2 ^ 7 else 0)
  else
    let e := s.engine p
    let k := e.slots.at e.sel
    match o with
    | 0x00 => pack [(e.lastFail.toNat, 24, 8), ((e.slots.filter (fun x => !x.2.key.isEmpty)).length, 0, 6)]
    | 0x04 => e.jobs.toNat
    | 0x08 => e.tagFails.toNat
    | 0x0C => e.refused.toNat
    | 0x10 => e.sel
    | 0x14 => k.info
    | 0x18 => if k.usage = 0 then k.nextCtr else 0
    | 0x1C => e.ctrHi.toNat
    | _ => 0

def State.readCip (s : State) (o : Nat) : Nat :=
  if o < 0x400 then s.readEngine (o / 0x100) (o % 0x100)
  else if o = 0x1028 then (match s.sec.keyWrStatus with | some c => pack [(1, 8, 1), (c.toNat, 0, 8)] | none => 0)
  else 0

def State.readSec (s : State) (o : Nat) : Nat :=
  let f := s.fuses
  let c := s.sec
  match o with
  | 0x0000 => pack [(f.rollback, 16, 8), (f.ownerRevoke, 12, 4), (f.vendorRevoke, 10, 2), (b2n f.debugOpen, 9, 1), (b2n f.variantM, 8, 1),
                    (f.lifecycle, 0, 2)]
  | 0x0004 => f.serial
  | 0x0008 => f.serial / 2 ^ 32
  | 0x0010 => pack [(b2n s.flash.security.ownerLock, 3, 1), (b2n c.km.isSome, 2, 1), (b2n c.identityErased, 1, 1), (b2n s.kekClosed, 0, 1)]
  | 0x0014 => c.alarm.toNat
  | 0x0018 => c.alarms.toNat
  | 0x001C => c.authFails.toNat
  | _ => 0

/-! ## REC (19_event_recorder R674) and MEM (11_memory R394) -/

def State.readRec (s : State) (o : Nat) : Nat :=
  let r := s.recorder
  match o with
  | 0x00 => pack [(b2n r.mirrorFault, 2, 1), (b2n (!r.toMirror.isEmpty), 1, 1), (b2n r.wrapped, 0, 1)]
  | 0x04 => (s.sourceEnds 0).2.toNat
  | 0x08 => (s.sourceEnds 0).1.toNat
  | 0x0C => (s.sourceEnds 1).2.toNat
  | 0x10 => (s.sourceEnds 1).1.toNat
  | 0x14 => r.writeOff
  | 0x18 => r.dropped.toNat
  | 0x1C => r.clears.toNat
  | 0x20 => s.ofImage (s.img.telemetry % 2 ^ 12)
  | _ => 0

def State.readTiers (s : State) (o : Nat) : Nat :=
  let t := s.tiers
  match o with
  | 0x0200 => t.ueCount.toNat
  | 0x0204 => t.ueAddr
  | 0x0208 => pack [(t.ueCause.toNat, 24, 8), (t.ueHi, 0, 24)]
  | 0x020C => t.scrubPasses.toNat
  | 0x0210 => t.hsCe.toNat
  | 0x0400 => t.poolTimeouts.toNat
  | o =>
    if o < 0x0180 ∧ o % 4 = 0 then pack [((t.channels.at (o / 4)).state, 30, 2), ((t.channels.at (o / 4)).ce, 0, 16)]
    else if 0x0300 ≤ o ∧ o < 0x0400 ∧ o % 4 = 0 then
      pack [(b2n (bitOf t.poolUnbound ((o - 0x0300) / 4)), 1, 1), (b2n (bitOf t.poolValid ((o - 0x0300) / 4)), 0, 1)]
    else 0

/-! ## CD (02_dataflow R53, R79; 05_matrix R189; 06_fixed_rate R221, R222; 07_vector R261, R262; 08_experts R287; 09_training R305;
10_parameter R361; 11_memory R395) -/

def Slot.reg (x : Slot) : Nat :=
  match x.table with
  | some t => pack [(1, 31, 1), (t.rate, 20, 4), (t.carried, 16, 4), (t.id, 0, 16)]
  | none => 0

def CoreSt.read (x : CoreSt) (o : Nat) : Nat :=
  let queues (p : Queue → Bool) : Nat := bitMask ((List.range 8).map (fun q => p (x.queues.at q)))
  match o with
  | 0x000 => pack [(x.haltCause.toNat, 24, 8), (queues (·.active), 8, 8), (queues (·.halted), 0, 8)]
  | 0x400 => pack [(x.mx.lastFail.toNat, 24, 8), (b2n (!x.mx.ops.isEmpty), 3, 1), (x.mx.ops.length - 1, 0, 3)]
  | 0x404 => x.mx.causeOr.toNat
  | 0x408 => x.mx.ended.toNat
  | 0x410 => x.mx.tokens.toNat
  | 0x414 => x.mx.tokensHi.toNat
  | 0x418 => x.mx.stallA.toNat
  | 0x41C => x.mx.stallB.toNat
  | 0x420 => x.mx.skipped.toNat
  | 0x424 => x.mx.rescaled.toNat
  | 0x640 => (x.xp.rough.at 0).toNat
  | 0x644 => (x.xp.rough.at 1).toNat
  | 0x648 => x.xp.busy.toNat
  | 0x800 => pack [(x.vx.lastFail.toNat, 24, 8), (x.vx.failInstr, 11, 13), (b2n x.vx.run.isSome, 2, 1), (x.vx.queue.length, 0, 2)]
  | 0x804 => x.vx.flagsOr.toNat
  | 0x808 => x.vx.ended.toNat
  | 0x810 => x.vx.tokens.toNat
  | 0x814 => x.vx.tokensHi.toNat
  | 0xA00 => pack [(x.rd.lastFail.toNat, 24, 8)]
  | 0xA04 => x.rd.ended.toNat
  | 0xA08 => x.rd.applied.toNat
  | 0xC00 => pack [(x.rt.lastFail.toNat, 24, 8)]
  | 0xC04 => x.rt.requested.toNat
  | 0xC08 => x.rt.admitted.toNat
  | 0xC0C => x.rt.dropped.toNat
  | 0xC10 => x.rt.noneCount.toNat
  | 0xC14 => x.rt.unserved.toNat
  | 0xC18 => x.rt.bundlesIn.toNat
  | 0xE00 => pack [(x.up.lastFail.toNat, 24, 8), (b2n (!x.up.segs.isEmpty), 2, 1), (x.up.segs.length - 1, 0, 2)]
  | 0xE08 => x.up.step
  | 0xE0C => x.up.stepHi.toNat
  | 0xE10 => x.up.ended.toNat
  | 0xE14 => x.up.parked.toNat
  | 0xE18 => x.up.slotWaitUs
  | 0xF00 => x.sramCe.toNat
  | 0xF04 => x.sramUe.toNat
  | 0xF08 => pack [(x.xf.lastFail.toNat, 24, 8), (x.xf.open_.length + x.xp.waiting.length, 0, 5)]
  | 0xF0C => x.xf.bytes / 1024
  | o =>
    if o % 4 ≠ 0 then 0
    else if 0x040 ≤ o ∧ o < 0x060 then (x.queues.at ((o - 0x040) / 4)).pos % 2 ^ 16
    else if 0x100 ≤ o ∧ o < 0x200 then (x.counters.at ((o - 0x100) / 4)).value.toNat
    else if 0x200 ≤ o ∧ o < 0x300 then (x.counters.at ((o - 0x200) / 4)).cause.toNat
    else if 0x600 ≤ o ∧ o < 0x620 then (x.xp.slots.at ((o - 0x600) / 4)).reg
    else if 0x620 ≤ o ∧ o < 0x640 then
      pack [(x.implicitHolds ((o - 0x620) / 4), 16, 16), ((x.xp.slots.at ((o - 0x620) / 4)).explicit, 0, 16)]
    else 0

def Governor.read (g : Governor) (o : Nat) : Nat :=
  match o with
  | 0x0 => g.target % 2 ^ 16
  | 0x4 => pack [(g.rate, 20, 12), (g.vset, 10, 10), (b2n g.thermalLimited, 2, 1), (b2n g.powerLimited, 1, 1), (b2n g.atTarget, 0, 1)]
  | 0x8 => g.limitedUs
  | _ => 0

def Compressor.read (c : Compressor) (o : Nat) : Nat :=
  match o with
  | 0x20 => c.blocks.toNat
  | 0x24 => c.rough.toNat
  | 0x28 => c.nan.toNat
  | 0x2C => c.wait.toNat
  | o =>
    if o % 4 ≠ 0 then 0
    else if o < 0x10 then (c.slots.at (o / 4)).reg
    else if o < 0x20 then (c.slots.at ((o - 0x10) / 4)).explicit % 2 ^ 16
    else 0

def Recipe.reg (r : Recipe) : Nat := pack [(r.kind, 8, 3), (r.scale.toNat, 0, 8)]
def Recipe.feedback (r : Recipe) : Nat := pack [(r.highest.toNat, 24, 8), (r.rescales, 0, 24)]

/-- The logical core whose registers hold an offset of a die's block (00_scope R11). -/
def cdCore (d o : Nat) : Nat := 128 * d + o / 0x1000

/-- A register of a die. A core that does not exist reads all-ones (01_five_levels R35, 00_scope R10). -/
def State.readDie (s : State) (d o : Nat) : Nat :=
  if o < 0x80000 then (if s.coreExists (cdCore d o) then (s.core (cdCore d o)).read (o % 0x1000) else 0xFFFFFFFF)
  else if o < 0x90000 then (s.governors.at d).read (o - 0x80000)
  else if o < 0xA0000 then
    let c := (o - 0x90000) / 0x100
    if c < s.clustersPerDie then (s.clusters.at (8 * d + c)).read (o % 0x100) else 0
  else
    let core := 128 * d + (o - 0xA0000) / 0x800
    let r := (s.core core).recipes.at (o % 0x800 / 8)
    if 0xE0000 ≤ o then 0
    else if !s.coreExists core then 0xFFFFFFFF
    else if o % 8 = 0 then r.reg else if o % 8 = 4 then r.feedback else 0

/-! ## CFG (18_configuration R652) -/

/-- Whole seconds until the rollback of a trial (R625). -/
def State.trialLeft (s : State) : Nat := if s.host.fwTrial then (s.host.trialAt + 600000000000 - s.now) / 1000000000 else 0

def State.readCfgBlock (s : State) (o : Nat) : Nat :=
  let h := s.host
  match o with
  | 0x0000 => pack [(h.lastCause.toNat, 24, 8), (h.job.code, 21, 3), (b2n h.cfgSlot, 20, 1), (b2n h.cfgFallback, 19, 1), (b2n h.fwSlot, 18, 1),
                    (b2n h.fwTrial, 17, 1), (b2n h.xfer.isSome, 16, 1), (b2n h.hostErr, 15, 1)]
  | 0x0004 => s.trialLeft
  | 0x0008 => h.resLost.toNat
  | o =>
    if 0x0100 ≤ o ∧ o < 0x0180 then
      let r := h.rings.at ((o - 0x0100) / 8)
      if o % 8 = 0 then r.issued.toNat else if o % 8 = 4 then r.consumed.toNat else 0
    else 0

/-! ## The register space (R11) -/

/-- What a register holds, by its offset in register space. An offset of no register reads 0 (log entry 48), one past the register
space all-ones (18_configuration R634). -/
def State.regRead (s : State) (o : Nat) : Word :=
  BitVec.ofNat 32 (
    if o < 0x100000 then s.readHs o
    else if o < 0x200000 then s.readPwr (o - 0x100000)
    else if o < 0x300000 then s.readTime (o - 0x200000)
    else if o < 0x400000 then s.readTor (o - 0x300000)
    else if o < 0x500000 then s.readFrn (o - 0x400000)
    else if o < 0x600000 then s.readCip (o - 0x500000)
    else if o < 0x700000 then s.readRec (o - 0x600000)
    else if o < 0x800000 then s.readTiers (o - 0x700000)
    else if o < 0x1000000 then s.readDie ((o - 0x800000) / 0x100000) (o % 0x100000)
    else if o < 0x1100000 then s.readCfgBlock (o - 0x1000000)
    else if o < 0x1200000 then s.readSec (o - 0x1100000)
    else 0xFFFFFFFF)

/-- The state after a meaning that answers a next state. -/
def State.after (s : State) (f : State → Out) : State := match f s with | .next t => t | _ => s

/-- A read of the low half of a pair latches its high half. -/
def State.latchRead (s : State) (o : Nat) : State :=
  match o with
  | 0x8000 => s.after execStepLoRead
  | 0x9018 => s.after execShardStepLoRead
  | 0xA004 => s.after execCkSealedLoRead
  | 0x200000 => s.after execTimeNowLoRead
  | 0x401000 => s.after execRoundLoRead
  | 0x700204 => s.after execUeAddrLoRead
  | o =>
    if 0x500000 ≤ o ∧ o < 0x500400 ∧ o % 0x100 = 0x18 then s.after (execSlotCtrLoRead ((o - 0x500000) / 0x100))
    else if 0x800000 ≤ o ∧ o < 0x1000000 ∧ o % 0x100000 < 0x80000 then
      let core := cdCore ((o - 0x800000) / 0x100000) (o % 0x100000)
      if !s.coreExists core then s
      else match o % 0x1000 with
        | 0x410 => s.after (execMxTokensLoRead core)
        | 0x810 => s.after (execVxTokensLoRead core)
        | 0xE08 => s.after (execUpdStepLoRead core)
        | _ => s
    else s

/-- Registers read one after another. -/
def State.readRegs : List Nat → State → List Word × State
  | [], s => ([], s)
  | o :: os, s =>
    let v := s.regRead o
    let (vs, t) := State.readRegs os (s.latchRead o)
    (v :: vs, t)

/-! ## Writes by access code (R12, R13) -/

/-- A write to a word of the write-only key registers or to CIP.SLOT_SEL; absent engines ignore writes (15_security R548, R560). -/
def State.writeCip (s : State) (o : Nat) (value : Word) : State :=
  if o < 0x400 then
    (if o % 0x100 = 0x10 && s.wanExists (o / 0x100) then s.modEngine (o / 0x100) (fun e => { e with sel := value.toNat % 64 }) else s)
  else if !s.fuses.variantM then s
  else if 0x1000 ≤ o ∧ o < 0x1020 ∧ o % 4 = 0 then
    let i := (o - 0x1000) / 4
    s.modSec (fun c => { c with keyWr := c.keyWr.set i value, keyWrLost := c.keyWrLost &&& (0x1FF - 2 ^ i) })
  else if o = 0x1020 then s.modSec (fun c => { c with keyWrAssoc := value, keyWrLost := c.keyWrLost &&& 0xFF })
  else if o = 0x1024 then s.after (execKeyWrCommit value)
  else s

/-- A write to a core's register: CD.MX_ARITH and CD.VX_FLAGS clear bits. -/
def State.writeCore (s : State) (core o : Nat) (value : Word) : State :=
  if !s.coreExists core then s
  else match o with
    | 0x404 => s.after (execCauseOrClear core value)
    | 0x804 => s.after (execFlagsOrClear core value)
    | _ => s

/-- The effect of a host's write on the register at an offset; a read-only register ignores it. -/
def State.regWrite (s : State) (o : Nat) (value : Word) : State :=
  if o = 0x9010 then s.modCommit (fun u => { u with sel := value.toNat % 2 ^ 12 })
  else if o = 0x301008 then s.modTorus (fun t => { t with routeSel := value.toNat % 2 ^ 16 })
  else if 0x500000 ≤ o ∧ o < 0x600000 then s.writeCip (o - 0x500000) value
  else if 0x800000 ≤ o ∧ o < 0x1000000 ∧ o % 0x100000 < 0x80000 then
    s.writeCore (cdCore ((o - 0x800000) / 0x100000) (o % 0x100000)) (o % 0x1000) value
  else if o = 0x1000000 then (if value.getLsbD 15 then s.after execHostErrClear else s)
  else if 0x1000104 ≤ o ∧ o < 0x1000180 ∧ o % 8 = 4 then s.consume ((o - 0x1000100) / 8) value
  else if o = 0x1100014 then s.after (execAlarmClear value)
  else s

/-- REGISTER_WRITE (R12, R634). -/
def execRegisterWrite (offset : Nat) (value : Word) (s : State) : Out := .next (if s.barUp then s.regWrite offset value else s)

/-! ## Telemetry (19_event_recorder R667) -/

/-- The registers of a TELEMETRY record, in their order (log entry 49). -/
def telemetryRegs : List Nat :=
  [0x100000, 0x100004, 0x10000C, 0x100018, 0x8000, 0x8004, 0x800C, 0x8014, 0x9008, 0xA02C, 0x700200] ++
  (List.range 8).map (fun p => 0x30000C + 0x100 * p) ++ (List.range 8).map (fun p => 0x300014 + 0x100 * p) ++
  [0x40102C, 0x401018] ++
  (List.range 8).map (fun d => 0x880004 + 0x100000 * d) ++ (List.range 8).map (fun d => 0x880008 + 0x100000 * d)

/-- TELEMETRY: a record at each interval. -/
def execTelemetry (s : State) : Out :=
  .next (
    if s.image.isNone || s.img.telemetry = 0 || !s.recorderOn || s.now < s.recorder.telemetryAt + s.img.telemetry * 1000000000 then s
    else
      let (vs, s) := State.readRegs telemetryRegs s
      (s.report 0x00F0 (vs.flatMap (fun v => leBytes 4 v.toNat))).modRec (fun r => { r with telemetryAt := s.now }))

/-! ## I3C (18_configuration R650, R651) -/

/-- The standby domain is powered: the bulk is above 36 V as last measured (16_power R569). -/
def State.standbyOn (s : State) : Bool := decide (3600 < s.power.vbulk)
/-- Levels of PRSNT_N, STBY_N, READY_N, FAULT_N and THROTTLE_N: the first is tied to RTN, and without standby power the others are
high (17_module_signals R604). -/
def State.pinLevels (s : State) : List Bool :=
  let off := !s.standbyOn
  [false, off, off || s.power.readyN, off || s.power.faultN, off || s.power.throttleN]
def State.i3c (s : State) (f : State → State) : Out := .next (if s.standbyOn then f s else s)
def State.i3cReply (s : State) (bs : List Byte) : State := s.modHost (fun h => { h with i3cOut := bs })

/-- One word for the board management controller: outside the PWR block all-ones while the edge domain is unpowered. -/
def State.i3cWord (s : State) (o : Nat) : Word × State :=
  if (0x100000 ≤ o ∧ o < 0x200000) || s.edgePowered then (s.regRead o, s.latchRead o) else (0xFFFFFFFF, s)
/-- Words from an offset on. -/
def State.i3cWords : Nat → Nat → State → List Byte × State
  | 0, _, s => ([], s)
  | n + 1, o, s =>
    let (v, s) := s.i3cWord o
    let (bs, s) := State.i3cWords n (o + 4) s
    (leBytes 4 v.toNat ++ bs, s)

/-- I3C_READ: the offset is set and the private read that follows returns the 64 bytes from it on, which the controller may end
early (log entry 50). -/
def execI3cRead (offset : Nat) (s : State) : Out :=
  s.i3c (fun s =>
    let (bs, s) := State.i3cWords 16 offset s
    (s.modHost (fun h => { h with i3cOffset := some offset })).i3cReply bs)

/-- I3C_ARM: the bytes 0xA5, 0xC3, the first lowest. -/
def execI3cArm (key : Nat) (s : State) : Out :=
  s.i3c (fun s => if key = 0xC3A5 then s.modHost (fun h => { h with i3cArmedAt := some s.now }) else s)

/-- An armed command, within 100 ms of its arming. -/
def State.i3cArmed (s : State) (f : State → State) : Out :=
  s.i3c (fun s =>
    if s.host.i3cArmedAt.any (fun t => s.now ≤ t + 100000000) then f (s.modHost (fun h => { h with i3cArmedAt := none })) else s)

/-- I3C_COLD (R651; 16_power R581): the hot-swap switch opens. -/
def execI3cCold (s : State) : Out := s.i3cArmed (fun s => s.requestCold .i3c .off)
/-- I3C_FULL (R651; 16_power R581). -/
def execI3cFull (s : State) : Out := s.i3cArmed (fun s => s.requestFull .i3c)
/-- I3C_WAKE (R651; 16_power R589). -/
def execI3cWake (s : State) : Out := s.i3cArmed (fun s => s.wakeUp)

/-- RSTDAA: the dynamic address is given up. -/
def execRstdaa (s : State) : Out := s.i3c (·.modHost (fun h => { h with i3cAddr := none }))
/-- The static address (17_module_signals R610). -/
def State.i3cStatic (s : State) : Nat := 0x40 + s.power.slot % 16
/-- SETDASA: a target without a dynamic address takes one by its static address. -/
def execSetdasa (static addr : Nat) (s : State) : Out :=
  s.i3c (fun s => if static = s.i3cStatic && s.host.i3cAddr.isNone then s.modHost (fun h => { h with i3cAddr := some (addr % 128) }) else s)
/-- ENTDAA: a target without a dynamic address takes one. -/
def execEntdaa (addr : Nat) (s : State) : Out :=
  s.i3c (fun s => if s.host.i3cAddr.isNone then s.modHost (fun h => { h with i3cAddr := some (addr % 128) }) else s)

/-- A directed CCC to the dynamic address: the spec gives its contents no values, so they are free (log entry 51). -/
def State.ccc (n : Nat) (s : State) : State :=
  if s.host.i3cAddr.isNone then s else (s.i3cReply ((List.range n).map (Config.reply s.free))).draw
/-- GETPID: 48 bits. -/
def execGetpid (s : State) : Out := s.i3c (State.ccc 6)
/-- GETBCR. -/
def execGetbcr (s : State) : Out := s.i3c (State.ccc 1)
/-- GETDCR. -/
def execGetdcr (s : State) : Out := s.i3c (State.ccc 1)
/-- GETSTATUS: 16 bits. -/
def execGetstatus (s : State) : Out := s.i3c (State.ccc 2)
/-- GETMXDS: maximum write and read data rate. -/
def execGetmxds (s : State) : Out := s.i3c (State.ccc 2)

end Sys2Proof.Machine
end

