-- ==== Sys2Proof/Machine/Dispatch.lean ====
section
/-! DEFINITION. One arm per command: a direct call of its meaning. -/

namespace Sys2Proof.Machine

def exec (i : Instr) (s : State) : Host.Outcome State Fault Refusal :=
  match i with
  | .wait core q => Sys2Proof.Machine.execWait core q s
  | .addEntry core q => Sys2Proof.Machine.execAddEntry core q s
  | .jump core q => Sys2Proof.Machine.execJump core q s
  | .endEntry core q => Sys2Proof.Machine.execEndEntry core q s
  | .queueTimeout core q => Sys2Proof.Machine.execQueueTimeout core q s
  | .launchArrival core q => Sys2Proof.Machine.execLaunchArrival core q s
  | .setLaunchInstant slot => Sys2Proof.Machine.execSetLaunchInstant slot s
  | .launchBroadcastReceive slot die => Sys2Proof.Machine.execLaunchBroadcastReceive slot die s
  | .launchIssue core q => Sys2Proof.Machine.execLaunchIssue core q s
  | .lateLaunchIssue core q => Sys2Proof.Machine.execLateLaunchIssue core q s
  | .rampEnd slot => Sys2Proof.Machine.execRampEnd slot s
  | .setpointHoldEnd die => Sys2Proof.Machine.execSetpointHoldEnd die s
  | .governorCompare die rate => Sys2Proof.Machine.execGovernorCompare die rate s
  | .powerAverage die watts junction => Sys2Proof.Machine.execPowerAverage die watts junction s
  | .workingTargetRaise die => Sys2Proof.Machine.execWorkingTargetRaise die s
  | .oscFault => Sys2Proof.Machine.execOscFault s
  | .timeNowLoRead => Sys2Proof.Machine.execTimeNowLoRead s
  | .mm core q => Sys2Proof.Machine.execMm core q s
  | .mmTa core q => Sys2Proof.Machine.execMmTa core q s
  | .mmTb core q => Sys2Proof.Machine.execMmTb core q s
  | .gradW core q => Sys2Proof.Machine.execGradW core q s
  | .gradX core q => Sys2Proof.Machine.execGradX core q s
  | .tileComplete core => Sys2Proof.Machine.execTileComplete core s
  | .expanderStall core port => Sys2Proof.Machine.execExpanderStall core port s
  | .mxTokensLoRead core => Sys2Proof.Machine.execMxTokensLoRead core s
  | .causeOrClear core value => Sys2Proof.Machine.execCauseOrClear core value s
  | .load core q => Sys2Proof.Machine.execLoad core q s
  | .loadWaitWake core => Sys2Proof.Machine.execLoadWaitWake core s
  | .tableWaitLimit core => Sys2Proof.Machine.execTableWaitLimit core s
  | .hold core q => Sys2Proof.Machine.execHold core q s
  | .release core q => Sys2Proof.Machine.execRelease core q s
  | .kernelStart core => Sys2Proof.Machine.execKernelStart core s
  | .vector core q => Sys2Proof.Machine.execVector core q s
  | .vAdd core => Sys2Proof.Machine.execVAdd core s
  | .vSub core => Sys2Proof.Machine.execVSub core s
  | .vMul core => Sys2Proof.Machine.execVMul core s
  | .vFma core => Sys2Proof.Machine.execVFma core s
  | .vMax core => Sys2Proof.Machine.execVMax core s
  | .vMin core => Sys2Proof.Machine.execVMin core s
  | .vAbs core => Sys2Proof.Machine.execVAbs core s
  | .vNeg core => Sys2Proof.Machine.execVNeg core s
  | .vRcp core => Sys2Proof.Machine.execVRcp core s
  | .vRsqrt core => Sys2Proof.Machine.execVRsqrt core s
  | .vExp2 core => Sys2Proof.Machine.execVExp2 core s
  | .vLog2 core => Sys2Proof.Machine.execVLog2 core s
  | .vCvt core => Sys2Proof.Machine.execVCvt core s
  | .vCmp core => Sys2Proof.Machine.execVCmp core s
  | .vSel core => Sys2Proof.Machine.execVSel core s
  | .vAnd core => Sys2Proof.Machine.execVAnd core s
  | .vOr core => Sys2Proof.Machine.execVOr core s
  | .vXor core => Sys2Proof.Machine.execVXor core s
  | .vShl core => Sys2Proof.Machine.execVShl core s
  | .vShr core => Sys2Proof.Machine.execVShr core s
  | .vSar core => Sys2Proof.Machine.execVSar core s
  | .vPlog core => Sys2Proof.Machine.execVPlog core s
  | .vPset core => Sys2Proof.Machine.execVPset core s
  | .vTrn core => Sys2Proof.Machine.execVTrn core s
  | .vBrow core => Sys2Proof.Machine.execVBrow core s
  | .vBcol core => Sys2Proof.Machine.execVBcol core s
  | .vIota core => Sys2Proof.Machine.execVIota core s
  | .vLd core => Sys2Proof.Machine.execVLd core s
  | .vSt core => Sys2Proof.Machine.execVSt core s
  | .vLdx core => Sys2Proof.Machine.execVLdx core s
  | .vStx core => Sys2Proof.Machine.execVStx core s
  | .vLdg core => Sys2Proof.Machine.execVLdg core s
  | .vStg core => Sys2Proof.Machine.execVStg core s
  | .vLdp core => Sys2Proof.Machine.execVLdp core s
  | .vStp core => Sys2Proof.Machine.execVStp core s
  | .vSset core => Sys2Proof.Machine.execVSset core s
  | .vSseth core => Sys2Proof.Machine.execVSseth core s
  | .vSadd core => Sys2Proof.Machine.execVSadd core s
  | .vSaddr core => Sys2Proof.Machine.execVSaddr core s
  | .vSmul core => Sys2Proof.Machine.execVSmul core s
  | .vSget core => Sys2Proof.Machine.execVSget core s
  | .vSld core => Sys2Proof.Machine.execVSld core s
  | .vSst core => Sys2Proof.Machine.execVSst core s
  | .vJmp core => Sys2Proof.Machine.execVJmp core s
  | .vBnz core => Sys2Proof.Machine.execVBnz core s
  | .vLoop core => Sys2Proof.Machine.execVLoop core s
  | .vEnd core => Sys2Proof.Machine.execVEnd core s
  | .vRclr core => Sys2Proof.Machine.execVRclr core s
  | .vRfeed core => Sys2Proof.Machine.execVRfeed core s
  | .vRget core => Sys2Proof.Machine.execVRget core s
  | .vRtap core => Sys2Proof.Machine.execVRtap core s
  | .kernelTimeout core => Sys2Proof.Machine.execKernelTimeout core s
  | .vxTokensLoRead core => Sys2Proof.Machine.execVxTokensLoRead core s
  | .flagsOrClear core value => Sys2Proof.Machine.execFlagsOrClear core value s
  | .tree core q => Sys2Proof.Machine.execTree core q s
  | .sum core q => Sys2Proof.Machine.execSum core q s
  | .rows core q => Sys2Proof.Machine.execRows core q s
  | .tapread core q => Sys2Proof.Machine.execTapread core q s
  | .dispatch core q => Sys2Proof.Machine.execDispatch core q s
  | .dispatchDone core item => Sys2Proof.Machine.execDispatchDone core item s
  | .combine core q => Sys2Proof.Machine.execCombine core q s
  | .gateContribution core => Sys2Proof.Machine.execGateContribution core s
  | .gateTotalsMessage axis coord totals => Sys2Proof.Machine.execGateTotalsMessage axis coord totals s
  | .selectorAdvance core => Sys2Proof.Machine.execSelectorAdvance core s
  | .gateTimeout => Sys2Proof.Machine.execGateTimeout s
  | .stepLoRead => Sys2Proof.Machine.execStepLoRead s
  | .innerSegment core q => Sys2Proof.Machine.execInnerSegment core q s
  | .previousStepResume core => Sys2Proof.Machine.execPreviousStepResume core s
  | .slotReleaseResume core => Sys2Proof.Machine.execSlotReleaseResume core s
  | .stagedResume core => Sys2Proof.Machine.execStagedResume core s
  | .chunkWriteback core => Sys2Proof.Machine.execChunkWriteback core s
  | .segmentFailReport core => Sys2Proof.Machine.execSegmentFailReport core s
  | .shardCommit shard => Sys2Proof.Machine.execShardCommit shard s
  | .digestExchange shard coord digest => Sys2Proof.Machine.execDigestExchange shard coord digest s
  | .deferralLimit core => Sys2Proof.Machine.execDeferralLimit core s
  | .updStepLoRead core => Sys2Proof.Machine.execUpdStepLoRead core s
  | .shardStepLoRead => Sys2Proof.Machine.execShardStepLoRead s
  | .copy core q => Sys2Proof.Machine.execCopy core q s
  | .stage core q => Sys2Proof.Machine.execStage core q s
  | .writeback core q => Sys2Proof.Machine.execWriteback core q s
  | .sramScrub addr => Sys2Proof.Machine.execSramScrub addr s
  | .patrolScrub addr => Sys2Proof.Machine.execPatrolScrub addr s
  | .strobeStep channel => Sys2Proof.Machine.execStrobeStep channel s
  | .channelRetrain channel ok => Sys2Proof.Machine.execChannelRetrain channel ok s
  | .refresh channel bank => Sys2Proof.Machine.execRefresh channel bank s
  | .dramTemperatureReport channel aboveOperating => Sys2Proof.Machine.execDramTemperatureReport channel aboveOperating s
  | .poolCompletion tag line status bytes => Sys2Proof.Machine.execPoolCompletion tag line status bytes s
  | .poolTimeout tag => Sys2Proof.Machine.execPoolTimeout tag s
  | .ueAddrLoRead => Sys2Proof.Machine.execUeAddrLoRead s
  | .detect port lanes => Sys2Proof.Machine.execDetect port lanes s
  | .equalize port ok => Sys2Proof.Machine.execEqualize port ok s
  | .laneMap port tests goodOut => Sys2Proof.Machine.execLaneMap port tests goodOut s
  | .align port ok => Sys2Proof.Machine.execAlign port ok s
  | .exchange port id => Sys2Proof.Machine.execExchange port id s
  | .identitySend port => Sys2Proof.Machine.execIdentitySend port s
  | .configuredWaitLimit port => Sys2Proof.Machine.execConfiguredWaitLimit port s
  | .attemptTimeout port => Sys2Proof.Machine.execAttemptTimeout port s
  | .miscabledRetry port => Sys2Proof.Machine.execMiscabledRetry port s
  | .noValidFrame port => Sys2Proof.Machine.execNoValidFrame port s
  | .laneErrorLimit port lane corrections symbols => Sys2Proof.Machine.execLaneErrorLimit port lane corrections symbols s
  | .laneRetest port results => Sys2Proof.Machine.execLaneRetest port results s
  | .lanePropose port mask switchSeq => Sys2Proof.Machine.execLanePropose port mask switchSeq s
  | .laneAccept port mask switchSeq => Sys2Proof.Machine.execLaneAccept port mask switchSeq s
  | .laneSwitch port => Sys2Proof.Machine.execLaneSwitch port s
  | .laneSwitchTimeout port => Sys2Proof.Machine.execLaneSwitchTimeout port s
  | .frame port count sent errors => Sys2Proof.Machine.execFrame port count sent errors s
  | .inServiceRetrain port ok => Sys2Proof.Machine.execInServiceRetrain port ok s
  | .tc0Window port tc0Bytes => Sys2Proof.Machine.execTc0Window port tc0Bytes s
  | .write port => Sys2Proof.Machine.execWrite port s
  | .completion port => Sys2Proof.Machine.execCompletion port s
  | .refused port => Sys2Proof.Machine.execRefused port s
  | .refusedRetry tag => Sys2Proof.Machine.execRefusedRetry tag s
  | .retryWindowEnd tag => Sys2Proof.Machine.execRetryWindowEnd tag s
  | .epochEnd port => Sys2Proof.Machine.execEpochEnd port s
  | .epochAck port => Sys2Proof.Machine.execEpochAck port s
  | .epochClose port => Sys2Proof.Machine.execEpochClose port s
  | .drainLimit node => Sys2Proof.Machine.execDrainLimit node s
  | .linkState arrived node port up seq => Sys2Proof.Machine.execLinkState arrived node port up seq s
  | .openTransferTimeout edge src tag => Sys2Proof.Machine.execOpenTransferTimeout edge src tag s
  | .sourceTransferTimeout tag => Sys2Proof.Machine.execSourceTransferTimeout tag s
  | .linkWaitExpiry => Sys2Proof.Machine.execLinkWaitExpiry s
  | .haltMessage arrived node seq => Sys2Proof.Machine.execHaltMessage arrived node seq s
  | .wakeMessage node => Sys2Proof.Machine.execWakeMessage node s
  | .partnerClaim port node => Sys2Proof.Machine.execPartnerClaim port node s
  | .partnerRefusal port => Sys2Proof.Machine.execPartnerRefusal port s
  | .roundLoRead => Sys2Proof.Machine.execRoundLoRead s
  | .heartbeat hdr body => Sys2Proof.Machine.execHeartbeat hdr body s
  | .heartbeatSend => Sys2Proof.Machine.execHeartbeatSend s
  | .reachabilityLapse site => Sys2Proof.Machine.execReachabilityLapse site s
  | .routeDown site second => Sys2Proof.Machine.execRouteDown site second s
  | .delta hdr frag blocks => Sys2Proof.Machine.execDelta hdr frag blocks s
  | .ack hdr ranges => Sys2Proof.Machine.execAck hdr ranges s
  | .ackSend site => Sys2Proof.Machine.execAckSend site s
  | .packetResend site seq => Sys2Proof.Machine.execPacketResend site seq s
  | .streamPause site => Sys2Proof.Machine.execStreamPause site s
  | .propose hdr body => Sys2Proof.Machine.execPropose hdr body s
  | .accept hdr round crc => Sys2Proof.Machine.execAccept hdr round crc s
  | .close hdr body => Sys2Proof.Machine.execClose hdr body s
  | .fetch hdr req => Sys2Proof.Machine.execFetch hdr req s
  | .data hdr body => Sys2Proof.Machine.execData hdr body s
  | .digest hdr round digest => Sys2Proof.Machine.execDigest hdr round digest s
  | .join hdr body => Sys2Proof.Machine.execJoin hdr body s
  | .deltaForm shard core => Sys2Proof.Machine.execDeltaForm shard core s
  | .wanSend site => Sys2Proof.Machine.execWanSend site s
  | .wanFetch site => Sys2Proof.Machine.execWanFetch site s
  | .fetchLimit => Sys2Proof.Machine.execFetchLimit s
  | .outerSegment shard core => Sys2Proof.Machine.execOuterSegment shard core s
  | .anchorDigest => Sys2Proof.Machine.execAnchorDigest s
  | .roundDeadline => Sys2Proof.Machine.execRoundDeadline s
  | .roundOrphan => Sys2Proof.Machine.execRoundOrphan s
  | .recoveryFailover site => Sys2Proof.Machine.execRecoveryFailover site s
  | .recoveryRoutesDown site => Sys2Proof.Machine.execRecoveryRoutesDown site s
  | .keyEpochStart => Sys2Proof.Machine.execKeyEpochStart s
  | .gracePeriodEnd site => Sys2Proof.Machine.execGracePeriodEnd site s
  | .rateTokens => Sys2Proof.Machine.execRateTokens s
  | .neighborSolicitation port target sender => Sys2Proof.Machine.execNeighborSolicitation port target sender s
  | .arpRequest port target sender => Sys2Proof.Machine.execArpRequest port target sender s
  | .echoRequest port sender payload => Sys2Proof.Machine.execEchoRequest port sender payload s
  | .packetTooBig port mtu => Sys2Proof.Machine.execPacketTooBig port mtu s
  | .ckShard core q => Sys2Proof.Machine.execCkShard core q s
  | .ckState core q => Sys2Proof.Machine.execCkState core q s
  | .targetWriteDone target => Sys2Proof.Machine.execTargetWriteDone target s
  | .targetWriteFail target cause => Sys2Proof.Machine.execTargetWriteFail target cause s
  | .checkpointSeal target => Sys2Proof.Machine.execCheckpointSeal target s
  | .ckSealedLoRead => Sys2Proof.Machine.execCkSealedLoRead s
  | .restore => Sys2Proof.Machine.execRestore s
  | .restoreManifestsRead found => Sys2Proof.Machine.execRestoreManifestsRead found s
  | .sealedStepExchange coord steps => Sys2Proof.Machine.execSealedStepExchange coord steps s
  | .restoreLoaded pieces moduleRec => Sys2Proof.Machine.execRestoreLoaded pieces moduleRec s
  | .restoreCommitted => Sys2Proof.Machine.execRestoreCommitted s
  | .restoreVerified => Sys2Proof.Machine.execRestoreVerified s
  | .voltageAlarm => Sys2Proof.Machine.execVoltageAlarm s
  | .temperatureAlarm => Sys2Proof.Machine.execTemperatureAlarm s
  | .glitchAlarm => Sys2Proof.Machine.execGlitchAlarm s
  | .alarmRecovery => Sys2Proof.Machine.execAlarmRecovery s
  | .alarmClear value => Sys2Proof.Machine.execAlarmClear value s
  | .changeWindowEnd => Sys2Proof.Machine.execChangeWindowEnd s
  | .encrypt engine desc => Sys2Proof.Machine.execEncrypt engine desc s
  | .decrypt engine desc => Sys2Proof.Machine.execDecrypt engine desc s
  | .mac engine desc => Sys2Proof.Machine.execMac engine desc s
  | .keySlotLoad engine slot load => Sys2Proof.Machine.execKeySlotLoad engine slot load s
  | .slotCtrLoRead engine => Sys2Proof.Machine.execSlotCtrLoRead engine s
  | .keyWrCommit value => Sys2Proof.Machine.execKeyWrCommit value s
  | .getVersion => Sys2Proof.Machine.execGetVersion s
  | .getCapabilities => Sys2Proof.Machine.execGetCapabilities s
  | .negotiateAlgorithms offersExtAsym => Sys2Proof.Machine.execNegotiateAlgorithms offersExtAsym s
  | .getDigests => Sys2Proof.Machine.execGetDigests s
  | .getCertificate slot offset length => Sys2Proof.Machine.execGetCertificate slot offset length s
  | .challenge slot nonce => Sys2Proof.Machine.execChallenge slot nonce s
  | .getMeasurements index signed nonce => Sys2Proof.Machine.execGetMeasurements index signed nonce s
  | .spdmUnsupported code => Sys2Proof.Machine.execSpdmUnsupported code s
  | .nonceGet => Sys2Proof.Machine.execNonceGet s
  | .nonceLapse => Sys2Proof.Machine.execNonceLapse s
  | .lock auth => Sys2Proof.Machine.execLock auth s
  | .unlock auth => Sys2Proof.Machine.execUnlock auth s
  | .enrol auth entry key => Sys2Proof.Machine.execEnrol auth entry key s
  | .revoke auth entry => Sys2Proof.Machine.execRevoke auth entry s
  | .retire auth => Sys2Proof.Machine.execRetire auth s
  | .recorderClear auth scope => Sys2Proof.Machine.execRecorderClear auth scope s
  | .provision qe ct tag => Sys2Proof.Machine.execProvision qe ct tag s
  | .keyInstall blob => Sys2Proof.Machine.execKeyInstall blob s
  | .inputStart mv => Sys2Proof.Machine.execInputStart mv s
  | .bulkCharged capUf straps straps2 => Sys2Proof.Machine.execBulkCharged capUf straps straps2 s
  | .headstockRailsGood => Sys2Proof.Machine.execHeadstockRailsGood s
  | .firmwareRunning => Sys2Proof.Machine.execFirmwareRunning s
  | .channelsTrained failed => Sys2Proof.Machine.execChannelsTrained failed s
  | .imageVerified => Sys2Proof.Machine.execImageVerified s
  | .wave => Sys2Proof.Machine.execWave s
  | .lastWaveDone unbound => Sys2Proof.Machine.execLastWaveDone unbound s
  | .zeroingComplete => Sys2Proof.Machine.execZeroingComplete s
  | .fullReset source => Sys2Proof.Machine.execFullReset source s
  | .computeReset source => Sys2Proof.Machine.execComputeReset source s
  | .dieReset die source => Sys2Proof.Machine.execDieReset die source s
  | .computeRailsOff => Sys2Proof.Machine.execComputeRailsOff s
  | .resetWavesDone => Sys2Proof.Machine.execResetWavesDone s
  | .overcurrent ma => Sys2Proof.Machine.execOvercurrent ma s
  | .overvoltage mv => Sys2Proof.Machine.execOvervoltage mv s
  | .faultLatchClear mv => Sys2Proof.Machine.execFaultLatchClear mv s
  | .inputLow mv => Sys2Proof.Machine.execInputLow mv s
  | .inputLoss mv => Sys2Proof.Machine.execInputLoss mv s
  | .holdupThrottled => Sys2Proof.Machine.execHoldupThrottled s
  | .holdupFlushDone => Sys2Proof.Machine.execHoldupFlushDone s
  | .holdupRailsOff => Sys2Proof.Machine.execHoldupRailsOff s
  | .edgeThermalShutdown die junction => Sys2Proof.Machine.execEdgeThermalShutdown die junction s
  | .thermalTrip die junction => Sys2Proof.Machine.execThermalTrip die junction s
  | .thermalHoldExit hottest => Sys2Proof.Machine.execThermalHoldExit hottest s
  | .thermalThrottle die junction => Sys2Proof.Machine.execThermalThrottle die junction s
  | .rest => Sys2Proof.Machine.execRest s
  | .wake => Sys2Proof.Machine.execWake s
  | .wakeWave => Sys2Proof.Machine.execWakeWave s
  | .resetNLow => Sys2Proof.Machine.execResetNLow s
  | .resetNHeld => Sys2Proof.Machine.execResetNHeld s
  | .resetNRelease => Sys2Proof.Machine.execResetNRelease s
  | .tamper mv => Sys2Proof.Machine.execTamper mv s
  | .perstN => Sys2Proof.Machine.execPerstN s
  | .refclkChange present ppm => Sys2Proof.Machine.execRefclkChange present ppm s
  | .i3cRead offset => Sys2Proof.Machine.execI3cRead offset s
  | .i3cArm key => Sys2Proof.Machine.execI3cArm key s
  | .i3cCold => Sys2Proof.Machine.execI3cCold s
  | .i3cFull => Sys2Proof.Machine.execI3cFull s
  | .i3cWake => Sys2Proof.Machine.execI3cWake s
  | .rstdaa => Sys2Proof.Machine.execRstdaa s
  | .setdasa static addr => Sys2Proof.Machine.execSetdasa static addr s
  | .entdaa addr => Sys2Proof.Machine.execEntdaa addr s
  | .getpid => Sys2Proof.Machine.execGetpid s
  | .getbcr => Sys2Proof.Machine.execGetbcr s
  | .getdcr => Sys2Proof.Machine.execGetdcr s
  | .getstatus => Sys2Proof.Machine.execGetstatus s
  | .getmxds => Sys2Proof.Machine.execGetmxds s
  | .transferFwFull slot offset bytes => Sys2Proof.Machine.execTransferFwFull slot offset bytes s
  | .transferFwInitiate slot offset bytes => Sys2Proof.Machine.execTransferFwInitiate slot offset bytes s
  | .transferFwContinue slot offset bytes => Sys2Proof.Machine.execTransferFwContinue slot offset bytes s
  | .transferFwEnd slot offset bytes => Sys2Proof.Machine.execTransferFwEnd slot offset bytes s
  | .transferFwAbort => Sys2Proof.Machine.execTransferFwAbort s
  | .cfgTransferFull slot offset bytes content => Sys2Proof.Machine.execCfgTransferFull slot offset bytes content s
  | .cfgTransferInitiate slot offset bytes => Sys2Proof.Machine.execCfgTransferInitiate slot offset bytes s
  | .cfgTransferContinue slot offset bytes => Sys2Proof.Machine.execCfgTransferContinue slot offset bytes s
  | .cfgTransferEnd slot offset bytes content => Sys2Proof.Machine.execCfgTransferEnd slot offset bytes content s
  | .cfgTransferAbort => Sys2Proof.Machine.execCfgTransferAbort s
  | .transferIdleTimeout => Sys2Proof.Machine.execTransferIdleTimeout s
  | .activateFw slot online => Sys2Proof.Machine.execActivateFw slot online s
  | .fwConfirm => Sys2Proof.Machine.execFwConfirm s
  | .trialTimeout => Sys2Proof.Machine.execTrialTimeout s
  | .getFwInfo => Sys2Proof.Machine.execGetFwInfo s
  | .getTimestamp => Sys2Proof.Machine.execGetTimestamp s
  | .setTimestamp value => Sys2Proof.Machine.execSetTimestamp value s
  | .getSupportedLogs => Sys2Proof.Machine.execGetSupportedLogs s
  | .getLog => Sys2Proof.Machine.execGetLog s
  | .unsupportedOpcode opcode => Sys2Proof.Machine.execUnsupportedOpcode opcode s
  | .jobStart => Sys2Proof.Machine.execJobStart s
  | .jobStop => Sys2Proof.Machine.execJobStop s
  | .cfgInfo => Sys2Proof.Machine.execCfgInfo s
  | .intakePoll ring => Sys2Proof.Machine.execIntakePoll ring s
  | .intakeRelease ring => Sys2Proof.Machine.execIntakeRelease ring s
  | .planRecordReady ring => Sys2Proof.Machine.execPlanRecordReady ring s
  | .resConsumedWrite ring value => Sys2Proof.Machine.execResConsumedWrite ring value s
  | .hostErrClear => Sys2Proof.Machine.execHostErrClear s
  | .registerWrite offset value => Sys2Proof.Machine.execRegisterWrite offset value s
  | .eventReport => Sys2Proof.Machine.execEventReport s
  | .lost => Sys2Proof.Machine.execLost s
  | .mirrorAppend f0Ok f1Ok => Sys2Proof.Machine.execMirrorAppend f0Ok f1Ok s
  | .telemetry => Sys2Proof.Machine.execTelemetry s
  | .recRead source fromSeq maxBytes => Sys2Proof.Machine.execRecRead source fromSeq maxBytes s
  | .combineDone core item => Sys2Proof.Machine.execCombineDone core item s
  | .wanPortDown port localFault remoteFault => Sys2Proof.Machine.execWanPortDown port localFault remoteFault s
  | .wanPortUp port => Sys2Proof.Machine.execWanPortUp port s
  | .cxlLinkDown => Sys2Proof.Machine.execCxlLinkDown s
  | .cxlLinkUp => Sys2Proof.Machine.execCxlLinkUp s
  | .perstNDeassert => Sys2Proof.Machine.execPerstNDeassert s
  | .inputLowClear mv => Sys2Proof.Machine.execInputLowClear mv s
  | .partnerAcceptance port => Sys2Proof.Machine.execPartnerAcceptance port s
  | .copyRegionRequest port => Sys2Proof.Machine.execCopyRegionRequest port s
  | .shardExportRequest node shard => Sys2Proof.Machine.execShardExportRequest node shard s
  | .doeDiscovery index => Sys2Proof.Machine.execDoeDiscovery index s
  | .tableAccess handle => Sys2Proof.Machine.execTableAccess handle s

end Sys2Proof.Machine
end

