-- ==== Sys2Proof/Machine/Idle.lean ====
section
/-! DEFINITION. What happens when no command waits (log entry 2). -/

namespace Sys2Proof.Machine

open Sys2Proof

/-- One nanosecond passes, and reads that waited for a hold go on. -/
def State.idle (s : State) : State := s.tick.serveHolds

end Sys2Proof.Machine
end

