-- ==== Sys2Proof/Safety.lean ====
section
/-! DEFINITION. What a safe run is, and the terms in which the statements are written. -/

namespace Sys2Proof

open Sys2Proof.Machine

/-- Memory is in its canonical form: addresses strictly rising, no byte 0 listed. -/
def Safety.Inv (s : State) : Prop := Memory.wf s.mem

/-- The first `k` steps from a state answer next states that keep the invariant. -/
def Safety.SafeFor : Nat → State → Prop
  | 0, s => Safety.Inv s
  | k + 1, s => Safety.Inv s ∧ ∃ t, step s = .next t ∧ Safety.SafeFor k t

/-- The head entry of a live queue is read as `e`, breaks no rule of 02_dataflow R78 and waits on no latched counter; `t` is the
state after the read, which may have counted corrected words. -/
def Safety.HeadIs (s : State) (core q : Nat) (t : State) (e : Entry) : Prop :=
  s.queueLive core q = true ∧ (∃ bs, s.readOwn core (s.headAddr core q) 32 1 = (t, .ok bs) ∧ Entry.ofNat (leNat bs) = e) ∧
  t.entryOk core q e = true ∧ (t.core core).latched e = 0

/-- The head entry is `e`, with LAUNCH clear, conditions 1, 2, 3 and 5 of 02_dataflow R72 hold, and no lower-numbered queue of the
core is ready (R74). -/
def Safety.Ready (s : State) (core q : Nat) (t : State) (e : Entry) : Prop :=
  Safety.HeadIs s core q t e ∧ e.launch = false ∧ t.conditions core q e = true ∧ s.firstReady core q = true

/-- No word or line of any store holds an error and no channel is FAILED. -/
def Safety.Clean (s : State) : Prop :=
  s.tiers.wordErrs = [] ∧ s.tiers.lineErrs = [] ∧ ∀ c ∈ s.tiers.channels, c.2.state ≠ 3

/-- A ready TRANSFER entry whose descriptor reads as `w`; `u` is the state after both reads. -/
def Safety.Transfer (s : State) (core q : Nat) (u : State) (w : Nat) : Prop :=
  ∃ (t : State) (e : Entry) (bs : List Byte), Safety.Ready s core q t e ∧ e.kind = 4 ∧
    t.readOwn core e.addr 32 1 = (u, .ok bs) ∧ leNat bs = w

/-- An owner command's nonce, key and signature are good (15_security R537). -/
def Safety.Signed (s : State) (code : Nat) (auth : OwnerAuth) (args : List Byte) : Prop :=
  s.mailboxUp = true ∧ s.nonceOld = false ∧ s.sec.nonce.map (·.1) = some auth.nonce ∧ s.ownerKeyOk auth.keyEntry auth.pub = true ∧
  ecdsaOk auth.pub (leBytes 2 code ++ auth.nonce ++ leBytes 8 s.fuses.serial ++ args) auth.sig = true

/-- Between two states no other core and no byte of memory differs. -/
def Safety.OnlyCore (core : Nat) (s u : State) : Prop := (∀ c, c ≠ core → u.core c = s.core c) ∧ u.mem = s.mem

/-- The running kernel of a core stands before instruction `i`, which passes the checks of 07_vector R236. -/
def Safety.Fetched (s : State) (core : Nat) (r : Running) (i : VInstr) : Prop :=
  (s.core core).vx.run = some r ∧ VInstr.ofNat ((s.core core).kernelRegion.at r.pc).toNat = i ∧ i.ok = true ∧ r.pc < 8191

/-- The kernel has gone on to instruction `pc` after `i`: its tokens are counted, no other core and no byte of memory differs. -/
def Safety.Retired (s u : State) (core : Nat) (r : Running) (i : VInstr) (pc : Nat) : Prop :=
  (u.core core).vx.run.map (·.pc) = some pc ∧
  (u.core core).vx.tokens = (s.core core).vx.tokens + BitVec.ofNat 64 (r.cost i 0) ∧ Safety.OnlyCore core s u

/-- The registers of a vector engine that an instruction may write are as before, but for the kinds named. -/
def Safety.SameTiles (v w : VectorEngine) : Prop := ∀ t, w.tile t = v.tile t
def Safety.SamePreds (v w : VectorEngine) : Prop := ∀ p, w.pred p = v.pred p
def Safety.SameScalars (v w : VectorEngine) : Prop := ∀ n, w.scalar n = v.scalar n

/-- Lane `l` is active under the instruction (07_vector R233). -/
def Safety.Active (v : VectorEngine) (i : VInstr) (l : Nat) : Prop := i.pe = false ∨ (v.pred i.pr).getLsbD l = true
/-- Lane `l` of T[n], and of the B operand. -/
def Safety.lane (v : VectorEngine) (n l : Nat) : Word := (v.tile n).getD l 0
def Safety.laneB (v : VectorEngine) (i : VInstr) (l : Nat) : Word := if i.bs then v.low i.b else Safety.lane v i.b l

end Sys2Proof
end

