-- ==== Sys2Proof/Certificates/Slice0/Obligations.lean ====
section
/-! DEFINITION. Statements for the provers. Each docstring names the rules of the manual it rests on. -/

open Sys2Proof Sys2Proof.Machine

/-- A step with command c at the front of the queue is exec of c on the state with the rest of the queue; on an empty queue the step answers the state after 1 ns in which no command comes, which is the model's choice (log entry 2). (R72, R648) -/
def Obligations.StepRunsFrontCommand : Prop :=
  (∀ (c : Instr) (rest : List Instr) (s : State), s.pending = c :: rest → step s = exec c { s with pending := rest }) ∧
  (∀ (s : State), s.pending = [] → step s = .next s.idle)

/-- A ready head entry of kind WAIT, ADD, JUMP or END issues: WAIT and ADD move to the next entry, ADD advances its counter by its increment, JUMP goes to its target while its remaining count lasts and then to the next entry, END retires the queue; no other core and no byte of memory changes. While a lower-numbered queue of the core is ready, none of them issues. QUEUE_TIMEOUT halts a live queue whose head, or a transfer of it that a held path keeps waiting, has waited longer than its limit, with cause TIMEOUT; no other queue of any core changes. A live queue that has not waited so long is left as it is. (R62, R64, R70, R71, R72, R74, R76, R77) -/
def Obligations.ControlEntriesIssue : Prop :=
  ((∀ (s t : State) (core q : Nat) (e : Entry), Safety.Ready s core q t e →
    (e.kind = 0 → ∃ u, exec (.wait core q) s = .next u ∧ (u.queue core q).pos = (t.queue core q).pos + 1 ∧
      (u.core core).counters = (t.core core).counters ∧ Safety.OnlyCore core s u) ∧
    (e.kind = 6 → ∃ u, exec (.addEntry core q) s = .next u ∧ (u.queue core q).pos = (t.queue core q).pos + 1 ∧
      ((u.core core).counters.at e.addCtr).value = ((t.core core).counters.at e.addCtr).value + BitVec.ofNat 32 e.addInc ∧
      (∀ n, n ≠ e.addCtr → (u.core core).counters.at n = (t.core core).counters.at n) ∧ Safety.OnlyCore core s u) ∧
    (e.kind = 7 → ∃ u, exec (.jump core q) s = .next u ∧ Safety.OnlyCore core s u ∧
      (∀ n, (t.queue core q).loops.find? (fun l => l.1 == (t.queue core q).pos) = some ((t.queue core q).pos, n + 1) →
        (u.queue core q).pos = e.target) ∧
      ((t.queue core q).loops.find? (fun l => l.1 == (t.queue core q).pos) = some ((t.queue core q).pos, 0) →
        (u.queue core q).pos = (t.queue core q).pos + 1) ∧
      ((t.queue core q).loops.find? (fun l => l.1 == (t.queue core q).pos) = none →
        (u.queue core q).pos = if e.loop ≤ 1 then (t.queue core q).pos + 1 else e.target)) ∧
    (e.kind = 8 → ∃ u, exec (.endEntry core q) s = .next u ∧ (u.queue core q).retired = true ∧ (u.queue core q).active = false ∧
      Safety.OnlyCore core s u)) ∧
  (∀ (s t : State) (core q : Nat) (e : Entry), Safety.HeadIs s core q t e → s.firstReady core q = false →
    ∀ c ∈ [Instr.wait core q, .addEntry core q, .jump core q, .endEntry core q], exec c s = .next t)) ∧
  (∀ (s : State) (core q : Nat), s.queueLive core q = true →
    (¬ ((s.queue core q).waitFrom + s.waitLimit core q < s.now ∨ s.heldSince core q (s.now - s.waitLimit core q) = true) →
      exec (.queueTimeout core q) s = .next s) ∧
    ((s.queue core q).waitFrom + s.waitLimit core q < s.now ∨ s.heldSince core q (s.now - s.waitLimit core q) = true →
    ∃ u, exec (.queueTimeout core q) s = .next u ∧ (u.queue core q).halted = true ∧ (u.core core).haltCause = Cause.timeout ∧
      (∀ c k, (c, k) ≠ (core, q) → u.queue c k = s.queue c k)))

/-- A core that meets conditions 1, 2, 3 and 5 sends one arrival; once every participant has arrived, L is the greater of the last arrival plus the lead and the previous L plus the spacing, and the generation advances; a die that receives L holds its setpoint from L until 2 µs after its last group; once the last group has passed, the slot is no longer armed. A LAUNCH entry whose instant has been reached and that is not late issues when its conditions hold and no lower-numbered queue is ready: the next state is that of the action of its kind. An entry that is late issues so when they hold again, with TIME.LAUNCH_LATE advanced by 1 before it. (R52, R82, R83, R84, R86, R72, R87, R90) -/
def Obligations.LaunchesIssue : Prop :=
  ((∀ (s t : State) (core q : Nat) (e : Entry), Safety.HeadIs s core q t e → e.launch = true → (t.queue core q).arrived = false →
    t.conditions core q e = true → ∃ u, exec (.launchArrival core q) s = .next u ∧ (u.queue core q).arrived = true ∧
      (u.slotSt e.slot).arrived = (t.slotSt e.slot).arrived ++ [(core, q)] ∧ (u.slotSt e.slot).lastAt = t.now) ∧
  (∀ (s : State) (slot : Nat) (l : LaunchCfg), s.launchCfg slot = some l → l.participants ≠ [] → s.time.oscFault = false →
    (∀ c ∈ l.participants, ∃ a ∈ (s.slotSt slot).arrived, a.1 = c) → ∃ u, exec (.setLaunchInstant slot) s = .next u ∧
      (u.slotSt slot).instant = some (max ((s.slotSt slot).lastAt + l.lead) (((s.slotSt slot).previous.map (· + l.spacing)).getD 0)) ∧
      (u.slotSt slot).generation = ((s.slotSt slot).generation + 1) % 65536 ∧ (u.slotSt slot).arrived = [] ∧
      (∀ n, n ≠ slot → u.slotSt n = s.slotSt n) ∧ u.cores = s.cores ∧ u.mem = s.mem) ∧
  (∀ (s : State) (slot die L : Nat) (l : LaunchCfg), s.launchCfg slot = some l → (s.slotSt slot).instant = some L →
    (∃ c ∈ l.participants, coreDie c = die) → die ∉ (s.slotSt slot).received →
    ∃ u, exec (.launchBroadcastReceive slot die) s = .next u ∧ die ∈ (u.slotSt slot).received ∧
      (slot, L, L + LaunchCfg.lastOffset l s (· == die) + 2000) ∈ (u.governors.at die).holds ∧
      (∀ d, d ≠ die → u.governors.at d = s.governors.at d) ∧ u.cores = s.cores ∧ u.mem = s.mem) ∧
  (∀ (s : State) (slot L : Nat) (l : LaunchCfg), s.launchCfg slot = some l → (s.slotSt slot).instant = some L →
    L + LaunchCfg.lastOffset l s (fun _ => true) < s.now →
    ∃ u, exec (.rampEnd slot) s = .next u ∧ (u.slotSt slot).instant = none ∧ (u.slotSt slot).generation = (s.slotSt slot).generation ∧
      u.mem = s.mem)) ∧
  ((∀ (s t : State) (core q at_ : Nat) (e : Entry), Safety.HeadIs s core q t e → e.launch = true → (t.queue core q).arrived = true →
    (t.queue core q).late = false → (t.queue core q).onTime = true ∨ (t.launchTime core q e.slot = some at_ ∧ at_ ≤ t.dieTime (coreDie core)) →
    t.conditions core q e = true → s.firstReady core q = true →
    exec (.launchIssue core q) s = .next (t.actAny core q e)) ∧
  (∀ (s t : State) (core q : Nat) (e : Entry), Safety.HeadIs s core q t e → e.launch = true → (t.queue core q).arrived = true →
    (t.queue core q).late = true → t.conditions core q e = true → s.firstReady core q = true →
    ∃ u : State, exec (.lateLaunchIssue core q) s = .next (u.actAny core q e) ∧ u.time.launchLate = t.time.launchLate + 1 ∧ u.cores = t.cores))

/-- A comparison raises the setpoint of a powered die by 5 mV when its rate is more than 1 % below the working target and lowers it by 5 mV when it is more than 1 % above, inside 550 mV to 850 mV, and does not move it during a hold; an average above 290 W lowers the working target by 1 % of the configured target; without a cap it rises by that much and never above the configured target; a hold ends when its time has come. Other dies, cores and memory stay. OSC_FAULT sets the fault, halts every queue that ran with TIMEOUT, and from then on no tick changes package time and no launch instant is set. (R48, R49, R50, R51, R52, R59) -/
def Obligations.GovernorAndOscillator : Prop :=
  ((∀ (s : State) (die rate : Nat), die < 8 → s.diePowered die = true → (s.governors.at die).held s.now = false →
    550 ≤ (s.governors.at die).vset → (s.governors.at die).vset ≤ 850 →
    ∃ u, exec (.governorCompare die rate) s = .next u ∧ (u.governors.at die).rate = rate ∧
      (rate * 10000 < (s.governors.at die).working * 99 → (u.governors.at die).vset = min ((s.governors.at die).vset + 5) 850) ∧
      ((s.governors.at die).working * 101 < rate * 10000 → (u.governors.at die).vset = max ((s.governors.at die).vset - 5) 550) ∧
      550 ≤ (u.governors.at die).vset ∧ (u.governors.at die).vset ≤ 850 ∧
      (∀ d, d ≠ die → u.governors.at d = s.governors.at d) ∧ u.cores = s.cores ∧ u.mem = s.mem) ∧
  (∀ (s : State) (die rate : Nat), die < 8 → s.diePowered die = true → (s.governors.at die).held s.now = true →
    ∃ u, exec (.governorCompare die rate) s = .next u ∧ (u.governors.at die).vset = (s.governors.at die).vset) ∧
  (∀ (s : State) (die watts : Nat) (junction : Int), die < 8 → s.diePowered die = true → 290 < watts →
    ∃ u, exec (.powerAverage die watts junction) s = .next u ∧
      (u.governors.at die).working = (s.governors.at die).working - (s.governors.at die).target ∧
      (u.governors.at die).powerLimited = true ∧ (∀ d, d ≠ die → u.governors.at d = s.governors.at d) ∧ u.cores = s.cores ∧ u.mem = s.mem) ∧
  (∀ (s : State) (die : Nat), die < 8 → s.diePowered die = true → (s.governors.at die).powerOver = false → (s.governors.at die).thermalOver = false →
    ∃ u, exec (.workingTargetRaise die) s = .next u ∧
      (u.governors.at die).working = min ((s.governors.at die).working + (s.governors.at die).target) (100 * (s.governors.at die).target) ∧
      (∀ d, d ≠ die → u.governors.at d = s.governors.at d) ∧ u.cores = s.cores ∧ u.mem = s.mem) ∧
  (∀ (s : State) (die : Nat), ∃ u, exec (.setpointHoldEnd die) s = .next u ∧
      (∀ h, h ∈ (u.governors.at die).holds ↔ h ∈ (s.governors.at die).holds ∧ s.now < h.2.2) ∧
      (∀ d, d ≠ die → u.governors.at d = s.governors.at d) ∧ u.cores = s.cores ∧ u.mem = s.mem)) ∧
  ((∀ (s : State), s.time.oscFault = false → s.time.released = true → ∃ u, exec .oscFault s = .next u ∧ u.time.oscFault = true ∧
    u.time.copies = s.time.copies ∧ (∀ a ∈ s.runningQueues, (u.queue a.1 a.2).halted = true)) ∧
  (∀ (s : State) (slot : Nat), s.time.oscFault = true → s.tick = s ∧ exec (.setLaunchInstant slot) s = .next s))

/-- Reading the low half of a 64-bit register returns its low 32 bits and latches its high 32 bits for the read of the high half; no byte of memory and no counter changes. While BAR0 is reachable, writing a register whose bits are write-1-to-clear clears exactly the bits written 1. (R55, R189, R261, R362, R380, R557, R632) -/
def Obligations.RegisterAccessEffects : Prop :=
  (∀ (s : State) (core engine : Nat), s.wanExists engine = true →
    ∀ p ∈ ([(.timeNowLoRead, s.now, fun u => u.time.hiLatch), (.mxTokensLoRead core, (s.core core).mx.tokens.toNat, fun u => (u.core core).mx.tokensHi),
      (.vxTokensLoRead core, (s.core core).vx.tokens.toNat, fun u => (u.core core).vx.tokensHi), (.stepLoRead, s.gate.step, fun u => u.gate.stepHi),
      (.updStepLoRead core, (s.core core).up.step, fun u => (u.core core).up.stepHi),
      (.shardStepLoRead, ((s.shardSt s.commit.sel).processed).getD 0, fun u => u.commit.stepHi),
      (.ueAddrLoRead, s.tiers.ueAddr, fun u => BitVec.ofNat 32 u.tiers.ueHi), (.roundLoRead, s.round.openRound, fun u => u.round.roundHi),
      (.ckSealedLoRead, s.ck.sealedStep, fun u => u.ck.sealedHi),
      (.slotCtrLoRead engine, if ((s.engine engine).slots.at (s.engine engine).sel).usage = 0 then ((s.engine engine).slots.at (s.engine engine).sel).nextCtr else 0,
        fun u => (u.engine engine).ctrHi)] : List (Instr × Nat × (State → Word))),
    ∃ u, exec p.1 s = .next u ∧ u.bus = p.2.1 % 2 ^ 32 ∧ p.2.2 u = BitVec.ofNat 32 (p.2.1 / 2 ^ 32) ∧ u.mem = s.mem ∧
      (u.core core).counters = (s.core core).counters ∧ u.pending = s.pending) ∧
  (∀ (s : State) (core : Nat) (value : Word), s.barUp = true →
    (∃ u, exec (.causeOrClear core value) s = .next u ∧ Safety.OnlyCore core s u ∧
      ∀ k, k < 8 → (u.core core).mx.causeOr.getLsbD k = ((s.core core).mx.causeOr.getLsbD k && !value.getLsbD k)) ∧
    (∃ u, exec (.flagsOrClear core value) s = .next u ∧ Safety.OnlyCore core s u ∧
      ∀ k, k < 7 → (u.core core).vx.flagsOr.getLsbD k = ((s.core core).vx.flagsOr.getLsbD k && !value.getLsbD k)) ∧
    (∃ u, exec (.alarmClear value) s = .next u ∧ u.cores = s.cores ∧ u.mem = s.mem ∧
      ∀ k, k < 6 → u.sec.alarm.getLsbD k = (s.sec.alarm.getLsbD k && !value.getLsbD k)) ∧
    (∃ u, exec .hostErrClear s = .next u ∧ u.host.hostErr = false ∧ u.cores = s.cores ∧ u.mem = s.mem))

/-- A ready MATRIX entry whose descriptor names the KIND and passes every check at issue joins the engine as its last operation, with the descriptor read at issue, and the next entry is at the head; one that fails a check, or whose mask, list or first KFR block cannot be read, ends Failed: LAST_FAIL is PLAN_REJECT or the cause of the read, the operations ended advance by 1 and the cause latch of its counter takes the cause if it held none. No other core and no byte of memory changes. (R157, R161, R166, R188, R64, R67) -/
def Obligations.MatrixEntryQueues : Prop :=
  ∀ (s t u : State) (core q : Nat) (e : Entry) (bs : List Byte), Safety.Ready s core q t e → e.kind = 1 →
    t.readOwn core e.addr 64 1 = (u, .ok bs) →
    ∀ p ∈ [(Instr.mm core q, 1), (.mmTa core q, 2), (.mmTb core q, 3), (.gradW core q, 4), (.gradX core q, 5)],
    (MDesc.ofNat (leNat bs)).kind = p.2 → ∀ (y : State) (cause : Cause),
    (u.goNext core q).readRegions core ((u.goNext core q).rateReads core (MDesc.ofNat (leNat bs)) ((MDesc.ofNat (leNat bs)).sideA 0) ++
      (u.goNext core q).rateReads core (MDesc.ofNat (leNat bs)) ((MDesc.ofNat (leNat bs)).sideB 0)) = (y, cause) →
    (∀ ra rb, cause = 0 → y.matrixCheck core (MDesc.ofNat (leNat bs)) = some (ra, rb) →
      ∃ v op, exec p.1 s = .next v ∧ op.desc = BitVec.ofNat 512 (leNat bs) ∧ op.queue = q ∧ op.done = 0 ∧ op.rateA = ra ∧ op.rateB = rb ∧
        (v.core core).mx = { (u.core core).mx with ops := (u.core core).mx.ops ++ [op] } ∧
        (v.core core).counters = (u.core core).counters ∧ (v.queue core q).pos = (u.queue core q).pos + 1 ∧ Safety.OnlyCore core s v) ∧
    (cause ≠ 0 ∨ y.matrixCheck core (MDesc.ofNat (leNat bs)) = none →
      ∃ v, exec p.1 s = .next v ∧ (v.core core).mx.ops = (u.core core).mx.ops ∧
        (v.core core).mx.lastFail = (if cause = 0 then Cause.planReject else cause) ∧
        (v.core core).mx.ended = (u.core core).mx.ended + 1 ∧
        ((v.core core).counters.at (MDesc.ofNat (leNat bs)).counter).value = ((u.core core).counters.at (MDesc.ofNat (leNat bs)).counter).value ∧
        (((u.core core).counters.at (MDesc.ofNat (leNat bs)).counter).cause = 0 →
          ((v.core core).counters.at (MDesc.ofNat (leNat bs)).counter).cause = (if cause = 0 then Cause.planReject else cause)) ∧
        (∀ n, n ≠ (MDesc.ofNat (leNat bs)).counter → (v.core core).counters.at n = (u.core core).counters.at n) ∧
        Safety.OnlyCore core s v)

/-- With no SRAM word in error, the running operation whose tile can be read writes that tile: no byte outside the tile's outputs, its accumulators and its status word changes; before the last tile the operation goes on to the next tile and no counter moves; at the last tile the operation leaves the engine Done and its counter advances by INCREMENT. An operation whose tile names a malformed block ends Failed with PLAN_REJECT and writes nothing. The wait of a port is counted at most once per tile and changes no byte. (R169, R172, R183, R186, R187, R216) -/
def Obligations.TileCompletes : Prop :=
  (∀ (s : State) (core : Nat) (op : MatOp) (rest : List MatOp) (d : MDesc) (tm tn : Nat) (blocks : TileBlocks) (out : TileOut),
    s.tiers.wordErrs = [] → (s.core core).mx.ops = op :: rest → d = MDesc.ofNat op.desc.toNat → (tm, tn) = d.tileAt op.done →
    s.tileBlocks core op d tm tn = some blocks → out = s.tileOut core d (s.tileAccs core d tm tn blocks) →
    (∀ w ∈ (d.statusAddr core tm tn, []) :: d.tileData core tm tn (s.tileAccs core d tm tn blocks) out, addrSpace w.1 = 0) →
    ∃ u, exec (.tileComplete core) s = .next u ∧
      (∀ a, (∀ w ∈ d.tileData core tm tn (s.tileAccs core d tm tn blocks) out, a < w.1 ∨ w.1 + w.2.length ≤ a) →
        (a < d.statusAddr core tm tn ∨ d.statusAddr core tm tn + 8 ≤ a) → u.mem.byte a = s.mem.byte a) ∧
      (∀ i, i < 8 → u.mem.byte (d.statusAddr core tm tn + i) = BitVec.ofNat 8 (s.tileStatus core d tm blocks out / 256 ^ i)) ∧
      (op.done + 1 ≠ d.tiles → (u.core core).mx.ops.map (·.done) = (op.done + 1) :: rest.map (·.done) ∧ (u.core core).counters = (s.core core).counters) ∧
      (op.done + 1 = d.tiles → (u.core core).mx.ops = rest ∧
        ((u.core core).counters.at d.counter).value = ((s.core core).counters.at d.counter).value + BitVec.ofNat 32 d.increment) ∧
      (∀ c, c ≠ core → u.core c = s.core c)) ∧
  (∀ (s : State) (core : Nat) (op : MatOp) (rest : List MatOp), (s.core core).mx.ops = op :: rest →
    s.tileBlocks core op (MDesc.ofNat op.desc.toNat) ((MDesc.ofNat op.desc.toNat).tileAt op.done).1 ((MDesc.ofNat op.desc.toNat).tileAt op.done).2 = none →
    ∃ u, exec (.tileComplete core) s = .next u ∧ (u.core core).mx.ops = rest ∧ (u.core core).mx.lastFail = Cause.planReject ∧ Safety.OnlyCore core s u) ∧
  (∀ (s : State) (core port : Nat) (op : MatOp) (rest : List MatOp) (blocks : List (Nat × List OpBlock × List OpBlock)), port < 2 →
    (s.core core).mx.ops = op :: rest →
    s.tileBlocks core op (MDesc.ofNat op.desc.toNat) ((MDesc.ofNat op.desc.toNat).tileAt op.done).1 ((MDesc.ofNat op.desc.toNat).tileAt op.done).2 = some blocks →
    ∃ u, exec (.expanderStall core port) s = .next u ∧ Safety.OnlyCore core s u ∧
      (port = 0 → op.stalledA = false → (u.core core).mx.stallA = (s.core core).mx.stallA +
        BitVec.ofNat 32 (portStall (MDesc.ofNat op.desc.toNat) (blocks.map (fun p => (p.1, p.2.1)))) ∧ (u.core core).mx.stallB = (s.core core).mx.stallB) ∧
      (port = 1 → op.stalledB = false → (u.core core).mx.stallB = (s.core core).mx.stallB +
        BitVec.ofNat 32 (portStall (MDesc.ofNat op.desc.toNat) (blocks.map (fun p => (p.1, p.2.2)))) ∧ (u.core core).mx.stallA = (s.core core).mx.stallA) ∧
      (∃ v, exec (.expanderStall core port) u = .next v ∧ (v.core core).mx.stallA = (u.core core).mx.stallA ∧
        (v.core core).mx.stallB = (u.core core).mx.stallB))

/-- A LOAD whose targeted slots are free, and which meets no hold of the same moment, writes its table into each of them and ends Done; one that finds a slot held, or held at the same moment, ends Failed with TABLE_BUSY when WAIT is 0 and waits in the engine when WAIT is 1, and in both cases changes no slot. HOLD adds COUNT to the explicit holds of each targeted slot and RELEASE subtracts it, unless a count would leave 0 to 65 535: then the operation ends Failed with PLAN_REJECT and no count changes. A LOAD or RELEASE whose turn at its compressor has not come changes nothing. No byte of memory changes. A waiting LOAD whose slots are all free by the end of its limit, which meets no hold of the same moment and whose turn has come, leaves the queue of waiting LOADs and writes its table into them; one whose limit has passed, or ends now with a slot still held, ends Failed with TABLE_BUSY and changes no slot; a moment at the very end of the limit counts as within it. (R197, R199, R201, R202, R203) -/
def Obligations.TableOperations : Prop :=
  (∀ (s t u : State) (core q : Nat) (e : Entry) (bs : List Byte) (d : TDesc), Safety.Ready s core q t e → e.kind = 4 →
    t.readOwn core e.addr 32 1 = (u, .ok bs) → d = TDesc.ofNat (leNat bs) → d.ok = true →
    (((s.tableDue core q).all (s.tableTurn core q) = false → exec (.load core q) s = .next s ∧ exec (.release core q) s = .next s)) ∧
    ((s.tableDue core q).all (s.tableTurn core q) = true →
    (d.op = 0x40 → (u.goNext core q).slotsFree core d = true → (u.goNext core q).holdDue core q d = false → ∀ v tab, (u.goNext core q).readTable core d = (v, .ok tab) →
      ∃ w, exec (.load core q) s = .next w ∧ (∀ k ∈ d.xpKeys, ((w.core core).xp.slots.at k).table = some tab) ∧
        (∀ k, k ∉ d.xpKeys → (w.core core).xp.slots.at k = (v.core core).xp.slots.at k) ∧
        (d.c = true → ((w.cluster core).slots.at d.slot).table = some tab) ∧
        ((w.core core).counters.at d.counter).value = ((v.core core).counters.at d.counter).value + BitVec.ofNat 32 d.increment ∧ w.mem = s.mem) ∧
    (d.op = 0x40 → (u.goNext core q).slotsFree core d = false ∨ (u.goNext core q).holdDue core q d = true → d.wait = false →
      ∃ w, exec (.load core q) s = .next w ∧ (w.core core).xp.slots = (u.core core).xp.slots ∧ w.clusters = u.clusters ∧
        (w.core core).xf.lastFail = Cause.tableBusy ∧ Safety.OnlyCore core s w) ∧
    (d.op = 0x40 → (u.goNext core q).slotsFree core d = false ∨ (u.goNext core q).holdDue core q d = true → d.wait = true → ∀ v tab, (u.goNext core q).readTable core d = (v, .ok tab) →
      ∃ w l, exec (.load core q) s = .next w ∧ (w.core core).xp.waiting = (v.core core).xp.waiting ++ [l] ∧ l.deadline = v.now + v.img.tableWait ∧
        (w.core core).xp.slots = (v.core core).xp.slots ∧ (w.core core).counters = (v.core core).counters ∧ Safety.OnlyCore core s w) ∧
    (∀ p ∈ [(Instr.hold core q, 0x41, true), (.release core q, 0x42, false)], d.op = p.2.1 →
      ((∀ k ∈ d.xpKeys, if p.2.2 then ((u.core core).xp.slots.at k).explicit + d.count ≤ 65535 else d.count ≤ ((u.core core).xp.slots.at k).explicit) →
       (d.c = true → if p.2.2 then ((u.cluster core).slots.at d.slot).explicit + d.count ≤ 65535 else d.count ≤ ((u.cluster core).slots.at d.slot).explicit) →
       ∃ w, exec p.1 s = .next w ∧ (∀ k ∈ d.xpKeys, ((w.core core).xp.slots.at k).explicit =
          if p.2.2 then ((u.core core).xp.slots.at k).explicit + d.count else ((u.core core).xp.slots.at k).explicit - d.count) ∧
        (∀ k, k ∉ d.xpKeys → (w.core core).xp.slots.at k = (u.core core).xp.slots.at k) ∧
        ((w.core core).counters.at d.counter).value = ((u.core core).counters.at d.counter).value + BitVec.ofNat 32 d.increment ∧
        Safety.OnlyCore core s w) ∧
      ((∃ k ∈ d.xpKeys, if p.2.2 then 65535 < ((u.core core).xp.slots.at k).explicit + d.count else ((u.core core).xp.slots.at k).explicit < d.count) →
       ∃ w, exec p.1 s = .next w ∧ (w.core core).xp.slots = (u.core core).xp.slots ∧ w.clusters = u.clusters ∧
        (w.core core).xf.lastFail = Cause.planReject ∧ Safety.OnlyCore core s w)))) ∧
  ((∀ (s u : State) (core : Nat) (w : WaitingLoad) (rest : List WaitingLoad) (tab : Table), (s.core core).xp.waiting = w :: rest →
    s.now ≤ w.deadline → s.slotsFree core (TDesc.ofNat w.desc.toNat) = true → s.holdDue core 8 (TDesc.ofNat w.desc.toNat) = false →
    s.tableTurn core 8 (TDesc.ofNat w.desc.toNat) = true →
    (s.dropWaiting core w).readTable core (TDesc.ofNat w.desc.toNat) = (u, .ok tab) →
    (∃ v, exec (.loadWaitWake core) s = .next v ∧ (v.core core).xp.waiting = rest ∧
      (∀ k ∈ (TDesc.ofNat w.desc.toNat).xpKeys, ((v.core core).xp.slots.at k).table = some tab) ∧
      (∀ k, k ∉ (TDesc.ofNat w.desc.toNat).xpKeys → (v.core core).xp.slots.at k = (u.core core).xp.slots.at k) ∧ v.mem = s.mem) ∧
    (rest = [] → exec (.tableWaitLimit core) s = .next s)) ∧
  (∀ (s : State) (core : Nat) (w : WaitingLoad) (rest : List WaitingLoad), (s.core core).xp.waiting = w :: rest →
    (w.deadline < s.now ∨ w.deadline = s.now ∧ s.slotsFree core (TDesc.ofNat w.desc.toNat) = false) →
    ∃ v, exec (.tableWaitLimit core) s = .next v ∧ (v.core core).xp.waiting = rest ∧ (v.core core).xp.slots = (s.core core).xp.slots ∧
      (v.core core).xf.lastFail = Cause.tableBusy ∧ v.clusters = s.clusters ∧ Safety.OnlyCore core s v))

/-- Each lane instruction writes lane by lane into T[D] the value its rule gives from T[A], B and, for FMA, T[IMM[4:0]]; an inactive lane keeps T[D] or becomes 0 by ZM and raises no flag; other tiles, predicates, scalars, banks, other cores and memory stay, and the kernel goes on to the next instruction. (R231, R232, R233, R234, R237, R238, R241) -/
def Obligations.VectorLaneResults : Prop :=
  ∀ (s : State) (core : Nat) (r : Running) (i : VInstr) (v : VectorEngine), Safety.Fetched s core r i → v = (s.core core).vx →
    ∀ p ∈ ([(Instr.vAdd core, 0x01, fun l => laneAdd i.ty (Safety.lane v i.a l) (Safety.laneB v i l)),
      (.vSub core, 0x02, fun l => laneSub i.ty (Safety.lane v i.a l) (Safety.laneB v i l)),
      (.vMul core, 0x03, fun l => laneMul i.ty (Safety.lane v i.a l) (Safety.laneB v i l)),
      (.vFma core, 0x04, fun l => laneFma i.ty (Safety.lane v i.a l) (Safety.laneB v i l) (Safety.lane v (i.imm % 32) l)),
      (.vMax core, 0x05, fun l => laneMax i.ty (Safety.lane v i.a l) (Safety.laneB v i l)),
      (.vMin core, 0x06, fun l => laneMin i.ty (Safety.lane v i.a l) (Safety.laneB v i l)),
      (.vAbs core, 0x07, fun l => laneAbs i.ty (Safety.lane v i.a l)),
      (.vNeg core, 0x08, fun l => laneNeg i.ty (Safety.lane v i.a l)),
      (.vRcp core, 0x09, fun l => laneFn rcpVal (Safety.lane v i.a l)),
      (.vRsqrt core, 0x0A, fun l => laneFn rsqrtVal (Safety.lane v i.a l)),
      (.vExp2 core, 0x0B, fun l => laneFn exp2Val (Safety.lane v i.a l)),
      (.vLog2 core, 0x0C, fun l => laneFn log2Val (Safety.lane v i.a l)),
      (.vSel core, 0x11, fun l => (if (v.pred (i.imm % 8)).getLsbD l then Safety.lane v i.a l else Safety.laneB v i l, 0)),
      (.vAnd core, 0x12, fun l => (Safety.lane v i.a l &&& Safety.laneB v i l, 0)),
      (.vOr core, 0x13, fun l => (Safety.lane v i.a l ||| Safety.laneB v i l, 0)),
      (.vXor core, 0x14, fun l => (Safety.lane v i.a l ^^^ Safety.laneB v i l, 0)),
      (.vShl core, 0x15, fun l => (Safety.lane v i.a l <<< ((Safety.laneB v i l).toNat % 32), 0)),
      (.vShr core, 0x16, fun l => (Safety.lane v i.a l >>> ((Safety.laneB v i l).toNat % 32), 0)),
      (.vSar core, 0x17, fun l => ((Safety.lane v i.a l).sshiftRight ((Safety.laneB v i l).toNat % 32), 0)),
      (.vTrn core, 0x1C, fun l => (Safety.lane v i.a (16 * (l % 16) + l / 16), 0)),
      (.vBrow core, 0x1D, fun l => (Safety.lane v i.a (16 * (i.imm % 16) + l % 16), 0)),
      (.vBcol core, 0x1E, fun l => (Safety.lane v i.a (16 * (l / 16) + i.imm % 16), 0)),
      (.vIota core, 0x1F, fun l => (BitVec.ofNat 32 l + v.low i.a, 0))] : List (Instr × Nat × (Nat → Flagged Word))),
    i.op = p.2.1 →
    ∃ u, exec p.1 s = .next u ∧ Safety.Retired s u core r i (r.pc + 1) ∧
      (∀ l, l < 256 → (Safety.Active v i l → Safety.lane (u.core core).vx i.d l = (p.2.2 l).1) ∧
        (¬ Safety.Active v i l → Safety.lane (u.core core).vx i.d l = if i.zm then 0 else Safety.lane v i.d l)) ∧
      (∀ k, k < 7 → ((u.core core).vx.flagsOr.getLsbD k = true ↔
        (v.flagsOr.getLsbD k = true ∨ ∃ l, l < 256 ∧ Safety.Active v i l ∧ (p.2.2 l).2.testBit k = true))) ∧
      (∀ t, t ≠ i.d → (u.core core).vx.tile t = v.tile t) ∧ Safety.SamePreds v (u.core core).vx ∧ Safety.SameScalars v (u.core core).vx ∧
      (u.core core).vx.banks = v.banks ∧ (u.core core).counters = (s.core core).counters

/-- CVT without stochastic rounding converts lane by lane; CMP sets bit by bit of P[D] the condition on T[A] and B, an inactive bit kept or zeroed by ZM; PLOG combines two predicate tiles; PSET sets the bits of the first rows and columns. What each does not write stays. (R234, R239) -/
def Obligations.VectorConversionsAndPredicates : Prop :=
  ∀ (s : State) (core : Nat) (r : Running) (i : VInstr) (v : VectorEngine), Safety.Fetched s core r i → v = (s.core core).vx →
    (i.op = 0x0D → i.imm.testBit 9 = false → ∃ u, exec (.vCvt core) s = .next u ∧ Safety.Retired s u core r i (r.pc + 1) ∧
      (∀ l, l < 256 → (Safety.Active v i l → Safety.lane (u.core core).vx i.d l =
          (laneCvt (i.imm % 8) i.ty (i.imm.testBit 8) none none (Safety.lane v i.a l) (Safety.laneB v i l)).1) ∧
        (¬ Safety.Active v i l → Safety.lane (u.core core).vx i.d l = if i.zm then 0 else Safety.lane v i.d l)) ∧
      (∀ t, t ≠ i.d → (u.core core).vx.tile t = v.tile t) ∧ Safety.SamePreds v (u.core core).vx ∧ Safety.SameScalars v (u.core core).vx) ∧
    (i.op = 0x10 → ∃ u, exec (.vCmp core) s = .next u ∧ Safety.Retired s u core r i (r.pc + 1) ∧
      (∀ l, l < 256 → (Safety.Active v i l → ((u.core core).vx.pred i.d).getLsbD l =
          (laneCmp i.ty (i.imm % 8) (Safety.lane v i.a l) (Safety.laneB v i l)).1) ∧
        (¬ Safety.Active v i l → ((u.core core).vx.pred i.d).getLsbD l = (!i.zm && (v.pred i.d).getLsbD l))) ∧
      (∀ p, p ≠ i.d → (u.core core).vx.pred p = v.pred p) ∧ Safety.SameTiles v (u.core core).vx ∧ Safety.SameScalars v (u.core core).vx) ∧
    (i.op = 0x18 → ∃ u, exec (.vPlog core) s = .next u ∧ Safety.Retired s u core r i (r.pc + 1) ∧
      (∀ l, l < 256 → ((u.core core).vx.pred i.d).getLsbD l =
        (let a := (v.pred i.a).getLsbD l
         let b := (v.pred i.b).getLsbD l
         if i.imm = 0 then a && b else if i.imm = 1 then a || b else if i.imm = 2 then a != b else a && !b)) ∧
      (∀ p, p ≠ i.d → (u.core core).vx.pred p = v.pred p) ∧ Safety.SameTiles v (u.core core).vx ∧ Safety.SameScalars v (u.core core).vx) ∧
    (i.op = 0x19 → ∃ u, exec (.vPset core) s = .next u ∧ Safety.Retired s u core r i (r.pc + 1) ∧
      (∀ row col, row < 16 → col < 16 → (((u.core core).vx.pred i.d).getLsbD (16 * row + col) = true ↔
        (row < i.imm % 32 ∧ col < i.imm / 256 % 32))) ∧
      (∀ p, p ≠ i.d → (u.core core).vx.pred p = v.pred p) ∧ Safety.SameTiles v (u.core core).vx ∧ Safety.SameScalars v (u.core core).vx)

/-- Each scalar instruction writes its value into S[D] alone; JMP, BNZ and LOOP go on at IMM as their rule says, and LOOP counts S[A] down by 1; SLD and SST move 8 aligned bytes of the core's own SRAM; END writes the status word when STATUS_EN is 1, ends the kernel Done and advances its counter by INCREMENT. (R229, R234, R235, R242) -/
def Obligations.VectorScalarsAndControl : Prop :=
  ∀ (s : State) (core : Nat) (r : Running) (i : VInstr) (v : VectorEngine), Safety.Fetched s core r i → v = (s.core core).vx →
    (∀ p ∈ ([(Instr.vSset core, 0x30, i.simm), (.vSseth core, 0x31, BitVec.ofNat 64 (i.imm * 2 ^ 32 + (v.scalar i.d).toNat % 2 ^ 32)),
      (.vSadd core, 0x32, v.scalar i.a + i.simm), (.vSaddr core, 0x33, v.scalar i.a + v.scalar i.b), (.vSmul core, 0x34, v.scalar i.a * i.simm),
      (.vSget core, 0x35, (Safety.lane v i.a (i.imm % 256)).setWidth 64)] : List (Instr × Nat × Word64)), i.op = p.2.1 →
      ∃ u, exec p.1 s = .next u ∧ Safety.Retired s u core r i (r.pc + 1) ∧ (u.core core).vx.scalar i.d = p.2.2 ∧
        (∀ n, n ≠ i.d → (u.core core).vx.scalar n = v.scalar n) ∧ Safety.SameTiles v (u.core core).vx ∧ Safety.SamePreds v (u.core core).vx) ∧
    (∀ p ∈ ([(Instr.vJmp core, 0x3A, i.imm), (.vBnz core, 0x3B, if v.scalar i.a = 0 then r.pc + 1 else i.imm),
      (.vLoop core, 0x3C, if v.scalar i.a = 1 then r.pc + 1 else i.imm)] : List (Instr × Nat × Nat)), i.op = p.2.1 →
      ∃ u, exec p.1 s = .next u ∧ Safety.Retired s u core r i p.2.2 ∧
        (∀ n, (u.core core).vx.scalar n = if i.op = 0x3C ∧ n = i.a then v.scalar n - 1 else v.scalar n) ∧
        Safety.SameTiles v (u.core core).vx ∧ Safety.SamePreds v (u.core core).vx) ∧
    (∀ a, a = ((v.scalar i.a).toNat + i.imm) % 2 ^ 64 → core < 1024 → s.tiers.wordErrs = [] → a % 8 = 0 → a + 8 ≤ 2 ^ 25 →
      (i.op = 0x36 → ∃ u, exec (.vSld core) s = .next u ∧ Safety.Retired s u core r i (r.pc + 1) ∧
        (u.core core).vx.scalar i.d = BitVec.ofNat 64 (s.peekNat (sramAddr core a) 8) ∧ (∀ n, n ≠ i.d → (u.core core).vx.scalar n = v.scalar n)) ∧
      (i.op = 0x37 → ∃ u, exec (.vSst core) s = .next u ∧ (u.core core).vx.run.map (·.pc) = some (r.pc + 1) ∧
        (∀ b, b < 8 → u.mem.byte (sramAddr core a + b) = BitVec.ofNat 8 ((v.scalar i.d).toNat / 256 ^ b)) ∧
        (∀ b, b < sramAddr core a ∨ sramAddr core a + 8 ≤ b → u.mem.byte b = s.mem.byte b) ∧ Safety.SameScalars v (u.core core).vx ∧
        (∀ c, c ≠ core → u.core c = s.core c))) ∧
    (i.op = 0x3F → core < 1024 → s.tiers.wordErrs = [] → r.kernel.segment = false → r.statusOff + 8 ≤ 2 ^ 25 → ∃ u, exec (.vEnd core) s = .next u ∧
      (u.core core).vx.run = none ∧ (u.core core).vx.ended = v.ended + 1 ∧
      ((u.core core).counters.at r.counter).value = ((s.core core).counters.at r.counter).value + BitVec.ofNat 32 r.increment ∧
      (∀ n, n ≠ r.counter → (u.core core).counters.at n = (s.core core).counters.at n) ∧ (r.statusEn = false → u.mem = s.mem) ∧
      (r.statusEn = true → ∀ b, (b < 8 → u.mem.byte (sramAddr core r.statusOff + b) = BitVec.ofNat 8 (r.statusWord / 256 ^ b)) ∧
        (b < sramAddr core r.statusOff ∨ sramAddr core r.statusOff + 8 ≤ b → u.mem.byte b = s.mem.byte b)))

/-- With no SRAM word in error, LD and LDG put into each active lane the word at its address and ST and STG store each active lane there, the higher lane winning where two name one word; LDP and STP move the 256 bits of a predicate tile; an access that breaks its alignment fails the kernel with PLAN_REJECT. Bytes outside the words stored stay. (R234, R242, R245) -/
def Obligations.VectorLoadsAndStores : Prop :=
  ∀ (s : State) (core : Nat) (r : Running) (i : VInstr) (v : VectorEngine), Safety.Fetched s core r i → v = (s.core core).vx → core < 1024 →
    s.tiers.wordErrs = [] →
    (∀ p ∈ ([(Instr.vLd core, 0x20, v.rowLane i, v.rowAligned i), (.vLdg core, 0x24, v.gatherLane i, (v.scalar i.a).toNat % 4 == 0)] :
        List (Instr × Nat × (Nat → Nat) × Bool)), i.op = p.2.1 →
      (p.2.2.2 = true → (∀ l, l < 256 → Safety.Active v i l → p.2.2.1 l + 4 ≤ 2 ^ 25) →
        ∃ u, exec p.1 s = .next u ∧ Safety.Retired s u core r i (r.pc + 1) ∧
          (∀ l, l < 256 → (Safety.Active v i l → Safety.lane (u.core core).vx i.d l = BitVec.ofNat 32 (s.peekNat (sramAddr core (p.2.2.1 l)) 4)) ∧
            (¬ Safety.Active v i l → Safety.lane (u.core core).vx i.d l = if i.zm then 0 else Safety.lane v i.d l)) ∧
          (∀ t, t ≠ i.d → (u.core core).vx.tile t = v.tile t)) ∧
      (p.2.2.2 = false → ∃ u, exec p.1 s = .next u ∧ (u.core core).vx.run = none ∧ (u.core core).vx.lastFail = Cause.planReject ∧
        (u.core core).vx.failInstr = r.pc ∧ Safety.OnlyCore core s u)) ∧
    (∀ p ∈ ([(Instr.vSt core, 0x21, v.rowLane i, v.rowAligned i && v.scalar i.b != 0), (.vStg core, 0x25, v.gatherLane i, (v.scalar i.a).toNat % 4 == 0)] :
        List (Instr × Nat × (Nat → Nat) × Bool)), i.op = p.2.1 →
      (p.2.2.2 = true → (∀ l, l < 256 → Safety.Active v i l → p.2.2.1 l + 4 ≤ 2 ^ 25) →
        ∃ u, exec p.1 s = .next u ∧ (u.core core).vx.run.map (·.pc) = some (r.pc + 1) ∧ Safety.SameTiles v (u.core core).vx ∧
          (∀ l b, l < 256 → b < 4 → Safety.Active v i l → (∀ m, l < m → m < 256 → Safety.Active v i m → p.2.2.1 m ≠ p.2.2.1 l) →
            u.mem.byte (sramAddr core (p.2.2.1 l) + b) = BitVec.ofNat 8 ((Safety.lane v i.d l).toNat / 256 ^ b)) ∧
          (∀ a, (∀ l, l < 256 → Safety.Active v i l → a < sramAddr core (p.2.2.1 l) ∨ sramAddr core (p.2.2.1 l) + 4 ≤ a) → u.mem.byte a = s.mem.byte a) ∧
          (∀ c, c ≠ core → u.core c = s.core c)) ∧
      (p.2.2.2 = false → ∃ u, exec p.1 s = .next u ∧ (u.core core).vx.run = none ∧ (u.core core).vx.lastFail = Cause.planReject ∧
        Safety.OnlyCore core s u)) ∧
    (∀ a, a = ((v.scalar i.a).toNat + i.imm) % 2 ^ 64 → a % 32 = 0 → a + 32 ≤ 2 ^ 25 →
      (i.op = 0x26 → ∃ u, exec (.vLdp core) s = .next u ∧ Safety.Retired s u core r i (r.pc + 1) ∧
        (u.core core).vx.pred i.d = BitVec.ofNat 256 (s.peekNat (sramAddr core a) 32) ∧ (∀ p, p ≠ i.d → (u.core core).vx.pred p = v.pred p)) ∧
      (i.op = 0x27 → ∃ u, exec (.vStp core) s = .next u ∧ (u.core core).vx.run.map (·.pc) = some (r.pc + 1) ∧
        (∀ b, b < 32 → u.mem.byte (sramAddr core a + b) = BitVec.ofNat 8 ((v.pred i.d).toNat / 256 ^ b)) ∧
        (∀ b, b < sramAddr core a ∨ sramAddr core a + 32 ≤ b → u.mem.byte b = s.mem.byte b) ∧ Safety.SamePreds v (u.core core).vx)) ∧
    (∀ p ∈ [(Instr.vLdp core, 0x26), (.vStp core, 0x27)], i.op = p.2 → ((v.scalar i.a).toNat + i.imm) % 2 ^ 64 % 32 ≠ 0 →
      ∃ u, exec p.1 s = .next u ∧ (u.core core).vx.run = none ∧ (u.core core).vx.lastFail = Cause.planReject ∧ Safety.OnlyCore core s u)

/-- With no SRAM word in error and every row inside SRAM, LDX puts element c of row r's block, converted to FP32, into lane (r, c) of T[D] and element 16 + c into lane (r, c) of T[D + 1], and changes no other register and no byte of memory. STX writes the elements and the scale byte of each row's block, where its regions are disjoint, and no other byte: under the recipe's scale, or each row under its own; when an element overflows under the recipe's scale, all rows go under one new scale, the recipe is fed that scale and two tokens more are counted. STX with SR outside an update segment, or under a recipe of kind NONE, fails the kernel with PLAN_REJECT. RCLR empties a bank and sets its operation and k. RFEED offers the active lanes of row r of T[A], with their indices, to row r of a bank whose operation is not NONE, and fails the kernel with PLAN_REJECT otherwise. RGET puts into row r of T[D] what row r of the bank reads as, keeps every bank and changes no other tile; what a bank of operation NONE reads is free (log entry 15). RTAP adds the sum of the squares of the active lanes and one contribution to one kind of one tap set; with kind 0 it changes no tap. (R233, R234, R236, R243, R244, R246, R249, R251) -/
def Obligations.VectorBlocksAndBanks : Prop :=
  ∀ (s : State) (core : Nat) (r : Running) (i : VInstr) (v : VectorEngine), Safety.Fetched s core r i → v = (s.core core).vx → core < 1024 →
    s.tiers.wordErrs = [] → ∀ f, f = fld i.imm 8 4 →
    ((i.op = 0x22 → (∀ n, n < 16 → (v.blockAddr i n).1 + storeBytes f 32 ≤ 2 ^ 25 ∧ (v.blockAddr i n).2 + 1 ≤ 2 ^ 25) →
      ∃ u, exec (.vLdx core) s = .next u ∧ Safety.Retired s u core r i (r.pc + 1) ∧
        (∀ row c, row < 16 → c < 16 → ∀ elems scale,
          elems = unpackBits (fmtBits f) 32 (leNat (s.peek (sramAddr core (v.blockAddr i row).1) (storeBytes f 32))) →
          scale = (s.peek (sramAddr core (v.blockAddr i row).2) 1).headD 0 →
          Safety.lane (u.core core).vx i.d (16 * row + c) = toFp32 (decodeScaled f scale (elems.getD c 0)) ∧
          Safety.lane (u.core core).vx (i.d + 1) (16 * row + c) = toFp32 (decodeScaled f scale (elems.getD (16 + c) 0))) ∧
        (∀ t, t ≠ i.d → t ≠ i.d + 1 → (u.core core).vx.tile t = v.tile t) ∧ Safety.SamePreds v (u.core core).vx ∧
        Safety.SameScalars v (u.core core).vx ∧ (u.core core).vx.banks = v.banks) ∧
    (i.op = 0x23 → ∀ rows fed, rows = s.stxRows core i v → fed = stxNewScale f (((s.core core).stxRecipe i).map (·.scale)) rows →
      ((bitOf i.imm 13 = true ∧ r.kernel.segment = false) ∨ (∃ x, (s.core core).stxRecipe i = some x ∧ x.kind = 7) →
        ∃ u, exec (.vStx core) s = .next u ∧ (u.core core).vx.run = none ∧ (u.core core).vx.lastFail = Cause.planReject ∧
          (u.core core).vx.failInstr = r.pc ∧ Safety.OnlyCore core s u) ∧
      ((bitOf i.imm 13 = true → r.kernel.segment = true) → (∀ x, (s.core core).stxRecipe i = some x → x.kind ≠ 7) →
        (∀ n, n < 16 → (v.blockAddr i n).1 + storeBytes f 32 ≤ 2 ^ 25 ∧ (v.blockAddr i n).2 + 1 ≤ 2 ^ 25) →
        ∃ u, exec (.vStx core) s = .next u ∧ (u.core core).vx.run.map (·.pc) = some (r.pc + 1) ∧
          ((∀ n m, n < 16 → m < 16 → ((v.blockAddr i n).2 < (v.blockAddr i m).1 ∨ (v.blockAddr i m).1 + storeBytes f 32 ≤ (v.blockAddr i n).2) ∧
              (n ≠ m → (v.blockAddr i n).2 ≠ (v.blockAddr i m).2 ∧
                overlaps (v.blockAddr i n).1 (storeBytes f 32) (v.blockAddr i m).1 (storeBytes f 32) = false)) →
            ∀ n, n < 16 → ∀ b, b = (stxBlocks f (((s.core core).stxRecipe i).map (·.scale)) rows).getD n {} →
              u.peek (sramAddr core (v.blockAddr i n).1) (storeBytes f 32) = leBytes (storeBytes f 32) (packBits (fmtBits f) (b.elems.map (·.bits))) ∧
              u.peek (sramAddr core (v.blockAddr i n).2) 1 = [b.scale]) ∧
          (∀ a, (∀ n, n < 16 → (a < sramAddr core (v.blockAddr i n).1 ∨ sramAddr core (v.blockAddr i n).1 + storeBytes f 32 ≤ a) ∧
            a ≠ sramAddr core (v.blockAddr i n).2) → u.mem.byte a = s.mem.byte a) ∧
          (u.core core).vx.tokens = v.tokens + BitVec.ofNat 64 (r.cost i (if fed.isSome then 2 else 0)) ∧
          (∀ sc, fed = some sc → (u.core core).recipes.at (fld i.imm 16 8) = ((s.core core).recipes.at (fld i.imm 16 8)).feed sc) ∧
          (fed = none → (u.core core).recipes = (s.core core).recipes) ∧
          Safety.SameTiles v (u.core core).vx ∧ Safety.SamePreds v (u.core core).vx ∧ Safety.SameScalars v (u.core core).vx ∧
          (∀ c, c ≠ core → u.core c = s.core c))) ∧
    (i.op = 0x40 → ∃ u, exec (.vRclr core) s = .next u ∧ Safety.Retired s u core r i (r.pc + 1) ∧
      (u.core core).vx.banks.at (i.d % 4) = (if fld i.imm 0 3 = 0 then {} else
        { op := fld i.imm 0 3, k := if fld i.imm 0 3 = 5 then 1 else if fld i.imm 0 3 = 6 then fld i.imm 8 4 else 0,
          rows := List.replicate 16 (emptyRow (fld i.imm 0 3)) }) ∧
      (∀ b, b ≠ i.d % 4 → (u.core core).vx.banks.at b = v.banks.at b) ∧ Safety.SameTiles v (u.core core).vx) ∧
    (i.op = 0x41 → ((v.banks.at (i.d % 4)).op ≠ 0 → ∃ u, exec (.vRfeed core) s = .next u ∧ Safety.Retired s u core r i (r.pc + 1) ∧
        ((u.core core).vx.banks.at (i.d % 4)).op = (v.banks.at (i.d % 4)).op ∧ ((u.core core).vx.banks.at (i.d % 4)).k = (v.banks.at (i.d % 4)).k ∧
        (∀ n, n < 16 → ((u.core core).vx.banks.at (i.d % 4)).rows[n]? = ((v.banks.at (i.d % 4)).rows[n]?).map (fun row =>
          (row.feed (v.banks.at (i.d % 4)).op (v.banks.at (i.d % 4)).k ((List.range 16).map (fun c =>
            if (v.active i).getD (16 * n + c) false then some (Safety.lane v i.a (16 * n + c), v.low i.b + BitVec.ofNat 32 c) else none))).1)) ∧
        (∀ b, b ≠ i.d % 4 → (u.core core).vx.banks.at b = v.banks.at b) ∧ Safety.SameTiles v (u.core core).vx) ∧
      ((v.banks.at (i.d % 4)).op = 0 → ∃ u, exec (.vRfeed core) s = .next u ∧ (u.core core).vx.run = none ∧
        (u.core core).vx.lastFail = Cause.planReject ∧ (u.core core).vx.failInstr = r.pc ∧ (u.core core).vx.banks = v.banks ∧ Safety.OnlyCore core s u)) ∧
    (i.op = 0x42 → ∃ u, exec (.vRget core) s = .next u ∧ Safety.Retired s u core r i (r.pc + 1) ∧ (u.core core).vx.banks = v.banks ∧
      ((v.banks.at (i.a % 4)).op ≠ 0 → ∀ row c w, row < 16 → c < 16 → (v.banks.at (i.a % 4)).rows[row]? = some w →
        Safety.lane (u.core core).vx i.d (16 * row + c) = (w.lanes (v.banks.at (i.a % 4)).op (v.banks.at (i.a % 4)).k (bitOf i.imm 0)).1.getD c 0) ∧
      (∀ t, t ≠ i.d → (u.core core).vx.tile t = v.tile t)) ∧
    (i.op = 0x43 → ∃ u, exec (.vRtap core) s = .next u ∧ Safety.Retired s u core r i (r.pc + 1) ∧ Safety.SameTiles v (u.core core).vx ∧
      (i.imm % 4 = 0 → (u.core core).rd = (s.core core).rd) ∧
      (i.imm % 4 ≠ 0 → ∀ key, key = 4 * ((v.scalar i.b).toNat % 256) + i.imm % 4 →
        (u.core core).rd.applied = (s.core core).rd.applied + 1 ∧
        ((u.core core).rd.taps.at key).sum = addW36 ((s.core core).rd.taps.at key).sum
          (sumSquares ((((v.active i).zip (v.tile i.a)).filter (·.1)).map (fun p => fp32 p.2))) ∧
        ((u.core core).rd.taps.at key).vanished = ((s.core core).rd.taps.at key).vanished ∧
        ((u.core core).rd.taps.at key).count = ((s.core core).rd.taps.at key).count + 1 ∧
        (∀ k, k ≠ key → (u.core core).rd.taps.at k = (s.core core).rd.taps.at k))))

/-- A ready VECTOR entry whose index is at most 8 191 and whose argument block is readable queues a kernel behind the others; one with a greater index ends Failed with PLAN_REJECT. The first queued kernel of an idle engine on a running die starts at its index with argument words in S0 to S31, every tile 0, every predicate all ones and every bank empty; if its settings break R226 it ends Failed with PLAN_REJECT. A kernel that has run longer than the wait limit of its queue ends Failed with TIMEOUT and its counter latches the cause. A kernel that completes a lane, predicate, scalar or bank instruction as instruction 8 191 ends Failed with PLAN_REJECT there, with FAIL_INSTR 8 191; an SSET there has written its register. With no SRAM word in error, a ready REDUCE entry whose descriptor names the operation and passes its checks runs to its end: the operations ended advance by 1, its counter advances by INCREMENT, and no byte outside the regions it writes changes. SUM writes the sums of its inputs, converted once; ROWS writes the record of each row; TAPREAD writes the record of each tap set and with CLEAR clears it. One that fails a check ends Failed with PLAN_REJECT, which its counter's cause latch takes if it held none, and writes nothing. (R225, R226, R227, R228, R230, R236, R253, R254, R256) -/
def Obligations.KernelLifecycle : Prop :=
  ((∀ (s t u : State) (core q : Nat) (e : Entry) (bs : List Byte), Safety.Ready s core q t e → e.kind = 2 →
    t.readArgs core e.argBlock = (u, .ok bs) →
    (e.kernel ≤ 8191 → ∃ v k, exec (.vector core q) s = .next v ∧
      (v.core core).vx.queue = (u.core core).vx.queue ++ [k] ∧ k.index = e.kernel ∧ k.queue = q ∧ k.segment = false ∧
      (v.core core).vx.run = (u.core core).vx.run ∧ (v.queue core q).pos = (u.queue core q).pos + 1 ∧ Safety.OnlyCore core s v) ∧
    (8191 < e.kernel → ∃ v, exec (.vector core q) s = .next v ∧ (v.core core).vx.queue = (u.core core).vx.queue ∧
      (v.core core).vx.lastFail = Cause.planReject ∧ (v.core core).vx.ended = (u.core core).vx.ended + 1 ∧
      (v.queue core q).pos = (u.queue core q).pos + 1 ∧ Safety.OnlyCore core s v)) ∧
  (∀ (s u : State) (core : Nat) (k : Kernel) (rest : List Kernel) (bs : List Byte), (s.core core).vx.run = none → (s.core core).vx.queue = k :: rest →
    s.dieRunning (coreDie core) = true → k.segment = false → k.index ≤ 8191 →
    (s.modCore core (·.modVx (fun v => { v with queue := v.queue.drop 1 }))).readArgs core (sramAddr core k.args) = (u, .ok bs) → bs.length = 256 →
    ∃ v, exec (.kernelStart core) s = .next v ∧ (v.core core).vx.queue = rest ∧
      (settingsOk false (leNat ((bs.drop 240).take 8)) (leNat ((bs.drop 248).take 8)) = true →
        (v.core core).vx.run.map (·.pc) = some k.index ∧ (∀ t, (v.core core).vx.tile t = List.replicate 256 0) ∧
        (∀ p, p < 8 → (v.core core).vx.pred p = BitVec.allOnes 256) ∧ (v.core core).vx.banks = [] ∧
        (∀ n, n < 32 → (v.core core).vx.scalar n = BitVec.ofNat 64 (leNat ((bs.drop (8 * n)).take 8)))) ∧
      (settingsOk false (leNat ((bs.drop 240).take 8)) (leNat ((bs.drop 248).take 8)) = false →
        (v.core core).vx.run = none ∧ (v.core core).vx.lastFail = Cause.planReject) ∧ Safety.OnlyCore core s v) ∧
  (∀ (s : State) (core : Nat) (r : Running), (s.core core).vx.run = some r → r.kernel.segment = false →
    r.started + s.waitLimit core r.kernel.queue < s.now → ((s.core core).counters.at r.counter).cause = 0 →
    ∃ u, exec (.kernelTimeout core) s = .next u ∧ (u.core core).vx.run = none ∧ (u.core core).vx.lastFail = Cause.timeout ∧
      (u.core core).vx.failInstr = r.pc ∧ ((u.core core).counters.at r.counter).cause = Cause.timeout ∧
      ((u.core core).counters.at r.counter).value = ((s.core core).counters.at r.counter).value ∧ Safety.OnlyCore core s u) ∧
  (∀ (s : State) (core : Nat) (r : Running) (i : VInstr), (s.core core).vx.run = some r → r.pc = 8191 →
    VInstr.ofNat ((s.core core).kernelRegion.at 8191).toNat = i → i.ok = true →
    ∀ p ∈ [(Instr.vAdd core, 0x01), (.vSub core, 0x02), (.vMul core, 0x03), (.vFma core, 0x04), (.vMax core, 0x05), (.vMin core, 0x06),
      (.vAbs core, 0x07), (.vNeg core, 0x08), (.vRcp core, 0x09), (.vRsqrt core, 0x0A), (.vExp2 core, 0x0B), (.vLog2 core, 0x0C),
      (.vCmp core, 0x10), (.vSel core, 0x11), (.vAnd core, 0x12), (.vOr core, 0x13), (.vXor core, 0x14), (.vShl core, 0x15),
      (.vShr core, 0x16), (.vSar core, 0x17), (.vPlog core, 0x18), (.vPset core, 0x19), (.vTrn core, 0x1C), (.vBrow core, 0x1D),
      (.vBcol core, 0x1E), (.vIota core, 0x1F), (.vSset core, 0x30), (.vSseth core, 0x31), (.vSadd core, 0x32), (.vSaddr core, 0x33),
      (.vSmul core, 0x34), (.vSget core, 0x35), (.vRclr core, 0x40), (.vRtap core, 0x43)], i.op = p.2 →
    ∃ u, exec p.1 s = .next u ∧ (u.core core).vx.run = none ∧ (u.core core).vx.lastFail = Cause.planReject ∧
      (u.core core).vx.failInstr = 8191 ∧ (u.core core).vx.ended = (s.core core).vx.ended + 1 ∧
      (i.op = 0x30 → (u.core core).vx.scalar i.d = i.simm) ∧ Safety.OnlyCore core s u)) ∧
  (∀ (s t u y : State) (core q : Nat) (e : Entry) (bs : List Byte) (d : RDesc), Safety.Ready s core q t e → e.kind = 3 → core < 1024 →
    t.readOwn core e.addr 32 1 = (u, .ok bs) → d = RDesc.ofNat (leNat bs) → u.tiers.wordErrs = [] → y = u.goNext core q →
    ∀ p ∈ [(Instr.tree core q, 1), (.sum core q, 2), (.rows core q, 3), (.tapread core q, 4)], d.op = p.2 →
    ((y.core core).reduceOk d = true → ∃ v, exec p.1 s = .next v ∧
      (∀ a, (∀ w ∈ d.regions.2, a < sramAddr core w.1 ∨ sramAddr core w.1 + w.2 ≤ a) → v.mem.byte a = s.mem.byte a) ∧
      (d.op = 2 → v.peek (sramAddr core d.dst) (storeBytes d.fmtOut (d.m * 256)) = leBytes (storeBytes d.fmtOut (d.m * 256))
        (packBits (storeBits d.fmtOut) ((sumColumns d.count ((List.range d.count).map (y.sumInput core d)) (d.m * 256)).map
          (fun a => (convElem d.fmtOut false none (w36 a.value)).bits)))) ∧
      (d.op = 3 → ∀ r, r < d.m → v.peek (sramAddr core (d.dst + 64 * r)) 64 = d.rowRecord
        ((unpackBits (fmtBits d.fmtIn) d.n (y.peekNat (sramAddr core (d.src + r * d.aux)) (storeBytes d.fmtIn d.n))).map
          (fun b => toFp32 (decodeElem d.fmtIn b)))) ∧
      (d.op = 4 → ∀ n, n < d.count → v.peek (sramAddr core (d.dst + 64 * n)) 64 = (y.core core).tapRecord (d.tapSet + n) ∧
        (d.clear = true → ∀ k, k < 4 → (v.core core).rd.taps.at (4 * (d.tapSet + n) + k) = {})) ∧
      (v.core core).rd.ended = (u.core core).rd.ended + 1 ∧
      ((v.core core).counters.at d.counter).value = ((u.core core).counters.at d.counter).value + BitVec.ofNat 32 d.increment ∧
      (v.queue core q).pos = (u.queue core q).pos + 1 ∧ (∀ c, c ≠ core → v.core c = s.core c)) ∧
    ((y.core core).reduceOk d = false → ∃ v, exec p.1 s = .next v ∧ (v.core core).rd.lastFail = Cause.planReject ∧
      (v.core core).rd.ended = (u.core core).rd.ended + 1 ∧
      ((v.core core).counters.at d.counter).value = ((u.core core).counters.at d.counter).value ∧
      (((u.core core).counters.at d.counter).cause = 0 → ((v.core core).counters.at d.counter).cause = Cause.planReject) ∧
      Safety.OnlyCore core s v))

/-- A scan with REPLAY 0 gives an entry that names no expert STATE 3; an entry that names an expert STATE 1 when fewer than CAP entries before it in the order (rank, token) name the same expert, and STATE 2 otherwise. With REPLAY 1 no entry changes and the tags of an expert are those of its admitted entries in that order. A ready DISPATCH whose parameter block, home table and route list are readable and pass every check opens one transfer item, moves on to the next entry and then sends its bundles: the next state is that of State.dispatchGo. A COMBINE whose parameter block, headers, return table and tags are readable and pass every check sends the bundles of its sources: the next state is that of State.combineGo. One whose block fails a check opens no item, records PLAN_REJECT in LAST_FAIL, moves on to the next entry and writes no byte. DISPATCH_DONE and COMBINE_DONE end an open item of their kind with nothing outstanding: the item is gone, its counter advances by INCREMENT and no other counter moves; while a bundle is outstanding, or for an item of the other kind, nothing changes. (R272, R273, R269, R271, R278, R281, R282, R64) -/
def Obligations.ExpertEntriesIssue : Prop :=
  (((∀ (b : DBlock) (es : List REntry) (t j : Nat) (e : REntry), b.replay = false → es.length = b.tokens * b.k →
    (∀ x ∈ es, x.expert < b.experts ∨ x.expert = 0xFFFF) → b.experts ≤ 4096 → t < b.tokens → j < b.k → es[t * b.k + j]? = some e →
    ∃ f, (b.scan es).1.toList[t * b.k + j]? = some f ∧ f = { e with state := f.state } ∧
      f.state = if e.expert = 0xFFFF then 3
        else if (((List.range b.k).flatMap (fun r => (List.range b.tokens).map (fun u => (r, u)))).filter (fun p =>
          (p.1 < j || (p.1 == j && p.2 < t)) && (es[p.2 * b.k + p.1]?).any (fun x => x.expert == e.expert))).length < b.cap then 1 else 2) ∧
  (∀ (b : DBlock) (es : List REntry) (x : Nat), b.replay = true → es.length = b.tokens * b.k → x < b.experts →
    (b.scan es).1.toList = es ∧
    (b.scan es).2.getD x [] = ((List.range b.k).flatMap (fun r => (List.range b.tokens).map (fun u => u * b.k + r))).filter (fun i =>
      (es[i]?).any (fun y => y.state == 1 && y.expert == x)))) ∧
  (∀ (s t u v : State) (core q : Nat) (e : Entry) (bs pb : List Byte) (d : XDesc), Safety.Ready s core q t e → e.kind = 4 →
    t.readOwn core e.addr 32 1 = (u, .ok bs) → d = XDesc.ofNat (leNat bs) →
    (u.goNext core q).readOwn core (sramAddr core (64 * d.aux)) 64 1 = (v, .ok pb) →
    (∀ (b : DBlock), d.op = 0x20 → b = DBlock.ofNat (leNat pb) →
      (d.expertOk && b.fieldsOk && b.formatOk v core d && b.regionsOk d) = false →
      ∃ w, exec (.dispatch core q) s = .next w ∧ (w.core core).rt.lastFail = Cause.planReject ∧ (w.core core).xf.open_ = (u.core core).xf.open_ ∧
        (w.queue core q).pos = (u.queue core q).pos + 1 ∧ Safety.OnlyCore core s w) ∧
    (∀ (b : DBlock) (x y : State) (hb rb : List Byte) (homes : List Home) (es : List REntry), d.op = 0x20 → b = DBlock.ofNat (leNat pb) →
      (d.expertOk && b.fieldsOk && b.formatOk v core d && b.regionsOk d) = true →
      v.readMem (sramAddr core b.home) (8 * b.experts) = (x, .ok hb) → x.readMem (sramAddr core b.route) (8 * b.tokens * b.k) = (y, .ok rb) →
      homes = (wordsOf 8 hb).map Home.ofNat → es = (wordsOf 8 rb).map REntry.ofNat → (homes.all (b.homeOk y) && b.routeOk es) = true →
      ∃ z item, exec (.dispatch core q) s = .next (z.dispatchGo core item.id d b homes es) ∧
        (z.core core).xf.open_ = (y.core core).xf.open_ ++ [item] ∧ item.kind = .dispatch ∧ item.counter = d.counter ∧
        item.increment = d.increment ∧ item.queue = q ∧ item.outstanding = [] ∧ (z.core core).counters = (u.core core).counters ∧
        (z.queue core q).pos = (u.queue core q).pos + 1 ∧ Safety.OnlyCore core s z) ∧
    (∀ (b : CBlock) (n : Nat), d.op = 0x21 → b = CBlock.ofNat (leNat pb) → n = 32 * (rowBlocks d.dstFmt b.rowBytes (v.rowRate core d)).getD 0 →
      b.ok d n = false →
      ∃ w, exec (.combine core q) s = .next w ∧ (w.core core).rt.lastFail = Cause.planReject ∧ (w.core core).xf.open_ = (u.core core).xf.open_ ∧
        (w.queue core q).pos = (u.queue core q).pos + 1 ∧ Safety.OnlyCore core s w) ∧
    (∀ (b : CBlock) (n : Nat) (x y : State) (hb rb : List Byte) (counts : List Nat) (tags : List (List Byte)), d.op = 0x21 →
      b = CBlock.ofNat (leNat pb) → n = 32 * (rowBlocks d.dstFmt b.rowBytes (v.rowRate core d)).getD 0 → b.ok d n = true →
      v.readParts core [(b.recv, 64 * b.xsize), (b.ret, 8 * b.xsize)] = (x, .ok [hb, rb]) → counts = (wordsOf 64 hb).map (fun h => fld h 0 11) →
      (wordsOf 64 hb).all b.headerOk = true → (wordsOf 8 rb).all (retOk x) = true →
      (counts.sum = 0 ∨ b.out + (counts.sum - 1) * b.stride + rowIn d n b.rowBytes ≤ 2 ^ 25) →
      x.readParts core (counts.zipIdx.map (fun (k, i) => (b.recv + b.region.tags i, 4 * k))) = (y, .ok tags) →
      exec (.combine core q) s = .next (y.combineGo core q (leNat bs) d b n counts (tags.map (wordsOf 4)) (wordsOf 8 rb))))) ∧
  (∀ (s : State) (core item : Nat) (x : Xfer), s.findXfer core item = some x →
    ∀ p ∈ [(Instr.dispatchDone core item, XferKind.dispatch), (.combineDone core item, .combine)],
    (x.kind = p.2 → x.outstanding = [] → ∃ u, exec p.1 s = .next u ∧ u.findXfer core item = none ∧
      ((u.core core).counters.at x.counter).value = ((s.core core).counters.at x.counter).value + BitVec.ofNat 32 x.increment ∧
      (∀ n, n ≠ x.counter → (u.core core).counters.at n = (s.core core).counters.at n) ∧ Safety.OnlyCore core s u) ∧
    (x.kind ≠ p.2 ∨ x.outstanding ≠ [] → exec p.1 s = .next s))

/-- The gate unit takes the next landed contribution of a core for the present step: the taken count of that core advances by 1 and its records are held; while another contributor is missing the gate stays open and no counter moves. The first contribution of a step fixes the start of its wait. Before its own totals are complete the gate unit holds the vector of a ring peer, and one of a step already decided, or held already, changes nothing. A selector advance adds 1 to its counter once its conditions hold, and changes nothing before; without a widening at its step it writes no byte. A gate that has waited past its limit ends Failed with TIMEOUT: it is halted, the step index stays, and the gate and selector counters of every core on a running die hold a cause; no counter advances. (R313, R314, R319, R311) -/
def Obligations.GateTakesContributions : Prop :=
  ((∀ (s t : State) (core off len : Nat) (bs : List Byte), s.gateRegion core = some (off, len) →
    s.gate.taken.at core < s.gate.landed.at core → s.gate.first + s.gate.taken.at core = s.gate.step → s.gate.stopped = false →
    s.serialOk s.gate.step = true → s.readMem (hsAddr off) len = (t, .ok bs) →
    (∃ c ∈ s.contributors, c ≠ core ∧ ∀ r ∈ s.gate.records, r.1 ≠ c) →
    ∃ u, exec (.gateContribution core) s = .next u ∧ u.gate.taken.at core = s.gate.taken.at core + 1 ∧
      (∀ c, c ≠ core → u.gate.taken.at c = s.gate.taken.at c) ∧
      u.gate.records = s.gate.records ++ [(core, (pieces 64 (len / 64) bs).map gateRecord)] ∧ u.gate.step = s.gate.step ∧
      u.gate.firstAt = some (s.gate.firstAt.getD s.now) ∧ u.gate.lastAt = s.now ∧ u.cores = t.cores) ∧
  (∀ (s : State) (axis coord : Nat) (m : GateTotals),
    m.step.toNat < s.gate.step ∨ (∃ h ∈ s.gate.held, (h.1, h.2.1, h.2.2.1) = (m.step.toNat, axis, coord)) →
    exec (.gateTotalsMessage axis coord m) s = .next s) ∧
  (∀ (s : State) (axis coord : Nat) (m : GateTotals), s.gate.step ≤ m.step.toNat → axis < 4 → coord < s.axis axis →
    s.coord s.img.node axis ≠ coord → (∀ h ∈ s.gate.held, (h.1, h.2.1, h.2.2.1) ≠ (m.step.toNat, axis, coord)) → s.gate.stage = 0 →
    ∃ u, exec (.gateTotalsMessage axis coord m) s = .next u ∧ u.gate = { s.gate with held := s.gate.held ++ [(m.step.toNat, axis, coord, m.layers)] } ∧
      u.cores = s.cores ∧ u.mem = s.mem)) ∧
  ((∀ (s : State) (core : Nat), s.selectorReady core = true → (∀ l, s.wideningAt (s.selectorStep core) l = none) →
    ∃ u, exec (.selectorAdvance core) s = .next u ∧
      ((u.core core).counters.at (s.coreCfg core).selectorCtr).value = ((s.core core).counters.at (s.coreCfg core).selectorCtr).value + 1 ∧
      u.gate.selector.at core = s.gate.selector.at core + 1 ∧ (∀ c, c ≠ core → u.gate.selector.at c = s.gate.selector.at c) ∧
      Safety.OnlyCore core s u) ∧
  (∀ (s : State) (core : Nat), s.selectorReady core = false → exec (.selectorAdvance core) s = .next s) ∧
  (∀ (s : State) (at_ : Nat), s.gate.firstAt = some at_ → at_ + s.img.gateWait < s.now → s.gate.stopped = false →
    ∃ u, exec .gateTimeout s = .next u ∧ u.gate.halted = true ∧ u.gate.lastCause = Cause.timeout ∧ u.gate.step = s.gate.step ∧
      (∀ c ∈ s.gateCores, ((u.core c.core).counters.at c.gateCtr).cause ≠ 0 ∧ ((u.core c.core).counters.at c.selectorCtr).cause ≠ 0) ∧
      (∀ c n, ((u.core c).counters.at n).value = ((s.core c).counters.at n).value) ∧ u.mem = s.mem))

/-- On a site of one module the last contribution of a step decides its gate: after CONTINUE or SKIP the step index advances by 1, after HALT it stays and the gate is halted; either way no contribution is held any more, the skip count advances exactly on SKIP, and the decision is the one that R315 gives for the totals of the module's records. With a layer whose gradient total is not finite the decision is SKIP with NONFINITE_UPDATE and the lowest such layer, before every limit. With every total finite, it is HALT with NORM_LIMIT when a layer under the HALT policy is due; else SKIP with NORM_LIMIT and FIRST_LAYER 0xFFFF when the module is above its limit, or SKIP with NORM_LIMIT when a layer is above its own; else CONTINUE with cause NONE. (R314, R315, R317) -/
def Obligations.GateClosesAndDecides : Prop :=
  (∀ (s t : State) (core off len : Nat) (bs : List Byte), s.gateRegion core = some (off, len) →
    s.gate.taken.at core < s.gate.landed.at core → s.gate.first + s.gate.taken.at core = s.gate.step → s.gate.stopped = false →
    s.serialOk s.gate.step = true → s.readMem (hsAddr off) len = (t, .ok bs) → (∀ a, a < 4 → s.axis a = 1) →
    (∀ c ∈ s.contributors, c = core ∨ ∃ r ∈ s.gate.records, r.1 = c) →
    ∀ site, site = [(), (), (), ()].foldl (fun v _ => combineTotals [v]) ({ s with gate := { s.gate with
      records := s.gate.records ++ [(core, (pieces 64 (len / 64) bs).map gateRecord)] } } : State).moduleTotals →
    ∃ u, exec (.gateContribution core) s = .next u ∧ u.gate.lastDecision = (s.gateDecision s.gate.step site).code ∧
      u.gate.lastCause = (s.gateDecision s.gate.step site).cause ∧ u.gate.records = [] ∧ u.gate.firstAt = none ∧
      (u.gate.lastDecision = 2 → u.gate.step = s.gate.step ∧ u.gate.halted = true ∧ u.gate.skipped = s.gate.skipped) ∧
      (u.gate.lastDecision ≠ 2 → u.gate.step = s.gate.step + 1 ∧ u.gate.halted = false) ∧
      (u.gate.lastDecision = 1 → u.gate.skipped = s.gate.skipped + 1) ∧ (u.gate.lastDecision = 0 → u.gate.skipped = s.gate.skipped)) ∧
  ((∀ (s : State) (step : Nat) (site : List LayerTotals), (∃ t ∈ site, (w36 t.gradient).isFinite = false) →
    (s.gateDecision step site).code = 1 ∧ (s.gateDecision step site).cause = Cause.nonfiniteUpdate ∧
    (∀ t ∈ site, (w36 t.gradient).isFinite = false → (s.gateDecision step site).first ≤ t.layer)) ∧
  (∀ (s : State) (step : Nat) (site : List LayerTotals), (∀ t ∈ site, (w36 t.gradient).isFinite = true) →
    ((∃ l ∈ s.img.layers, l.policy = 2 ∧ LayerCfg.firesAny l (s.runsAfter l (totalsOf site l.layer)) = true) →
      (s.gateDecision step site).code = 2 ∧ (s.gateDecision step site).cause = Cause.normLimit) ∧
    ((∀ l ∈ s.img.layers, l.policy = 2 → LayerCfg.firesAny l (s.runsAfter l (totalsOf site l.layer)) = false) →
      (aboveLimit (gradientSum site) (s.lossScale step) s.img.globalLimit = true →
        s.gateDecision step site = { code := 1, cause := Cause.normLimit, first := 0xFFFF }) ∧
      (aboveLimit (gradientSum site) (s.lossScale step) s.img.globalLimit = false →
        ((∃ l ∈ s.img.layers, aboveLimit (w36 (totalsOf site l.layer).gradient) (s.lossScale step) l.limit = true) →
          (s.gateDecision step site).code = 1 ∧ (s.gateDecision step site).cause = Cause.normLimit) ∧
        ((∀ l ∈ s.img.layers, aboveLimit (w36 (totalsOf site l.layer).gradient) (s.lossScale step) l.limit = false) →
          s.gateDecision step site = { code := 0, cause := 0, first := 0xFFFF })))))

/-- A ready UPDATE entry behind a segment that has begun joins the unit as its last segment and the next entry is at the head. A segment that waits for the step before goes on only when its turn has come; one that waits for a released slot or a STAGED shard goes on when it is so, and otherwise fails with TIMEOUT after the wait limit, or with DEFERRAL_LIMIT after the deferral wait; before that nothing changes. A segment whose gate record says SKIP ends Done without a write: it leaves the unit, its counter advances by INCREMENT and the step of the unit advances by 1 when it is LAST. A segment whose shard has not processed the step before waits and changes no byte. (R336, R338, R339, R354, R346, R350) -/
def Obligations.SegmentsQueueAndWait : Prop :=
  ((∀ (s t u : State) (core q : Nat) (e : Entry) (bs : List Byte) (g : Segment) (gs : List Segment), Safety.Ready s core q t e → e.kind = 5 →
    t.readOwn core e.addr 32 1 = (u, .ok bs) → (u.core core).up.segs = g :: gs → g.phase ≠ .queued →
    ∃ v x, exec (.innerSegment core q) s = .next v ∧ x.desc = BitVec.ofNat 256 (leNat bs) ∧ x.queue = q ∧ x.phase = .queued ∧
      (v.core core).up = { (u.core core).up with segs := g :: gs ++ [x] } ∧ (v.queue core q).pos = (u.queue core q).pos + 1 ∧
      (v.core core).counters = (u.core core).counters ∧ Safety.OnlyCore core s v) ∧
  (∀ (s : State) (core : Nat) (g : Segment), s.headSeg core = some g → g.phase = .waitPrev → s.dieRunning (coreDie core) = true →
    (((s.segBegin core g).headSeg core).any (fun h => h.phase == .waitPrev && h.entry == g.entry && h.step == g.step) = false →
      exec (.previousStepResume core) s = .next (State.runSegs 4 core (s.segBegin core g))) ∧
    (((s.segBegin core g).headSeg core).any (fun h => h.phase == .waitPrev && h.entry == g.entry && h.step == g.step) = true →
      exec (.previousStepResume core) s = .next s)) ∧
  (∀ (s : State) (core : Nat) (g : Segment) (c : ShardCfg), s.headSeg core = some g → s.shardCfg g.udesc.shard = some c → g.phase = .waitSlot →
    (s.chunkReleased g c = true → ∃ u, exec (.slotReleaseResume core) s = .next (u.writeChunk core g c) ∧
      (u.core core).up = { (s.core core).up with slotWaitUs := (s.core core).up.slotWaitUs + (s.now - g.since) / 1000 } ∧ Safety.OnlyCore core s u) ∧
    (s.chunkReleased g c = false → g.since + s.waitLimit core g.queue < s.now →
      ∃ u, exec (.slotReleaseResume core) s = .next u ∧ (u.headSeg core).map (·.phase) = some (.failed Cause.timeout) ∧ Safety.OnlyCore core s u) ∧
    (s.chunkReleased g c = false → s.now ≤ g.since + s.waitLimit core g.queue → exec (.slotReleaseResume core) s = .next s)) ∧
  (∀ (s : State) (core : Nat) (g : Segment), s.headSeg core = some g → g.phase = .waitStage → s.dieRunning (coreDie core) = true →
    ((s.shardSt g.udesc.shard).staged = true → exec (.stagedResume core) s = .next (State.runSegs 4 core (s.segBegin core g))) ∧
    ((s.shardSt g.udesc.shard).staged = false → exec (.stagedResume core) s = .next s) ∧
    (g.since + s.img.deferWait < s.now →
      ∃ u, exec (.deferralLimit core) s = .next u ∧ (u.headSeg core).map (·.phase) = some (.failed Cause.deferralLimit) ∧ Safety.OnlyCore core s u) ∧
    (s.now ≤ g.since + s.img.deferWait → exec (.deferralLimit core) s = .next s))) ∧
  ((∀ (s : State) (core : Nat) (g : Segment) (c : ShardCfg) (bs : List Byte), (s.core core).up.segs = [g] → g.advanced = false →
    s.shardCfg g.udesc.shard = some c → g.udesc.op = 1 → s.segmentOk core g.udesc c = true →
    s.readMem (sramAddr core ((s.coreCfg core).gateRing + g.step % 4 * 64)) 64 = (s, .ok bs) → fld (leNat bs) 0 64 = g.step →
    fld (leNat bs) 64 8 = 1 → g.phase = .waitPrev → s.dieRunning (coreDie core) = true →
    ((s.shardSt g.udesc.shard).skipReports.upd g.step (· + 1)).at (s.nextStep g.udesc.shard) < c.segCount →
    ∃ u, exec (.previousStepResume core) s = .next u ∧ (u.core core).up.segs = [] ∧
      ((u.core core).counters.at g.udesc.counter).value = ((s.core core).counters.at g.udesc.counter).value + BitVec.ofNat 32 g.udesc.increment ∧
      (u.core core).up.step = (s.core core).up.step + (if g.udesc.last then 1 else 0) ∧
      (u.shardSt g.udesc.shard).skipReports.at g.step = (s.shardSt g.udesc.shard).skipReports.at g.step + 1 ∧ u.mem = s.mem) ∧
  (∀ (s : State) (core : Nat) (g : Segment) (c : ShardCfg) (bs : List Byte), s.headSeg core = some g → s.shardCfg g.udesc.shard = some c →
    g.udesc.op = 1 → s.segmentOk core g.udesc c = true →
    s.readMem (sramAddr core ((s.coreCfg core).gateRing + g.step % 4 * 64)) 64 = (s, .ok bs) → fld (leNat bs) 0 64 = g.step →
    fld (leNat bs) 64 8 = 0 → g.phase = .waitPrev → (s.shardSt g.udesc.shard).gaveUp = false → g.step ≠ s.nextStep g.udesc.shard →
    exec (.previousStepResume core) s = .next s))

/-- A chunk whose kernel failed makes its segment Failed with that cause and writes nothing; one whose target is still held waits; otherwise the chunk is written back. A Failed INNER segment with a cause that no re-issue can mend leaves the unit, marks its shard UNCOMMITTED with the cause, latches it into its counter and halts queue 7 of its core. (R336, R342, R349) -/
def Obligations.SegmentFailures : Prop :=
  (∀ (s : State) (core : Nat) (g : Segment) (c : ShardCfg) (cause : Cause), s.headSeg core = some g → s.shardCfg g.udesc.shard = some c →
    g.phase = .kernel → (s.core core).vx.segEnd = some cause →
    ∃ u, (u.core core).vx.segEnd = none ∧ (u.core core).up = (s.core core).up ∧ Safety.OnlyCore core s u ∧
      (cause ≠ 0 → exec (.chunkWriteback core) s = .next (u.segFail core cause)) ∧
      (cause = 0 → s.chunkReleased g c = true → exec (.chunkWriteback core) s = .next (u.writeChunk core g c)) ∧
      (cause = 0 → s.chunkReleased g c = false → exec (.chunkWriteback core) s = .next (u.segPhase core .waitSlot))) ∧
  (∀ (s : State) (core : Nat) (p : SegPhase) (g : Segment), s.headSeg core = some g →
    ((s.segPhase core p).headSeg core).map (·.phase) = some p ∧ Safety.OnlyCore core s (s.segPhase core p)) ∧
  (∀ (s : State) (core : Nat) (g : Segment) (c : ShardCfg) (cause : Cause), (s.core core).up.segs = [g] → g.phase = .failed cause → cause ≠ 0 →
    s.shardCfg g.udesc.shard = some c → g.udesc.op = 1 → retriable cause = false →
    ∃ u, exec (.segmentFailReport core) s = .next u ∧ (u.core core).up.segs = [] ∧ (u.core core).up.lastFail = cause ∧
      (u.core core).up.ended = (s.core core).up.ended + 1 ∧ u.commit.lastCause = cause ∧ u.commit.lastShard = g.udesc.shard ∧
      (u.shardSt g.udesc.shard).uncommitted = true ∧ (u.shardSt g.udesc.shard).cause = cause ∧
      ((u.core core).counters.at g.udesc.counter).cause ≠ 0 ∧ (u.queue core 7).halted = true)

/-- A shard whose segments have all reported commits its target slot: SEQ, VERSION and COUNT advance by 1, STEP is the step of the update and the slot is the committed one; a commit of an outer update advances SEQ and VERSION and keeps STEP and COUNT; no other shard's committed state changes; a shard with a segment outstanding does not commit. A member's digest is held until every member's is; then a module whose own digest is not the one that the most members hold marks the shard DIVERGED, counts it and reports it, and in both cases the digests are dropped. A digest of another module, of the set or not, is first passed on round the rings; one of a node outside the set has no other effect. (R334, R347, R314, R358, R359) -/
def Obligations.ShardsCommit : Prop :=
  ((∀ (s : State) (n slot step : Nat) (c : ShardCfg), s.shardCfg n = some c → s.commitReady n c = true → (s.shardSt n).target = some (slot, step) →
    (s.writeMem (c.commitBase + 64 * (((s.shardSt n).seq + 1) % 2)) (⟨(s.shardSt n).seq + 1, (s.shardSt n).version + 1, step,
      (s.shardSt n).count + 1, c.tid, slot⟩ : CommitRec).bytes).2 = 0 →
    ∃ u, exec (.shardCommit n) s = .next u ∧ (u.shardSt n).slot = slot ∧ (u.shardSt n).seq = (s.shardSt n).seq + 1 ∧
      (u.shardSt n).version = (s.shardSt n).version + 1 ∧ (u.shardSt n).step = step ∧ (u.shardSt n).count = (s.shardSt n).count + 1 ∧
      (u.shardSt n).hasState = true ∧ u.commit.commits = s.commit.commits + 1 ∧ (∀ k, k ≠ n → (u.shardSt k).slot = (s.shardSt k).slot ∧ (u.shardSt k).seq = (s.shardSt k).seq ∧ (u.shardSt k).version = (s.shardSt k).version ∧
        (u.shardSt k).step = (s.shardSt k).step ∧ (u.shardSt k).count = (s.shardSt k).count ∧ (u.shardSt k).processed = (s.shardSt k).processed)) ∧
  (∀ (s : State) (n slot step : Nat) (c : ShardCfg), s.shardCfg n = some c → s.commitReady n c = false → c.segCount ≠ 0 →
    (s.shardSt n).outerReports = c.segCount → (c.pool = true → (s.shardSt n).written = true) → (s.shardSt n).target = some (slot, step) →
    (s.writeMem (c.commitBase + 64 * (((s.shardSt n).seq + 1) % 2)) (⟨(s.shardSt n).seq + 1, (s.shardSt n).version + 1,
      (s.shardSt n).step, (s.shardSt n).count, c.tid, slot⟩ : CommitRec).bytes).2 = 0 →
    ∃ u, exec (.shardCommit n) s = .next u ∧ (u.shardSt n).slot = slot ∧ (u.shardSt n).seq = (s.shardSt n).seq + 1 ∧
      (u.shardSt n).version = (s.shardSt n).version + 1 ∧ (u.shardSt n).step = (s.shardSt n).step ∧ (u.shardSt n).count = (s.shardSt n).count ∧
      u.commit.commits = s.commit.commits + 1 ∧ (∀ k, k ≠ n → (u.shardSt k).slot = (s.shardSt k).slot ∧ (u.shardSt k).seq = (s.shardSt k).seq ∧ (u.shardSt k).version = (s.shardSt k).version ∧
        (u.shardSt k).step = (s.shardSt k).step ∧ (u.shardSt k).count = (s.shardSt k).count ∧ (u.shardSt k).processed = (s.shardSt k).processed)) ∧
  (∀ (s : State) (n : Nat) (c : ShardCfg), s.shardCfg n = some c → (s.shardSt n).reports ≠ c.segCount → (s.shardSt n).outerReports ≠ c.segCount →
    exec (.shardCommit n) s = .next s)) ∧
  ((∀ (s : State) (n coord : Nat) (w : Word64) (c : ShardCfg), s.shardCfg n = some c → (s.replicas c.replicaSet).contains coord = false →
    exec (.digestExchange n coord w) s = .next (if coord ≠ s.img.node ∧ coord < s.nodes then s.ringSend coord (.digest n coord w) else s)) ∧
  (∀ (s : State) (n coord step : Nat) (w own : Word64) (c : ShardCfg) (held : List (Nat × Word64)), s.shardCfg n = some c → c.replicaSet ≠ 0 →
    s.img.digestInterval ≠ 0 → coord ∈ s.replicas c.replicaSet → coord ≠ s.img.node →
    s.commit.digests.find? (fun e => e.1 == n) = some (n, step, held) → held.find? (fun e => e.1 == s.img.node) = some (s.img.node, own) →
    ((∃ m ∈ s.replicas c.replicaSet, m ≠ coord ∧ ∀ e ∈ held, e.1 ≠ m) →
      ∃ u, exec (.digestExchange n coord w) s = .next u ∧
        u.commit.digests.find? (fun e => e.1 == n) = some (n, step, held.filter (fun e => e.1 != coord) ++ [(coord, w)]) ∧ u.commit.shards = s.commit.shards ∧
        u.mem = s.mem) ∧
    ((∀ m ∈ s.replicas c.replicaSet, m = coord ∨ ∃ e ∈ held, e.1 = m) → ∀ best,
      majority (held.filter (fun e => e.1 != coord) ++ [(coord, w)]) = some best →
      ∃ u, exec (.digestExchange n coord w) s = .next u ∧ (∀ e ∈ u.commit.digests, e.1 ≠ n) ∧
        (own = best.2 → u.commit.shards = s.commit.shards ∧ u.commit.divergedCount = s.commit.divergedCount) ∧
        (own ≠ best.2 → (u.shardSt n).diverged = true ∧ u.commit.divergedCount = s.commit.divergedCount + 1 ∧
          (∀ k, k ≠ n → u.shardSt k = s.shardSt k)) ∧ u.mem = s.mem)))

/-- A ready COPY whose formats are equal, whose source and destination lie in SRAM or the tiers of this module outside the gate area, in stores without errors, writes the source bytes to the destination: every other byte is unchanged, its counter advances by INCREMENT, and with DCTR_EN the destination counter advances first; the next entry is at the head and no item stays open. (R389, R391, R64) -/
def Obligations.CopyMovesBytes : Prop :=
  ∀ (s t : State) (core q : Nat) (e : Entry) (bs : List Byte) (d : XDesc), Safety.Inv s → Safety.Ready s core q t e → e.kind = 4 →
    t.readOwn core e.addr 32 1 = (t, .ok bs) → d = XDesc.ofNat (leNat bs) → d.op = 0x01 → (t.goNext core q).copyOk core d = true →
    d.srcFmt = d.dstFmt → d.errEn = false → d.node = 0xFFFF → addrSpace d.src ≤ 2 → addrSpace d.dst ≤ 2 →
    t.tiers.wordErrs = [] → t.tiers.lineErrs = [] → (∀ c ∈ t.tiers.channels, c.2.state ≠ 3) →
    t.destResetting d.src = false → t.destResetting d.dst = false → (∀ x ∈ (t.core core).xf.open_, x.id < (t.core core).xf.nextId) →
    ∃ u, exec (.copy core q) s = .next u ∧
      (∀ a, u.mem.byte a = if d.dst ≤ a ∧ a < d.dst + 64 * d.len then s.mem.byte (d.src + (a - d.dst)) else s.mem.byte a) ∧
      (u.core core).xf.open_ = (t.core core).xf.open_ ∧ (u.queue core q).pos = (t.queue core q).pos + 1 ∧
      (d.dctrEn = false → ((u.core core).counters.at d.counter).value = ((t.core core).counters.at d.counter).value + BitVec.ofNat 32 d.increment ∧
        ∀ c n, (c, n) ≠ (core, d.counter) → (u.core c).counters.at n = (t.core c).counters.at n) ∧
      (d.dctrEn = true → (core, d.counter) ≠ (addrCore d.dst, d.dctr) →
        ((u.core core).counters.at d.counter).value = ((t.core core).counters.at d.counter).value + BitVec.ofNat 32 d.increment ∧
        ((u.core (addrCore d.dst)).counters.at d.dctr).value = ((t.core (addrCore d.dst)).counters.at d.dctr).value + BitVec.ofNat 32 d.increment)

/-- A ready STAGE of a POOL shard that has state and is not STAGED places a hold on the committed slot and opens an item that reads every line of it; a ready WRITEBACK whose step has every report opens an item that writes the bytes of the output half, line by line. A STAGE that names no shard ends Failed with PLAN_REJECT. (R335, R351, R393) -/
def Obligations.StageAndWriteback : Prop :=
  (∀ (s t u : State) (core q : Nat) (e : Entry) (bs : List Byte) (d : XDesc) (c : ShardCfg), Safety.Ready s core q t e → e.kind = 4 →
    t.readOwn core e.addr 32 1 = (u, .ok bs) → d = XDesc.ofNat (leNat bs) → d.op = 0x02 → s.shardCfg d.shard = some c → c.pool = true →
    d.shardOpOk s = true → (s.shardSt d.shard).staged = false → (s.shardSt d.shard).hasState = true →
    (s.shardSt d.shard).canHold (s.shardSt d.shard).slot = true → s.poolBlocked (c.slotAddr (s.shardSt d.shard).slot) c.slotSize = false →
    (∀ x ∈ (u.core core).xf.open_, x.id < (u.core core).xf.nextId) →
    ∃ v x, exec (.stage core q) s = .next v ∧ (v.core core).xf.open_ = (u.core core).xf.open_ ++ [x] ∧ x.kind = .stage ∧ x.shard = d.shard ∧
      x.writing = false ∧ x.outstanding = poolLines (c.slotAddr (s.shardSt d.shard).slot) c.slotSize ∧ x.counter = d.counter ∧
      (v.shardSt d.shard).holds = (s.shardSt d.shard).holds ++ [⟨(s.shardSt d.shard).slot, holdStage, 0⟩] ∧
      (v.core core).counters = (u.core core).counters ∧ Safety.OnlyCore core s v) ∧
  (∀ (s t u : State) (core q : Nat) (e : Entry) (bs : List Byte) (d : XDesc), Safety.Ready s core q t e → e.kind = 4 →
    t.readOwn core e.addr 32 1 = (u, .ok bs) → d = XDesc.ofNat (leNat bs) → d.op = 0x02 → s.shardCfg d.shard = none →
    (s.shardSt d.shard).canHold (s.shardSt d.shard).slot = true →
    ∃ v, exec (.stage core q) s = .next v ∧ (v.core core).xf.lastFail = Cause.planReject ∧ ((v.core core).counters.at d.counter).cause ≠ 0 ∧ (v.core core).xf.open_ = (u.core core).xf.open_ ∧
      v.commit = s.commit ∧ Safety.OnlyCore core s v) ∧
  (∀ (s t u : State) (core q slot : Nat) (e : Entry) (bs out : List Byte) (d : XDesc) (c : ShardCfg), Safety.Ready s core q t e → e.kind = 4 →
    t.readOwn core e.addr 32 1 = (u, .ok bs) → d = XDesc.ofNat (leNat bs) → d.op = 0x03 → s.shardCfg d.shard = some c → c.pool = true →
    d.shardOpOk s = true → (s.shardSt d.shard).writebackSlot c = some slot → s.poolBlocked (c.slotAddr slot) c.slotSize = false →
    (∀ x ∈ (u.core core).xf.open_, x.id < (u.core core).xf.nextId) →
    u.tiers.wordErrs = [] → u.tiers.lineErrs = [] → (∀ k ∈ u.tiers.channels, k.2.state ≠ 3) → out = s.peek c.outputHalf c.slotSize →
    ∃ v x, exec (.writeback core q) s = .next v ∧ (v.core core).xf.open_ = (u.core core).xf.open_ ++ [x] ∧ x.kind = .writeback ∧ x.shard = d.shard ∧
      x.writing = true ∧ x.got = poolCut ((out.length + 63) / 64) (c.slotAddr slot) out ∧ x.outstanding = x.got.map (·.1) ∧
      x.counter = d.counter ∧ (v.core core).counters = (u.core core).counters ∧ v.commit = s.commit ∧ v.mem = s.mem)

/-- A successful completion removes its line and, with more lines outstanding, does nothing else but hold the bytes read and, for a STAGE, raise the mark of its hold; a poisoned one ends the transfer Failed with MEM_UNCORRECTABLE, an unsupported one with PLAN_REJECT and marks the window entry UNBOUND, and a request past the pool time limit ends Failed with TIMEOUT and is counted. A completion with a tag or a line that nothing waits for changes nothing. (R382, R383, R384) -/
def Obligations.PoolRequestsEnd : Prop :=
  (∀ (s : State) (tag line : Nat) (st : PoolStatus) (bytes : List Byte), s.poolItem tag = none →
    exec (.poolCompletion tag line st bytes) s = .next s ∧ exec (.poolTimeout tag) s = .next s) ∧
  (∀ (s : State) (tag line core : Nat) (bytes : List Byte) (x : Xfer), s.poolItem tag = some (core, x) → s.findXfer core x.id = some x →
    (line ∉ x.outstanding → ∀ st, exec (.poolCompletion tag line st bytes) s = .next s) ∧
    (line ∈ x.outstanding → x.outstanding.erase line ≠ [] → ∃ u y, exec (.poolCompletion tag line .success bytes) s = .next u ∧
      u.findXfer core x.id = some y ∧ y.outstanding = x.outstanding.erase line ∧
      y.got = (if x.writing then x.got else x.got ++ [(line, bytes)]) ∧ (u.core core).counters = (s.core core).counters ∧ Safety.OnlyCore core s u) ∧
    (line ∈ x.outstanding → ∃ u, exec (.poolCompletion tag line .poisoned bytes) s = .next u ∧ u.findXfer core x.id = none ∧
      (u.core core).xf.lastFail = Cause.memUncorrectable ∧ ((u.core core).counters.at x.counter).cause ≠ 0 ∧
      (∀ n, ((u.core core).counters.at n).value = ((s.core core).counters.at n).value) ∧ Safety.OnlyCore core s u) ∧
    (line ∈ x.outstanding → ∃ u, exec (.poolCompletion tag line .unsupported bytes) s = .next u ∧ u.findXfer core x.id = none ∧
      (u.core core).xf.lastFail = Cause.planReject ∧ (∀ n, s.poolEntry (addrOff line) = some n → bitOf u.tiers.poolUnbound n = true) ∧
      Safety.OnlyCore core s u) ∧
    (x.started + s.img.poolTimeout < s.now → ∃ u, exec (.poolTimeout tag) s = .next u ∧ u.findXfer core x.id = none ∧
      (u.core core).xf.lastFail = Cause.timeout ∧ u.tiers.poolTimeouts = s.tiers.poolTimeouts + 1 ∧ Safety.OnlyCore core s u) ∧
    (s.now ≤ x.started + s.img.poolTimeout → exec (.poolTimeout tag) s = .next s))

/-- An SRAM scrub corrects a word with one bad bit and counts it, and only counts a word with two; a patrol scrub stores a correctable line with fresh check symbols; neither changes a byte of a clean word or line. A retrain that ends well brings its channel UP, one that fails makes it FAILED. Strobe steps and refreshes change no byte and no state of a channel. A hot channel report marks the channel. (R365, R366, R372, R375, R377, R378) -/
def Obligations.ScrubsAndChannels : Prop :=
  (∀ (s : State) (addr : Nat), s.tiers.wordErrs.at (addr / 16) = .single → ∃ u, exec (.sramScrub addr) s = .next u ∧
    u.tiers.wordErrs.at (addr / 16) = .none ∧ (∀ w, w ≠ addr / 16 → u.tiers.wordErrs.at w = s.tiers.wordErrs.at w) ∧ u.mem = s.mem ∧
    (addrSpace addr = 0 → (u.core (addrCore addr)).sramCe = (s.core (addrCore addr)).sramCe + 1)) ∧
  (∀ (s : State) (addr : Nat), s.tiers.wordErrs.at (addr / 16) = .double → ∃ u, exec (.sramScrub addr) s = .next u ∧
    u.tiers.wordErrs = s.tiers.wordErrs ∧ u.mem = s.mem ∧ (addrSpace addr = 0 → (u.core (addrCore addr)).sramUe = (s.core (addrCore addr)).sramUe + 1)) ∧
  (∀ (s : State) (addr : Nat), s.tiers.wordErrs.at (addr / 16) = .none → exec (.sramScrub addr) s = .next s) ∧
  (∀ (s : State) (addr : Nat) (c : ErrPattern), s.channelFailed (64 * (addr / 64)) 64 = false → s.tiers.lineErrs.at (addr / 64) ≠ [] →
    lineDecode (s.tiers.lineErrs.at (addr / 64)) = some c → ∃ u, exec (.patrolScrub addr) s = .next u ∧ u.tiers.lineErrs.at (addr / 64) = [] ∧
    (∀ a, a / 64 ≠ addr / 64 → u.mem.byte a = s.mem.byte a) ∧ u.cores = s.cores) ∧
  (∀ (s : State) (addr : Nat), s.tiers.lineErrs.at (addr / 64) = [] → ∃ u, exec (.patrolScrub addr) s = .next u ∧ u.mem = s.mem ∧
    u.tiers.lineErrs = s.tiers.lineErrs ∧ u.cores = s.cores) ∧
  (∀ (s : State) (n : Nat), n < 96 → (s.tiers.channels.at n).state = 2 →
    (∃ u, exec (.channelRetrain n true) s = .next u ∧ (u.tiers.channels.at n).state = 1 ∧ u.mem = s.mem) ∧
    (∃ u, exec (.channelRetrain n false) s = .next u ∧ (u.tiers.channels.at n).state = 3 ∧ u.mem = s.mem ∧
      ∀ k, k ≠ n → u.tiers.channels.at k = s.tiers.channels.at k)) ∧
  (∀ (s : State) (n bank : Nat), (∃ u, exec (.strobeStep n) s = .next u ∧ u.mem = s.mem ∧ u.cores = s.cores ∧
      ∀ k, (u.tiers.channels.at k).state = (s.tiers.channels.at k).state ∧ (u.tiers.channels.at k).ce = (s.tiers.channels.at k).ce) ∧
    (∃ u, exec (.refresh n bank) s = .next u ∧ u.mem = s.mem ∧ u.cores = s.cores ∧
      ∀ k, (u.tiers.channels.at k).state = (s.tiers.channels.at k).state ∧ (u.tiers.channels.at k).ce = (s.tiers.channels.at k).ce)) ∧
  (∀ (s : State) (n : Nat), n < 96 → s.power.holdup = 0 → ∃ u, exec (.dramTemperatureReport n false) s = .next u ∧
    (u.tiers.channels.at n).hot = true ∧ (∀ k, k ≠ n → u.tiers.channels.at k = s.tiers.channels.at k) ∧ u.mem = s.mem)

/-- Once its retry time has come a port in DETECT with at least 8 lanes goes to EQUALIZE, from there to LANE_MAP, from there with at least 8 lanes good in both directions to ALIGN with that mask and the width it gives, and from there to EXCHANGE, where it sends its identity; an attempt that fails begins anew in DETECT 100 ms later. In EXCHANGE, once both ends have sent a configured identity, the one that the torus expects brings the port UP with the neighbour it names and another makes it MISCABLED; before that it waits, and sends its identity every 100 µs. (R401, R402, R404, R406) -/
def Obligations.PortTrains : Prop :=
  (∀ (s : State) (p lanes goodOut : Nat) (tests : List LaneTest),
    ((s.port p).state = 1 ∧ (s.port p).failing = false ∨ (s.port p).failing = true ∧ (s.port p).retryAt ≤ s.now →
      (8 ≤ (lanesOf lanes).length → ∃ u, exec (.detect p lanes) s = .next u ∧ (u.port p).state = 2 ∧ (u.port p).failing = false ∧
        (u.port p).since = s.now ∧ (∀ k, k ≠ p → u.port k = s.port k) ∧ u.cores = s.cores ∧ u.mem = s.mem) ∧
      ((lanesOf lanes).length < 8 → ∃ u, exec (.detect p lanes) s = .next u ∧ (u.port p).state = 1 ∧ (u.port p).failing = true ∧
        (u.port p).retryAt = s.now + 100000000 ∧ (∀ k, k ≠ p → u.port k = s.port k) ∧ u.mem = s.mem)) ∧
    ((s.port p).failing = false →
      ((s.port p).state = 2 → ∃ u, exec (.equalize p true) s = .next u ∧ (u.port p).state = 3 ∧ (∀ k, k ≠ p → u.port k = s.port k) ∧
        u.cores = s.cores ∧ u.mem = s.mem) ∧
      ((s.port p).state = 3 → 8 ≤ (lanesOf (s.fusedLanes p (passMask tests &&& goodOut))).length → ∃ u,
        exec (.laneMap p tests goodOut) s = .next u ∧ (u.port p).state = 4 ∧ (u.port p).good = s.fusedLanes p (passMask tests &&& goodOut) ∧
        (u.port p).width = widthOf (lanesOf (u.port p).good).length ∧ (∀ k, k ≠ p → u.port k = s.port k) ∧ u.cores = s.cores ∧ u.mem = s.mem) ∧
      ((s.port p).state = 4 → ∃ u, exec (.align p true) s = .next u ∧ (u.port p).state = 5 ∧ (u.port p).nbrId = none ∧
        u.torus.sentMessages = s.torus.sentMessages ++ [(p, .identity (s.identity p))] ∧ (u.port p).ownSent = s.configured ∧
        (∀ k, k ≠ p → u.port k = s.port k) ∧ u.cores = s.cores ∧ u.mem = s.mem) ∧
      (∀ c ∈ [(Instr.equalize p false, 2), (.laneMap p [] goodOut, 3), (.align p false, 4)], (s.port p).state = c.2 →
        ∃ u, exec c.1 s = .next u ∧ (u.port p).failing = true ∧ (u.port p).width = 0 ∧ (u.port p).retryAt = s.now + 100000000 ∧
          (∀ k, k ≠ p → u.port k = s.port k) ∧ u.cores = s.cores ∧ u.mem = s.mem))) ∧
  (∀ (s : State) (p : Nat) (id : PortIdentity), (s.port p).state = 5 → (s.port p).failing = false →
    ((s.port p).ownSent = true → id.job ≠ 0 → id.site = s.img.site → id.job = s.img.job → id.port = p ^^^ 1 → id.node = s.neighbour s.img.node p →
      ∃ u, exec (.exchange p id) s = .next u ∧ (u.port p).state = 6 ∧ (u.port p).nbrNode = id.node ∧ (u.port p).nbrPort = id.port) ∧
    ((s.port p).ownSent = true → id.job ≠ 0 →
      id.node ≠ s.neighbour s.img.node p ∨ id.port ≠ p ^^^ 1 ∨ id.site ≠ s.img.site ∨ id.job ≠ s.img.job →
      ∃ u, exec (.exchange p id) s = .next u ∧ (u.port p).state = 7 ∧ (u.port p).nbrNode = id.node ∧ (∀ k, k ≠ p → u.port k = s.port k) ∧
        u.mem = s.mem) ∧
    (id.job = 0 ∨ (s.port p).ownSent = false → ∃ u, exec (.exchange p id) s = .next u ∧ (u.port p).state = 5 ∧ (u.port p).nbrId = some id ∧
      (∀ k, k ≠ p → u.port k = s.port k) ∧ u.mem = s.mem) ∧
    ((∀ x, (s.port p).nbrId = some x → x.job = 0) →
      ((s.port p).idSentAt = 0 ∨ (s.port p).idSentAt + 100000 ≤ s.now → ∃ u, exec (.identitySend p) s = .next u ∧
        u.torus.sentMessages = s.torus.sentMessages ++ [(p, .identity (s.identity p))] ∧ (u.port p).idSentAt = s.now ∧ (u.port p).state = 5 ∧
        (u.port p).ownSent = s.configured ∧ u.mem = s.mem) ∧
      ((s.port p).idSentAt ≠ 0 → s.now < (s.port p).idSentAt + 100000 → exec (.identitySend p) s = .next s)))

/-- A training step past its bound, which in EXCHANGE counts from the moment both ends have sent a configured identity, fails and begins anew 100 ms later; an EXCHANGE that saw no configured identity for 10 min and a MISCABLED port after 1 s go back to DETECT. An UP port without a valid frame for more than 1 µs, whose lane switch did not resume within 10 µs or whose in-service retrain failed goes DOWN: it counts the fall, drops its replay buffer and what waited, and holds no credit. An in-service retrain that ends well keeps the port UP and sends the frames of its replay buffer again. (R401, R406, R407, R413) -/
def Obligations.PortsGoDown : Prop :=
  (∀ (s : State) (p : Nat), (s.port p).failing = false →
    1 ≤ (s.port p).state ∧ (s.port p).state ≤ 4 ∧ (s.port p).since + attemptBound (s.port p).state < s.now ∨
      (s.port p).state = 5 ∧ (∃ t, (s.port p).bothAt = some t ∧ t + 1000000 < s.now) →
    ∃ u, exec (.attemptTimeout p) s = .next u ∧ (u.port p).failing = true ∧ (u.port p).retryAt = s.now + 100000000 ∧ (u.port p).downReason = 5 ∧
      (∀ k, k ≠ p → u.port k = s.port k) ∧ u.mem = s.mem) ∧
  (∀ (s : State) (p : Nat), (s.port p).state = 5 → (s.port p).bothAt = none → exec (.attemptTimeout p) s = .next s) ∧
  (∀ (s : State) (p : Nat), (s.port p).state = 5 → (s.port p).failing = false → (∀ id, (s.port p).nbrId = some id → id.job = 0) →
    (s.port p).since + 600000000000 ≤ s.now →
    ∃ u, exec (.configuredWaitLimit p) s = .next u ∧ (u.port p).state = 1 ∧ (∀ k, k ≠ p → u.port k = s.port k) ∧ u.mem = s.mem) ∧
  (∀ (s : State) (p : Nat), (s.port p).state = 7 → (s.port p).since + 1000000000 ≤ s.now →
    ∃ u, exec (.miscabledRetry p) s = .next u ∧ (u.port p).state = 1 ∧ (∀ k, k ≠ p → u.port k = s.port k) ∧ u.mem = s.mem) ∧
  (∀ (s : State) (p : Nat) (c : Instr), (s.port p).state = 6 →
    (c = .noValidFrame p ∧ (s.port p).switching = false ∧ (s.port p).retraining = false ∧ (s.port p).lastFrameAt + 1000 < s.now ∨
     c = .laneSwitchTimeout p ∧ (s.port p).switching = true ∧ (s.port p).since + 10000 < s.now ∨
     c = .inServiceRetrain p false ∧ (s.port p).retraining = true) →
    ∃ u, exec c s = .next u ∧ (u.port p).state = 1 ∧ (u.port p).downs = (s.port p).downs + 1 ∧ (u.port p).replay = [] ∧ (u.port p).waiting = [] ∧
      (u.port p).credits = [] ∧ (u.port p).width = 0 ∧ u.mem = s.mem) ∧
  (∀ (s : State) (p : Nat), (s.port p).state = 6 → (s.port p).retraining = true → s.now ≤ (s.port p).since + 50000000 →
    ∃ u more, exec (.inServiceRetrain p true) s = .next u ∧ (u.port p).state = 6 ∧ (u.port p).retraining = false ∧ (u.port p).lastFrameAt = s.now ∧
      (u.port p).replay.map (·.bytes) = (s.port p).replay.map (·.bytes) ++ more ∧
      (u.port p).replays = (s.port p).replays + BitVec.ofNat 32 (s.port p).replay.length ∧ (∀ k, k ≠ p → u.port k = s.port k) ∧ u.mem = s.mem)

/-- A lane of an UP port above the error limit leaves the mask that the port proposes, while 8 lanes stay; a retest every 10 s proposes the lanes that passed again at both ends. The neighbour's proposal of at least 8 lanes is accepted, and its acceptance of the own proposal makes the switch agreed. Each of these lane commands leaves in the link slot of the next frame. At the agreed frame the port takes the mask and its width, and the frames in flight are sent again; before it nothing changes. (R402, R408, R410) -/
def Obligations.LaneSwitches : Prop :=
  (∀ (s t : State) (p cmd mask seq : Nat), (s.port p).state = 6 → (s.port p).switching = false → (s.port p).retraining = false →
    (s.port p).waiting = [] → s.power.holdup = 0 →
    t = s.modPort p (fun x => { x with switch := some (mask, seq, cmd == 3) }) →
    (t.sendLaneCmd p cmd mask seq).torus.sentBlocks = s.torus.sentBlocks ++ [(p, fecBlock (s.port p).txBlock (leNat (frameBytes []
      ({ s.port p with laneCmd := some (cmd, mask, seq) } : Port).slot)))]) ∧
  (∀ (s : State) (p lane corrections symbols : Nat), (s.port p).state = 6 → bitOf (s.port p).good lane = true → symbols < corrections * 10000 →
    8 ≤ (lanesOf ((s.port p).good - 2 ^ lane)).length → ∃ u seq, exec (.laneErrorLimit p lane corrections symbols) s = .next u ∧
      u = ((s.modPort p (fun x => { x with switch := some ((s.port p).good - 2 ^ lane, seq, false) })).sendLaneCmd p 1 ((s.port p).good - 2 ^ lane) seq).draw ∧
      (u.port p).switch = some ((s.port p).good - 2 ^ lane, seq, false) ∧ (u.port p).good = (s.port p).good ∧
      (∀ k, k ≠ p → u.port k = s.port k) ∧ u.mem = s.mem) ∧
  (∀ (s : State) (p : Nat) (r : LaneResults), (s.port p).state = 6 → (lanesOf (s.port p).good).length < 17 →
    (s.port p).lastRetest + 10000000000 ≤ s.now → 8 ≤ (lanesOf ((s.port p).good ||| s.fusedLanes p (passMask r.tests &&& r.goodOut))).length →
    ∃ u, exec (.laneRetest p r) s = .next u ∧ (u.port p).lastRetest = s.now ∧ (u.port p).good = (s.port p).good ∧
      ((s.port p).good ||| s.fusedLanes p (passMask r.tests &&& r.goodOut) ≠ (s.port p).good →
        (u.port p).switch.map (fun x => (x.1, x.2.2)) = some ((s.port p).good ||| s.fusedLanes p (passMask r.tests &&& r.goodOut), false)) ∧
      (∀ k, k ≠ p → u.port k = s.port k) ∧ u.mem = s.mem) ∧
  (∀ (s : State) (p mask seq : Nat), (s.port p).state = 6 → 8 ≤ (lanesOf mask).length → ∃ u, exec (.lanePropose p mask seq) s = .next u ∧
    u = (s.modPort p (fun x => { x with switch := some (mask, seq, false) })).sendLaneCmd p 2 mask seq ∧
    (u.port p).switch = some (mask, seq, false) ∧ (∀ k, k ≠ p → u.port k = s.port k) ∧ u.mem = s.mem) ∧
  (∀ (s : State) (p mask seq : Nat), (s.port p).switch = some (mask, seq, false) → ∃ u, exec (.laneAccept p mask seq) s = .next u ∧
    u = (s.modPort p (fun x => { x with switch := some (mask, seq, true) })).sendLaneCmd p 3 mask seq ∧
    (u.port p).switch = some (mask, seq, true) ∧ (∀ k, k ≠ p → u.port k = s.port k) ∧ u.mem = s.mem) ∧
  (∀ (s : State) (p mask seq : Nat), (s.port p).state = 6 → (s.port p).switch = some (mask, seq, true) →
    ((s.port p).atSwitch seq = true → ∃ u, exec (.laneSwitch p) s = .next u ∧
      (u.port p).good = mask ∧ (u.port p).width = widthOf (lanesOf mask).length ∧ (u.port p).switching = true ∧ (u.port p).switch = none ∧
      (u.port p).replays = (s.port p).replays + BitVec.ofNat 32 (s.port p).replay.length ∧
      ((s.port p).belowFloor = decide (widthOf (lanesOf mask).length < s.floor p) → (∀ k, k ≠ p → u.port k = s.port k) ∧ u.mem = s.mem)) ∧
    ((s.port p).atSwitch seq = false → exec (.laneSwitch p) s = .next s))

/-- A block with a lost codeword or a frame with a wrong CRC asks for a replay and delivers nothing. A good frame with the next number in sequence is taken: the sequence number advances and no replay is asked for; one that was taken before delivers nothing, and one from further on asks for a replay. An idle frame between packets uses no number. TC0 traffic above 2 % of a window is counted. (R410, R412, R413, R419, R420) -/
def Obligations.FramesAreTakenInOrder : Prop :=
  (∀ (s : State) (p count : Nat) (sent bytes : List Byte) (errors symbols : List Nat), symbols = fecArrive count sent errors → (s.port p).state = 6 → (s.port p).retraining = false →
    bytes = ((fecReceive symbols).frame.map (leBytes 1280)).getD [] →
    (fecReceive symbols).frame = none ∨ leNat (bytes.drop 1276) ≠ (crc32 (bytes.take 1276)).toNat →
    ∃ u, exec (.frame p count sent errors) s = .next u ∧ (u.port p).nak = true ∧ (u.port p).rxSeq = (s.port p).rxSeq ∧ (u.port p).inbox = (s.port p).inbox ∧
      (u.port p).fecLost = (s.port p).fecLost + BitVec.ofNat 32 (fecReceive symbols).lost ∧
      (u.port p).fecFixed = (s.port p).fecFixed + BitVec.ofNat 32 (fecReceive symbols).fixed ∧
      (∀ k, k ≠ p → u.port k = s.port k) ∧ u.cores = s.cores ∧ u.mem = s.mem) ∧
  (∀ (s : State) (p f seq count : Nat) (sent bytes : List Byte) (errors symbols : List Nat), symbols = fecArrive count sent errors → (s.port p).state = 6 → (s.port p).retraining = false →
    (fecReceive symbols).frame = some f → bytes = leBytes 1280 f → leNat (bytes.drop 1276) = (crc32 (bytes.take 1276)).toNat →
    seq = bitsOf (leNat (bytes.drop 1216)) 0 16 →
    (seq = ((s.port p).rxSeq + 1) % 65536 → (bytes.take 1216).all (· == 0) = false ∨ (s.port p).partBytes ≠ [] →
      ∃ u, exec (.frame p count sent errors) s = .next u ∧ (u.port p).rxSeq = seq ∧ (u.port p).nak = false ∧ (u.port p).lastFrameAt = s.now) ∧
    (seq = ((s.port p).rxSeq + 1) % 65536 → (bytes.take 1216).all (· == 0) = true → (s.port p).partBytes = [] →
      ∃ u, exec (.frame p count sent errors) s = .next u ∧ (u.port p).rxSeq = (s.port p).rxSeq ∧ (u.port p).inbox = (s.port p).inbox ∧
        (u.port p).nak = false ∧ (∀ k, k ≠ p → u.port k = s.port k) ∧ u.mem = s.mem) ∧
    (seq ≠ ((s.port p).rxSeq + 1) % 65536 → ∃ u, exec (.frame p count sent errors) s = .next u ∧ (u.port p).rxSeq = (s.port p).rxSeq ∧
      (u.port p).inbox = (s.port p).inbox ∧ (u.port p).nak = ((s.port p).nak || !seqLe seq (s.port p).rxSeq) ∧
      (∀ k, k ≠ p → u.port k = s.port k) ∧ u.mem = s.mem)) ∧
  (∀ (s : State) (p n : Nat), (s.port p).state = 6 →
    (2 * windowBytes (s.port p).width < 100 * n → ∃ u, exec (.tc0Window p n) s = .next u ∧ (u.port p).tc0Over = (s.port p).tc0Over + 1 ∧
      (∀ k, k ≠ p → u.port k = s.port k) ∧ u.mem = s.mem) ∧
    (100 * n ≤ 2 * windowBytes (s.port p).width → exec (.tc0Window p n) s = .next s))

/-- A WRITE packet that is a whole transfer into the SRAM of a running core, over a store without errors, leaves the inbox and makes its bytes visible: every other byte is unchanged, and with DCTR_EN the destination counter advances by INCREMENT. A destination that does not exist takes no byte. An entry of the open-transfer table that got no packet within the time limit is dropped. (R391, R424, R425) -/
def Obligations.WritesArrive : Prop :=
  (∀ (s : State) (port : Nat) (p : Packet), firstOf 1 [] (s.port port).inbox = some p → s.entryRoom (portEdge port) p = true →
    s.torus.rxEpoch.at p.src = 0 → (∀ o ∈ s.torus.openIn, o.src ≠ p.src) → p.copiesM1 = 0 → addrSpace p.dstAddr = 0 →
    (s.destOk p.dstAddr 0 p.data.length = true → s.dieRunning (coreDie (addrCore p.dstAddr)) = true → p.total ≤ p.data.length →
      s.tiers.wordErrs = [] → sramAddr (addrCore p.dstAddr) (sramOff p.dstAddr) = p.dstAddr →
      ∃ u, exec (.write port) s = .next u ∧
        (∀ a, u.mem.byte a = if p.dstAddr ≤ a ∧ a < p.dstAddr + p.data.length then p.data.getD (a - p.dstAddr) 0 else s.mem.byte a) ∧
        u.torus.openIn = s.torus.openIn ∧ (p.dctrEn = true → ((u.core (addrCore p.dstAddr)).counters.at p.dctr).value =
          ((s.core (addrCore p.dstAddr)).counters.at p.dctr).value + BitVec.ofNat 32 p.increment) ∧
        (p.dctrEn = false → u.cores = s.cores) ∧ (u.port port).inbox = (s.port port).inbox.erase p) ∧
    (s.destOk p.dstAddr 0 p.data.length = false → ∃ u, exec (.write port) s = .next u ∧ u.mem = s.mem ∧ u.cores = s.cores)) ∧
  (∀ (s : State) (edge src tag : Nat) (o : OpenIn), s.torus.openIn.find? (fun o => o.edge == edge && o.src == src && o.tag == tag) = some o →
    o.lastAt + s.img.fabricTimeout < s.now → ∃ u, exec (.openTransferTimeout edge src tag) s = .next u ∧
      (∀ x, x ∈ u.torus.openIn ↔ x ∈ s.torus.openIn ∧ (x.edge, x.src, x.tag) ≠ (edge, src, tag)) ∧ u.cores = s.cores ∧ u.mem = s.mem)

/-- A COMPLETION with cause NONE ends the remote transfer it answers: Done, with its counter advanced by INCREMENT; one with a cause, and a transfer whose packets have all left and that is unanswered past the fabric time limit, or one refused to the end of its retry window, ends it Failed with that cause, TIMEOUT or TARGET_RESETTING. A first REFUSED inside the window only starts the window; within it the transfer is sent again 100 µs later. (R425, R426, R440) -/
def Obligations.SourcesEnd : Prop :=
  (∀ (s : State) (port : Nat) (p : Packet) (y : Source) (x : Xfer), firstOf 2 [] (s.port port).inbox = some p → s.torus.rxEpoch.at p.src = 0 →
    s.sourceOf p.tag = some y → y.dst = p.src → y.sent = true → s.findXfer y.core y.item = some x → x.kind = .remote →
    (p.cause = 0 → x.outstanding = [p.tag] → (∀ z ∈ (s.core y.core).xf.open_, z.id = y.item → z = x) → ∃ u, exec (.completion port) s = .next u ∧
      u.findXfer y.core y.item = none ∧ u.sourceOf p.tag = none ∧
      ((u.core y.core).counters.at x.counter).value = ((s.core y.core).counters.at x.counter).value + BitVec.ofNat 32 x.increment ∧
      Safety.OnlyCore y.core s u) ∧
    (p.cause ≠ 0 → ∃ u, exec (.completion port) s = .next u ∧ u.findXfer y.core y.item = none ∧ u.sourceOf p.tag = none ∧
      (u.core y.core).xf.lastFail = p.cause ∧ ((u.core y.core).counters.at x.counter).cause ≠ 0 ∧ Safety.OnlyCore y.core s u)) ∧
  (∀ (s : State) (port : Nat) (p : Packet) (y : Source), firstOf 3 [] (s.port port).inbox = some p → s.torus.rxEpoch.at p.src = 0 →
    s.sourceOf p.tag = some y → y.dst = p.src → y.sent = true → y.refusedAt = none → 0 < s.retryWindow y.tc →
    ∃ u z, exec (.refused port) s = .next u ∧ u.sourceOf p.tag = some z ∧ z.refusedAt = some s.now ∧ z.packets = y.packets ∧ u.cores = s.cores ∧ u.mem = s.mem) ∧
  (∀ (s : State) (tag at0 : Nat) (y : Source), s.sourceOf tag = some y → y.refusedAt = some at0 →
    (s.now < at0 + s.retryWindow y.tc → max at0 y.resentAt + 100000 ≤ s.now → (s.torus.paths.at y.dst).state ≠ 3 →
      ∃ u z, exec (.refusedRetry tag) s = .next u ∧ u.sourceOf tag = some z ∧ z.resentAt = s.now ∧ z.packets = y.packets ∧ u.mem = s.mem) ∧
    (at0 + s.retryWindow y.tc ≤ s.now → ∃ u, exec (.retryWindowEnd tag) s = .next u ∧ u.sourceOf tag = none ∧ u.findXfer y.core y.item = none ∧
      (∀ x, s.findXfer y.core y.item = some x → (u.core y.core).xf.lastFail = Cause.targetResetting) ∧ Safety.OnlyCore y.core s u)) ∧
  (∀ (s : State) (tag : Nat) (y : Source), s.sourceOf tag = some y → y.sent = true → s.unsent tag = false → y.refusedAt = none → y.lastSent + s.img.fabricTimeout < s.now →
    ∃ u, exec (.sourceTransferTimeout tag) s = .next u ∧ u.sourceOf tag = none ∧ u.findXfer y.core y.item = none ∧
      (∀ x, s.findXfer y.core y.item = some x → (u.core y.core).xf.lastFail = Cause.timeout) ∧ Safety.OnlyCore y.core s u)

/-- An EPOCH_END leaves the inbox and is answered with an EPOCH_ACK of its epoch and class; an EPOCH_ACK of an epoch and class that the drain awaits removes it, and the last one ends the hold; an EPOCH_CLOSE drops every open transfer of its source and epoch and no other. A drain past its limit counts each epoch lost, ends every transfer of those epochs and ends the hold. A LINK_STATE seen before, or about a link of this module, changes nothing; a new one is recorded. (R431, R433, R434, R435, R436) -/
def Obligations.EpochsAndLinkStates : Prop :=
  (∀ (s : State) (port : Nat) (p : Packet), firstOf 4 [] (s.port port).inbox = some p → s.torus.rxEpoch.at p.src = 0 →
    ∃ u, exec (.epochEnd port) s = .next u ∧ (u.port port).inbox = (s.port port).inbox.erase p ∧ u.torus.rxEpoch.at p.src = p.epoch + 1 ∧
      u.cores = s.cores ∧ u.mem = s.mem ∧
      (∀ q, (s.knowPath p.src).nextPort ((s.knowPath p.src).torus.paths.at p.src).route s.img.node p.src = some q → (s.port q).state = 6 →
        ∃ k, (k ∈ (u.port q).waiting ∨ (q, k) ∈ u.torus.sentPackets) ∧ k.kind = 5 ∧ k.dst = p.src ∧ k.epoch = p.epoch ∧
          k.cause = BitVec.ofNat 8 p.tc)) ∧
  (∀ (s : State) (port : Nat) (p : Packet), firstOf 5 [] (s.port port).inbox = some p → (s.torus.paths.at p.src).held = true →
    (p.epoch, p.cause.toNat) ∈ (s.torus.paths.at p.src).awaiting →
    ∃ u, exec (.epochAck port) s = .next u ∧
      ((s.torus.paths.at p.src).awaiting.erase (p.epoch, p.cause.toNat) ≠ [] → (u.torus.paths.at p.src).held = true ∧
        (u.torus.paths.at p.src).awaiting = (s.torus.paths.at p.src).awaiting.erase (p.epoch, p.cause.toNat)) ∧
      ((s.torus.paths.at p.src).awaiting.erase (p.epoch, p.cause.toNat) = [] → (u.torus.paths.at p.src).held = false) ∧ u.mem = s.mem) ∧
  (∀ (s : State) (port : Nat) (p : Packet), firstOf 6 [] (s.port port).inbox = some p → ∃ u, exec (.epochClose port) s = .next u ∧
    (∀ o, o ∈ u.torus.openIn ↔ o ∈ s.torus.openIn ∧ ¬ (o.src = p.src ∧ o.epoch = p.epoch)) ∧ u.cores = s.cores ∧ u.mem = s.mem) ∧
  (∀ (s : State) (node : Nat), (s.torus.paths.at node).held = true → (s.torus.paths.at node).awaiting ≠ [] →
    (s.torus.paths.at node).heldAt + s.img.drainLimit ≤ s.now → ∃ u, exec (.drainLimit node) s = .next u ∧
      u.torus.epochsLost = s.torus.epochsLost + BitVec.ofNat 32 (s.torus.paths.at node).draining.length ∧
      (u.torus.paths.at node).held = false ∧ u.mem = s.mem ∧
      (∀ y ∈ s.torus.sources, y.dst = node → y.sent = true → y.epoch ∈ (s.torus.paths.at node).draining → u.sourceOf y.tag = none)) ∧
  (∀ (s : State) (arrived node port seq : Nat) (up : Bool),
    (node = s.img.node ∨ (∃ q, s.torus.linkSeq.find? (fun e => e.1 == node && e.2.1 == port) = some (node, port, q) ∧ seq ≤ q) →
      exec (.linkState arrived node port up seq) s = .next s) ∧
    (node ≠ s.img.node → (∀ e ∈ s.torus.linkSeq, (e.1, e.2.1) ≠ (node, port) ∨ e.2.2 < seq) → ∃ u, exec (.linkState arrived node port up seq) s = .next u ∧
      ((node, port) ∈ u.torus.linksDown ↔ up = false) ∧ (node, port, seq) ∈ u.torus.linkSeq ∧ u.mem = s.mem))

/-- A packet on a WAN port that is not UP has no effect; one whose datagram, header, epoch or count breaks a rule is discarded and counted; one whose tag fails is discarded and counted at its port and in the authentication failures; one whose SEQ is held already only enters its count. A packet that was accepted is never accepted a second time. (R448, R453, R489, R490, R494) -/
def Obligations.FreynPacketsAreFiltered : Prop :=
  (∀ (s t : State) (h : FrnHeader) (hb : HeartbeatBody) (fr : DeltaFragment) (bs : List Byte) (rs : List SeqRange) (pb : ProposeBody) (r : Nat)
    (w : Word64) (cb : CloseBody) (fb : FetchBody) (db : DataBody) (jb : JoinBody),
    ∀ c ∈ [(Instr.heartbeat h hb, 1, hb.bytes), (.delta h fr bs, 2, fr.bytes ++ bs), (.ack h rs, 3, ackBytes rs), (.propose h pb, 4, pb.bytes),
      (.accept h r w, 5, acceptBytes r w), (.close h cb, 6, cb.bytes), (.fetch h fb, 7, fb.bytes), (.data h db, 8, db.bytes),
      (.digest h r w, 9, digestBytes r w), (.join h jb, 10, jb.bytes)],
    (s.wanUp h.wanPort = false → exec c.1 s = .next s) ∧
    (s.wanUp h.wanPort = true → s.power.holdup = 0 →
      (s.netOk h = false ∨ s.headerOk h c.2.1 = false ∨ s.sec.km = none ∨ s.epochOk h = false ∨ (s.windowOf h).ok h.ctr = false) →
      ∃ u, exec c.1 s = .next u ∧ (u.wan.at h.wanPort).drop = (s.wan.at h.wanPort).drop + 1 ∧ u.round = s.round ∧ u.sites = s.sites ∧
        u.cores = s.cores ∧ u.mem = s.mem) ∧
    (s.wanUp h.wanPort = true → s.power.holdup = 0 → s.netOk h = true → s.headerOk h c.2.1 = true → s.sec.km ≠ none → s.epochOk h = true →
      (s.windowOf h).ok h.ctr = true → s.tagOk h s.sec.km c.2.2 = false → s.inWindow = false →
      ∃ u, exec c.1 s = .next u ∧ (u.wan.at h.wanPort).drop = (s.wan.at h.wanPort).drop + 1 ∧ u.round.authFails = s.round.authFails + 1 ∧ u.mem = s.mem) ∧
    (s.receive h c.2.1 c.2.2 = (t, true) → h.seq ∈ (t.site h.src).heldSeqs → exec c.1 s = .next (t.noteSeq h))) ∧
  (∀ (s t : State) (h : FrnHeader) (type : Nat) (p q : List Byte), s.receive h type p = (t, true) → (t.receive h type q).2 = false)

/-- A HEARTBEAT makes its sender reachable on its route; an ACK takes the acknowledged packets from the stream and no other; a JOIN gives its sender its state; the first PROPOSE for a round not behind the open one is accepted and a second is not; an ACCEPT of the proposal that stands is counted and one of another is not; a CLOSE of the open round takes effect; a DIGEST is held. (R454, R457, R467, R469, R475, R482) -/
def Obligations.FreynMessagesAct : Prop :=
  ∀ (s t : State) (h : FrnHeader), h.seq ∉ (t.site h.src).heldSeqs →
    (∀ hb, s.receive h 1 hb.bytes = (t, true) → ∃ u, exec (.heartbeat h hb) s = .next u ∧ (u.site h.src).reachable = true ∧
      (u.site h.src).lastHeartbeat = some t.now ∧ (h.second = false → (u.site h.src).primaryUp = true) ∧ (h.second = true → (u.site h.src).secondUp = true) ∧
      u.mem = t.mem) ∧
    (∀ rs, s.receive h 3 (ackBytes rs) = (t, true) → rs.length ≤ 64 → ∃ u, exec (.ack h rs) s = .next u ∧
      (u.site h.src).out = (t.site h.src).out.filter (fun e => !(rs.any (fun r => r.first ≤ e.seq && e.seq < r.first + r.count))) ∧
      (∀ i, i ≠ h.src → u.site i = t.site i) ∧ u.mem = t.mem) ∧
    (∀ jb, s.receive h 10 jb.bytes = (t, true) → ∃ u, exec (.join h jb) s = .next u ∧ (u.site h.src).state = (if jb = .rebasing then 3 else 4) ∧
      (jb = .complete → (u.site h.src).join = true) ∧ (∀ i, i ≠ h.src → u.site i = t.site i) ∧ u.round = t.round ∧ u.mem = t.mem) ∧
    (∀ pb, s.receive h 4 pb.bytes = (t, true) →
      (t.round.openRound ≤ pb.round → (∀ a ∈ t.round.accepted, a.round ≠ pb.round) → ∃ u, exec (.propose h pb) s = .next u ∧
        u.round.accepted = t.round.accepted ++ [pb] ∧ (u.site h.src).msgCount = (t.site h.src).msgCount + 1 ∧ u.mem = t.mem) ∧
      (pb.round < t.round.openRound ∨ (∃ a ∈ t.round.accepted, a.round = pb.round) → exec (.propose h pb) s = .next (t.noteSeq h))) ∧
    (∀ r w, s.receive h 5 (acceptBytes r w) = (t, true) →
      (∀ p, t.round.proposal = some p → p.round = r → proposeCrc p = w → ∃ u, exec (.accept h r w) s = .next u ∧
        bitOf u.round.accepts h.src = true ∧ u.mem = t.mem) ∧
      ((∀ p, t.round.proposal = some p → (p.round, proposeCrc p) ≠ (r, w)) → exec (.accept h r w) s = .next (t.noteSeq h))) ∧
    (∀ cb, s.receive h 6 cb.bytes = (t, true) → cb.proposal.round = t.round.openRound → t.round.ownState ≠ 3 → t.round.joinStep = 0 →
      t.round.closing = none →
      ∃ u, exec (.close h cb) s = .next u ∧ u.round.closing = some cb ∧ u.round.closeFrom = h.src ∧ u.round.active = cb.nextActive ∧
        u.round.lastMask = cb.proposal.mask ∧ u.round.openRound = t.round.openRound ∧ u.mem = t.mem) ∧
    (∀ r w, s.receive h 9 (digestBytes r w) = (t, true) → t.round.ownDigest = none → ∃ u, exec (.digest h r w) s = .next u ∧
      (h.src, r, w) ∈ u.round.digests ∧ (∀ d ∈ t.round.digests, (d.1, d.2.1) ≠ (h.src, r) → d ∈ u.round.digests) ∧ u.mem = t.mem)

/-- A DELTA fragment in range is stored at its place and noted. DELTA_FORM places its holds and encodes P - A + O of the shard as its hold fixes it: the blocks go to the stream, the remainder to the other offcut, the hold ends and the shard is noted. A whole stream is sent to a member once, cut into packets with the fragment header that each belongs to. A packet unacknowledged for four round trips and at least 20 ms is sent again, not before; an ACK that is due takes the noted SEQs; a stream without an ACK for 1 s pauses. (R456, R457, R463, R464, R465) -/
def Obligations.DeltasTravel : Prop :=
  (∀ (s t v : State) (h : FrnHeader) (f : DeltaFragment) (bs : List Byte), s.receive h 2 (f.bytes ++ bs) = (t, true) →
    h.seq ∉ (t.site h.src).heldSeqs → t.fragOk h.src f bs = true → f.pending = false → t.staleWeight 0 ≠ none → t.heldDelta h.src f.round = none →
    (t.noteSeq h).writeMem (t.deltaBase h.src + 8 * t.assoc.rate * f.firstBlock) bs = (v, 0) →
    ∃ u, exec (.delta h f bs) s = .next u ∧ u.mem = v.mem ∧ ∃ d ∈ u.round.deltas, d.site = h.src ∧ d.round = f.round ∧
      d.got = [(f.firstBlock, f.blocks)] ∧ d.total = f.totalBlocks ∧ d.crc = f.streamCrc) ∧
  (∀ (s t v : State) (shard core : Nat) (c : ShardCfg) (tab : Table) (xs : List Val) (encs : List KfrEnc), s.holdForm.mayForm shard core = true →
    s.shardCfg shard = some c → s.holdForm.deltaTable core = some tab → s.holdForm.deltaValues shard c = (t, .ok xs) →
    encs = (pieces 64 (xs.length / 64) xs).map (kfrEncode tab t.assoc.cslot) → (∀ e ∈ encs, e.nan = false) →
    (t.countEncoded core encs).writeAll
      [(t.formBase + t.streamOff shard / 64 * (8 * tab.rate), encs.flatMap (·.bytes)),
       (t.offcutBase (!t.round.cur) + 4 * t.streamOff shard, fp32Bytes ((xs.zip (encs.flatMap (·.decoded))).map (fun x => toFp32 (x.1.sub x.2))))] = (v, 0) →
    ∃ u : State, u.round.formed = t.round.formed ++ [shard] ∧ (∀ e ∈ u.round.formSlots, e.1 ≠ shard) ∧ u.mem = v.mem ∧ u.cores = v.cores ∧
      exec (.deltaForm shard core) s = .next (u.formedAll tab.rate)) ∧
  (∀ (s : State) (shard core : Nat), s.holdForm.mayForm shard core = false → exec (.deltaForm shard core) s = .next s.holdForm) ∧
  (∀ (s t : State) (i : Nat) (bs : List Byte), s.isOther i = true → s.round.pendingSend = false →
    (s.ownHeld = true → s.round.closing = none → (s.site i).sentRound ≠ some s.round.openRound → s.sec.km ≠ none → s.round.exhausted = false →
      s.readMem s.assoc.sendBase (8 * s.assoc.rate * s.streamBlocks) = (t, .ok bs) →
      exec (.wanSend i) s = .next ((t.modSite i (fun x => { x with sentRound := some s.round.openRound })).stream i
        ((streamPackets s.streamBlocks).map (fun k =>
          FrnOut.mk 2 (deltaSeq s.round.openRound k.1) 1 ((t.fragment s.round.openRound k.2.1 k.2.2 false).bytes ++
            (bs.drop (8 * s.assoc.rate * k.2.1)).take (8 * s.assoc.rate * k.2.2)) none 0 false false)))) ∧
    (s.ownHeld = false ∨ (s.site i).sentRound = some s.round.openRound → exec (.wanSend i) s = .next s)) ∧
  (∀ (s : State) (i seq : Nat) (e : FrnOut), (s.site i).out.find? (fun e => e.seq == seq) = some e →
    ((s.site i).paused = false → e.sent = true → e.acked = false → e.sentAt + max (4 * (s.site i).rtt) 20000000 ≤ s.now →
      (∀ o ∈ s.round.queue, (o.site, o.seq) ≠ (i, seq)) →
      exec (.packetResend i seq) s = .next (s.post { cls := e.service, site := i, type := e.type, seq := e.seq, payload := e.payload, resend := true })) ∧
    (s.now < e.sentAt + max (4 * (s.site i).rtt) 20000000 → exec (.packetResend i seq) s = .next s)) ∧
  (∀ (s : State) (i : Nat), s.isOther i = true → (s.site i).rxSeqs ≠ [] → 256 ≤ (s.site i).rxSinceAck → ∃ u, exec (.ackSend i) s = .next u ∧
    (u.site i).rxFirstAt = s.now ∧ (∀ q ∈ (u.site i).rxSeqs, q ∈ (s.site i).rxSeqs) ∧ ((s.site i).rxSeqs.length ≤ 64 → (u.site i).rxSeqs = []) ∧
    (u.site i).msgCount = (s.site i).msgCount + 1 ∧ u.mem = s.mem) ∧
  (∀ (s : State) (i : Nat), (∃ e ∈ (s.site i).out, e.acked = false) → (s.site i).lastAck + 1000000000 < s.now →
    ∃ u, exec (.streamPause i) s = .next u ∧ (u.site i).paused = true ∧ (∀ o ∈ u.round.queue, o.site = i → o.cls = 0) ∧
      (∀ k, k ≠ i → u.site k = s.site k) ∧ u.mem = s.mem)

/-- At its deadline a coordinator with a quorum of deltas has proposed the open round; a round without a CLOSE by the end of its wait is orphaned with QUORUM_LOST and the next one opens, one with a CLOSE is not. A fetch past its limit is dropped; a FETCH is answered with the bytes it names, in order, as a RECOVERY stream; DATA toward the fetch in progress is kept, and other DATA has no effect. The anchor digest of a FULL round is taken once. OUTER segments join the unit of their core behind what it holds, once in a round. (R468, R470, R471, R477, R482, R493) -/
def Obligations.RoundsAdvance : Prop :=
  (∀ (s : State) (at_ : Nat), s.isCoordinator = true → s.boundaryAt = some at_ → at_ + s.assoc.deadline * 1000000000 ≤ s.now →
    s.assoc.q ≤ s.heldSites.length → s.round.closing = none → ∃ u, exec .roundDeadline s = .next u ∧ u.round.proposedRound = some s.round.openRound ∧
      u.mem = s.mem) ∧
  (∀ (s : State), s.round.closing ≠ none ∨ s.round.closeSeen = some s.round.openRound → exec .roundOrphan s = .next s) ∧
  (∀ (s : State) (at_ : Nat), s.round.closing = none → s.round.closeSeen ≠ some s.round.openRound → s.boundaryAt = some at_ →
    at_ + (s.assoc.deadline + s.assoc.closeWait) * 1000000000 ≤ s.now → ∃ u, exec .roundOrphan s = .next u ∧
      u.round.openRound = s.round.openRound + 1 ∧ u.round.orphans = s.round.orphans ++ [s.round.openRound] ∧ u.round.lastKind = 2 ∧
      u.round.lastCause = Cause.quorumLost ∧ u.round.proposal = none ∧ u.cores = s.cores ∧ u.mem = s.mem) ∧
  (∀ (s : State) (f : FetchSt), s.round.fetch = some f → f.done = false → f.started + s.assoc.fetchLimit * 1000000000 < s.now →
    ∃ u, exec .fetchLimit s = .next u ∧ u.round = { s.round with fetch := none } ∧ u.cores = s.cores ∧ u.mem = s.mem) ∧
  (∀ (s : State) (i from_ round : Nat) (o : FetchObject), s.nextFetch = some (o, from_, round) →
    (from_ ≠ i → exec (.wanFetch i) s = .next s) ∧
    (from_ = i → s.isOther i = true → s.sec.km ≠ none → s.round.exhausted = false → s.round.rebaseStep ≠ 1 → s.round.joinStep ≠ 1 → s.objectSize o ≠ 0 →
      ∃ f, exec (.wanFetch i) s = .next (s.beginFetch f) ∧ f.object = o ∧ f.site = i ∧ f.round = round ∧ f.total = s.objectSize o ∧ f.got = [])) ∧
  (∀ (s t : State) (h : FrnHeader) (b : FetchBody), s.receive h 7 b.bytes = (t, true) → h.seq ∉ (t.site h.src).heldSeqs →
    ((t.noteSeq h).objectBytes b.object = none → exec (.fetch h b) s = .next (t.noteSeq h)) ∧
    (∀ v bs, (t.noteSeq h).objectBytes b.object = some (v, .ok bs) → ∃ es : List FrnOut,
      exec (.fetch h b) s = .next ((v.modSite h.src (fun x => { x with msgCount := x.msgCount + es.length })).stream h.src es) ∧
      (es.map (fun e => e.payload.drop 64)).flatten = (bs.drop b.first).take b.length ∧ (∀ e ∈ es, e.type = 8 ∧ e.service = 2) ∧ v.mem = t.mem) ∧
    (∀ v e, (t.noteSeq h).objectBytes b.object = some (v, .error e) → exec (.fetch h b) s = .next (v.freynEvent e h.src b.round))) ∧
  (∀ (s t : State) (h : FrnHeader) (b : DataBody) (f : FetchSt), s.receive h 8 b.bytes = (t, true) → h.seq ∉ (t.site h.src).heldSeqs →
    b.data.length ≤ 8192 → t.round.fetch = some f → (∀ k, b.object ≠ .checkpoint k) →
    (f.done = true ∨ f.object ≠ b.object ∨ f.site ≠ h.src ∨ f.round ≠ b.round ∨ f.total < b.offset + b.data.length →
      exec (.data h b) s = .next (t.noteSeq h)) ∧
    (f.done = false → f.object = b.object → f.site = h.src → f.round = b.round → b.offset + b.data.length ≤ f.total →
      ((f.got ++ [(b.offset, b.data)]).map (fun g => g.2.length)).sum ≠ f.total → ∃ u, exec (.data h b) s = .next u ∧
        u.round.fetch = some { f with got := f.got ++ [(b.offset, b.data)] } ∧ u.mem = t.mem)) ∧
  (∀ (s t : State) (r : Nat) (bs : List Byte), s.round.lastApplied = some r → s.round.lastKind = 0 → s.round.closing = none → r + 1 = s.round.openRound →
    s.round.ownState ≠ 3 → s.round.ownState ≠ 4 →
    (s.round.ownDigest = none → s.anchorInput r s.roundShards = (t, .ok bs) → ∃ u, exec .anchorDigest s = .next u ∧
      u.round.ownDigest = some (r, crc64 bs) ∧ u.mem = s.mem) ∧
    (∀ w, s.round.ownDigest = some (r, w) → exec .anchorDigest s = .next s)) ∧
  (∀ (s : State) (n core : Nat), (s.roundShards.contains n = false ∨ s.round.outerIssued.contains (n, core) = true ∨ (s.shardSt n).reports ≠ 0 ∨ (s.shardSt n).hasState = false →
      exec (.outerSegment n core) s = .next s) ∧
    (s.roundShards.contains n = true → s.round.outerDone.contains n = false → s.round.outerIssued.contains (n, core) = false → s.outerInputs = true → (s.shardSt n).reports = 0 → s.shardBusy n 1 = false →
      (s.shardSt n).uncommitted = false → (s.shardSt n).hasState = true → (∀ g ∈ (s.core core).up.segs, g.udesc.shard ≠ n) →
      (∃ g ∈ (s.core core).up.kept, g.udesc.shard = n ∧ g.udesc.op = 1) → s.dieRunning (coreDie core) = true →
      ∃ (v : State) (more : List Segment), exec (.outerSegment n core) s = .next (State.runSegs 8 core v) ∧ (v.core core).up.segs = (s.core core).up.segs ++ more ∧ more ≠ [] ∧
        (∀ g ∈ more, g.phase = .queued ∧ g.chunk = 0 ∧ g.advanced = false ∧ g.udesc.op = 2) ∧ Safety.OnlyCore core s v))

/-- A site without a HEARTBEAT for 5 s is not reachable, and a route without one is down; a RECOVERY stream without an ACK for 3 ms goes on by the other route and is counted. After the grace period the previous receive key is gone from every engine that held it. A new send epoch is one higher, recorded in flash with every send count at 0, and beyond 0xFFFF the module is exhausted. HEARTBEATs go to each other site on both routes. The bucket never holds more than 4 ms of tokens. (R452, R467, R483, R484, R487, R488, R489) -/
def Obligations.RoutesAndKeyEpochs : Prop :=
  (∀ (s : State) (i : Nat), (s.site i).reachable = true → (∀ t, (s.site i).lastHeartbeat = some t → t + 5000000000 < s.now) →
    ∃ u, exec (.reachabilityLapse i) s = .next u ∧ (u.site i).reachable = false ∧ (∀ k, k ≠ i → u.site k = s.site k) ∧ u.round = s.round ∧ u.mem = s.mem) ∧
  (∀ (s : State) (i : Nat), ((s.site i).primaryUp = true → (s.site i).primaryAt + 5000000000 < s.now → ∃ u, exec (.routeDown i false) s = .next u ∧
      (u.site i).primaryUp = false ∧ (u.site i).secondUp = (s.site i).secondUp ∧ (∀ k, k ≠ i → u.site k = s.site k)) ∧
    ((s.site i).secondUp = true → (s.site i).secondAt + 5000000000 < s.now → ∃ u, exec (.routeDown i true) s = .next u ∧
      (u.site i).secondUp = false ∧ (u.site i).primaryUp = (s.site i).primaryUp ∧ (∀ k, k ≠ i → u.site k = s.site k))) ∧
  (∀ (s : State) (i : Nat) (r : RouteCfg), s.recoveryOpen i = true → (s.site i).recoveryAck + 3000000 < s.now →
    s.route i (!(s.site i).recoverySecond) = some r → s.wanUp r.port = true → ∃ u, exec (.recoveryFailover i) s = .next u ∧
      (u.site i).recoverySecond = !(s.site i).recoverySecond ∧ u.round.failovers = s.round.failovers + 1 ∧ u.mem = s.mem) ∧
  (∀ (s : State) (i t : Nat), s.recoveryOpen i = true → (s.site i).routesDownAt = some t → t + 1000000000 ≤ s.now →
    ∃ u, exec (.recoveryRoutesDown i) s = .next u ∧ (∀ e ∈ (u.site i).out, e.service ≠ 2) ∧
      (∀ f, u.round.fetch = some f → f.site ≠ i) ∧ (∀ k, k ≠ i → u.site k = s.site k) ∧ u.mem = s.mem) ∧
  (∀ (s : State) (i e : Nat), (s.site i).prevEpoch = some e →
    ((s.site i).epochAt + 2000000000 ≤ s.now → ∃ u, exec (.gracePeriodEnd i) s = .next u ∧ (u.site i).prevEpoch = none ∧
      (∀ p ∈ s.sitePorts i, ((s.engine p).slots.at (recvSlot i e)).epoch = e → (u.engine p).slots.at (recvSlot i e) = {}) ∧ u.mem = s.mem) ∧
    (s.now < (s.site i).epochAt + 2000000000 → exec (.gracePeriodEnd i) s = .next s)) ∧
  (∀ (s : State), (s.maySend = false → exec .keyEpochStart s = .next s) ∧
    (s.maySend = true → s.rekeyDue = false → s.epochDue = true → s.round.txEpoch ≠ 0xFFFF → ∃ u, exec .keyEpochStart s = .next u ∧
      u.round.txEpoch = s.round.txEpoch + 1 ∧ u.flash.security.sendEpoch = s.round.txEpoch + 1 ∧ (∀ p, p < 4 → (u.wan.at p).count = 0) ∧ u.mem = s.mem) ∧
    (s.maySend = true → s.rekeyDue = false → s.epochDue = true → s.round.txEpoch = 0xFFFF → ∃ u, exec .keyEpochStart s = .next u ∧
      u.round.exhausted = true ∧ u.round.txEpoch = s.round.txEpoch ∧ u.mem = s.mem)) ∧
  (∀ (s : State), s.img.assoc ≠ none → s.maySend = true → ∃ u, exec .heartbeatSend s = .next u ∧ u.round.lastHeartbeatAt = s.now ∧
    (∀ i ∈ s.otherSites, (u.site i).msgCount = (s.site i).msgCount + 2) ∧ u.mem = s.mem) ∧
  (∀ (s : State), s.power.holdup = 0 → s.maySend = true → ∃ u, exec .rateTokens s = .next u ∧ u.round.bucketAt = s.now ∧ u.round.bucket ≤ 4000000 * s.assoc.mbps ∧
    u.cores = s.cores ∧ u.mem = s.mem)

/-- A WAN port that exists goes down with the faults it reports and comes up without any. An UP port answers a Neighbor Solicitation and an ARP request for its own address only, and at most 10 echo requests in a second; what it does not answer is discarded and counted. A Packet Too Big changes no port. (R447, R449, R494) -/
def Obligations.WanPortsAnswer : Prop :=
  (∀ (s : State) (p : Nat) (lf rf : Bool), s.wanExists p = true → s.edgePowered = true →
    (∃ u, exec (.wanPortDown p lf rf) s = .next u ∧ (u.wan.at p).state = 0 ∧ (u.wan.at p).localFault = lf ∧ (u.wan.at p).remoteFault = rf ∧
      (∀ k, k ≠ p → u.wan.at k = s.wan.at k) ∧ u.mem = s.mem) ∧
    (∃ u, exec (.wanPortUp p) s = .next u ∧ (u.wan.at p).state = 2 ∧ (u.wan.at p).localFault = false ∧ (u.wan.at p).remoteFault = false ∧
      (∀ k, k ≠ p → (u.wan.at k).state = (s.wan.at k).state) ∧ u.mem = s.mem)) ∧
  (∀ (s : State) (p mtu : Nat) (target sender payload : List Byte), s.wanUp p = true →
    (s.ownAddress p target = true →
      (target.length = 16 → ∃ u, exec (.neighborSolicitation p target sender) s = .next u ∧ u.round.answers = s.round.answers ++ [(p, 1, target ++ sender ++ s.fuses.wanMac.getD p [])] ∧
        u.wan = s.wan ∧ u.mem = s.mem) ∧
      (target.length = 4 → ∃ u, exec (.arpRequest p target sender) s = .next u ∧ u.round.answers = s.round.answers ++ [(p, 2, target ++ sender ++ s.fuses.wanMac.getD p [])] ∧
        u.wan = s.wan ∧ u.mem = s.mem)) ∧
    (s.ownAddress p target = false → ∀ c ∈ [Instr.neighborSolicitation p target sender, .arpRequest p target sender],
      ∃ u : State, exec c s = .next u ∧ (u.wan.at p).drop = (s.wan.at p).drop + 1 ∧ u.round = s.round ∧ u.mem = s.mem) ∧
    ((s.wan.at p).echoes < 10 ∨ (s.wan.at p).echoAt + 1000000000 ≤ s.now → ∃ u, exec (.echoRequest p sender payload) s = .next u ∧
      u.round.answers = s.round.answers ++ [(p, 3, sender ++ payload)] ∧ (u.wan.at p).drop = (s.wan.at p).drop ∧ (u.wan.at p).echoes ≤ 10 ∧ u.mem = s.mem) ∧
    (10 ≤ (s.wan.at p).echoes → s.now < (s.wan.at p).echoAt + 1000000000 → ∃ u, exec (.echoRequest p sender payload) s = .next u ∧
      u.round = s.round ∧ (u.wan.at p).drop = (s.wan.at p).drop + 1 ∧ u.mem = s.mem) ∧
    (∃ u, exec (.packetTooBig p mtu) s = .next u ∧ u.wan = s.wan ∧ u.round = s.round ∧ u.cores = s.cores ∧ u.mem = s.mem))

/-- A CK_SHARD of a shard with state reads its elements: with no target due it is Done, otherwise it opens an item that holds the committed slot from its first element on and writes each due target. The oldest write of a target ends, at a REMOTE target not before its packets are acknowledged, at a PARTNER not before the COMPLETION of its transfer; the item ends Done when its last target is written. A failed write abandons the checkpoint of that target and keeps its last seal; a target that holds everything and whose manifest copy is written is sealed into the buffer that does not hold its newest checkpoint. (R499, R502, R506, R507) -/
def Obligations.CheckpointsAreWritten : Prop :=
  (∀ (s u : State) (core w : Nat) (c : ShardCfg), Safety.Transfer s core 7 u w → w % 256 = 8 → ckFieldsOk w = true →
    s.shardCfg (fld w 222 12) = some c → 0 < (ckRange w).2 → (ckRange w).1 + (ckRange w).2 ≤ c.count →
    (s.shardSt (fld w 222 12)).hasState = true → (s.shardSt (fld w 222 12)).uncommitted = false →
    (s.shardSt (fld w 222 12)).canHold (s.shardSt (fld w 222 12)).slot = true →
    (s.dueTargets (fld w 222 12) (ckRange w).2 = [] → ∃ v, exec (.ckShard core 7) s = .next v ∧
      (v.shardSt (fld w 222 12)).ckHeld = (s.shardSt (fld w 222 12)).ckHeld + (ckRange w).2 ∧ v.ck = s.ck ∧
      ((v.core core).counters.at (fld w 8 6)).value = ((u.core core).counters.at (fld w 8 6)).value + BitVec.ofNat 32 (fld w 16 16) ∧
      (v.core core).xf.open_ = (u.core core).xf.open_ ∧ Safety.OnlyCore core s v) ∧
    (s.dueTargets (fld w 222 12) (ckRange w).2 ≠ [] → Safety.Clean u → ∃ v x, exec (.ckShard core 7) s = .next v ∧
      (v.core core).xf.open_ = (u.core core).xf.open_ ++ [x] ∧ x.kind = .ckShard ∧ x.counter = fld w 8 6 ∧
      x.outstanding = s.dueTargets (fld w 222 12) (ckRange w).2 ∧
      (v.shardSt (fld w 222 12)).holds = (s.shardSt (fld w 222 12)).holds ++ [⟨(s.shardSt (fld w 222 12)).slot, holdCk core x.id, (ckRange w).1⟩] ∧
      (∀ k ∈ s.dueTargets (fld w 222 12) (ckRange w).2, (core, x.id) ∈ (v.ck.targets.at k).writes) ∧
      (v.core core).counters = (u.core core).counters ∧ Safety.OnlyCore core s v)) ∧
  (∀ (s : State) (target : Nat) (w : Nat × Nat) (ws : List (Nat × Nat)), (s.ck.targets.at target).writes = w :: ws →
    (s.unacked target w = true → exec (.targetWriteDone target) s = .next s) ∧
    ((Safety.Clean s ∨ ∀ k, s.img.ckTargets[target]? = some k → k.kind ≠ 0) → s.unacked target w = false → 1024 ≤ w.1 → ∃ u, exec (.targetWriteDone target) s = .next u ∧ (u.ck.targets.at target).writes = ws ∧
      (∀ k, k ≠ target → u.ck.targets.at k = s.ck.targets.at k) ∧ u.cores = s.cores ∧ u.mem = s.mem) ∧
    ((Safety.Clean s ∨ ∀ k, s.img.ckTargets[target]? = some k → k.kind ≠ 0) → s.unacked target w = false → w.1 < 1024 → ∀ x, s.findXfer w.1 w.2 = some x →
      (x.outstanding.erase target = [] → ∃ u, exec (.targetWriteDone target) s = .next u ∧ (u.ck.targets.at target).writes = ws ∧
        u.findXfer w.1 w.2 = none ∧ (∀ h ∈ (u.shardSt x.shard).holds, h.holder ≠ holdCk w.1 w.2) ∧
        ((u.core w.1).counters.at x.counter).value = ((s.core w.1).counters.at x.counter).value + BitVec.ofNat 32 x.increment ∧
        Safety.OnlyCore w.1 s u) ∧
      (x.outstanding.erase target ≠ [] → ∃ u y, exec (.targetWriteDone target) s = .next u ∧ (u.ck.targets.at target).writes = ws ∧
        u.findXfer w.1 w.2 = some y ∧ y.outstanding = x.outstanding.erase target ∧
        (u.core w.1).counters = (s.core w.1).counters ∧ Safety.OnlyCore w.1 s u))) ∧
  (∀ (s : State) (target : Nat) (cause : Cause), (s.ck.targets.at target).writes ≠ [] → cause ∈ targetCauses →
    ∃ u, exec (.targetWriteFail target cause) s = .next u ∧ (u.ck.targets.at target).due = none ∧ (u.ck.targets.at target).writes = [] ∧
      (u.ck.targets.at target).lastCause = cause ∧ u.ck.lastCause = cause ∧ (u.ck.targets.at target).sealed = (s.ck.targets.at target).sealed ∧
      (u.ck.targets.at target).sealedStep = (s.ck.targets.at target).sealedStep ∧
      (∀ k, k ≠ target → u.ck.targets.at k = s.ck.targets.at k) ∧ (s.host.job ≠ .running → u.mem = s.mem)) ∧
  (∀ (s : State) (target step : Nat) (k : TargetCfg), (s.ck.targets.at target).due = some step → s.img.ckTargets[target]? = some k →
    (((s.ck.targets.at target).piecesLeft ≠ [] ∨ (s.ck.targets.at target).coresLeft ≠ [] ∨ (s.ck.targets.at target).writes ≠ [] ∨
        s.unacked target manifestWrite = true) → exec (.checkpointSeal target) s = .next s) ∧
    ((s.ck.targets.at target).piecesLeft = [] → (s.ck.targets.at target).coresLeft = [] → (s.ck.targets.at target).writes = [] →
      s.unacked target manifestWrite = false → ∃ u, exec (.checkpointSeal target) s = .next u ∧ (u.ck.targets.at target).due = none ∧ (u.ck.targets.at target).sealed = true ∧
        (u.ck.targets.at target).sealedStep = step ∧ (u.ck.targets.at target).seq = (s.ck.targets.at target).seq + 1 ∧
        ((s.ck.targets.at target).sealed = true → (u.ck.targets.at target).buffer = 1 - (s.ck.targets.at target).buffer) ∧
        (∀ j, j ≠ target → u.ck.targets.at j = s.ck.targets.at j) ∧ u.ck.seals = s.ck.seals + 1 ∧
        u.ck.sealedStep = max s.ck.sealedStep step))

/-- RESTORE on a running or halted job stops issue and starts step 1. The valid manifests read, those that can be restored, are kept and their steps sent round the rings of the site; once the steps of every module are held, the largest that all hold is chosen. Pieces that do not make a restore end it Failed with the job HALTED; good ones, with no partner wanted and an aligned manifest, give the grain and the data cursor. The shards are then written and committed, and with the digests compared the module record is loaded and the job RUNNING after the chosen step; a shard in the minority is first asked for at a module of the majority. (R515, R517, R520, R632) -/
def Obligations.RestoresRun : Prop :=
  (∀ (s : State), s.mailboxUp = true →
    (s.jobBusy = true → ∃ u, exec .restore s = .next u ∧ u.host.reply = Rc.busy.code ∧ u.host.job = s.host.job ∧ u.ck = s.ck ∧ u.mem = s.mem) ∧
    (s.jobBusy = false → s.host.job = .running ∨ s.host.job = .halted → ∃ u, exec .restore s = .next u ∧ u.host.reply = Rc.success.code ∧
      u.host.job = .restoring ∧ u.ck.restoring = 1 ∧ u.power.stopIssue = true ∧ u.cores = s.cores) ∧
    (s.jobBusy = false → s.host.job = .noJob → ∃ u, exec .restore s = .next u ∧ u.host.lastCause = Cause.planReject ∧ u.host.job = .noJob ∧
      u.ck = s.ck ∧ u.mem = s.mem)) ∧
  (∀ (s : State) (copies : List ManifestCopy) (found : List Manifest), s.ck.restoring = 2 → s.power.restPhase = 0 → found = s.sealedFound copies →
    (∃ n, n < s.nodes ∧ n ≠ s.img.node ∧ ∀ e ∈ s.ck.siteSteps, e.1 ≠ n) → ∃ u, exec (.restoreManifestsRead copies) s = .next u ∧
      u.ck.restoring = 3 ∧ u.ck.manifests = found ∧ (s.img.node, (found.map (·.step)).dedup) ∈ u.ck.siteSteps ∧
      u.torus.sentMessages = s.torus.sentMessages ++
        ((List.range 4).filter (fun a => 1 < s.axis a)).map (fun a => (portOf a false, .sealedSteps s.img.node (found.map (·.step)).dedup)) ∧
      u.cores = s.cores ∧ u.mem = s.mem) ∧
  (∀ (s : State) (coord : Nat) (steps : List Nat), s.ck.restoring = 3 → coord ≠ s.img.node → coord < s.nodes →
    ((∃ n, n < s.nodes ∧ n ≠ coord ∧ ∀ e ∈ s.ck.siteSteps, e.1 ≠ n) → ∃ u, exec (.sealedStepExchange coord steps) s = .next u ∧
      u.ck.restoring = 3 ∧ (coord, steps) ∈ u.ck.siteSteps ∧ u.cores = s.cores ∧ u.mem = s.mem) ∧
    ((∀ n, n < s.nodes → n ≠ coord → ∃ e ∈ s.ck.siteSteps, e.1 = n) →
      (∀ best, (∃ m ∈ s.ck.manifests, m.step = best) → best ∈ steps → (∀ e ∈ s.ck.siteSteps, e.1 ≠ coord → best ∈ e.2) →
        (∀ m ∈ s.ck.manifests, m.step ∈ steps → (∀ e ∈ s.ck.siteSteps, e.1 ≠ coord → m.step ∈ e.2) → m.step ≤ best) →
        ∃ u, exec (.sealedStepExchange coord steps) s = .next u ∧ u.ck.restoring = 4 ∧ u.ck.chosen = best ∧
          (∃ m, u.ck.chosenManifest = some m ∧ m ∈ s.ck.manifests ∧ m.step = best) ∧ u.cores = s.cores ∧ u.mem = s.mem) ∧
      ((∀ m ∈ s.ck.manifests, m.step ∉ steps ∨ ∃ e ∈ s.ck.siteSteps, e.1 ≠ coord ∧ m.step ∉ e.2) →
        ∃ u, exec (.sealedStepExchange coord steps) s = .next u ∧ u.ck.restoring = 0 ∧ u.ck.lastCause = Cause.planReject ∧ u.host.job = .halted))) ∧
  (∀ (s : State) (pieces : List PieceLoad) (r : ModuleRecord), s.ck.restoring = 4 →
    (∀ e, s.assemble pieces = .error e → ∃ u, exec (.restoreLoaded pieces r) s = .next u ∧ u.ck.restoring = 0 ∧
      u.ck.lastCause = e ∧ u.host.job = .halted ∧ u.power.stopIssue = true ∧ u.cores = s.cores) ∧
    (∀ remap loads m, s.assemble pieces = .ok (remap, loads) → s.wantsPartner = false → s.ck.chosenManifest = some m → m.mbPerStep = s.img.m →
      m.mbPerStep ≠ 0 → m.dataCursor = (m.step + 1) * m.mbPerStep → m.grain = m.step + 1 → ∃ u, exec (.restoreLoaded pieces r) s = .next u ∧
        u.ck.restoring = 6 ∧ u.ck.pieces = loads ∧ u.ck.remap = remap ∧ u.ck.grain = m.step + 1 ∧ u.ck.dataCursor = m.dataCursor ∧
        u.host.job = s.host.job ∧ u.cores = s.cores ∧ u.mem = s.mem)) ∧
  (∀ (s v : State), (s.ck.restoring ≠ 6 → exec .restoreCommitted s = .next s) ∧
    (s.ck.restoring = 6 → s.shardList.foldl State.restoreShard (s, 0) = (v, 0) → v.img = s.img → s.img.verifyTrust = true →
      ∃ u, exec .restoreCommitted s = .next u ∧ u.ck.restoring = 7 ∧ u.ck.pieces = [] ∧ u.mem = v.mem ∧ u.commit = v.commit)) ∧
  (∀ (s : State), (s.ck.restoring ≠ 7 → exec .restoreVerified s = .next s) ∧
    (s.ck.restoring = 7 → s.commit.digests = [] → s.ck.noMajority = true → ∃ u, exec .restoreVerified s = .next u ∧ u.ck.restoring = 0 ∧
      u.ck.lastCause = Cause.digestMismatch ∧ u.host.job = .halted) ∧
    (∀ r, s.ck.restoring = 7 → s.commit.digests = [] → s.ck.noMajority = false → s.ck.moduleRec = some r →
      (∀ n ∈ s.shardList, (s.shardSt n).diverged = false ∧ (s.shardSt n).repair = false) →
      ∃ u, exec .restoreVerified s = .next u ∧ u.ck.restoring = 0 ∧ u.host.job = .running ∧ u.power.stopIssue = false ∧
        u.gate.step = s.ck.chosen + 1 ∧ u.ck.restores = s.ck.restores + 1 ∧ u.round.openRound = r.openRound) ∧
    (∀ r n m c, s.ck.restoring = 7 → s.commit.digests = [] → s.ck.noMajority = false → s.ck.moduleRec = some r → s.shardCfg n = some c →
      (s.shardSt n).diverged = true → (s.shardSt n).repair = false → (s.shardSt n).good = some m → s.img.verifyTrust = false →
      ∃ u, exec .restoreVerified s = .next u ∧ ∀ p ∈ s.upPorts, (p, Message.exportRequest m n) ∈ u.torus.sentMessages))

/-- A job start whose links are not ready within the link wait fails with LINK_DOWN. The first partner claim is accepted and later ones are refused; a refusal moves the claim to the next candidate, an acceptance names the partner. The copy region and a shard export (header, slot arrays and the further arrays that its flags name) go to the module that asked; an export whose slot takes no further hold waits. A HALT message seen before changes nothing, a new one is flooded on; a wake starts the waves of a module in Rest. (R335, R360, R442, R509, R510, R515, R520, R522, R589) -/
def Obligations.JobMessages : Prop :=
  (∀ (s : State) (t : Nat), s.host.starting = some t → s.linksReady = false → t + s.img.linkWait < s.now → ∃ u, exec .linkWaitExpiry s = .next u ∧
    u.host.starting = none ∧ u.host.lastCause = Cause.linkDown ∧ u.host.job = s.host.job ∧ u.cores = s.cores) ∧
  (∀ (s : State) (arrived node seq : Nat),
    (node = s.img.node ∨ (∃ e ∈ s.torus.haltSeq, e.1 = node ∧ seq ≤ e.2) → exec (.haltMessage arrived node seq) s = .next s) ∧
    (node ≠ s.img.node → (∀ e ∈ s.torus.haltSeq, e.1 ≠ node ∨ e.2 < seq) → ∃ u, exec (.haltMessage arrived node seq) s = .next u ∧
      (node, seq) ∈ u.torus.haltSeq ∧ u.torus.sentMessages = s.torus.sentMessages ++
        (s.upPorts.filter (fun p => p != arrived)).map (fun p => (p, .halt node seq)) ∧ u.cores = s.cores ∧
      (s.host.job ≠ .running → u.power = s.power ∧ u.mem = s.mem) ∧
      (s.host.job = .running → s.power.stopIssue = false → u.power.stopIssue = true ∧ (u.host.job = .halted ∨ u.host.job = .restoring)))) ∧
  (∀ (s : State) (node : Nat), (s.power.restPhase = 1 → ∃ u, exec (.wakeMessage node) s = .next u ∧ u.power.restPhase = 2 ∧
      u.power.wakeWaves = 0 ∧ u.cores = s.cores ∧ u.mem = s.mem) ∧
    (s.power.restPhase ≠ 1 → exec (.wakeMessage node) s = .next s)) ∧
  (∀ (s : State) (port node : Nat), (s.port port).state = 6 →
    (s.ck.claimedBy = none → ∃ u, exec (.partnerClaim port node) s = .next u ∧ u.ck.claimedBy = some port ∧
      u.torus.sentMessages = s.torus.sentMessages ++ [(port, .claimAccepted s.img.node)] ∧ u.cores = s.cores ∧ u.mem = s.mem) ∧
    (s.ck.claimedBy ≠ none → ∃ u, exec (.partnerClaim port node) s = .next u ∧ u.ck = s.ck ∧
      u.torus.sentMessages = s.torus.sentMessages ++ [(port, .claimRefused node)] ∧ u.cores = s.cores ∧ u.mem = s.mem)) ∧
  (∀ (s : State) (port : Nat), s.ck.claiming = some port →
    (∀ p j, s.img.partnerPorts[j]? = some p → s.ck.candidate < j → (s.port p).state = 6 → feedsDiffer (s.port p).nbrFeed s.power.feed = true →
      (∀ i k, s.ck.candidate < i → i < j → s.img.partnerPorts[i]? = some k → (s.port k).state ≠ 6 ∨ feedsDiffer (s.port k).nbrFeed s.power.feed = false) →
      ∃ u, exec (.partnerRefusal port) s = .next u ∧ u.ck.claiming = some p ∧ u.ck.candidate = j ∧
        u.torus.sentMessages = s.torus.sentMessages ++ [(p, .claim s.img.node)] ∧ u.cores = s.cores ∧ u.mem = s.mem) ∧
    (s.img.partnerPorts.length ≤ s.ck.candidate + 1 → s.img.partnerForce = false → s.ck.restoring = 5 → ∃ u, exec (.partnerRefusal port) s = .next u ∧
      u.ck.restoring = 0 ∧ u.ck.lastCause = Cause.partnerSameFeed ∧ u.host.job = .halted) ∧
    (∃ u, exec (.partnerAcceptance port) s = .next u ∧ u.ck.partner = some port ∧ u.ck.claiming = none ∧
      (s.ck.restoring ≠ 5 → s.host.starting ≠ none → u.host.job = .running ∧ u.gate.step = 0) ∧
      (s.ck.restoring ≠ 5 → s.host.starting = none → u.cores = s.cores ∧ u.mem = s.mem))) ∧
  (∀ (s : State) (port : Nat) (t : TargetCfg), s.img.ckTargets.find? (fun t => t.kind == 0) = some t → s.ck.claimedBy = some port →
    (s.port port).state = 6 → Safety.Clean s → (s.torus.paths.at (s.port port).nbrNode).known = true →
    (s.torus.paths.at (s.port port).nbrNode).state ≠ 3 → (∀ y ∈ s.torus.sources, y.tag ≠ s.torus.nextTag % 2 ^ 24) →
    ∃ u y, exec (.copyRegionRequest port) s = .next u ∧ y ∈ u.torus.sources ∧ y.dst = (s.port port).nbrNode ∧ y.tc = 3 ∧ y.core = 1024 ∧
      (y.packets.map (·.payload)).flatten = s.peek s.img.copyRegion t.size ∧ u.cores = s.cores ∧ u.mem = s.mem) ∧
  (∀ (s t : State) (node shard : Nat) (c : ShardCfg) (bs : List Byte), s.shardCfg shard = some c → (s.shardSt shard).hasState = true →
    (s.shardSt shard).canHold (s.shardSt shard).slot = true → node < s.nodes → node ≠ s.img.node →
    (s.torus.paths.at node).known = true → (s.torus.paths.at node).state ≠ 3 → (∀ y ∈ s.torus.sources, y.tag ≠ s.torus.nextTag % 2 ^ 24) →
    s.exportBytes shard c = (t, .ok bs) →
    ∃ u y, exec (.shardExportRequest node shard) s = .next u ∧ y ∈ u.torus.sources ∧ y.dst = node ∧ y.tc = 3 ∧ y.core = 1024 ∧
      (y.packets.map (·.payload)).flatten = bs ∧ u.cores = t.cores ∧ u.mem = s.mem) ∧
  (∀ (s : State) (shard : Nat) (c : ShardCfg) (slot : List Byte), Safety.Clean s → slot = s.peek (c.heldBase (s.shardSt shard).staged (s.shardSt shard).slot) c.slotSize →
    s.exportBytes shard c = (s, .ok (c.exportHeader (s.exportFlags shard c true true) (s.shardSt shard).step (s.shardSt shard).version
      (s.shardSt shard).count (s.shardSt shard).park (c.digest (s.shardSt shard).step (s.shardSt shard).count (c.arrays slot)) ++
      (s.exportParts shard c (s.exportFlags shard c true true)).flatMap (fun p =>
        fitBytes (up64 (p.span c.count)) (s.peek p.addr (p.span c.count)))))) ∧
  (∀ (s : State) (node shard : Nat) (c : ShardCfg), s.shardCfg shard = some c → (s.shardSt shard).hasState = true →
    (s.shardSt shard).canHold (s.shardSt shard).slot = false → node < s.nodes → node ≠ s.img.node →
    ∃ u, exec (.shardExportRequest node shard) s = .next u ∧ (u.shardSt shard).waiting = (s.shardSt shard).waiting ++ [.exportTo node] ∧
      u.torus = s.torus ∧ u.cores = s.cores ∧ u.mem = s.mem)

/-- A ready CK_STATE with its unused fields 0, on queue 7 of a core without a latched cause, ends Done and gives the record of its core at issue (arrival counters, queues, CD.UPD_STEP) to every target whose checkpoint is due; with a cause latched it ends Failed with that cause and captures nothing. (R505) -/
def Obligations.CkStateCaptures : Prop :=
  ∀ (s u : State) (core w : Nat), Safety.Transfer s core 7 u w → w % 256 = 9 → ckFieldsOk w = true → fld w 64 40 = 0 → fld w 222 12 = 0 →
    fld w 192 24 = 0 →
    ((∀ k ∈ (u.core core).counters, k.2.cause = 0) → ∃ v, exec (.ckState core 7) s = .next v ∧
      ((v.core core).counters.at (fld w 8 6)).value = ((u.core core).counters.at (fld w 8 6)).value + BitVec.ofNat 32 (fld w 16 16) ∧
      (∀ k t, (k, t) ∈ s.ck.targets → t.due ≠ none → core ∈ t.coresLeft → core ∉ (v.ck.targets.at k).coresLeft ∧
        ∃ r ∈ (v.ck.targets.at k).records, r.core = core ∧ r.updStep = (u.core core).up.step ∧
          r.counters = (u.core core).counters.map (fun c => (c.1, c.2.value)) ∧
          r.queues = (List.range 8).map (fun q => (if q = 7 then fld w 176 16 else ((u.core core).queues.at q).pos, ((u.core core).queues.at q).loops,
            ((u.core core).queues.at q).retired))) ∧ Safety.OnlyCore core s v) ∧
    (∀ cause rest, ((u.core core).counters.map (fun c => c.2.cause)).filter (· != 0) = cause :: rest →
      ∃ v, exec (.ckState core 7) s = .next v ∧ (v.core core).xf.lastFail = cause ∧ v.ck = s.ck ∧
        (∀ n, ((v.core core).counters.at n).value = ((u.core core).counters.at n).value) ∧ Safety.OnlyCore core s v)

/-- At the seal of a checkpoint, each core record of the target takes, for every counter that the image names as a checkpoint counter of its core, the value that the counter holds at the seal; its other counters, its queues and its CD.UPD_STEP stay as captured. (R513) -/
def Obligations.SealSavesCounters : Prop :=
  ∀ (s : State) (target step : Nat) (k : TargetCfg), (s.ck.targets.at target).due = some step → s.img.ckTargets[target]? = some k →
    (s.ck.targets.at target).piecesLeft = [] → (s.ck.targets.at target).coresLeft = [] → (s.ck.targets.at target).writes = [] →
    s.unacked target manifestWrite = false → ∃ u, exec (.checkpointSeal target) s = .next u ∧ (u.ck.targets.at target).records.length = (s.ck.targets.at target).records.length ∧
      ∀ (i : Nat) (r : CoreRecord), (s.ck.targets.at target).records[i]? = some r → ∃ x, (u.ck.targets.at target).records[i]? = some x ∧ x.core = r.core ∧
        x.queues = r.queues ∧ x.updStep = r.updStep ∧ ∀ n v,
          (n ∈ (s.coreCfg r.core).ckCounters → ((n, v) ∈ x.counters ↔ v = ((s.core r.core).counters.at n).value)) ∧
          (n ∉ (s.coreCfg r.core).ckCounters → ((n, v) ∈ x.counters ↔ (n, v) ∈ r.counters))

/-- While the headstock is powered, an alarm erases the master keys, every key slot and the key registers, latches its bit and is counted; one of group 3 erases the identity keys for good, another may recover. After 1 s clear the module recovers. At its end a change window erases the previous master key. A key slot takes the key loaded, and a commit of the key registers by a KD960-M with the owner lock clear and the association of the image installs the master key; without COMMIT it changes nothing. (R542, R546, R548, R552, R553, R556, R557, R607) -/
def Obligations.AlarmsEraseKeys : Prop :=
  (∀ (s : State) (c : Instr) (bit : Nat), ((c, bit) ∈ [(Instr.voltageAlarm, 0), (.temperatureAlarm, 1), (.glitchAlarm, 3)] ∨
      ∃ mv, c = .tamper mv ∧ 2000 < mv ∧ s.power.tamper = false ∧ bit = 4) →
    (s.edgePowered = true → ∃ u, exec c s = .next u ∧ u.sec.km = none ∧ u.sec.prevKm = none ∧ u.sec.keyWr = List.replicate 8 0 ∧
      (∀ p n, (u.engine p).slots.at n = {}) ∧ u.sec.alarm.getLsbD bit = true ∧ u.sec.alarms = s.sec.alarms + 1 ∧
      (3 ≤ bit → u.sec.identityKeys = false ∧ u.sec.identityErased = true ∧ u.sec.recovering = none) ∧
      (bit < 3 → s.sec.identityErased = false → s.sec.recovering = none → u.sec.recovering = some 1 ∧ u.sec.alarmAt = s.now ∧
        u.sec.identityKeys = s.sec.identityKeys) ∧ u.fuses = s.fuses ∧ u.cores = s.cores ∧ u.mem = s.mem) ∧
    (s.edgePowered = false → ∃ u, exec c s = .next u ∧ u.sec = s.sec ∧ u.engines = s.engines ∧ u.mem = s.mem)) ∧
  (∀ (s : State) (g : Nat), s.sec.recovering = some g →
    (s.sec.alarmAt + 1000000000 ≤ s.now → s.edgePowered = true → s.kekClosed = true ∨ s.img.keys = [] →
      exec .alarmRecovery s = .next { s with sec := { s.sec with recovering := none } }) ∧
    (s.sec.alarmAt + 1000000000 ≤ s.now → s.edgePowered = true → s.sec.authCount + s.img.keys.length < 8 →
      ∃ u, exec .alarmRecovery s = .next u ∧ u.sec.recovering = none ∧
      u.fuses = s.fuses ∧ u.cores = s.cores ∧ u.mem = s.mem) ∧
    (s.now < s.sec.alarmAt + 1000000000 → exec .alarmRecovery s = .next s)) ∧
  (∀ (s : State), (s.sec.windowEnd ≠ 0 → s.sec.windowEnd ≤ s.now →
      exec .changeWindowEnd s = .next { s with sec := { s.sec with prevKm := none, windowEnd := 0 } }) ∧
    (s.now < s.sec.windowEnd → exec .changeWindowEnd s = .next s)) ∧
  (∀ (s : State) (engine slot : Nat) (l : SlotLoad), s.wanExists engine = true → s.edgePowered = true → slot < 48 → l.usage < 4 →
    l.key.length = 16 ∨ l.key.length = 32 → ∃ u, exec (.keySlotLoad engine slot l) s = .next u ∧
      ((u.engine engine).slots.at slot).key = l.key ∧ ((u.engine engine).slots.at slot).usage = l.usage ∧
      ((u.engine engine).slots.at slot).encryptions = 0 ∧
      ((u.engine engine).slots.at slot).nextCtr = (if l.usage = 0 then engine * 2 ^ 40 else 0) ∧
      (∀ p n, (p, n) ≠ (engine, slot) → (u.engine p).slots.at n = (s.engine p).slots.at n) ∧ u.sec = s.sec ∧ u.cores = s.cores ∧ u.mem = s.mem) ∧
  (∀ (s : State) (value : Word), (value.getLsbD 31 = false → exec (.keyWrCommit value) s = .next s) ∧
    (s.fuses.variantM = true → s.barUp = true → value.getLsbD 31 = true →
      (s.flash.security.ownerLock = true → ∃ u, exec (.keyWrCommit value) s = .next u ∧ u.sec.keyWrStatus = some Cause.authFail ∧
        u.sec.keyWr = List.replicate 8 0 ∧ u.sec.km = s.sec.km ∧ u.engines = s.engines ∧ u.mem = s.mem) ∧
      (s.flash.security.ownerLock = false → s.keyWrErased (value.getLsbD 8) = true → ∃ u, exec (.keyWrCommit value) s = .next u ∧
        u.sec.keyWrStatus = some Cause.keyErased ∧ u.sec.km = s.sec.km ∧ u.engines = s.engines ∧ u.mem = s.mem) ∧
      (s.flash.security.ownerLock = false → s.keyWrErased (value.getLsbD 8) = false → s.kekClosed = false → value.toNat % 256 = 1 → s.img.assoc ≠ none →
        s.sec.keyWrAssoc.toNat = s.assoc.assoc → ∃ u, exec (.keyWrCommit value) s = .next u ∧ u.sec.keyWrStatus = some 0 ∧
          u.sec.keyWr = List.replicate 8 0 ∧ u.sec.km = some ⟨(s.sec.keyWr.flatMap (fun x => leBytes 4 x.toNat)).take (if value.getLsbD 8 then 32 else 16), s.assoc.assoc⟩ ∧ u.mem = s.mem)))

/-- A job of an engine that exists counts once. On a slot without a key it ends Failed with KEY_ERASED; one that the rules refuse ends Failed with the cause and changes no memory; another reads its input and the additional data and writes the bytes that its mode gives at DST and no other byte; a tag that differs or a padding that is wrong writes nothing and ends AUTH_FAIL, and the tag is counted. A GCM encryption on a SEND slot writes the nonce of the slot's next counter into the additional data first and takes that counter. (R549, R550, R551, R553, R555) -/
def Obligations.CipherJobsRun : Prop :=
  ∀ (s : State) (engine op : Nat) (desc : BitVec 512) (c : Instr) (j : CipherJob) (k : KeySlot),
    (c, op) ∈ [(Instr.encrypt engine desc, 1), (.decrypt engine desc, 2), (.mac engine desc, 3)] → s.wanExists engine = true → s.edgePowered = true →
    j = CipherJob.ofNat desc.toNat → j.op = op → k = (s.engine engine).slots.at j.slot →
    (k.key = [] → j.reservedZero = true → j.shapeOk = true → ∃ u, exec c s = .next u ∧ (u.engine engine).lastFail = Cause.keyErased ∧
      (u.engine engine).jobs = (s.engine engine).jobs + 1 ∧ (u.engine engine).slots = (s.engine engine).slots ∧ u.cores = s.cores ∧ u.mem = s.mem) ∧
    (k.key ≠ [] → s.jobRefusal engine j k ≠ 0 → ∃ u, exec c s = .next u ∧ (u.engine engine).lastFail = s.jobRefusal engine j k ∧
      (u.engine engine).jobs = (s.engine engine).jobs + 1 ∧ (u.engine engine).slots = (s.engine engine).slots ∧ u.cores = s.cores ∧ u.mem = s.mem) ∧
    (k.key ≠ [] → s.jobRefusal engine j k = 0 → Safety.Clean s → k.usage ≠ 0 →
      (∀ bs, j.run k.key (j.iv.take 12) (s.peek j.src j.inLen) (if j.mode = 3 then s.peek j.aadAddr j.aadLen else []) = .bytes bs →
        ∃ u, exec c s = .next u ∧ (u.engine engine).jobs = (s.engine engine).jobs + 1 ∧ (u.engine engine).lastFail = (s.engine engine).lastFail ∧
          (∀ a, u.mem.byte a = if j.dst ≤ a ∧ a < j.dst + bs.length then bs.getD (a - j.dst) 0 else s.mem.byte a) ∧ u.cores = s.cores) ∧
      (j.run k.key (j.iv.take 12) (s.peek j.src j.inLen) (if j.mode = 3 then s.peek j.aadAddr j.aadLen else []) = .badTag →
        ∃ u, exec c s = .next u ∧ (u.engine engine).jobs = (s.engine engine).jobs + 1 ∧ (u.engine engine).lastFail = Cause.authFail ∧
          (u.engine engine).tagFails = (s.engine engine).tagFails + 1 ∧ u.cores = s.cores ∧ u.mem = s.mem) ∧
      (j.run k.key (j.iv.take 12) (s.peek j.src j.inLen) (if j.mode = 3 then s.peek j.aadAddr j.aadLen else []) = .badPad →
        ∃ u, exec c s = .next u ∧ (u.engine engine).jobs = (s.engine engine).jobs + 1 ∧ (u.engine engine).lastFail = Cause.authFail ∧
          u.cores = s.cores ∧ u.mem = s.mem)) ∧
    (k.key ≠ [] → s.jobRefusal engine j k = 0 → Safety.Clean s → k.usage = 0 → ∀ v bs,
      (s.writeMem (j.aadAddr + j.nonceOff) (leBytes 4 k.fixed ++ leBytes 8 k.nextCtr)).1 = v →
      j.run k.key (leBytes 4 k.fixed ++ leBytes 8 k.nextCtr) (v.peek j.src j.inLen) (v.peek j.aadAddr j.aadLen) = .bytes bs → ∃ u, exec c s = .next u ∧
      (u.engine engine).jobs = (s.engine engine).jobs + 1 ∧ ((u.engine engine).slots.at j.slot).nextCtr = k.nextCtr + 1 ∧
      ((u.engine engine).slots.at j.slot).key = k.key ∧
      (∀ a, u.mem.byte a = if j.dst ≤ a ∧ a < j.dst + bs.length then bs.getD (a - j.dst) 0 else v.mem.byte a) ∧
      (∀ a, a < j.aadAddr + j.nonceOff ∨ j.aadAddr + j.nonceOff + 12 ≤ a → v.mem.byte a = s.mem.byte a) ∧
      v.peek (j.aadAddr + j.nonceOff) 12 = leBytes 4 k.fixed ++ leBytes 8 k.nextCtr ∧ u.cores = s.cores)

/-- A request that the mailbox takes is answered as the rules say: version 1.3 only, the capabilities of the lifecycle, the one set of algorithms, the digest and the parts of certificate slot 0, challenges and measurements in any state but RETIRED (unsigned ones also there), a signed response ending in the alias key's signature of its bytes, ERROR for any other slot, index or request, and ERROR for all once a group 3 alarm has erased the identity. NONCE_GET gives 32 bytes as the only live nonce; a nonce older than 60 s lapses. (R530, R537, R538, R539, R540, R541) -/
def Obligations.SpdmAnswers : Prop :=
  (∀ (s : State), s.mailboxUp = true → s.spdmShut = false →
    (∃ u, exec .getVersion s = .next u ∧ u.sec.response = [0x10, 0x04, 0, 0, 0, 1, 0x00, 0x13] ∧ u.sec.spdmVersion = true ∧ u.fuses = s.fuses ∧
      u.cores = s.cores ∧ u.mem = s.mem) ∧
    (∃ u, exec .getCapabilities s = .next u ∧ u.sec.response.length = 20 ∧ u.sec.response.take 5 = [0x13, 0x61, 0, 0, 0] ∧
      (u.sec.response.drop 8).take 4 = leBytes 4 (if s.retired then 0x0A else 0x16) ∧ u.fuses = s.fuses ∧ u.cores = s.cores ∧ u.mem = s.mem) ∧
    (∀ ext, ∃ u, exec (.negotiateAlgorithms ext) s = .next u ∧ u.sec.response.take 8 = [0x13, 0x63, 0, 0, if ext then 40 else 36, 0, 1, 0] ∧
      u.sec.spdmAlgos = some ext ∧ u.fuses = s.fuses ∧ u.cores = s.cores ∧ u.mem = s.mem) ∧
    (∃ u, exec .getDigests s = .next u ∧ u.sec.response = [0x13, 0x01, 1, 1] ++ sha384 s.certChain ∧ u.fuses = s.fuses ∧ u.cores = s.cores ∧
      u.mem = s.mem) ∧
    (∀ offset length, offset < s.certChain.length → ∃ u rest, exec (.getCertificate 0 offset length) s = .next u ∧
      u.sec.response = [0x13, 0x02, 0, 0] ++ rest ++ (s.certChain.drop offset).take length ∧ rest.length = 4 ∧ u.cores = s.cores ∧ u.mem = s.mem) ∧
    (∀ nonce, s.retired = false → ∃ u n rest body, exec (.challenge 0 nonce) s = .next u ∧ n.length = 32 ∧ rest.length = 10 ∧
      body = [0x13, 0x03, 0, 1] ++ sha384 s.certChain ++ n ++ sha384 s.allBlocks ++ rest ∧
      u.sec.response = body ++ s.spdmSign nonce body ∧ u.cores = s.cores ∧ u.mem = s.mem) ∧
    (∀ index signed nonce, 1 ≤ index → index ≤ 5 → (s.retired && signed) = false → ∃ u rest body, exec (.getMeasurements index signed nonce) s = .next u ∧
      body = [0x13, 0x60, 0, 0, 1] ++ leBytes 3 (s.measurementBlock index).length ++ s.measurementBlock index ++ rest ∧ rest.length = 42 ∧
      u.sec.response = body ++ (if signed then s.spdmSign nonce body else []) ∧
      u.cores = s.cores ∧ u.mem = s.mem) ∧
    (∀ (c : Instr) (code data : Byte), (c, code, data) ∈ [(.getCertificate 1 0 0, 1, 0), (.getMeasurements 6 false [], 1, 0), (.spdmUnsupported 0xE4, 7, 0xE4)] →
      ∃ u, exec c s = .next u ∧ u.sec.response = [0x13, 0x7F, code, data] ∧ u.fuses = s.fuses ∧ u.cores = s.cores ∧ u.mem = s.mem) ∧
    (∀ code, code < 256 → ∃ u, exec (.spdmUnsupported code) s = .next u ∧ u.sec.response = [0x13, 0x7F, 7, BitVec.ofNat 8 code] ∧ u.mem = s.mem)) ∧
  (∀ (s : State) (c : Instr) (ext signed : Bool) (slot offset length index code : Nat) (nonce : List Byte), s.mailboxUp = true →
    s.sec.identityErased = true →
    c ∈ [Instr.getVersion, .getCapabilities, .negotiateAlgorithms ext, .getDigests, .getCertificate slot offset length, .challenge slot nonce,
      .getMeasurements index signed nonce, .spdmUnsupported code] → ∃ u, exec c s = .next u ∧ u.sec.response = [0x13, 0x7F, 5, 0] ∧ u.fuses = s.fuses ∧ u.cores = s.cores ∧ u.mem = s.mem) ∧
  (∀ (s : State), s.mailboxUp = true → ∃ u n, exec .nonceGet s = .next u ∧ n.length = 32 ∧ u.sec.nonce = some (n, s.now) ∧
    u.host.reply = Rc.success.code ∧ u.host.output = zeros 4 ++ n ∧ u.fuses = s.fuses ∧ u.cores = s.cores ∧ u.mem = s.mem) ∧
  (∀ (s : State) (n : List Byte) (t : Nat), s.sec.nonce = some (n, t) →
    (t + 60000000000 < s.now → exec .nonceLapse s = .next { s with sec := { s.sec with nonce := none } }) ∧
    (s.now ≤ t + 60000000000 → exec .nonceLapse s = .next s))

/-- An owner command whose nonce, key and signature are good uses its nonce and acts: LOCK sets the owner lock at once or, during a firmware update, later; UNLOCK clears it; ENROL fills an empty entry; REVOKE revokes an entry that is neither the last nor its own; RETIRE closes the key paths and erases the keys; RECORDER_CLEAR leaves its record as the only one. One whose nonce is not live fails with AUTH_FAIL and changes no fuse. PROVISION makes a SHIPPED module OWNED, and KEY_INSTALL installs the key of a good blob. (R530, R531, R532, R533, R536, R537, R542, R544, R672, R673) -/
def Obligations.OwnerCommands : Prop :=
  (∀ (s : State) (auth : OwnerAuth), Safety.Signed s 1 auth [] →
    (s.fwUpdating = false → ∃ u, exec (.lock auth) s = .next u ∧ u.flash.security.ownerLock = true ∧ u.sec.lockWaiting = false ∧ u.sec.nonce = none ∧
      u.host.reply = Rc.success.code ∧ u.fuses = s.fuses ∧ u.cores = s.cores ∧ u.mem = s.mem) ∧
    (s.fwUpdating = true → ∃ u, exec (.lock auth) s = .next u ∧ u.flash = s.flash ∧ u.sec.lockWaiting = true ∧ u.sec.nonce = none ∧
      u.fuses = s.fuses ∧ u.cores = s.cores ∧ u.mem = s.mem)) ∧
  (∀ (s : State) (auth : OwnerAuth), Safety.Signed s 2 auth [] → ∃ u, exec (.unlock auth) s = .next u ∧ u.flash.security.ownerLock = false ∧
    u.sec.lockWaiting = false ∧ u.sec.nonce = none ∧ u.host.reply = Rc.success.code ∧ u.fuses = s.fuses ∧ u.cores = s.cores ∧ u.mem = s.mem) ∧
  (∀ (s : State) (auth : OwnerAuth) (entry : Nat) (key : List Byte), Safety.Signed s 3 auth (leBytes 1 entry ++ key) →
    (entry < 4 → key.length = 97 → s.fuses.ownerKeyHash.getD entry [] = [] → ∃ u, exec (.enrol auth entry key) s = .next u ∧
      u.fuses = Fuses.sealed { s.fuses with ownerKeyHash := s.fuses.ownerKeyHash.set entry (sha384 key) } ∧ u.sec.nonce = none ∧
      u.host.reply = Rc.success.code ∧ u.cores = s.cores ∧ u.mem = s.mem) ∧
    (s.fuses.ownerKeyHash.getD entry [] ≠ [] → ∃ u, exec (.enrol auth entry key) s = .next u ∧ u.fuses = s.fuses ∧
      u.host.lastCause = Cause.planReject ∧ u.sec.nonce = none ∧ u.mem = s.mem)) ∧
  (∀ (s : State) (auth : OwnerAuth) (entry : Nat), Safety.Signed s 4 auth (leBytes 1 entry) → entry < 4 →
    ((∃ i, i < 4 ∧ i ≠ entry ∧ s.fuses.ownerKeyHash.getD i [] ≠ [] ∧ s.fuses.ownerRevoke.testBit i = false) →
      (auth.keyEntry ≠ entry → ∃ u, exec (.revoke auth entry) s = .next u ∧ u.fuses = Fuses.sealed { s.fuses with ownerRevoke := s.fuses.ownerRevoke ||| 2 ^ entry } ∧
        u.sec.nonce = none ∧ u.host.reply = Rc.success.code ∧ u.cores = s.cores ∧ u.mem = s.mem) ∧
      (auth.keyEntry = entry → ∃ u, exec (.revoke auth entry) s = .next u ∧ u.fuses = s.fuses ∧ u.host.lastCause = Cause.authFail ∧ u.mem = s.mem)) ∧
    ((∀ i, i < 4 → i ≠ entry → s.fuses.ownerKeyHash.getD i [] = [] ∨ s.fuses.ownerRevoke.testBit i = true) →
      ∃ u, exec (.revoke auth entry) s = .next u ∧ u.fuses = s.fuses ∧ u.host.lastCause = Cause.planReject ∧ u.mem = s.mem)) ∧
  (∀ (s : State) (auth : OwnerAuth), Safety.Signed s 5 auth [] → ∃ u, exec (.retire auth) s = .next u ∧ u.fuses = Fuses.sealed { s.fuses with lifecycle := 3 } ∧
    u.sec.km = none ∧ u.sec.prevKm = none ∧ u.sec.identityKeys = false ∧ (∀ p n, (u.engine p).slots.at n = {}) ∧
    u.host.reply = Rc.success.code ∧ u.cores = s.cores ∧ u.mem = s.mem) ∧
  (∀ (s : State) (auth : OwnerAuth) (scope : Nat), Safety.Signed s 6 auth (leBytes 1 scope) →
    (scope ≤ 1 → ∃ u x, exec (.recorderClear auth scope) s = .next u ∧ u.recorder.ring = [x] ∧ x.type = 0x8004 ∧ x.seq = s.recorder.next ∧
      u.recorder.clears = s.recorder.clears + 1 ∧ (scope = 1 → u.flash.mirror0 = [[x]] ∧ u.flash.mirror1 = [[x]]) ∧ (scope = 0 → u.flash = s.flash) ∧
      u.fuses = s.fuses ∧ u.cores = s.cores ∧ (∀ a, a < hsAddr 0 ∨ hsAddr ringSize ≤ a → u.mem.byte a = s.mem.byte a)) ∧
    (1 < scope → ∃ u, exec (.recorderClear auth scope) s = .next u ∧ u.recorder = s.recorder ∧ u.host.lastCause = Cause.planReject ∧ u.mem = s.mem)) ∧
  (∀ (s : State) (auth : OwnerAuth) (c : Instr) (entry scope : Nat) (key : List Byte), s.mailboxUp = true →
    s.sec.nonce.map (·.1) ≠ some auth.nonce ∨ s.nonceOld = true →
    c ∈ [Instr.lock auth, .unlock auth, .enrol auth entry key, .revoke auth entry, .retire auth, .recorderClear auth scope] → ∃ u, exec c s = .next u ∧
      u.host.reply = Rc.securityState.code ∧ u.host.lastCause = Cause.authFail ∧ u.fuses = s.fuses ∧ u.flash = s.flash ∧ u.sec = s.sec ∧ u.mem = s.mem) ∧
  (∀ (s : State) (qe ct tag key : List Byte), s.mailboxUp = true → qe.length = 97 → ct.length = 96 → tag.length = 16 → s.fuses.lifecycle = 1 →
    s.sec.identityKeys = true → s.provisionKey qe = some key →
    (gcmTag key (zeros 12) (leBytes 8 s.fuses.serial) ct = tag → ∃ u, exec (.provision qe ct tag) s = .next u ∧ u.fuses.lifecycle = 2 ∧
      u.fuses.ownerKeyHash = s.fuses.ownerKeyHash.set 0 ((gcmCrypt key (zeros 12) ct).take 48) ∧
      u.fuses.kek = ((gcmCrypt key (zeros 12) ct).drop 48).take 32 ∧ u.host.reply = Rc.success.code ∧ u.sec = s.sec ∧ u.cores = s.cores ∧ u.mem = s.mem) ∧
    (gcmTag key (zeros 12) (leBytes 8 s.fuses.serial) ct ≠ tag → ∃ u, exec (.provision qe ct tag) s = .next u ∧ u.fuses = s.fuses ∧
      u.host.lastCause = Cause.authFail ∧ u.cores = s.cores ∧ u.mem = s.mem)) ∧
  (∀ (s : State) (blob : List Byte), s.mailboxUp = true → blob.length = 40 ∨ blob.length = 56 →
    (∀ k, s.kekClosed = false → s.blobKey blob = some k → ∃ u, exec (.keyInstall blob) s = .next u ∧ u.sec.km = some k ∧
      u.host.reply = Rc.success.code ∧ u.fuses = s.fuses ∧ u.cores = s.cores ∧ u.mem = s.mem) ∧
    (s.kekClosed = true → ∃ u, exec (.keyInstall blob) s = .next u ∧ u.sec = s.sec ∧ u.host.lastCause = Cause.keyErased ∧ u.mem = s.mem))

/-- From OFF an input inside its range closes the switch and loses all but fuses and flash; the charged bulk releases package time at 0 and takes the straps, each the code that its pin's share of VSTBY spells, which must read equal twice; with good fuses and repair maps the headstock takes the active firmware slot; the firmware starts training; with every channel trained the tiers of a Cold start read 0, and a failed channel is a FAULT; the verified image starts the governors; each of the eight waves loads the cores of one cluster of every die and no other core; after the last, with the tiers zeroed, the module is READY and the job waits for its start. (R567, R569, R572, R575, R576, R577, R579, R580, R609, R612, R630) -/
def Obligations.BringUpSteps : Prop :=
  (∀ (s : State) (mv : Nat), (mv < 48000 → exec (.inputStart mv) s = .next s) ∧
    (s.power.boot = .off → s.power.holdup = 0 ∨ s.power.holdup = 4 → s.power.faultLatched = false → 48000 ≤ mv → mv ≤ 66000 →
      ∃ u, exec (.inputStart mv) s = .next u ∧ u.power.boot = .charging ∧ u.power.switchOpen = false ∧ u.power.vin = mv / 10 ∧
        u.power.state = .bringup ∧ u.power.lastKind = 0 ∧ u.mem = [] ∧ u.cores = [] ∧ u.image = none ∧ u.host.job = .noJob ∧
        u.fuses = s.fuses ∧ u.flash = s.flash)) ∧
  (∀ (s : State) (cap : Nat) (straps straps2 : List StrapPin), s.power.boot = .charging → s.power.resetHeld = false → ∃ u,
    exec (.bulkCharged cap straps straps2) s = .next u ∧ u.power.boot = .standby ∧ u.power.cap = cap % 65536 ∧ u.now = 0 ∧
      u.power.feed = strapField straps 0 4 ∧ u.power.slot = strapField straps 4 2 ∧ u.cores = s.cores ∧ u.mem = s.mem ∧
      (∀ i pin vstby, i < 4 → straps[i]? = some (.level pin vstby) → u.power.feed / 16 ^ i % 16 = 15 - 16 * pin / vstby) ∧
      (∀ i, i < 4 → straps[i]? = some .unconnected → u.power.feed / 16 ^ i % 16 = 0) ∧
      ((∀ i, i < 7 → strapAt straps i = strapAt straps2 i) → strapAt straps 6 < 2 → u.power.state = s.power.state) ∧
      ((∃ i, i < 7 ∧ strapAt straps i ≠ strapAt straps2 i) → u.power.state = .fault)) ∧
  (∀ (s : State), s.power.boot = .standby → s.power.state ≠ .fault →
    (s.fuses.fuseCrcOk = true → s.fuses.repairCrcOk = true → s.repairOk = true → s.power.tamper = false → s.bootRecord.trial = false →
      s.fwSlotOk (slotBit s.bootRecord.active) = true → ∃ u, exec .headstockRailsGood s = .next u ∧ u.power.boot = .headstock ∧
        u.power.state = s.power.state ∧ u.host.fwSlot = slotBit s.bootRecord.active ∧ u.host.fwTrial = false ∧
        (s.sec.identityErased = false → s.kekClosed = false → u.sec.identityKeys = true) ∧ u.flash = s.flash ∧ u.fuses = s.fuses ∧
        u.cores = s.cores ∧ u.mem = s.mem) ∧
    (s.fuses.fuseCrcOk = false → ∃ u, exec .headstockRailsGood s = .next u ∧ u.power.boot = .headstock ∧ u.power.state = .fault ∧
      u.sec.identityErased = true ∧ u.sec.alarm.getLsbD 5 = true ∧ u.cores = s.cores ∧ u.mem = s.mem)) ∧
  (∀ (s : State), s.power.boot = .headstock → s.power.state ≠ .fault → ∃ u, exec .firmwareRunning s = .next u ∧ u.power.boot = .firmware ∧
    u.host.trialAt = s.now ∧ (∀ p, p < 8 → (u.port p).state = if s.portFused p then 0 else 1) ∧ (∀ p, p < 4 → (u.wan.at p).state = if s.wanExists p then 1 else 3) ∧
    u.cores = s.cores ∧ u.mem = s.mem) ∧
  (∀ (s : State) (failed : List Nat), s.power.boot = .firmware → s.power.state ≠ .fault →
    ((∀ c ∈ failed, 96 ≤ c) → ∃ u, exec (.channelsTrained failed) s = .next u ∧ u.power.boot = .channels ∧
      (∀ n, n < 96 → (u.tiers.channels.at n).state = 1) ∧ u.power.zeroing = !s.power.full ∧
      (s.power.full = false → ∀ a, addrSpace a = 1 ∨ addrSpace a = 2 → u.mem.byte a = 0) ∧ (s.cfgOrder = [] → u.power.state = .fault)) ∧
    ((∃ c ∈ failed, c < 96) → ∃ u, exec (.channelsTrained failed) s = .next u ∧ u.power.boot = .firmware ∧ u.power.state = .fault ∧
      (∀ c ∈ failed, c < 96 → (u.tiers.channels.at c).state = 3) ∧ u.cores = s.cores ∧ u.mem = s.mem)) ∧
  (∀ (s : State), s.power.boot = .channels → s.power.state = .bringup → s.torus.sources = [] → s.kekClosed = true ∨ s.img.keys = [] → ∃ u, exec .imageVerified s = .next u ∧
    u.power.boot = .verified ∧ u.power.wave = 0 ∧ u.power.state = s.power.state ∧
    (∀ d, d < 8 → (u.governors.at d).target = Image.targetOf s.img d) ∧ u.cores = s.cores) ∧
  (∀ (s : State),
    (s.power.boot = .verified ∨ s.power.boot = .waves → s.power.wave < 8 → s.power.state = .bringup → ∃ u, exec .wave s = .next u ∧
      u.power.boot = .waves ∧ u.power.wave = s.power.wave + 1 ∧
      (∀ c ∈ s.coreList, c / 16 % 8 = s.power.wave → (u.core c).counters = [] ∧ (u.core c).haltCause = 0 ∧ (u.core c).mx = {} ∧
        (u.core c).up.step = (s.core c).up.step) ∧
      (∀ c, c ∉ s.coreList ∨ c / 16 % 8 ≠ s.power.wave → u.core c = s.core c)) ∧
    (∀ r, s.power.boot = .ready → s.power.resets = [r] → r.phase = 3 → r.wavesDone < 8 → ∃ u, exec .wave s = .next u ∧
      u.power.resets = [{ r with wavesDone := r.wavesDone + 1 }] ∧ u.power.boot = .ready ∧
      (∀ c, c ∉ s.coreList ∨ c / 16 % 8 ≠ r.wavesDone ∨ coreDie c ∉ r.dies → u.core c = s.core c))) ∧
  (∀ (s : State) (unbound : List Nat), s.power.boot = .waves → s.power.wave = 8 → s.power.state = .bringup →
    (s.power.zeroing = true → ∃ u, exec (.lastWaveDone unbound) s = .next u ∧ u.power.boot = .pool ∧ u.power.diesUp = 0xFF ∧
      u.power.state = .bringup ∧ u.host.job = s.host.job ∧ u.tiers.poolValid = 2 ^ s.img.pool.length - 1 ∧
      (s.host.cxlUp = true → unbound = [] → u.tiers.poolUnbound = 0) ∧ u.cores = s.cores ∧ u.mem = s.mem) ∧
    (s.power.zeroing = false → s.img.startHold = true → ∃ u, exec (.lastWaveDone unbound) s = .next u ∧ u.power.boot = .ready ∧
      u.power.state = .ready ∧ u.host.job = .waitStart ∧ u.cores = s.cores)) ∧
  (∀ (s : State), (s.power.zeroing = false → exec .zeroingComplete s = .next s) ∧
    (s.power.zeroing = true → s.power.boot ≠ .pool → exec .zeroingComplete s = .next { s with power := { s.power with zeroing := false } }) ∧
    (s.power.zeroing = true → s.power.boot = .pool → s.power.state = .bringup → s.img.startHold = true → ∃ u, exec .zeroingComplete s = .next u ∧
      u.power.boot = .ready ∧ u.power.state = .ready ∧ u.power.zeroing = false ∧ u.host.job = .waitStart ∧ u.cores = s.cores))

/-- A Full reset outside hold-up clears all but flash, fuses, the tiers and the standby domain and starts a bring-up; a Compute reset halts every running queue, drops the dies' supply and, asked for by the mailbox, halts a running job; a Die reset does so for one die; a reset asked for while another change of job state is in progress is Busy. With the rails off the waves may follow, or after a thermal trip the hold, which ends at 85 °C; after the eighth wave the dies are up and no queue has started. RESET_N low asks for a Full reset, held for a Cold one. (R581, R582, R583, R584, R585, R586, R595, R606, R631) -/
def Obligations.ResetsRun : Prop :=
  (∀ (s : State) (source : ResetSource), s.power.holdup = 0 → s.power.resetHeld = false → s.power.boot ≠ .off → s.power.boot ≠ .charging →
    source = .i3c ∨ source = .resetInput ∨ source = .firmware ∨
      (source = .mailbox ∧ s.mailboxUp = true ∧ s.host.starting = none ∧ s.ck.restoring = 0 ∧ s.host.ending = false ∧ s.power.restPhase ≠ 2 ∧ s.host.xfer = none) →
    ∃ u, exec (.fullReset source) s = .next u ∧ u.power.boot = .standby ∧ u.power.full = true ∧ u.power.state = .bringup ∧
      u.power.fullCount = s.power.fullCount + 1 ∧ u.power.lastKind = 1 ∧ u.power.lastSource = source ∧ u.power.diesUp = 0 ∧ u.cores = [] ∧
      u.image = none ∧ u.host.job = .noJob ∧ u.now = 0 ∧ u.sec.km = none ∧ u.fuses = s.fuses ∧
      (∀ a, addrSpace a ≠ 1 → addrSpace a ≠ 2 → u.mem.byte a = 0)) ∧
  (∀ (s : State) (c : Instr) (die : Nat), s.mailboxUp = true → s.ck.restoring ≠ 0 ∨ s.host.starting ≠ none ∨ s.host.ending = true ∨ s.host.xfer ≠ none →
    c ∈ [Instr.fullReset .mailbox, .computeReset .mailbox, .dieReset die .mailbox] → ∃ u, exec c s = .next u ∧ u.host.reply = Rc.busy.code ∧
      u.power = s.power ∧ u.cores = s.cores ∧ u.mem = s.mem) ∧
  (∀ (s : State) (source : ResetSource), s.power.boot = .ready → s.power.holdup = 0 → (∀ r ∈ s.power.resets, r.compute = false) →
    (source = .mailbox ∧ s.mailboxUp = true ∧ s.host.starting = none ∧ s.ck.restoring = 0 ∧ s.host.ending = false ∧ s.power.restPhase ≠ 2 ∧
      s.host.xfer = none) ∨ (source = .restore ∧ s.ck.restoring = 1) → ∃ u, exec (.computeReset source) s = .next u ∧ u.power.state = .resetting ∧
      u.power.diesUp = 0 ∧ u.power.resets = [{ dies := List.range 8, compute := true, startedAt := s.now, thermal := false }] ∧
      u.power.computeCount = s.power.computeCount + 1 ∧ u.power.lastKind = 2 ∧ u.power.lastSource = source ∧
      (∀ k q, k < 1024 → (s.queue k q).active = true → (u.queue k q).halted = true) ∧
      (source = .mailbox → s.host.job = .running → u.host.job = .halted) ∧ (source = .restore → u.host.job = s.host.job) ∧ u.fuses = s.fuses) ∧
  (∀ (s : State) (die : Nat) (source : ResetSource), die < 8 → s.power.boot = .ready → s.power.holdup = 0 → s.power.resets = [] →
    source = .firmware ∨ (source = .mailbox ∧ s.mailboxUp = true ∧ s.host.starting = none ∧ s.ck.restoring = 0 ∧ s.host.ending = false ∧
      s.power.restPhase ≠ 2 ∧ s.host.xfer = none) → ∃ u, exec (.dieReset die source) s = .next u ∧
      u.power.resets = [{ dies := [die], startedAt := s.now }] ∧ u.power.diesUp.getLsbD die = false ∧
      (∀ d, d < 8 → d ≠ die → u.power.diesUp.getLsbD d = s.power.diesUp.getLsbD d) ∧ u.power.dieCount = s.power.dieCount + 1 ∧ u.power.lastKind = 3 ∧
      u.power.lastDie = die ∧ (∀ k q, coreDie k = die → (s.queue k q).active = true → (u.queue k q).halted = true) ∧
      (source = .mailbox → s.host.job = .running → u.host.job = .halted) ∧ u.fuses = s.fuses) ∧
  (∀ (s : State) (r : ResetRun), s.power.resets = [r] → s.power.holdup = 0 →
    (r.phase = 1 → s.copyIntact = true → ∃ u, exec .computeRailsOff s = .next u ∧
      (r.thermal = false → u.power.resets = [{ r with phase := 3, wavesDone := 0 }] ∧ u.power.state = s.power.state) ∧
      (r.thermal = true → u.power.resets = [{ r with phase := 2, wavesDone := 0 }] ∧ u.power.state = .thermalHold) ∧ u.cores = s.cores ∧ u.mem = s.mem) ∧
    (r.phase ≠ 1 → exec .computeRailsOff s = .next s) ∧
    (∀ hottest : Int, r.phase = 2 → s.power.state = .thermalHold → hottest ≤ 85 → ∃ u, exec (.thermalHoldExit hottest) s = .next u ∧
      u.power.resets = [{ r with phase := 3, thermal := false }] ∧ (s.power.boot = .ready → u.power.state = .resetting) ∧ u.cores = s.cores ∧ u.mem = s.mem) ∧
    (∀ hottest : Int, 85 < hottest → exec (.thermalHoldExit hottest) s = .next s) ∧
    (r.phase = 3 → r.wavesDone = 8 → s.ck.restoring = 0 → s.host.starting = none → ∃ u, exec .resetWavesDone s = .next u ∧ u.power.resets = [] ∧
      (∀ d ∈ r.dies, d < 8 → u.power.diesUp.getLsbD d = true) ∧ (r.compute = true → u.power.state = .ready) ∧
      (r.compute = false → u.power.state = s.power.state) ∧ u.cores = s.cores ∧ u.mem = s.mem) ∧
    (r.wavesDone < 8 → exec .resetWavesDone s = .next s)) ∧
  (∀ (s : State) (die : Nat) (junction : Int), (junction < 110 → exec (.thermalTrip die junction) s = .next s) ∧
    (die < 8 → 110 ≤ junction → s.power.holdup = 0 → s.power.boot = .ready → (∀ r ∈ s.power.resets, r.compute = false) →
      ∃ u, exec (.thermalTrip die junction) s = .next u ∧ u.power.trips = s.power.trips + 1 ∧ u.power.state = .resetting ∧ u.power.diesUp = 0 ∧
        u.power.resets = [{ dies := List.range 8, compute := true, startedAt := s.now, thermal := true }])) ∧
  (∀ (s : State), (s.power.resetNLow ≠ none → exec .resetNLow s = .next s) ∧
    (s.power.resetNLow = none → s.power.holdup = 0 → s.power.resetHeld = false → s.power.boot ≠ .off → s.power.boot ≠ .charging →
      ∃ u, exec .resetNLow s = .next u ∧ u.power.resetNLow = some s.now ∧ u.power.boot = .standby ∧ u.power.full = true ∧ u.cores = []) ∧
    (s.power.resetNLow ≠ none → s.power.resetHeld = false → s.power.boot ≠ .off → s.power.holdup = 0 → ∃ u, exec .resetNHeld s = .next u ∧
      u.power.resetHeld = true ∧ u.power.boot = .charging ∧ u.power.lastKind = 0 ∧ u.power.lastSource = .resetInput ∧ u.cores = [] ∧ u.mem = []) ∧
    exec .resetNRelease s = .next { s with power := { s.power with resetNLow := none, resetHeld := false } })

/-- An overcurrent opens the switch and latches the fault; a lost or overvolted input starts hold-up and stops issue; hold-up then throttles, flushes, drops the rails and opens the switch. Below 50 V the input is reported low and power capped. An edge die at 110 °C is a FAULT with the rails off, a die at 105 °C runs at 0.90 G tokens/s. REST switches the compute domains out unless a job runs, WAKE and its eighth wave bring them back. PERST_N and a lost link take CXL down; it comes up with a reference and PERST_N high. (R563, R564, R566, R587, R589, R591, R592, R594, R595, R602, R608) -/
def Obligations.InputAndRest : Prop :=
  (∀ (s : State) (x : Nat), (x ≤ 100000 → exec (.overcurrent x) s = .next s) ∧
    (100000 < x → s.power.boot ≠ .off → s.power.switchOpen = false → ∃ u, exec (.overcurrent x) s = .next u ∧ u.power.switchOpen = true ∧
      u.power.faultLatched = true ∧ u.power.faultN = false ∧ u.cores = s.cores ∧ u.mem = s.mem) ∧
    (x < 10000 → ∃ u, exec (.faultLatchClear x) s = .next u ∧ u.power.faultLatched = (s.power.faultLatched && s.power.latchThermal) ∧
      u.cores = s.cores ∧ u.mem = s.mem) ∧
    (46000 ≤ x → x < 50000 → s.power.boot ≠ .off → s.power.holdup = 0 → ∃ u, exec (.inputLow x) s = .next u ∧ u.power.inputLow = true ∧
      u.power.powerCap = true ∧ u.power.throttleN = false ∧ u.power.vin = x / 10 ∧ u.cores = s.cores ∧ u.mem = s.mem) ∧
    (50000 ≤ x → s.power.boot ≠ .off → s.power.holdup = 0 → ∃ u, exec (.inputLowClear x) s = .next u ∧ u.power.inputLow = false ∧
      u.power.powerCap = false ∧ u.power.vin = x / 10 ∧ u.cores = s.cores ∧ u.mem = s.mem)) ∧
  (∀ (s : State) (mv : Nat) (c : Instr), c = .inputLoss mv ∧ mv < 46000 ∨ c = .overvoltage mv ∧ 63000 < mv → s.power.boot ≠ .off →
    s.power.boot ≠ .charging → s.power.holdup = 0 → ∃ u, exec c s = .next u ∧ u.power.holdup = 1 ∧ u.power.state = .holdup ∧
      u.power.stopIssue = true ∧ u.power.resets = [] ∧ u.power.vin = mv / 10 ∧ u.recorder.criticalOnly = true ∧ u.torus.sources = [] ∧
      (c = .overvoltage mv → u.power.switchOpen = true)) ∧
  (∀ (s : State), (s.power.holdup = 1 → ∃ u, exec .holdupThrottled s = .next u ∧ u.power.holdup = 2 ∧ u.power.boot = s.power.boot ∧ u.cores = s.cores) ∧
    (s.power.holdup = 2 → ∃ u, exec .holdupFlushDone s = .next u ∧ u.power.holdup = 3 ∧ u.power.boot = .off ∧ u.mem = [] ∧ u.cores = [] ∧
      u.fuses = s.fuses ∧ u.flash = s.flash) ∧
    (s.power.holdup = 3 → ∃ u, exec .holdupRailsOff s = .next u ∧ u.power.holdup = 4 ∧ u.power.switchOpen = true ∧ u.power.vbulk < 4080)) ∧
  (∀ (s : State) (die : Nat) (j : Int), (die = 8 ∨ die = 9 → 110 ≤ j → s.power.boot ≠ .off → s.power.holdup = 0 →
      ∃ u, exec (.edgeThermalShutdown die j) s = .next u ∧ u.power.state = .fault ∧ u.power.boot = .off ∧ u.power.faultLatched = true ∧
        u.power.latchThermal = true ∧ u.power.hotDie = die ∧ u.power.hotC = j ∧ u.mem = [] ∧ u.cores = [] ∧ u.fuses = s.fuses) ∧
    (die < 8 → 105 ≤ j → j < 110 → ∃ u, exec (.thermalThrottle die j) s = .next u ∧ (u.governors.at die).working = 90000 ∧
      (u.governors.at die).thermalLimited = true ∧ u.power.thermalCapped = true ∧ (∀ d, d ≠ die → u.governors.at d = s.governors.at d) ∧ u.cores = s.cores ∧ u.mem = s.mem) ∧
    (j < 105 → exec (.thermalThrottle die j) s = .next s ∧ exec (.edgeThermalShutdown die j) s = .next s)) ∧
  (∀ (s : State), s.mailboxUp = true →
    (s.jobBusy = false → s.power.state = .ready → s.host.job ≠ .running → s.host.job ≠ .restoring → ∃ u, exec .rest s = .next u ∧
      u.power.state = .rest ∧ u.power.restPhase = 1 ∧ u.power.diesUp = 0 ∧ u.host.reply = Rc.success.code ∧ u.host.job = s.host.job ∧ u.mem = s.mem) ∧
    (s.jobBusy = false → s.host.job = .running → ∃ u, exec .rest s = .next u ∧ u.host.reply = Rc.invalidInput.code ∧ u.host.lastCause = Cause.planReject ∧
      u.power = s.power ∧ u.cores = s.cores ∧ u.mem = s.mem) ∧
    (s.jobBusy = false → s.power.restPhase = 1 → ∃ u, exec .wake s = .next u ∧ u.power.restPhase = 2 ∧ u.power.wakeWaves = 0 ∧
      u.host.reply = Rc.success.code ∧ u.cores = s.cores ∧ u.mem = s.mem)) ∧
  (∀ (s : State), s.power.restPhase = 2 → s.power.holdup = 0 →
    (s.power.wakeWaves < 7 → ∃ u, exec .wakeWave s = .next u ∧ u.power.wakeWaves = s.power.wakeWaves + 1 ∧ u.power.state = s.power.state ∧
      u.cores = s.cores ∧ u.mem = s.mem) ∧
    (s.power.wakeWaves = 7 → s.host.starting = none → ∃ u, exec .wakeWave s = .next u ∧ u.power.restPhase = 0 ∧ u.power.state = .ready ∧
      (∀ d, d < 8 → (∀ r ∈ s.power.resets, d ∉ r.dies) → u.power.diesUp.getLsbD d = true) ∧ u.cores = s.cores ∧ u.mem = s.mem)) ∧
  (∀ (s : State), (∃ u, exec .perstN s = .next u ∧ u.power = { s.power with perstLow := true } ∧ u.host.cxlUp = false) ∧
    (∃ u, exec .cxlLinkDown s = .next u ∧ u.power = s.power ∧ u.host.cxlUp = false ∧ ((∀ c ∈ s.cores, c.2.xf.open_ = []) → u.cores = s.cores ∧ u.mem = s.mem)) ∧
    exec .perstNDeassert s = .next { s with power := { s.power with perstLow := false } } ∧
    (∀ (present : Bool) (ppm : Int), exec (.refclkChange present ppm) s =
      .next { s with power := { s.power with refclkOk := present && decide (-300 ≤ ppm) && decide (ppm ≤ 300) } }) ∧
    (s.power.perstLow = true ∨ s.power.refclkOk = false → exec .cxlLinkUp s = .next s) ∧
    (s.power.boot = .ready → s.power.holdup = 0 → s.power.refclkOk = true → s.power.perstLow = false →
      exec .cxlLinkUp s = .next { s with host := { s.host with cxlUp := true } }))

/-- While the standby domain is powered, a private read returns 64 bytes of the PWR block from its offset, and ones elsewhere while the edge domain is unpowered; the key 0xC3A5 arms the target, and within 100 ms of it a Cold reset, a Full reset or a wake acts and disarms; without it none does. A target without a dynamic address takes one by ENTDAA or, by its static address, SETDASA, RSTDAA gives it up, and the direct CCCs answer their lengths. Unpowered it answers nothing. (R569, R581, R589, R610, R650, R651) -/
def Obligations.I3cTarget : Prop :=
  (∀ (s : State) (c : Instr) (k : Nat), s.standbyOn = false →
    c ∈ [Instr.i3cRead k, .i3cArm k, .i3cCold, .i3cFull, .i3cWake, .rstdaa, .setdasa k k, .entdaa k, .getpid, .getbcr, .getdcr, .getstatus, .getmxds] →
    exec c s = .next s) ∧
  (∀ (s : State) (offset : Nat), s.standbyOn = true →
    (0x100000 ≤ offset → offset + 64 ≤ 0x200000 → ∃ u, exec (.i3cRead offset) s = .next u ∧ u.host.i3cOffset = some offset ∧
      u.host.i3cOut = (List.range 16).flatMap (fun i => leBytes 4 (s.regRead (offset + 4 * i)).toNat) ∧ u.power = s.power ∧ u.cores = s.cores ∧ u.mem = s.mem) ∧
    (0x200000 ≤ offset → s.edgePowered = false → ∃ u, exec (.i3cRead offset) s = .next u ∧ u.host.i3cOffset = some offset ∧
      u.host.i3cOut = List.replicate 64 0xFF ∧ u.power = s.power ∧ u.cores = s.cores ∧ u.mem = s.mem)) ∧
  (∀ (s : State), s.standbyOn = true → exec (.i3cArm 0xC3A5) s = .next { s with host := { s.host with i3cArmedAt := some s.now } } ∧
    (∀ key, key ≠ 0xC3A5 → exec (.i3cArm key) s = .next s) ∧
    ((∀ t, s.host.i3cArmedAt = some t → t + 100000000 < s.now) → exec .i3cCold s = .next s ∧ exec .i3cFull s = .next s ∧ exec .i3cWake s = .next s)) ∧
  (∀ (s : State) (t : Nat), s.standbyOn = true → s.host.i3cArmedAt = some t → s.now ≤ t + 100000000 →
    (s.power.holdup = 0 → ∃ u, exec .i3cCold s = .next u ∧ u.power.boot = .off ∧ u.power.switchOpen = true ∧ u.power.lastKind = 0 ∧
      u.power.lastSource = .i3c ∧ u.power.coldAsked = true ∧ u.host.i3cArmedAt = none ∧ u.cores = [] ∧ u.mem = [] ∧ u.fuses = s.fuses) ∧
    (s.power.holdup = 0 → s.power.resetHeld = false → s.power.boot ≠ .off → s.power.boot ≠ .charging → ∃ u, exec .i3cFull s = .next u ∧
      u.power.boot = .standby ∧ u.power.full = true ∧ u.power.lastKind = 1 ∧ u.power.lastSource = .i3c ∧ u.host.i3cArmedAt = none ∧ u.cores = [] ∧
      u.fuses = s.fuses) ∧
    (s.power.restPhase = 1 → ∃ u, exec .i3cWake s = .next u ∧ u.power.restPhase = 2 ∧ u.power.wakeWaves = 0 ∧ u.host.i3cArmedAt = none ∧
      u.cores = s.cores ∧ u.mem = s.mem)) ∧
  (∀ (s : State) (addr : Nat), s.standbyOn = true →
    exec .rstdaa s = .next { s with host := { s.host with i3cAddr := none } } ∧
    (s.host.i3cAddr = none →
      exec (.setdasa (0x40 + s.power.slot % 16) addr) s = .next { s with host := { s.host with i3cAddr := some (addr % 128) } } ∧
      exec (.entdaa addr) s = .next { s with host := { s.host with i3cAddr := some (addr % 128) } } ∧
      (∀ a, a ≠ 0x40 + s.power.slot % 16 → exec (.setdasa a addr) s = .next s)) ∧
    (s.host.i3cAddr ≠ none → exec (.setdasa addr addr) s = .next s ∧ exec (.entdaa addr) s = .next s) ∧
    (∀ (c : Instr) (n : Nat), (c, n) ∈ [(Instr.getpid, 6), (.getbcr, 1), (.getdcr, 1), (.getstatus, 2), (.getmxds, 2)] →
      (s.host.i3cAddr ≠ none → ∃ u, exec c s = .next u ∧ u.host.i3cOut.length = n ∧ u.host = { s.host with i3cOut := u.host.i3cOut } ∧
        u.power = s.power ∧ u.cores = s.cores ∧ u.mem = s.mem) ∧
      (s.host.i3cAddr = none → exec c s = .next s)))

/-- A first part that nothing refuses erases the slot and opens the transfer; one that a rule refuses answers its code and cause and writes no flash: with the owner lock Invalid Security State, with a job Busy. A further part at its slot and offset extends the open transfer, another is out of order. The last part, or a part that is the whole image, seals the slot when the image is whole and otherwise closes the transfer with the slot unusable. Abort and 30 s without a part close it. ACTIVATE writes a boot record for a trial of a good slot; FW_CONFIRM ends the trial and raises the rollback fuses; a trial of 10 min ends in a Full reset. (R617, R623, R624, R625, R626, R627, R628) -/
def Obligations.TransfersAndTrials : Prop :=
  (∀ (s : State) (fw : Bool) (slot offset : Nat) (bytes : List Byte) (content : Image) (c d : Instr), s.mailboxUp = true →
    c = (if fw then .transferFwInitiate slot offset bytes else .cfgTransferInitiate slot offset bytes) →
    d = (if fw then .transferFwFull slot offset bytes else .cfgTransferFull slot offset bytes content) →
    (s.flash.security.ownerLock = true → s.firstRefusal fw slot offset bytes = some (.securityState, Cause.authFail)) ∧
    (s.flash.security.ownerLock = false → s.host.job = .running → s.firstRefusal fw slot offset bytes = some (.busy, Cause.planReject)) ∧
    (∀ rc cause, s.firstRefusal fw slot offset bytes = some (rc, cause) →
      (∃ u, exec c s = .next u ∧ u.host.reply = rc.code ∧ u.host.lastCause = cause ∧ u.flash = s.flash ∧ u.host.xfer = s.host.xfer ∧ u.cores = s.cores ∧ u.mem = s.mem) ∧
      (∃ u, exec d s = .next u ∧ u.host.reply = rc.code ∧ u.host.lastCause = cause ∧ u.flash = s.flash ∧ u.host.xfer = s.host.xfer ∧ u.cores = s.cores ∧ u.mem = s.mem)) ∧
    (s.firstRefusal fw slot offset bytes = none →
      (∃ u, exec c s = .next u ∧ u.host.reply = Rc.success.code ∧ u.host.xfer = some ⟨fw, slot, bytes.length, s.now, bytes.take 4096⟩ ∧
        (fw = true → (u.fwSlotOf (slot == 2)).header = false ∧ u.fwSlotOf (slot != 2) = s.fwSlotOf (slot != 2)) ∧
        (fw = false → (u.cfgSlotOf (slot == 2)).header = false ∧ u.cfgSlotOf (slot != 2) = s.cfgSlotOf (slot != 2)) ∧ u.cores = s.cores ∧ u.mem = s.mem) ∧
      (∀ x, (s.openTransfer fw slot bytes).host.xfer = some x →
        ((s.openTransfer fw slot bytes).imageWhole fw x = 0 → ∃ u, exec d s = .next u ∧ u.host.reply = Rc.success.code ∧ u.host.xfer = none ∧
          (fw = true → (u.fwSlotOf (slot == 2)).header = true ∧ u.host.fwReady = true) ∧
          (fw = false → (u.cfgSlotOf (slot == 2)).header = true ∧ (u.cfgSlotOf (slot == 2)).content = some content) ∧ u.cores = s.cores ∧ u.mem = s.mem) ∧
        ((s.openTransfer fw slot bytes).imageWhole fw x ≠ 0 → ∃ u, exec d s = .next u ∧ u.host.reply = Rc.invalidInput.code ∧
          u.host.lastCause = (s.openTransfer fw slot bytes).imageWhole fw x ∧ u.host.xfer = none ∧
          (fw = true → (u.fwSlotOf (slot == 2)).header = false) ∧ (fw = false → (u.cfgSlotOf (slot == 2)).header = false) ∧ u.cores = s.cores ∧ u.mem = s.mem)))) ∧
  (∀ (s : State) (fw : Bool) (slot offset : Nat) (bytes : List Byte) (content : Image) (c d : Instr), s.mailboxUp = true →
    c = (if fw then .transferFwContinue slot offset bytes else .cfgTransferContinue slot offset bytes) →
    d = (if fw then .transferFwEnd slot offset bytes else .cfgTransferEnd slot offset bytes content) →
    (s.openPart fw slot offset = none →
      (∃ u, exec c s = .next u ∧ u.host.reply = Rc.transferOutOfOrder.code ∧ u.flash = s.flash ∧ u.host.xfer = s.host.xfer ∧ u.cores = s.cores ∧ u.mem = s.mem) ∧
      (s.updateRefusal = none → ∃ u, exec d s = .next u ∧ u.host.reply = Rc.transferOutOfOrder.code ∧ u.flash = s.flash ∧ u.host.xfer = s.host.xfer ∧ u.mem = s.mem)) ∧
    (∀ x, s.openPart fw slot offset = some x → x.sum + bytes.length ≤ slotSize fw →
      (∃ u y, exec c s = .next u ∧ u.host.reply = Rc.success.code ∧ u.host.xfer = some y ∧ y.sum = x.sum + bytes.length ∧ y.slot = x.slot ∧ y.lastAt = s.now ∧
        y.head = x.head ++ bytes.take (4096 - x.sum) ∧ u.cores = s.cores ∧ u.mem = s.mem) ∧
      (∀ y, s.updateRefusal = none → (s.addPart fw x bytes).host.xfer = some y → slot = 1 ∨ slot = 2 →
        ((s.addPart fw x bytes).imageWhole fw y = 0 → ∃ u, exec d s = .next u ∧ u.host.reply = Rc.success.code ∧ u.host.xfer = none ∧
          (fw = true → (u.fwSlotOf (slot == 2)).header = true ∧ u.host.fwReady = true) ∧
          (fw = false → (u.cfgSlotOf (slot == 2)).header = true ∧ (u.cfgSlotOf (slot == 2)).content = some content) ∧ u.cores = s.cores ∧ u.mem = s.mem) ∧
        ((s.addPart fw x bytes).imageWhole fw y ≠ 0 → ∃ u, exec d s = .next u ∧ u.host.reply = Rc.invalidInput.code ∧
          u.host.lastCause = (s.addPart fw x bytes).imageWhole fw y ∧ u.host.xfer = none ∧ u.cores = s.cores ∧ u.mem = s.mem)))) ∧
  (∀ (s : State) (fw : Bool) (c : Instr), s.mailboxUp = true → c = (if fw then .transferFwAbort else .cfgTransferAbort) →
    (∀ x, s.host.xfer = some x → x.firmware = fw → ∃ u, exec c s = .next u ∧ u.host.xfer = none ∧ u.host.reply = Rc.success.code ∧
      u.flash.fwA = s.flash.fwA ∧ u.flash.fwB = s.flash.fwB ∧ u.flash.cfgA = s.flash.cfgA ∧ u.flash.cfgB = s.flash.cfgB ∧ u.mem = s.mem) ∧
    (s.host.xfer = none → ∃ u, exec c s = .next u ∧ u.host.xfer = none ∧ u.host.reply = Rc.success.code ∧ u.flash = s.flash ∧ u.mem = s.mem)) ∧
  (∀ (s : State) (x : OpenXfer), s.host.xfer = some x →
    (x.lastAt + 30000000000 ≤ s.now → ∃ u, exec .transferIdleTimeout s = .next u ∧ u.host.xfer = none ∧ u.cores = s.cores ∧ u.mem = s.mem) ∧
    (s.now < x.lastAt + 30000000000 → exec .transferIdleTimeout s = .next s)) ∧
  (∀ (s : State) (slot : Nat), s.mailboxUp = true →
    (∃ u, exec (.activateFw slot true) s = .next u ∧ u.host.reply = Rc.unsupported.code ∧ u.flash = s.flash ∧ u.mem = s.mem) ∧
    (s.updateRefusal = none →
      (slot = s.activeSlot true → ∃ u, exec (.activateFw slot false) s = .next u ∧ u.host.reply = Rc.invalidSlot.code ∧ u.flash = s.flash ∧ u.mem = s.mem) ∧
      (slot = 1 ∨ slot = 2 → slot ≠ s.activeSlot true → s.fwSlotOk (slot == 2) = true → ∃ u, exec (.activateFw slot false) s = .next u ∧
        u.host.reply = Rc.success.code ∧ u.bootRecord.active = slot - 1 ∧ u.bootRecord.previous = b2n s.host.fwSlot ∧ u.bootRecord.trial = true ∧
        u.bootRecord.boots = 0 ∧ u.host.fwReady = false ∧ u.cores = s.cores ∧ u.mem = s.mem))) ∧
  (∀ (s : State), s.mailboxUp = true →
    (s.host.fwTrial = true → s.power.boot = .ready → s.holdupReady = true → 5200 ≤ s.power.vin → ∃ u, exec .fwConfirm s = .next u ∧
      u.host.reply = Rc.success.code ∧ u.host.fwTrial = false ∧ u.bootRecord.trial = false ∧ u.bootRecord.active = s.bootRecord.active ∧
      u.fuses = { s.fuses with rollback := max s.fuses.rollback (min (byteField (s.fwSlotOf s.host.fwSlot).bytes 12 4) 64) } ∧ u.mem = s.mem) ∧
    (s.host.fwTrial = false → ∃ u, exec .fwConfirm s = .next u ∧ u.host.lastCause = Cause.planReject ∧ u.fuses = s.fuses ∧ u.flash = s.flash ∧ u.mem = s.mem)) ∧
  (∀ (s : State), (s.host.fwTrial = false → exec .trialTimeout s = .next s) ∧
    (s.host.fwTrial = true → s.host.trialAt + 600000000000 ≤ s.now → s.power.boot ≠ .off → s.power.boot ≠ .charging → s.power.holdup = 0 →
      s.power.resetHeld = false → ∃ u, exec .trialTimeout s = .next u ∧ u.power.boot = .standby ∧ u.power.full = true ∧ u.power.lastKind = 1 ∧
        u.power.lastSource = .firmware ∧ u.cores = []))

/-- Each standard command answers what it is asked: firmware slots and revisions, the timestamp, the one log and its 21 entries; an opcode that the mailbox does not support returns Unsupported. JOB_START begins a waiting job whose links are ready, at step 0, and keeps another waiting; JOB_STOP ends a halted job at once and a running one after its step. CFG_INFO shows both slots. The data object exchange lists its three protocols, and the CDAT bytes sum to 0. (R630, R631, R632, R633, R647, R648) -/
def Obligations.MailboxAnswers : Prop :=
  (∀ (s : State), s.mailboxUp = true →
    (∃ u, exec .getFwInfo s = .next u ∧ u.host.reply = Rc.success.code ∧ u.host.output.length = 80 ∧
      u.host.output.take 2 = [2, BitVec.ofNat 8 (s.activeSlot true + 8 * (if s.bootRecord.trial then s.bootRecord.active + 1 else 0))] ∧
      (u.host.output.drop 16).take 32 = s.flash.fwA.revision ++ s.flash.fwB.revision ∧ u.flash = s.flash ∧ u.cores = s.cores ∧ u.mem = s.mem) ∧
    (∃ u, exec .getTimestamp s = .next u ∧ u.host.reply = Rc.success.code ∧ u.host.output = leBytes 8 s.host.timestamp.toNat ∧ u.cores = s.cores ∧ u.mem = s.mem) ∧
    (∀ v, ∃ u, exec (.setTimestamp v) s = .next u ∧ u.host.reply = Rc.success.code ∧ u.host.timestamp = v ∧
      u.recorder = s.recorder.offer s.now { type := 0x0001, payload := leBytes 8 v.toNat } ∧ u.cores = s.cores ∧ u.mem = s.mem) ∧
    (∃ u, exec .getSupportedLogs s = .next u ∧ u.host.reply = Rc.success.code ∧
      u.host.output = leBytes 2 1 ++ zeros 6 ++ celUuid ++ leBytes 4 (4 * opcodes.length) ∧ u.cores = s.cores ∧ u.mem = s.mem) ∧
    (∃ u, exec .getLog s = .next u ∧ u.host.reply = Rc.success.code ∧ u.host.output.length = 4 * opcodes.length ∧
      (∀ i op, opcodes[i]? = some op → (u.host.output.drop (4 * i)).take 2 = leBytes 2 op) ∧ u.cores = s.cores ∧ u.mem = s.mem) ∧
    (∀ op, (op ∉ opcodes → ∃ u, exec (.unsupportedOpcode op) s = .next u ∧ u.host.reply = Rc.unsupported.code ∧ u.flash = s.flash ∧ u.power = s.power ∧
        u.cores = s.cores ∧ u.mem = s.mem) ∧
      (op ∈ opcodes → exec (.unsupportedOpcode op) s = .next s)) ∧
    (∃ u, exec .cfgInfo s = .next u ∧ u.host.reply = Rc.success.code ∧ u.host.output = zeros 4 ++ (s.flash.cfgA.info ++ s.flash.cfgB.info ++
        leBytes 4 (if s.image.isSome then s.activeSlot false else 0)) ∧ u.cores = s.cores ∧ u.mem = s.mem) ∧
    (∀ (i vendor type : Nat), (i, vendor, type) ∈ [(0, 0x0001, 0), (1, 0x0001, 1), (2, 0x1E98, 2)] → ∃ u, exec (.doeDiscovery i) s = .next u ∧
      u.host.doe = leBytes 2 vendor ++ leBytes 1 type ++ leBytes 1 ((i + 1) % 3) ∧ u.cores = s.cores ∧ u.mem = s.mem) ∧
    (∀ i, 3 ≤ i → ∃ u, exec (.doeDiscovery i) s = .next u ∧ u.host.doe.take 2 = [0xFF, 0xFF] ∧ u.mem = s.mem) ∧
    (∃ u, exec (.tableAccess 0) s = .next u ∧ u.host.doe.take 4 = [0, 0, 1, 0] ∧ u.host.doe.length = 20 ∧
      ((u.host.doe.drop 4) ++ s.dsmas).sum = 0 ∧ u.cores = s.cores ∧ u.mem = s.mem) ∧
    (∃ u, exec (.tableAccess 1) s = .next u ∧ u.host.doe = [0, 0, 0xFF, 0xFF] ++ s.dsmas ∧ u.cores = s.cores ∧ u.mem = s.mem)) ∧
  (∀ (s : State), s.mailboxUp = true →
    (s.jobBusy = true → (∃ u, exec .jobStart s = .next u ∧ u.host.reply = Rc.busy.code ∧ u.host.job = s.host.job ∧ u.cores = s.cores ∧ u.mem = s.mem) ∧
      (∃ u, exec .jobStop s = .next u ∧ u.host.reply = Rc.busy.code ∧ u.host.job = s.host.job ∧ u.cores = s.cores ∧ u.mem = s.mem)) ∧
    (s.jobBusy = false → s.host.job ≠ .waitStart → ∃ u, exec .jobStart s = .next u ∧ u.host.lastCause = Cause.planReject ∧ u.host.job = s.host.job ∧
      u.cores = s.cores ∧ u.mem = s.mem) ∧
    (s.jobBusy = false → s.host.job = .waitStart → s.linksReady = true → s.power.state = .ready → s.ck.claiming = none → s.img.startRestore = false →
      s.wantsPartner = false → ∃ u, exec .jobStart s = .next u ∧ u.host.reply = Rc.success.code ∧ u.host.job = .running ∧ u.host.starting = none ∧
        u.gate.step = 0 ∧ u.ck.dataCursor = 0 ∧ u.power.stopIssue = false) ∧
    (s.jobBusy = false → s.host.job = .waitStart → s.linksReady = false → ∃ u, exec .jobStart s = .next u ∧ u.host.reply = Rc.success.code ∧
      u.host.job = .waitStart ∧ u.host.starting = some s.now ∧ u.cores = s.cores ∧ u.mem = s.mem) ∧
    (s.jobBusy = false → s.host.job = .halted → ∃ u, exec .jobStop s = .next u ∧ u.host.reply = Rc.success.code ∧ u.host.job = .ended ∧
      (∀ c q, (u.queue c q).active = false)) ∧
    (s.jobBusy = false → s.host.job = .running → s.stepInProgress = true → ∃ u, exec .jobStop s = .next u ∧ u.host.reply = Rc.success.code ∧
      u.host.job = .running ∧ u.host.ending = true ∧ u.cores = s.cores ∧ u.mem = s.mem) ∧
    (s.jobBusy = false → s.host.job = .running → s.stepInProgress = false → (∀ t ∈ s.ck.targets, t.2.due = none) → ∃ u, exec .jobStop s = .next u ∧
      u.host.reply = Rc.success.code ∧ u.host.job = .ended ∧ (∀ c q, (u.queue c q).active = false)) ∧
    (s.jobBusy = false → s.host.job = .ended → ∃ u, exec .jobStop s = .next u ∧ u.host.lastCause = Cause.planReject ∧ u.host.job = .ended ∧
      u.cores = s.cores ∧ u.mem = s.mem))

/-- While the job runs, the intake unit takes the next expected buffer when its generation is there and its header fits, and each consumer counter advances by 1; a header that does not fit sets its flag once; the released count follows its counter. A PLAN record completes READY with the payload that lies in it. A consume up to an index frees the records before it and the slots of a PLAN ring, or is ignored with HOST_ERR set when it passes an open record. A register write acts by the access code of its register and nowhere else. (R12, R13, R634, R639, R643, R644, R645, R646) -/
def Obligations.IntakeAndResults : Prop :=
  (∀ (s : State) (ring : Nat) (c : RingCfg), s.img.rings[ring]? = some c →
    (s.host.job ≠ .running → exec (.intakePoll ring) s = .next s ∧ exec (.intakeRelease ring) s = .next s) ∧
    (s.host.job = .running → s.power.holdup = 0 → Safety.Clean s → ∀ (r : IntakeRing) (v : Intake), r = s.host.intake.at ring →
      v = RingCfg.judge c r (s.peek (s.bufAddr ring c r.next) 64) →
      (v = .waiting → (r.waiting = true → exec (.intakePoll ring) s = .next s) ∧ (r.waiting = false → ∃ u, exec (.intakePoll ring) s = .next u ∧
        (u.host.intake.at ring).waiting = true ∧ (u.host.intake.at ring).next = r.next ∧ u.cores = s.cores)) ∧
      (v = .skew → (r.skew = true → exec (.intakePoll ring) s = .next s) ∧ (r.skew = false → ∃ u, exec (.intakePoll ring) s = .next u ∧
        (u.host.intake.at ring).skew = true ∧ (u.host.intake.at ring).next = r.next ∧ u.cores = s.cores)) ∧
      (v = .badHeader → (r.badHeader = true → exec (.intakePoll ring) s = .next s) ∧ (r.badHeader = false → ∃ u, exec (.intakePoll ring) s = .next u ∧
        (u.host.intake.at ring).badHeader = true ∧ (u.host.intake.at ring).next = r.next ∧ u.cores = s.cores)) ∧
      (∀ gen, v = .taken gen → c.consumers.Nodup → ∃ u, exec (.intakePoll ring) s = .next u ∧ (u.host.intake.at ring).next = r.next + 1 ∧
        (u.host.intake.at ring).skew = false ∧ (u.host.intake.at ring).badHeader = false ∧ (u.host.intake.at ring).lastGen = max r.lastGen gen ∧
        (∀ k n, ((u.core k).counters.at n).value = ((s.core k).counters.at n).value + (if (k, n) ∈ c.consumers then 1 else 0)))) ∧
    (s.host.job = .running → ∀ (r : IntakeRing) (more : Nat), r = s.host.intake.at ring →
      more = (((s.core c.releaseCore).counters.at c.releaseCtr).value - r.relBase - BitVec.ofNat 32 r.released).toNat →
      (more = 0 → exec (.intakeRelease ring) s = .next s) ∧
      (1 ≤ more → more < 2 ^ 31 → ∃ u, exec (.intakeRelease ring) s = .next u ∧ (u.host.intake.at ring).released = r.released + more ∧
        (u.host.intake.at ring).next = r.next ∧ u.cores = s.cores))) ∧
  (∀ (s : State) (ring : Nat) (p : PlanRingCfg) (r : ResultRing), s.img.planRings.find? (fun p => p.ring == ring) = some p → r = s.host.rings.at ring →
    (r.oldestPending = none ∨ ((s.core p.core).counters.at p.written).value = r.ready → exec (.planRecordReady ring) s = .next s) ∧
    (∀ e, r.oldestPending = some e → ((s.core p.core).counters.at p.written).value ≠ r.ready →
      (((s.core p.core).counters.at p.written).value - r.ready).toNat < 2 ^ 31 → Safety.Clean s → ∃ u, exec (.planRecordReady ring) s = .next u ∧
        (u.host.rings.at ring).ready = r.ready + 1 ∧ (u.host.rings.at ring).recs = r.recs.map (fun x => if x.index = e.index then { x with state := 2 } else x) ∧
        (u.host.rings.at ring).issued = r.issued ∧ (u.host.rings.at ring).consumed = r.consumed ∧ (∀ k, k ≠ ring → u.host.rings.at k = s.host.rings.at k) ∧
        u.cores = s.cores)) ∧
  (∀ (s : State) (ring : Nat) (value : Word) (r : ResultRing) (n : Nat), s.barUp = true → ring < 16 → r = s.host.rings.at ring → n = (value - r.consumed).toNat →
    (2 ^ 31 ≤ n ∨ r.passesOpen n = true → exec (.resConsumedWrite ring value) s = .next { s with host := { s.host with hostErr := true } }) ∧
    (n < 2 ^ 31 → r.passesOpen n = false → ∃ u, exec (.resConsumedWrite ring value) s = .next u ∧ (u.host.rings.at ring).consumed = value ∧
      u.host.hostErr = s.host.hostErr ∧ (∀ k, k ≠ ring → u.host.rings.at k = s.host.rings.at k) ∧
      (∀ p, s.img.planRings.find? (fun p => p.ring == ring) = some p →
        ((u.core p.core).counters.at p.free).value = ((s.core p.core).counters.at p.free).value + BitVec.ofNat 32 n) ∧
      (s.img.planRings.find? (fun p => p.ring == ring) = none → u.cores = s.cores ∧ u.mem = s.mem ∧ (u.host.rings.at ring).issued = r.issued))) ∧
  (∀ (s : State) (value : Word), (∀ offset, s.barUp = false → exec (.registerWrite offset value) s = .next s) ∧
    (s.barUp = true →
      (∃ u, exec (.registerWrite 0x9010 value) s = .next u ∧ u.commit.sel = value.toNat % 2 ^ 12 ∧ u.commit.shards = s.commit.shards ∧ u.mem = s.mem) ∧
      (∃ u, exec (.registerWrite 0x301008 value) s = .next u ∧ u.torus = { s.torus with routeSel := value.toNat % 2 ^ 16 } ∧ u.mem = s.mem) ∧
      (∀ ring, ring < 16 → exec (.registerWrite (0x1000104 + 8 * ring) value) s = exec (.resConsumedWrite ring value) s) ∧
      (value.getLsbD 15 = true → exec (.registerWrite 0x1000000 value) s = exec .hostErrClear s) ∧
      exec (.registerWrite 0x1100014 value) s = exec (.alarmClear value) s ∧
      (∀ die off, die < 8 → off < 0x80000 → s.coreExists (cdCore die off) = true →
        (off % 0x1000 = 0x404 → exec (.registerWrite (0x800000 + 0x100000 * die + off) value) s = exec (.causeOrClear (cdCore die off) value) s) ∧
        (off % 0x1000 = 0x804 → exec (.registerWrite (0x800000 + 0x100000 * die + off) value) s = exec (.flagsOrClear (cdCore die off) value) s)) ∧
      (∀ offset, 0x100000 ≤ offset → offset < 0x300000 → exec (.registerWrite offset value) s = .next s)))

/-- The recorder accepts the next record with the next SEQ into the ring, whose oldest records leave when it is full, its bytes at their place in headstock SRAM; the first after a reset is a SEQ_MARK, and no SEQ beyond the reserved limit is used. Once the queue has drained below 128 the losses are recorded and counted anew. A pending critical record is appended to both mirrors, and a failed append sets MIRROR_FAULT. TELEMETRY copies its registers at each interval. REC_READ returns whole records from the SEQ asked for. (R653, R654, R655, R657, R659, R661, R663, R667, R669) -/
def Obligations.RecorderKeepsRecords : Prop :=
  (∀ (s : State), (s.recorderOn = false → exec .eventReport s = .next s ∧ exec .lost s = .next s ∧ ∀ a b, exec (.mirrorAppend a b) s = .next s) ∧
    (s.recorderOn = true →
      (s.recorder.firstMark = true → ∃ u x, exec .eventReport s = .next u ∧ u.recorder.ring.getLast? = some x ∧ x.type = 0x8006 ∧ x.seq = s.recorder.next ∧
        u.recorder.next = s.recorder.next + 1 ∧ u.recorder.firstMark = false ∧ u.recorder.input = s.recorder.input ∧ u.cores = s.cores) ∧
      (s.recorder.firstMark = false → s.seqFree = false → exec .eventReport s = .next s) ∧
      (s.recorder.firstMark = false → s.markDue = false → s.recorder.input = [] → exec .eventReport s = .next s) ∧
      (∀ e rest, s.recorder.firstMark = false → s.markDue = false → s.seqFree = true → s.recorder.input = e :: rest → e.type ≠ 0x8006 →
        e.payload.length ≤ 4096 → s.recorder.writeOff < ringSize → ∃ u x k, exec .eventReport s = .next u ∧
          u.recorder.ring = s.recorder.ring.drop k ++ [x] ∧ x.type = e.type ∧ x.seq = s.recorder.next ∧
          x.bytes = recordBytes e.type s.recorder.next s.now e.payload ∧ x.off = s.recorder.writeOff ∧ u.recorder.next = s.recorder.next + 1 ∧
          u.recorder.input = rest ++ s.recorder.waiting.take (256 - rest.length) ∧
          (s.tiers.wordErrs = [] → ∀ i, i < x.bytes.length → u.mem.byte (hsAddr ((x.off + i) % ringSize)) = x.bytes.getD i 0) ∧
          (∀ a, a < hsAddr 0 ∨ hsAddr ringSize ≤ a → u.mem.byte a = s.mem.byte a) ∧
          (u.recorder.toMirror = if critical e.type then s.recorder.toMirror ++ [x] else s.recorder.toMirror) ∧ u.flash = s.flash ∧ u.cores = s.cores))) ∧
  (∀ (s : State), s.recorderOn = true → (s.recorder.lostCount = 0 → exec .lost s = .next s) ∧
    (0 < s.recorder.lostCount → s.recorder.input.length < 128 → s.seqFree = true → s.recorder.firstMark = false → s.recorder.criticalOnly = false →
      ∃ u x, exec .lost s = .next u ∧ u.recorder.ring.getLast? = some x ∧ x.type = 0x0005 ∧ u.recorder.lostCount = 0 ∧
        u.recorder.next = s.recorder.next + 1 ∧ u.recorder.input = s.recorder.input ∧ u.cores = s.cores)) ∧
  (∀ (s : State) (x : RingRecord) (rest : List RingRecord), s.recorderOn = true → s.recorder.toMirror = x :: rest → x.type ≠ 0x8006 → s.power.holdup = 0 →
    mirrorHolds s.flash.mirror0 x = false → mirrorHolds s.flash.mirror1 x = false →
    (∃ u, exec (.mirrorAppend true true) s = .next u ∧ mirrorHolds u.flash.mirror0 x = true ∧ mirrorHolds u.flash.mirror1 x = true ∧
      u.recorder.toMirror = rest ∧ u.recorder.mirrorFault = false ∧ u.recorder.ring = s.recorder.ring ∧ u.cores = s.cores ∧ u.mem = s.mem) ∧
    (∃ u, exec (.mirrorAppend false false) s = .next u ∧ u.flash = s.flash ∧ u.recorder.toMirror = rest ∧ u.recorder.mirrorFault = true ∧ u.mem = s.mem)) ∧
  (∀ (s : State), s.image ≠ none → s.img.telemetry ≠ 0 → s.recorderOn = true →
    (s.now < s.recorder.telemetryAt + s.img.telemetry * 1000000000 → exec .telemetry s = .next s) ∧
    (s.recorder.telemetryAt + s.img.telemetry * 1000000000 ≤ s.now → s.recorder.criticalOnly = false → s.recorder.input.length < 256 →
      s.recorder.waiting = [] → ∃ u e, exec .telemetry s = .next u ∧ u.recorder.telemetryAt = s.now ∧ u.recorder.input = s.recorder.input ++ [e] ∧
        e.type = 0x00F0 ∧ e.payload.length = 4 * telemetryRegs.length ∧ u.mem = s.mem)) ∧
  (∀ (s : State) (source max : Nat) (from_ oldest newest start : Word), s.mailboxUp = true → (oldest, newest) = s.sourceEnds source →
    start = (if newer oldest from_ then oldest else from_) →
    (1 < source ∨ max < 16 ∨ 1048544 < max ∨ newer from_ (newest + 1) = true → ∃ u, exec (.recRead source from_ max) s = .next u ∧
      u.host.reply = Rc.invalidInput.code ∧ u.host.lastCause = Cause.planReject ∧ u.recorder = s.recorder ∧ u.mem = s.mem) ∧
    (source ≤ 1 → 16 ≤ max → max ≤ 1048544 → newer from_ (newest + 1) = false → ∃ u, exec (.recRead source from_ max) s = .next u ∧
      u.host.reply = Rc.success.code ∧ u.host.output.take 12 = zeros 4 ++ leBytes 4 oldest.toNat ++ leBytes 4 newest.toNat ∧
      u.host.output.drop 32 = (takeRecords max ((s.sourceRecords source).filter (fun x => !newer start x.seq))).flatMap (·.bytes) ∧
      u.recorder = s.recorder ∧ u.cores = s.cores ∧ u.mem = s.mem))

/-- Increments that arrive at one counter at the same moment all apply: the counter advances by their sum modulo 2^32, and no other counter changes. (R65) -/
def Obligations.CountersAddUp : Prop :=
  ∀ (c : CoreSt) (n : Nat) (incs : List Nat),
    ((incs.foldl (fun x k => x.advance n k) c).counters.at n).value = (c.counters.at n).value + BitVec.ofNat 32 incs.sum ∧
    (∀ m, m ≠ n → (incs.foldl (fun x k => x.advance n k) c).counters.at m = c.counters.at m)

/-- An MXINT8 element with code v, read as an 8-bit two's-complement integer, has the value v / 64; code 0x80 is accepted and has the value −2; a conversion writes −127/64 to +127/64 and never 0x80. (R104) -/
def Obligations.Mxint8Elements : Prop :=
  (∀ v : BitVec 8, ∃ neg m, decodeElem 8 v.toNat = .fin neg m (-6) ∧ (if neg then -(m : Int) else (m : Int)) = v.toInt) ∧
  decodeElem 8 0x80 = .fin true 128 (-6) ∧
  (∀ (keep : Bool) (r : Option Nat) (x : Val), (convElem 8 keep r x).bits < 256 ∧ (convElem 8 keep r x).bits ≠ 0x80 ∧
    -127 ≤ (BitVec.ofNat 8 (convElem 8 keep r x).bits).toInt ∧ (BitVec.ofNat 8 (convElem 8 keep r x).bits).toInt ≤ 127)

/-- A W36 value with sign s, exponent field E and fraction F is (−1)^s × 2^−510 × F / 2^25 when E is 0, (−1)^s × 2^(E − 511) × (1 + F / 2^25) when E is 1 to 1 022, an infinity of its sign when E is 1 023 and F is 0, and NaN when E is 1 023 and F is not 0. (R108) -/
def Obligations.W36Values : Prop :=
  ∀ (s : Bool) (E F : Nat), E < 1024 → F < 2 ^ 25 →
    decodeElem 10 ((if s then 2 ^ 35 else 0) + E * 2 ^ 25 + F) =
      if E = 0 then .fin s F (-510 - 25)
      else if E ≤ 1022 then .fin s (2 ^ 25 + F) (E - 511 - 25)
      else if F = 0 then .inf s else .nan

/-- A GENERAL slot takes a GCM encryption, which is counted, while fewer than 2^32 have run on it since it was loaded; from then on such a job ends COUNTER_EXHAUSTED and changes no slot and no memory, until the slot is reloaded. (R554) -/
def Obligations.GeneralSlotLimit : Prop :=
  (∀ (s : State) (engine : Nat) (desc : BitVec 512) (j : CipherJob) (k : KeySlot), s.wanExists engine = true → s.edgePowered = true →
    j = CipherJob.ofNat desc.toNat → j.op = 1 → j.mode = 3 → k = (s.engine engine).slots.at j.slot → k.key ≠ [] → k.usage = 3 → j.reservedZero = true →
    j.shapeOk = true → j.len ≤ j.limit 3 → s.jobRegions j false = true →
    (k.encryptions < 2 ^ 32 → Safety.Clean s → ∃ u, exec (.encrypt engine desc) s = .next u ∧
      (u.engine engine).slots.at j.slot = { k with encryptions := k.encryptions + 1 } ∧ (u.engine engine).jobs = (s.engine engine).jobs + 1 ∧
      (u.engine engine).lastFail = (s.engine engine).lastFail ∧ u.cores = s.cores) ∧
    (2 ^ 32 ≤ k.encryptions → ∃ u, exec (.encrypt engine desc) s = .next u ∧ (u.engine engine).lastFail = Cause.counterExhausted ∧
      (u.engine engine).slots = (s.engine engine).slots ∧ u.cores = s.cores ∧ u.mem = s.mem)) ∧
  (∀ (s : State) (engine slot : Nat) (l : SlotLoad), s.wanExists engine = true → s.edgePowered = true → slot < 48 → l.usage = 3 →
    l.key.length = 16 ∨ l.key.length = 32 → ∃ u, exec (.keySlotLoad engine slot l) s = .next u ∧
      ((u.engine engine).slots.at slot).key = l.key ∧ ((u.engine engine).slots.at slot).encryptions = 0)

/-- After reset no command waits, no byte of memory is listed, the input is off, no job and no image is loaded and no queue runs. (R569, R575, R582) -/
def Obligations.ResetIsCanonical : Prop :=
  Safety.Inv State.reset ∧ State.reset.mem = [] ∧ State.reset.pending = [] ∧ State.reset.power.boot = .off ∧ State.reset.host.job = .noJob ∧
  State.reset.image = none ∧ State.reset.cores = []

/-- From every state whose memory is in canonical form (addresses strictly rising, no byte 0 listed), whatever command is at the front of the queue, a step that answers a next state leaves memory in canonical form. (R9, R364, R379) -/
def Obligations.MemoryStaysCanonical : Prop :=
  ∀ (s t : State), Safety.Inv s → step s = .next t → Safety.Inv t
end

