-- ==== Sys2Proof/Laws/Tab.lean ====
section
/-! SUPPORT. Laws of sparse tables: a read after a write, and the canonical form that every change keeps. -/

namespace Sys2Proof.Machine

open Sys2Proof

namespace Tab

variable {α : Type}

@[simp] theorem find?_nil (k : Nat) : Tab.find? ([] : Tab α) k = none := rfl

@[simp] theorem find?_cons (k j : Nat) (v : α) (t : Tab α) :
    Tab.find? ((k, v) :: t) j = if k = j then some v else Tab.find? t j := rfl

theorem find?_append (t u : Tab α) (k : Nat) : Tab.find? (t ++ u) k = (Tab.find? t k).or (Tab.find? u k) := by
  induction t with
  | nil => simp
  | cons e t ih =>
    obtain ⟨j, v⟩ := e
    simp only [List.cons_append, find?_cons, ih]
    split <;> simp

/-- A filter that keeps every entry of a key keeps what the key finds; one that keeps none finds nothing. -/
theorem find?_filter (t : Tab α) (p : Nat × α → Bool) (q : Nat → Bool) (h : ∀ e, p e = q e.1) (k : Nat) :
    Tab.find? (t.filter p) k = if q k then Tab.find? t k else none := by
  induction t with
  | nil => simp
  | cons e t ih =>
    obtain ⟨j, v⟩ := e
    rw [List.filter_cons, h]
    by_cases hj : j = k
    · subst hj; by_cases hq : q j <;> simp [hq, ih]
    · by_cases hq : q j <;> simp [hq, ih, hj]

theorem find?_erase (t : Tab α) (k j : Nat) : Tab.find? (t.erase k) j = if j = k then none else Tab.find? t j := by
  unfold Tab.erase
  rw [find?_filter t _ (fun i => i != k) (fun e => rfl)]
  by_cases h : j = k <;> simp [h]

theorem find?_insert (t : Tab α) (k j : Nat) (v : α) :
    Tab.find? (t.insert k v) j = if j = k then some v else Tab.find? t j := by
  unfold Tab.insert
  rw [find?_append, find?_cons, find?_filter t _ (fun i => decide (i < k)) (fun e => rfl),
    find?_filter t _ (fun i => decide (k < i)) (fun e => rfl)]
  rcases Nat.lt_trichotomy j k with h | h | h
  · have h1 : k ≠ j := by omega
    have h2 : ¬ k < j := by omega
    have h3 : j ≠ k := by omega
    simp [h, h1, h2, h3]
  · subst h; simp
  · have h1 : k ≠ j := by omega
    have h2 : ¬ j < k := by omega
    have h3 : j ≠ k := by omega
    simp [h, h1, h2, h3]

@[simp] theorem at_nil [Inhabited α] (k : Nat) : Tab.at ([] : Tab α) k = default := rfl

/-- What a key holds after a key is set. -/
theorem at_set [Inhabited α] [DecidableEq α] (t : Tab α) (k j : Nat) (v : α) :
    Tab.at (t.set k v) j = if j = k then v else Tab.at t j := by
  unfold Tab.set Tab.at
  by_cases hv : v = default
  · rw [if_pos hv, find?_erase]; by_cases hj : j = k <;> simp [hj, hv]
  · rw [if_neg hv, find?_insert]; by_cases hj : j = k <;> simp [hj]

@[simp] theorem at_set_self [Inhabited α] [DecidableEq α] (t : Tab α) (k : Nat) (v : α) : Tab.at (t.set k v) k = v := by
  simp [at_set]

theorem at_set_ne [Inhabited α] [DecidableEq α] (t : Tab α) {k j : Nat} (v : α) (h : j ≠ k) :
    Tab.at (t.set k v) j = Tab.at t j := by
  simp [at_set, h]

@[simp] theorem at_upd_self [Inhabited α] [DecidableEq α] (t : Tab α) (k : Nat) (f : α → α) :
    Tab.at (t.upd k f) k = f (Tab.at t k) := by
  simp [Tab.upd]

theorem at_upd_ne [Inhabited α] [DecidableEq α] (t : Tab α) {k j : Nat} (f : α → α) (h : j ≠ k) :
    Tab.at (t.upd k f) j = Tab.at t j := by
  simp [Tab.upd, at_set_ne _ _ h]

/-! ## Canonical form -/

theorem wf_filter {t : Tab α} (p : Nat × α → Bool) (h : Tab.wf t) : Tab.wf (t.filter p) :=
  List.Pairwise.sublist (List.Sublist.map _ List.filter_sublist) h

theorem wf_erase {t : Tab α} (k : Nat) (h : Tab.wf t) : Tab.wf (t.erase k) := wf_filter _ h

/-- Two tables whose keys lie on either side of a bound. -/
theorem wf_append {t u : Tab α} (ht : Tab.wf t) (hu : Tab.wf u) (h : ∀ a ∈ t, ∀ b ∈ u, a.1 < b.1) : Tab.wf (t ++ u) := by
  unfold Tab.wf
  rw [List.map_append, List.pairwise_append]
  refine ⟨ht, hu, ?_⟩
  intro a ha b hb
  obtain ⟨x, hx, rfl⟩ := List.mem_map.1 ha
  obtain ⟨y, hy, rfl⟩ := List.mem_map.1 hb
  exact h x hx y hy

theorem wf_cons {t : Tab α} {k : Nat} {v : α} (ht : Tab.wf t) (h : ∀ e ∈ t, k < e.1) : Tab.wf ((k, v) :: t) := by
  unfold Tab.wf
  rw [List.map_cons, List.pairwise_cons]
  refine ⟨?_, ht⟩
  intro a ha
  obtain ⟨x, hx, rfl⟩ := List.mem_map.1 ha
  exact h x hx

theorem wf_insert {t : Tab α} (k : Nat) (v : α) (h : Tab.wf t) : Tab.wf (t.insert k v) := by
  unfold Tab.insert
  refine wf_append (wf_filter _ h) (wf_cons (wf_filter _ h) ?_) ?_
  · intro e he; simpa using (List.mem_filter.1 he).2
  · intro a ha b hb
    have h1 : a.1 < k := by simpa using (List.mem_filter.1 ha).2
    rcases List.mem_cons.1 hb with hb | hb
    · subst hb; exact h1
    · have h2 : k < b.1 := by simpa using (List.mem_filter.1 hb).2
      omega

theorem wf_set [Inhabited α] [DecidableEq α] {t : Tab α} (k : Nat) (v : α) (h : Tab.wf t) : Tab.wf (t.set k v) := by
  unfold Tab.set
  split
  · exact wf_erase k h
  · exact wf_insert k v h

theorem wf_upd [Inhabited α] [DecidableEq α] {t : Tab α} (k : Nat) (f : α → α) (h : Tab.wf t) : Tab.wf (t.upd k f) := wf_set _ _ h

end Tab

end Sys2Proof.Machine
end

