-- ==== Sys2Proof/Laws/State.lean ====
section
/-! SUPPORT. One lemma per field of State for each operation that changes one part of it, so that no proof unfolds a record
update; and what reading a core after changing one gives. -/

namespace Sys2Proof.Machine

open Sys2Proof

/-! ### draw -/

@[simp] theorem State.draw_pending (s : State) : (s.draw).pending = s.pending := rfl
@[simp] theorem State.draw_bus (s : State) : (s.draw).bus = s.bus := rfl
@[simp] theorem State.draw_mem (s : State) : (s.draw).mem = s.mem := rfl
@[simp] theorem State.draw_cores (s : State) : (s.draw).cores = s.cores := rfl
@[simp] theorem State.draw_clusters (s : State) : (s.draw).clusters = s.clusters := rfl
@[simp] theorem State.draw_governors (s : State) : (s.draw).governors = s.governors := rfl
@[simp] theorem State.draw_time (s : State) : (s.draw).time = s.time := rfl
@[simp] theorem State.draw_gate (s : State) : (s.draw).gate = s.gate := rfl
@[simp] theorem State.draw_commit (s : State) : (s.draw).commit = s.commit := rfl
@[simp] theorem State.draw_tiers (s : State) : (s.draw).tiers = s.tiers := rfl
@[simp] theorem State.draw_torus (s : State) : (s.draw).torus = s.torus := rfl
@[simp] theorem State.draw_wan (s : State) : (s.draw).wan = s.wan := rfl
@[simp] theorem State.draw_sites (s : State) : (s.draw).sites = s.sites := rfl
@[simp] theorem State.draw_round (s : State) : (s.draw).round = s.round := rfl
@[simp] theorem State.draw_ck (s : State) : (s.draw).ck = s.ck := rfl
@[simp] theorem State.draw_fuses (s : State) : (s.draw).fuses = s.fuses := rfl
@[simp] theorem State.draw_sec (s : State) : (s.draw).sec = s.sec := rfl
@[simp] theorem State.draw_engines (s : State) : (s.draw).engines = s.engines := rfl
@[simp] theorem State.draw_flash (s : State) : (s.draw).flash = s.flash := rfl
@[simp] theorem State.draw_power (s : State) : (s.draw).power = s.power := rfl
@[simp] theorem State.draw_host (s : State) : (s.draw).host = s.host := rfl
@[simp] theorem State.draw_recorder (s : State) : (s.draw).recorder = s.recorder := rfl
@[simp] theorem State.draw_image (s : State) : (s.draw).image = s.image := rfl
@[simp] theorem State.draw_copyGood (s : State) : (s.draw).copyGood = s.copyGood := rfl
@[simp] theorem State.draw_core (s : State) (k : Nat) : (s.draw).core k = s.core k := rfl
@[simp] theorem State.draw_queue (s : State) (k j : Nat) : (s.draw).queue k j = s.queue k j := rfl
@[simp] theorem State.draw_now (s : State)  : (s.draw).now = s.now := rfl
@[simp] theorem State.draw_img (s : State)  : (s.draw).img = s.img := rfl

/-! ### poke -/

@[simp] theorem State.poke_pending (s : State) (a : Nat) (bs : List Byte) : (s.poke a bs).pending = s.pending := rfl
@[simp] theorem State.poke_bus (s : State) (a : Nat) (bs : List Byte) : (s.poke a bs).bus = s.bus := rfl
@[simp] theorem State.poke_free (s : State) (a : Nat) (bs : List Byte) : (s.poke a bs).free = s.free := rfl
@[simp] theorem State.poke_cores (s : State) (a : Nat) (bs : List Byte) : (s.poke a bs).cores = s.cores := rfl
@[simp] theorem State.poke_clusters (s : State) (a : Nat) (bs : List Byte) : (s.poke a bs).clusters = s.clusters := rfl
@[simp] theorem State.poke_governors (s : State) (a : Nat) (bs : List Byte) : (s.poke a bs).governors = s.governors := rfl
@[simp] theorem State.poke_time (s : State) (a : Nat) (bs : List Byte) : (s.poke a bs).time = s.time := rfl
@[simp] theorem State.poke_gate (s : State) (a : Nat) (bs : List Byte) : (s.poke a bs).gate = s.gate := rfl
@[simp] theorem State.poke_commit (s : State) (a : Nat) (bs : List Byte) : (s.poke a bs).commit = s.commit := rfl
@[simp] theorem State.poke_tiers (s : State) (a : Nat) (bs : List Byte) : (s.poke a bs).tiers = s.tiers := rfl
@[simp] theorem State.poke_torus (s : State) (a : Nat) (bs : List Byte) : (s.poke a bs).torus = s.torus := rfl
@[simp] theorem State.poke_wan (s : State) (a : Nat) (bs : List Byte) : (s.poke a bs).wan = s.wan := rfl
@[simp] theorem State.poke_sites (s : State) (a : Nat) (bs : List Byte) : (s.poke a bs).sites = s.sites := rfl
@[simp] theorem State.poke_round (s : State) (a : Nat) (bs : List Byte) : (s.poke a bs).round = s.round := rfl
@[simp] theorem State.poke_ck (s : State) (a : Nat) (bs : List Byte) : (s.poke a bs).ck = s.ck := rfl
@[simp] theorem State.poke_fuses (s : State) (a : Nat) (bs : List Byte) : (s.poke a bs).fuses = s.fuses := rfl
@[simp] theorem State.poke_sec (s : State) (a : Nat) (bs : List Byte) : (s.poke a bs).sec = s.sec := rfl
@[simp] theorem State.poke_engines (s : State) (a : Nat) (bs : List Byte) : (s.poke a bs).engines = s.engines := rfl
@[simp] theorem State.poke_flash (s : State) (a : Nat) (bs : List Byte) : (s.poke a bs).flash = s.flash := rfl
@[simp] theorem State.poke_power (s : State) (a : Nat) (bs : List Byte) : (s.poke a bs).power = s.power := rfl
@[simp] theorem State.poke_host (s : State) (a : Nat) (bs : List Byte) : (s.poke a bs).host = s.host := rfl
@[simp] theorem State.poke_recorder (s : State) (a : Nat) (bs : List Byte) : (s.poke a bs).recorder = s.recorder := rfl
@[simp] theorem State.poke_image (s : State) (a : Nat) (bs : List Byte) : (s.poke a bs).image = s.image := rfl
@[simp] theorem State.poke_copyGood (s : State) (a : Nat) (bs : List Byte) : (s.poke a bs).copyGood = s.copyGood := rfl
@[simp] theorem State.poke_core (s : State) (a : Nat) (bs : List Byte) (k : Nat) : (s.poke a bs).core k = s.core k := rfl
@[simp] theorem State.poke_queue (s : State) (a : Nat) (bs : List Byte) (k j : Nat) : (s.poke a bs).queue k j = s.queue k j := rfl
@[simp] theorem State.poke_now (s : State) (a : Nat) (bs : List Byte) : (s.poke a bs).now = s.now := rfl
@[simp] theorem State.poke_img (s : State) (a : Nat) (bs : List Byte) : (s.poke a bs).img = s.img := rfl

/-! ### setCore -/

@[simp] theorem State.setCore_pending (s : State) (c : Nat) (x : CoreSt) : (s.setCore c x).pending = s.pending := rfl
@[simp] theorem State.setCore_bus (s : State) (c : Nat) (x : CoreSt) : (s.setCore c x).bus = s.bus := rfl
@[simp] theorem State.setCore_free (s : State) (c : Nat) (x : CoreSt) : (s.setCore c x).free = s.free := rfl
@[simp] theorem State.setCore_mem (s : State) (c : Nat) (x : CoreSt) : (s.setCore c x).mem = s.mem := rfl
@[simp] theorem State.setCore_clusters (s : State) (c : Nat) (x : CoreSt) : (s.setCore c x).clusters = s.clusters := rfl
@[simp] theorem State.setCore_governors (s : State) (c : Nat) (x : CoreSt) : (s.setCore c x).governors = s.governors := rfl
@[simp] theorem State.setCore_time (s : State) (c : Nat) (x : CoreSt) : (s.setCore c x).time = s.time := rfl
@[simp] theorem State.setCore_gate (s : State) (c : Nat) (x : CoreSt) : (s.setCore c x).gate = s.gate := rfl
@[simp] theorem State.setCore_commit (s : State) (c : Nat) (x : CoreSt) : (s.setCore c x).commit = s.commit := rfl
@[simp] theorem State.setCore_tiers (s : State) (c : Nat) (x : CoreSt) : (s.setCore c x).tiers = s.tiers := rfl
@[simp] theorem State.setCore_torus (s : State) (c : Nat) (x : CoreSt) : (s.setCore c x).torus = s.torus := rfl
@[simp] theorem State.setCore_wan (s : State) (c : Nat) (x : CoreSt) : (s.setCore c x).wan = s.wan := rfl
@[simp] theorem State.setCore_sites (s : State) (c : Nat) (x : CoreSt) : (s.setCore c x).sites = s.sites := rfl
@[simp] theorem State.setCore_round (s : State) (c : Nat) (x : CoreSt) : (s.setCore c x).round = s.round := rfl
@[simp] theorem State.setCore_ck (s : State) (c : Nat) (x : CoreSt) : (s.setCore c x).ck = s.ck := rfl
@[simp] theorem State.setCore_fuses (s : State) (c : Nat) (x : CoreSt) : (s.setCore c x).fuses = s.fuses := rfl
@[simp] theorem State.setCore_sec (s : State) (c : Nat) (x : CoreSt) : (s.setCore c x).sec = s.sec := rfl
@[simp] theorem State.setCore_engines (s : State) (c : Nat) (x : CoreSt) : (s.setCore c x).engines = s.engines := rfl
@[simp] theorem State.setCore_flash (s : State) (c : Nat) (x : CoreSt) : (s.setCore c x).flash = s.flash := rfl
@[simp] theorem State.setCore_power (s : State) (c : Nat) (x : CoreSt) : (s.setCore c x).power = s.power := rfl
@[simp] theorem State.setCore_host (s : State) (c : Nat) (x : CoreSt) : (s.setCore c x).host = s.host := rfl
@[simp] theorem State.setCore_recorder (s : State) (c : Nat) (x : CoreSt) : (s.setCore c x).recorder = s.recorder := rfl
@[simp] theorem State.setCore_image (s : State) (c : Nat) (x : CoreSt) : (s.setCore c x).image = s.image := rfl
@[simp] theorem State.setCore_copyGood (s : State) (c : Nat) (x : CoreSt) : (s.setCore c x).copyGood = s.copyGood := rfl
@[simp] theorem State.setCore_now (s : State) (c : Nat) (x : CoreSt) : (s.setCore c x).now = s.now := rfl
@[simp] theorem State.setCore_img (s : State) (c : Nat) (x : CoreSt) : (s.setCore c x).img = s.img := rfl

/-! ### modCore -/

@[simp] theorem State.modCore_pending (s : State) (c : Nat) (f : CoreSt → CoreSt) : (s.modCore c f).pending = s.pending := rfl
@[simp] theorem State.modCore_bus (s : State) (c : Nat) (f : CoreSt → CoreSt) : (s.modCore c f).bus = s.bus := rfl
@[simp] theorem State.modCore_free (s : State) (c : Nat) (f : CoreSt → CoreSt) : (s.modCore c f).free = s.free := rfl
@[simp] theorem State.modCore_mem (s : State) (c : Nat) (f : CoreSt → CoreSt) : (s.modCore c f).mem = s.mem := rfl
@[simp] theorem State.modCore_clusters (s : State) (c : Nat) (f : CoreSt → CoreSt) : (s.modCore c f).clusters = s.clusters := rfl
@[simp] theorem State.modCore_governors (s : State) (c : Nat) (f : CoreSt → CoreSt) : (s.modCore c f).governors = s.governors := rfl
@[simp] theorem State.modCore_time (s : State) (c : Nat) (f : CoreSt → CoreSt) : (s.modCore c f).time = s.time := rfl
@[simp] theorem State.modCore_gate (s : State) (c : Nat) (f : CoreSt → CoreSt) : (s.modCore c f).gate = s.gate := rfl
@[simp] theorem State.modCore_commit (s : State) (c : Nat) (f : CoreSt → CoreSt) : (s.modCore c f).commit = s.commit := rfl
@[simp] theorem State.modCore_tiers (s : State) (c : Nat) (f : CoreSt → CoreSt) : (s.modCore c f).tiers = s.tiers := rfl
@[simp] theorem State.modCore_torus (s : State) (c : Nat) (f : CoreSt → CoreSt) : (s.modCore c f).torus = s.torus := rfl
@[simp] theorem State.modCore_wan (s : State) (c : Nat) (f : CoreSt → CoreSt) : (s.modCore c f).wan = s.wan := rfl
@[simp] theorem State.modCore_sites (s : State) (c : Nat) (f : CoreSt → CoreSt) : (s.modCore c f).sites = s.sites := rfl
@[simp] theorem State.modCore_round (s : State) (c : Nat) (f : CoreSt → CoreSt) : (s.modCore c f).round = s.round := rfl
@[simp] theorem State.modCore_ck (s : State) (c : Nat) (f : CoreSt → CoreSt) : (s.modCore c f).ck = s.ck := rfl
@[simp] theorem State.modCore_fuses (s : State) (c : Nat) (f : CoreSt → CoreSt) : (s.modCore c f).fuses = s.fuses := rfl
@[simp] theorem State.modCore_sec (s : State) (c : Nat) (f : CoreSt → CoreSt) : (s.modCore c f).sec = s.sec := rfl
@[simp] theorem State.modCore_engines (s : State) (c : Nat) (f : CoreSt → CoreSt) : (s.modCore c f).engines = s.engines := rfl
@[simp] theorem State.modCore_flash (s : State) (c : Nat) (f : CoreSt → CoreSt) : (s.modCore c f).flash = s.flash := rfl
@[simp] theorem State.modCore_power (s : State) (c : Nat) (f : CoreSt → CoreSt) : (s.modCore c f).power = s.power := rfl
@[simp] theorem State.modCore_host (s : State) (c : Nat) (f : CoreSt → CoreSt) : (s.modCore c f).host = s.host := rfl
@[simp] theorem State.modCore_recorder (s : State) (c : Nat) (f : CoreSt → CoreSt) : (s.modCore c f).recorder = s.recorder := rfl
@[simp] theorem State.modCore_image (s : State) (c : Nat) (f : CoreSt → CoreSt) : (s.modCore c f).image = s.image := rfl
@[simp] theorem State.modCore_copyGood (s : State) (c : Nat) (f : CoreSt → CoreSt) : (s.modCore c f).copyGood = s.copyGood := rfl
@[simp] theorem State.modCore_now (s : State) (c : Nat) (f : CoreSt → CoreSt) : (s.modCore c f).now = s.now := rfl
@[simp] theorem State.modCore_img (s : State) (c : Nat) (f : CoreSt → CoreSt) : (s.modCore c f).img = s.img := rfl

/-! ### modQueue -/

@[simp] theorem State.modQueue_pending (s : State) (c q : Nat) (f : Queue → Queue) : (s.modQueue c q f).pending = s.pending := rfl
@[simp] theorem State.modQueue_bus (s : State) (c q : Nat) (f : Queue → Queue) : (s.modQueue c q f).bus = s.bus := rfl
@[simp] theorem State.modQueue_free (s : State) (c q : Nat) (f : Queue → Queue) : (s.modQueue c q f).free = s.free := rfl
@[simp] theorem State.modQueue_mem (s : State) (c q : Nat) (f : Queue → Queue) : (s.modQueue c q f).mem = s.mem := rfl
@[simp] theorem State.modQueue_clusters (s : State) (c q : Nat) (f : Queue → Queue) : (s.modQueue c q f).clusters = s.clusters := rfl
@[simp] theorem State.modQueue_governors (s : State) (c q : Nat) (f : Queue → Queue) : (s.modQueue c q f).governors = s.governors := rfl
@[simp] theorem State.modQueue_time (s : State) (c q : Nat) (f : Queue → Queue) : (s.modQueue c q f).time = s.time := rfl
@[simp] theorem State.modQueue_gate (s : State) (c q : Nat) (f : Queue → Queue) : (s.modQueue c q f).gate = s.gate := rfl
@[simp] theorem State.modQueue_commit (s : State) (c q : Nat) (f : Queue → Queue) : (s.modQueue c q f).commit = s.commit := rfl
@[simp] theorem State.modQueue_tiers (s : State) (c q : Nat) (f : Queue → Queue) : (s.modQueue c q f).tiers = s.tiers := rfl
@[simp] theorem State.modQueue_torus (s : State) (c q : Nat) (f : Queue → Queue) : (s.modQueue c q f).torus = s.torus := rfl
@[simp] theorem State.modQueue_wan (s : State) (c q : Nat) (f : Queue → Queue) : (s.modQueue c q f).wan = s.wan := rfl
@[simp] theorem State.modQueue_sites (s : State) (c q : Nat) (f : Queue → Queue) : (s.modQueue c q f).sites = s.sites := rfl
@[simp] theorem State.modQueue_round (s : State) (c q : Nat) (f : Queue → Queue) : (s.modQueue c q f).round = s.round := rfl
@[simp] theorem State.modQueue_ck (s : State) (c q : Nat) (f : Queue → Queue) : (s.modQueue c q f).ck = s.ck := rfl
@[simp] theorem State.modQueue_fuses (s : State) (c q : Nat) (f : Queue → Queue) : (s.modQueue c q f).fuses = s.fuses := rfl
@[simp] theorem State.modQueue_sec (s : State) (c q : Nat) (f : Queue → Queue) : (s.modQueue c q f).sec = s.sec := rfl
@[simp] theorem State.modQueue_engines (s : State) (c q : Nat) (f : Queue → Queue) : (s.modQueue c q f).engines = s.engines := rfl
@[simp] theorem State.modQueue_flash (s : State) (c q : Nat) (f : Queue → Queue) : (s.modQueue c q f).flash = s.flash := rfl
@[simp] theorem State.modQueue_power (s : State) (c q : Nat) (f : Queue → Queue) : (s.modQueue c q f).power = s.power := rfl
@[simp] theorem State.modQueue_host (s : State) (c q : Nat) (f : Queue → Queue) : (s.modQueue c q f).host = s.host := rfl
@[simp] theorem State.modQueue_recorder (s : State) (c q : Nat) (f : Queue → Queue) : (s.modQueue c q f).recorder = s.recorder := rfl
@[simp] theorem State.modQueue_image (s : State) (c q : Nat) (f : Queue → Queue) : (s.modQueue c q f).image = s.image := rfl
@[simp] theorem State.modQueue_copyGood (s : State) (c q : Nat) (f : Queue → Queue) : (s.modQueue c q f).copyGood = s.copyGood := rfl
@[simp] theorem State.modQueue_now (s : State) (c q : Nat) (f : Queue → Queue) : (s.modQueue c q f).now = s.now := rfl
@[simp] theorem State.modQueue_img (s : State) (c q : Nat) (f : Queue → Queue) : (s.modQueue c q f).img = s.img := rfl

/-! ### modTiers -/

@[simp] theorem State.modTiers_pending (s : State) (f : MemUnit → MemUnit) : (s.modTiers f).pending = s.pending := rfl
@[simp] theorem State.modTiers_bus (s : State) (f : MemUnit → MemUnit) : (s.modTiers f).bus = s.bus := rfl
@[simp] theorem State.modTiers_free (s : State) (f : MemUnit → MemUnit) : (s.modTiers f).free = s.free := rfl
@[simp] theorem State.modTiers_mem (s : State) (f : MemUnit → MemUnit) : (s.modTiers f).mem = s.mem := rfl
@[simp] theorem State.modTiers_cores (s : State) (f : MemUnit → MemUnit) : (s.modTiers f).cores = s.cores := rfl
@[simp] theorem State.modTiers_clusters (s : State) (f : MemUnit → MemUnit) : (s.modTiers f).clusters = s.clusters := rfl
@[simp] theorem State.modTiers_governors (s : State) (f : MemUnit → MemUnit) : (s.modTiers f).governors = s.governors := rfl
@[simp] theorem State.modTiers_time (s : State) (f : MemUnit → MemUnit) : (s.modTiers f).time = s.time := rfl
@[simp] theorem State.modTiers_gate (s : State) (f : MemUnit → MemUnit) : (s.modTiers f).gate = s.gate := rfl
@[simp] theorem State.modTiers_commit (s : State) (f : MemUnit → MemUnit) : (s.modTiers f).commit = s.commit := rfl
@[simp] theorem State.modTiers_torus (s : State) (f : MemUnit → MemUnit) : (s.modTiers f).torus = s.torus := rfl
@[simp] theorem State.modTiers_wan (s : State) (f : MemUnit → MemUnit) : (s.modTiers f).wan = s.wan := rfl
@[simp] theorem State.modTiers_sites (s : State) (f : MemUnit → MemUnit) : (s.modTiers f).sites = s.sites := rfl
@[simp] theorem State.modTiers_round (s : State) (f : MemUnit → MemUnit) : (s.modTiers f).round = s.round := rfl
@[simp] theorem State.modTiers_ck (s : State) (f : MemUnit → MemUnit) : (s.modTiers f).ck = s.ck := rfl
@[simp] theorem State.modTiers_fuses (s : State) (f : MemUnit → MemUnit) : (s.modTiers f).fuses = s.fuses := rfl
@[simp] theorem State.modTiers_sec (s : State) (f : MemUnit → MemUnit) : (s.modTiers f).sec = s.sec := rfl
@[simp] theorem State.modTiers_engines (s : State) (f : MemUnit → MemUnit) : (s.modTiers f).engines = s.engines := rfl
@[simp] theorem State.modTiers_flash (s : State) (f : MemUnit → MemUnit) : (s.modTiers f).flash = s.flash := rfl
@[simp] theorem State.modTiers_power (s : State) (f : MemUnit → MemUnit) : (s.modTiers f).power = s.power := rfl
@[simp] theorem State.modTiers_host (s : State) (f : MemUnit → MemUnit) : (s.modTiers f).host = s.host := rfl
@[simp] theorem State.modTiers_recorder (s : State) (f : MemUnit → MemUnit) : (s.modTiers f).recorder = s.recorder := rfl
@[simp] theorem State.modTiers_image (s : State) (f : MemUnit → MemUnit) : (s.modTiers f).image = s.image := rfl
@[simp] theorem State.modTiers_copyGood (s : State) (f : MemUnit → MemUnit) : (s.modTiers f).copyGood = s.copyGood := rfl
@[simp] theorem State.modTiers_core (s : State) (f : MemUnit → MemUnit) (k : Nat) : (s.modTiers f).core k = s.core k := rfl
@[simp] theorem State.modTiers_queue (s : State) (f : MemUnit → MemUnit) (k j : Nat) : (s.modTiers f).queue k j = s.queue k j := rfl
@[simp] theorem State.modTiers_now (s : State) (f : MemUnit → MemUnit) : (s.modTiers f).now = s.now := rfl
@[simp] theorem State.modTiers_img (s : State) (f : MemUnit → MemUnit) : (s.modTiers f).img = s.img := rfl

/-! ### modSec -/

@[simp] theorem State.modSec_pending (s : State) (f : Security → Security) : (s.modSec f).pending = s.pending := rfl
@[simp] theorem State.modSec_bus (s : State) (f : Security → Security) : (s.modSec f).bus = s.bus := rfl
@[simp] theorem State.modSec_free (s : State) (f : Security → Security) : (s.modSec f).free = s.free := rfl
@[simp] theorem State.modSec_mem (s : State) (f : Security → Security) : (s.modSec f).mem = s.mem := rfl
@[simp] theorem State.modSec_cores (s : State) (f : Security → Security) : (s.modSec f).cores = s.cores := rfl
@[simp] theorem State.modSec_clusters (s : State) (f : Security → Security) : (s.modSec f).clusters = s.clusters := rfl
@[simp] theorem State.modSec_governors (s : State) (f : Security → Security) : (s.modSec f).governors = s.governors := rfl
@[simp] theorem State.modSec_time (s : State) (f : Security → Security) : (s.modSec f).time = s.time := rfl
@[simp] theorem State.modSec_gate (s : State) (f : Security → Security) : (s.modSec f).gate = s.gate := rfl
@[simp] theorem State.modSec_commit (s : State) (f : Security → Security) : (s.modSec f).commit = s.commit := rfl
@[simp] theorem State.modSec_tiers (s : State) (f : Security → Security) : (s.modSec f).tiers = s.tiers := rfl
@[simp] theorem State.modSec_torus (s : State) (f : Security → Security) : (s.modSec f).torus = s.torus := rfl
@[simp] theorem State.modSec_wan (s : State) (f : Security → Security) : (s.modSec f).wan = s.wan := rfl
@[simp] theorem State.modSec_sites (s : State) (f : Security → Security) : (s.modSec f).sites = s.sites := rfl
@[simp] theorem State.modSec_round (s : State) (f : Security → Security) : (s.modSec f).round = s.round := rfl
@[simp] theorem State.modSec_ck (s : State) (f : Security → Security) : (s.modSec f).ck = s.ck := rfl
@[simp] theorem State.modSec_fuses (s : State) (f : Security → Security) : (s.modSec f).fuses = s.fuses := rfl
@[simp] theorem State.modSec_engines (s : State) (f : Security → Security) : (s.modSec f).engines = s.engines := rfl
@[simp] theorem State.modSec_flash (s : State) (f : Security → Security) : (s.modSec f).flash = s.flash := rfl
@[simp] theorem State.modSec_power (s : State) (f : Security → Security) : (s.modSec f).power = s.power := rfl
@[simp] theorem State.modSec_host (s : State) (f : Security → Security) : (s.modSec f).host = s.host := rfl
@[simp] theorem State.modSec_recorder (s : State) (f : Security → Security) : (s.modSec f).recorder = s.recorder := rfl
@[simp] theorem State.modSec_image (s : State) (f : Security → Security) : (s.modSec f).image = s.image := rfl
@[simp] theorem State.modSec_copyGood (s : State) (f : Security → Security) : (s.modSec f).copyGood = s.copyGood := rfl
@[simp] theorem State.modSec_core (s : State) (f : Security → Security) (k : Nat) : (s.modSec f).core k = s.core k := rfl
@[simp] theorem State.modSec_queue (s : State) (f : Security → Security) (k j : Nat) : (s.modSec f).queue k j = s.queue k j := rfl
@[simp] theorem State.modSec_now (s : State) (f : Security → Security) : (s.modSec f).now = s.now := rfl
@[simp] theorem State.modSec_img (s : State) (f : Security → Security) : (s.modSec f).img = s.img := rfl

/-! ### modEngine -/

@[simp] theorem State.modEngine_pending (s : State) (p : Nat) (f : Engine → Engine) : (s.modEngine p f).pending = s.pending := rfl
@[simp] theorem State.modEngine_bus (s : State) (p : Nat) (f : Engine → Engine) : (s.modEngine p f).bus = s.bus := rfl
@[simp] theorem State.modEngine_free (s : State) (p : Nat) (f : Engine → Engine) : (s.modEngine p f).free = s.free := rfl
@[simp] theorem State.modEngine_mem (s : State) (p : Nat) (f : Engine → Engine) : (s.modEngine p f).mem = s.mem := rfl
@[simp] theorem State.modEngine_cores (s : State) (p : Nat) (f : Engine → Engine) : (s.modEngine p f).cores = s.cores := rfl
@[simp] theorem State.modEngine_clusters (s : State) (p : Nat) (f : Engine → Engine) : (s.modEngine p f).clusters = s.clusters := rfl
@[simp] theorem State.modEngine_governors (s : State) (p : Nat) (f : Engine → Engine) : (s.modEngine p f).governors = s.governors := rfl
@[simp] theorem State.modEngine_time (s : State) (p : Nat) (f : Engine → Engine) : (s.modEngine p f).time = s.time := rfl
@[simp] theorem State.modEngine_gate (s : State) (p : Nat) (f : Engine → Engine) : (s.modEngine p f).gate = s.gate := rfl
@[simp] theorem State.modEngine_commit (s : State) (p : Nat) (f : Engine → Engine) : (s.modEngine p f).commit = s.commit := rfl
@[simp] theorem State.modEngine_tiers (s : State) (p : Nat) (f : Engine → Engine) : (s.modEngine p f).tiers = s.tiers := rfl
@[simp] theorem State.modEngine_torus (s : State) (p : Nat) (f : Engine → Engine) : (s.modEngine p f).torus = s.torus := rfl
@[simp] theorem State.modEngine_wan (s : State) (p : Nat) (f : Engine → Engine) : (s.modEngine p f).wan = s.wan := rfl
@[simp] theorem State.modEngine_sites (s : State) (p : Nat) (f : Engine → Engine) : (s.modEngine p f).sites = s.sites := rfl
@[simp] theorem State.modEngine_round (s : State) (p : Nat) (f : Engine → Engine) : (s.modEngine p f).round = s.round := rfl
@[simp] theorem State.modEngine_ck (s : State) (p : Nat) (f : Engine → Engine) : (s.modEngine p f).ck = s.ck := rfl
@[simp] theorem State.modEngine_fuses (s : State) (p : Nat) (f : Engine → Engine) : (s.modEngine p f).fuses = s.fuses := rfl
@[simp] theorem State.modEngine_sec (s : State) (p : Nat) (f : Engine → Engine) : (s.modEngine p f).sec = s.sec := rfl
@[simp] theorem State.modEngine_flash (s : State) (p : Nat) (f : Engine → Engine) : (s.modEngine p f).flash = s.flash := rfl
@[simp] theorem State.modEngine_power (s : State) (p : Nat) (f : Engine → Engine) : (s.modEngine p f).power = s.power := rfl
@[simp] theorem State.modEngine_host (s : State) (p : Nat) (f : Engine → Engine) : (s.modEngine p f).host = s.host := rfl
@[simp] theorem State.modEngine_recorder (s : State) (p : Nat) (f : Engine → Engine) : (s.modEngine p f).recorder = s.recorder := rfl
@[simp] theorem State.modEngine_image (s : State) (p : Nat) (f : Engine → Engine) : (s.modEngine p f).image = s.image := rfl
@[simp] theorem State.modEngine_copyGood (s : State) (p : Nat) (f : Engine → Engine) : (s.modEngine p f).copyGood = s.copyGood := rfl
@[simp] theorem State.modEngine_core (s : State) (p : Nat) (f : Engine → Engine) (k : Nat) : (s.modEngine p f).core k = s.core k := rfl
@[simp] theorem State.modEngine_queue (s : State) (p : Nat) (f : Engine → Engine) (k j : Nat) : (s.modEngine p f).queue k j = s.queue k j := rfl
@[simp] theorem State.modEngine_now (s : State) (p : Nat) (f : Engine → Engine) : (s.modEngine p f).now = s.now := rfl
@[simp] theorem State.modEngine_img (s : State) (p : Nat) (f : Engine → Engine) : (s.modEngine p f).img = s.img := rfl

/-! ### modWan -/

@[simp] theorem State.modWan_pending (s : State) (p : Nat) (f : WanPort → WanPort) : (s.modWan p f).pending = s.pending := rfl
@[simp] theorem State.modWan_bus (s : State) (p : Nat) (f : WanPort → WanPort) : (s.modWan p f).bus = s.bus := rfl
@[simp] theorem State.modWan_free (s : State) (p : Nat) (f : WanPort → WanPort) : (s.modWan p f).free = s.free := rfl
@[simp] theorem State.modWan_mem (s : State) (p : Nat) (f : WanPort → WanPort) : (s.modWan p f).mem = s.mem := rfl
@[simp] theorem State.modWan_cores (s : State) (p : Nat) (f : WanPort → WanPort) : (s.modWan p f).cores = s.cores := rfl
@[simp] theorem State.modWan_clusters (s : State) (p : Nat) (f : WanPort → WanPort) : (s.modWan p f).clusters = s.clusters := rfl
@[simp] theorem State.modWan_governors (s : State) (p : Nat) (f : WanPort → WanPort) : (s.modWan p f).governors = s.governors := rfl
@[simp] theorem State.modWan_time (s : State) (p : Nat) (f : WanPort → WanPort) : (s.modWan p f).time = s.time := rfl
@[simp] theorem State.modWan_gate (s : State) (p : Nat) (f : WanPort → WanPort) : (s.modWan p f).gate = s.gate := rfl
@[simp] theorem State.modWan_commit (s : State) (p : Nat) (f : WanPort → WanPort) : (s.modWan p f).commit = s.commit := rfl
@[simp] theorem State.modWan_tiers (s : State) (p : Nat) (f : WanPort → WanPort) : (s.modWan p f).tiers = s.tiers := rfl
@[simp] theorem State.modWan_torus (s : State) (p : Nat) (f : WanPort → WanPort) : (s.modWan p f).torus = s.torus := rfl
@[simp] theorem State.modWan_sites (s : State) (p : Nat) (f : WanPort → WanPort) : (s.modWan p f).sites = s.sites := rfl
@[simp] theorem State.modWan_round (s : State) (p : Nat) (f : WanPort → WanPort) : (s.modWan p f).round = s.round := rfl
@[simp] theorem State.modWan_ck (s : State) (p : Nat) (f : WanPort → WanPort) : (s.modWan p f).ck = s.ck := rfl
@[simp] theorem State.modWan_fuses (s : State) (p : Nat) (f : WanPort → WanPort) : (s.modWan p f).fuses = s.fuses := rfl
@[simp] theorem State.modWan_sec (s : State) (p : Nat) (f : WanPort → WanPort) : (s.modWan p f).sec = s.sec := rfl
@[simp] theorem State.modWan_engines (s : State) (p : Nat) (f : WanPort → WanPort) : (s.modWan p f).engines = s.engines := rfl
@[simp] theorem State.modWan_flash (s : State) (p : Nat) (f : WanPort → WanPort) : (s.modWan p f).flash = s.flash := rfl
@[simp] theorem State.modWan_power (s : State) (p : Nat) (f : WanPort → WanPort) : (s.modWan p f).power = s.power := rfl
@[simp] theorem State.modWan_host (s : State) (p : Nat) (f : WanPort → WanPort) : (s.modWan p f).host = s.host := rfl
@[simp] theorem State.modWan_recorder (s : State) (p : Nat) (f : WanPort → WanPort) : (s.modWan p f).recorder = s.recorder := rfl
@[simp] theorem State.modWan_image (s : State) (p : Nat) (f : WanPort → WanPort) : (s.modWan p f).image = s.image := rfl
@[simp] theorem State.modWan_copyGood (s : State) (p : Nat) (f : WanPort → WanPort) : (s.modWan p f).copyGood = s.copyGood := rfl
@[simp] theorem State.modWan_core (s : State) (p : Nat) (f : WanPort → WanPort) (k : Nat) : (s.modWan p f).core k = s.core k := rfl
@[simp] theorem State.modWan_queue (s : State) (p : Nat) (f : WanPort → WanPort) (k j : Nat) : (s.modWan p f).queue k j = s.queue k j := rfl
@[simp] theorem State.modWan_now (s : State) (p : Nat) (f : WanPort → WanPort) : (s.modWan p f).now = s.now := rfl
@[simp] theorem State.modWan_img (s : State) (p : Nat) (f : WanPort → WanPort) : (s.modWan p f).img = s.img := rfl

/-! ### modTorus -/

@[simp] theorem State.modTorus_pending (s : State) (f : Torus → Torus) : (s.modTorus f).pending = s.pending := rfl
@[simp] theorem State.modTorus_bus (s : State) (f : Torus → Torus) : (s.modTorus f).bus = s.bus := rfl
@[simp] theorem State.modTorus_free (s : State) (f : Torus → Torus) : (s.modTorus f).free = s.free := rfl
@[simp] theorem State.modTorus_mem (s : State) (f : Torus → Torus) : (s.modTorus f).mem = s.mem := rfl
@[simp] theorem State.modTorus_cores (s : State) (f : Torus → Torus) : (s.modTorus f).cores = s.cores := rfl
@[simp] theorem State.modTorus_clusters (s : State) (f : Torus → Torus) : (s.modTorus f).clusters = s.clusters := rfl
@[simp] theorem State.modTorus_governors (s : State) (f : Torus → Torus) : (s.modTorus f).governors = s.governors := rfl
@[simp] theorem State.modTorus_time (s : State) (f : Torus → Torus) : (s.modTorus f).time = s.time := rfl
@[simp] theorem State.modTorus_gate (s : State) (f : Torus → Torus) : (s.modTorus f).gate = s.gate := rfl
@[simp] theorem State.modTorus_commit (s : State) (f : Torus → Torus) : (s.modTorus f).commit = s.commit := rfl
@[simp] theorem State.modTorus_tiers (s : State) (f : Torus → Torus) : (s.modTorus f).tiers = s.tiers := rfl
@[simp] theorem State.modTorus_wan (s : State) (f : Torus → Torus) : (s.modTorus f).wan = s.wan := rfl
@[simp] theorem State.modTorus_sites (s : State) (f : Torus → Torus) : (s.modTorus f).sites = s.sites := rfl
@[simp] theorem State.modTorus_round (s : State) (f : Torus → Torus) : (s.modTorus f).round = s.round := rfl
@[simp] theorem State.modTorus_ck (s : State) (f : Torus → Torus) : (s.modTorus f).ck = s.ck := rfl
@[simp] theorem State.modTorus_fuses (s : State) (f : Torus → Torus) : (s.modTorus f).fuses = s.fuses := rfl
@[simp] theorem State.modTorus_sec (s : State) (f : Torus → Torus) : (s.modTorus f).sec = s.sec := rfl
@[simp] theorem State.modTorus_engines (s : State) (f : Torus → Torus) : (s.modTorus f).engines = s.engines := rfl
@[simp] theorem State.modTorus_flash (s : State) (f : Torus → Torus) : (s.modTorus f).flash = s.flash := rfl
@[simp] theorem State.modTorus_power (s : State) (f : Torus → Torus) : (s.modTorus f).power = s.power := rfl
@[simp] theorem State.modTorus_host (s : State) (f : Torus → Torus) : (s.modTorus f).host = s.host := rfl
@[simp] theorem State.modTorus_recorder (s : State) (f : Torus → Torus) : (s.modTorus f).recorder = s.recorder := rfl
@[simp] theorem State.modTorus_image (s : State) (f : Torus → Torus) : (s.modTorus f).image = s.image := rfl
@[simp] theorem State.modTorus_copyGood (s : State) (f : Torus → Torus) : (s.modTorus f).copyGood = s.copyGood := rfl
@[simp] theorem State.modTorus_core (s : State) (f : Torus → Torus) (k : Nat) : (s.modTorus f).core k = s.core k := rfl
@[simp] theorem State.modTorus_queue (s : State) (f : Torus → Torus) (k j : Nat) : (s.modTorus f).queue k j = s.queue k j := rfl
@[simp] theorem State.modTorus_now (s : State) (f : Torus → Torus) : (s.modTorus f).now = s.now := rfl
@[simp] theorem State.modTorus_img (s : State) (f : Torus → Torus) : (s.modTorus f).img = s.img := rfl

/-! ### modPort -/

@[simp] theorem State.modPort_pending (s : State) (p : Nat) (f : Port → Port) : (s.modPort p f).pending = s.pending := rfl
@[simp] theorem State.modPort_bus (s : State) (p : Nat) (f : Port → Port) : (s.modPort p f).bus = s.bus := rfl
@[simp] theorem State.modPort_free (s : State) (p : Nat) (f : Port → Port) : (s.modPort p f).free = s.free := rfl
@[simp] theorem State.modPort_mem (s : State) (p : Nat) (f : Port → Port) : (s.modPort p f).mem = s.mem := rfl
@[simp] theorem State.modPort_cores (s : State) (p : Nat) (f : Port → Port) : (s.modPort p f).cores = s.cores := rfl
@[simp] theorem State.modPort_clusters (s : State) (p : Nat) (f : Port → Port) : (s.modPort p f).clusters = s.clusters := rfl
@[simp] theorem State.modPort_governors (s : State) (p : Nat) (f : Port → Port) : (s.modPort p f).governors = s.governors := rfl
@[simp] theorem State.modPort_time (s : State) (p : Nat) (f : Port → Port) : (s.modPort p f).time = s.time := rfl
@[simp] theorem State.modPort_gate (s : State) (p : Nat) (f : Port → Port) : (s.modPort p f).gate = s.gate := rfl
@[simp] theorem State.modPort_commit (s : State) (p : Nat) (f : Port → Port) : (s.modPort p f).commit = s.commit := rfl
@[simp] theorem State.modPort_tiers (s : State) (p : Nat) (f : Port → Port) : (s.modPort p f).tiers = s.tiers := rfl
@[simp] theorem State.modPort_wan (s : State) (p : Nat) (f : Port → Port) : (s.modPort p f).wan = s.wan := rfl
@[simp] theorem State.modPort_sites (s : State) (p : Nat) (f : Port → Port) : (s.modPort p f).sites = s.sites := rfl
@[simp] theorem State.modPort_round (s : State) (p : Nat) (f : Port → Port) : (s.modPort p f).round = s.round := rfl
@[simp] theorem State.modPort_ck (s : State) (p : Nat) (f : Port → Port) : (s.modPort p f).ck = s.ck := rfl
@[simp] theorem State.modPort_fuses (s : State) (p : Nat) (f : Port → Port) : (s.modPort p f).fuses = s.fuses := rfl
@[simp] theorem State.modPort_sec (s : State) (p : Nat) (f : Port → Port) : (s.modPort p f).sec = s.sec := rfl
@[simp] theorem State.modPort_engines (s : State) (p : Nat) (f : Port → Port) : (s.modPort p f).engines = s.engines := rfl
@[simp] theorem State.modPort_flash (s : State) (p : Nat) (f : Port → Port) : (s.modPort p f).flash = s.flash := rfl
@[simp] theorem State.modPort_power (s : State) (p : Nat) (f : Port → Port) : (s.modPort p f).power = s.power := rfl
@[simp] theorem State.modPort_host (s : State) (p : Nat) (f : Port → Port) : (s.modPort p f).host = s.host := rfl
@[simp] theorem State.modPort_recorder (s : State) (p : Nat) (f : Port → Port) : (s.modPort p f).recorder = s.recorder := rfl
@[simp] theorem State.modPort_image (s : State) (p : Nat) (f : Port → Port) : (s.modPort p f).image = s.image := rfl
@[simp] theorem State.modPort_copyGood (s : State) (p : Nat) (f : Port → Port) : (s.modPort p f).copyGood = s.copyGood := rfl
@[simp] theorem State.modPort_core (s : State) (p : Nat) (f : Port → Port) (k : Nat) : (s.modPort p f).core k = s.core k := rfl
@[simp] theorem State.modPort_queue (s : State) (p : Nat) (f : Port → Port) (k j : Nat) : (s.modPort p f).queue k j = s.queue k j := rfl
@[simp] theorem State.modPort_now (s : State) (p : Nat) (f : Port → Port) : (s.modPort p f).now = s.now := rfl
@[simp] theorem State.modPort_img (s : State) (p : Nat) (f : Port → Port) : (s.modPort p f).img = s.img := rfl

/-! ### modGate -/

@[simp] theorem State.modGate_pending (s : State) (f : GateUnit → GateUnit) : (s.modGate f).pending = s.pending := rfl
@[simp] theorem State.modGate_bus (s : State) (f : GateUnit → GateUnit) : (s.modGate f).bus = s.bus := rfl
@[simp] theorem State.modGate_free (s : State) (f : GateUnit → GateUnit) : (s.modGate f).free = s.free := rfl
@[simp] theorem State.modGate_mem (s : State) (f : GateUnit → GateUnit) : (s.modGate f).mem = s.mem := rfl
@[simp] theorem State.modGate_cores (s : State) (f : GateUnit → GateUnit) : (s.modGate f).cores = s.cores := rfl
@[simp] theorem State.modGate_clusters (s : State) (f : GateUnit → GateUnit) : (s.modGate f).clusters = s.clusters := rfl
@[simp] theorem State.modGate_governors (s : State) (f : GateUnit → GateUnit) : (s.modGate f).governors = s.governors := rfl
@[simp] theorem State.modGate_time (s : State) (f : GateUnit → GateUnit) : (s.modGate f).time = s.time := rfl
@[simp] theorem State.modGate_commit (s : State) (f : GateUnit → GateUnit) : (s.modGate f).commit = s.commit := rfl
@[simp] theorem State.modGate_tiers (s : State) (f : GateUnit → GateUnit) : (s.modGate f).tiers = s.tiers := rfl
@[simp] theorem State.modGate_torus (s : State) (f : GateUnit → GateUnit) : (s.modGate f).torus = s.torus := rfl
@[simp] theorem State.modGate_wan (s : State) (f : GateUnit → GateUnit) : (s.modGate f).wan = s.wan := rfl
@[simp] theorem State.modGate_sites (s : State) (f : GateUnit → GateUnit) : (s.modGate f).sites = s.sites := rfl
@[simp] theorem State.modGate_round (s : State) (f : GateUnit → GateUnit) : (s.modGate f).round = s.round := rfl
@[simp] theorem State.modGate_ck (s : State) (f : GateUnit → GateUnit) : (s.modGate f).ck = s.ck := rfl
@[simp] theorem State.modGate_fuses (s : State) (f : GateUnit → GateUnit) : (s.modGate f).fuses = s.fuses := rfl
@[simp] theorem State.modGate_sec (s : State) (f : GateUnit → GateUnit) : (s.modGate f).sec = s.sec := rfl
@[simp] theorem State.modGate_engines (s : State) (f : GateUnit → GateUnit) : (s.modGate f).engines = s.engines := rfl
@[simp] theorem State.modGate_flash (s : State) (f : GateUnit → GateUnit) : (s.modGate f).flash = s.flash := rfl
@[simp] theorem State.modGate_power (s : State) (f : GateUnit → GateUnit) : (s.modGate f).power = s.power := rfl
@[simp] theorem State.modGate_host (s : State) (f : GateUnit → GateUnit) : (s.modGate f).host = s.host := rfl
@[simp] theorem State.modGate_recorder (s : State) (f : GateUnit → GateUnit) : (s.modGate f).recorder = s.recorder := rfl
@[simp] theorem State.modGate_image (s : State) (f : GateUnit → GateUnit) : (s.modGate f).image = s.image := rfl
@[simp] theorem State.modGate_copyGood (s : State) (f : GateUnit → GateUnit) : (s.modGate f).copyGood = s.copyGood := rfl
@[simp] theorem State.modGate_core (s : State) (f : GateUnit → GateUnit) (k : Nat) : (s.modGate f).core k = s.core k := rfl
@[simp] theorem State.modGate_queue (s : State) (f : GateUnit → GateUnit) (k j : Nat) : (s.modGate f).queue k j = s.queue k j := rfl
@[simp] theorem State.modGate_now (s : State) (f : GateUnit → GateUnit) : (s.modGate f).now = s.now := rfl
@[simp] theorem State.modGate_img (s : State) (f : GateUnit → GateUnit) : (s.modGate f).img = s.img := rfl

/-! ### modHost -/

@[simp] theorem State.modHost_pending (s : State) (f : HostIf → HostIf) : (s.modHost f).pending = s.pending := rfl
@[simp] theorem State.modHost_bus (s : State) (f : HostIf → HostIf) : (s.modHost f).bus = s.bus := rfl
@[simp] theorem State.modHost_free (s : State) (f : HostIf → HostIf) : (s.modHost f).free = s.free := rfl
@[simp] theorem State.modHost_mem (s : State) (f : HostIf → HostIf) : (s.modHost f).mem = s.mem := rfl
@[simp] theorem State.modHost_cores (s : State) (f : HostIf → HostIf) : (s.modHost f).cores = s.cores := rfl
@[simp] theorem State.modHost_clusters (s : State) (f : HostIf → HostIf) : (s.modHost f).clusters = s.clusters := rfl
@[simp] theorem State.modHost_governors (s : State) (f : HostIf → HostIf) : (s.modHost f).governors = s.governors := rfl
@[simp] theorem State.modHost_time (s : State) (f : HostIf → HostIf) : (s.modHost f).time = s.time := rfl
@[simp] theorem State.modHost_gate (s : State) (f : HostIf → HostIf) : (s.modHost f).gate = s.gate := rfl
@[simp] theorem State.modHost_commit (s : State) (f : HostIf → HostIf) : (s.modHost f).commit = s.commit := rfl
@[simp] theorem State.modHost_tiers (s : State) (f : HostIf → HostIf) : (s.modHost f).tiers = s.tiers := rfl
@[simp] theorem State.modHost_torus (s : State) (f : HostIf → HostIf) : (s.modHost f).torus = s.torus := rfl
@[simp] theorem State.modHost_wan (s : State) (f : HostIf → HostIf) : (s.modHost f).wan = s.wan := rfl
@[simp] theorem State.modHost_sites (s : State) (f : HostIf → HostIf) : (s.modHost f).sites = s.sites := rfl
@[simp] theorem State.modHost_round (s : State) (f : HostIf → HostIf) : (s.modHost f).round = s.round := rfl
@[simp] theorem State.modHost_ck (s : State) (f : HostIf → HostIf) : (s.modHost f).ck = s.ck := rfl
@[simp] theorem State.modHost_fuses (s : State) (f : HostIf → HostIf) : (s.modHost f).fuses = s.fuses := rfl
@[simp] theorem State.modHost_sec (s : State) (f : HostIf → HostIf) : (s.modHost f).sec = s.sec := rfl
@[simp] theorem State.modHost_engines (s : State) (f : HostIf → HostIf) : (s.modHost f).engines = s.engines := rfl
@[simp] theorem State.modHost_flash (s : State) (f : HostIf → HostIf) : (s.modHost f).flash = s.flash := rfl
@[simp] theorem State.modHost_power (s : State) (f : HostIf → HostIf) : (s.modHost f).power = s.power := rfl
@[simp] theorem State.modHost_recorder (s : State) (f : HostIf → HostIf) : (s.modHost f).recorder = s.recorder := rfl
@[simp] theorem State.modHost_image (s : State) (f : HostIf → HostIf) : (s.modHost f).image = s.image := rfl
@[simp] theorem State.modHost_copyGood (s : State) (f : HostIf → HostIf) : (s.modHost f).copyGood = s.copyGood := rfl
@[simp] theorem State.modHost_core (s : State) (f : HostIf → HostIf) (k : Nat) : (s.modHost f).core k = s.core k := rfl
@[simp] theorem State.modHost_queue (s : State) (f : HostIf → HostIf) (k j : Nat) : (s.modHost f).queue k j = s.queue k j := rfl
@[simp] theorem State.modHost_now (s : State) (f : HostIf → HostIf) : (s.modHost f).now = s.now := rfl
@[simp] theorem State.modHost_img (s : State) (f : HostIf → HostIf) : (s.modHost f).img = s.img := rfl

/-! ### modSite -/

@[simp] theorem State.modSite_pending (s : State) (i : Nat) (f : SiteSt → SiteSt) : (s.modSite i f).pending = s.pending := rfl
@[simp] theorem State.modSite_bus (s : State) (i : Nat) (f : SiteSt → SiteSt) : (s.modSite i f).bus = s.bus := rfl
@[simp] theorem State.modSite_free (s : State) (i : Nat) (f : SiteSt → SiteSt) : (s.modSite i f).free = s.free := rfl
@[simp] theorem State.modSite_mem (s : State) (i : Nat) (f : SiteSt → SiteSt) : (s.modSite i f).mem = s.mem := rfl
@[simp] theorem State.modSite_cores (s : State) (i : Nat) (f : SiteSt → SiteSt) : (s.modSite i f).cores = s.cores := rfl
@[simp] theorem State.modSite_clusters (s : State) (i : Nat) (f : SiteSt → SiteSt) : (s.modSite i f).clusters = s.clusters := rfl
@[simp] theorem State.modSite_governors (s : State) (i : Nat) (f : SiteSt → SiteSt) : (s.modSite i f).governors = s.governors := rfl
@[simp] theorem State.modSite_time (s : State) (i : Nat) (f : SiteSt → SiteSt) : (s.modSite i f).time = s.time := rfl
@[simp] theorem State.modSite_gate (s : State) (i : Nat) (f : SiteSt → SiteSt) : (s.modSite i f).gate = s.gate := rfl
@[simp] theorem State.modSite_commit (s : State) (i : Nat) (f : SiteSt → SiteSt) : (s.modSite i f).commit = s.commit := rfl
@[simp] theorem State.modSite_tiers (s : State) (i : Nat) (f : SiteSt → SiteSt) : (s.modSite i f).tiers = s.tiers := rfl
@[simp] theorem State.modSite_torus (s : State) (i : Nat) (f : SiteSt → SiteSt) : (s.modSite i f).torus = s.torus := rfl
@[simp] theorem State.modSite_wan (s : State) (i : Nat) (f : SiteSt → SiteSt) : (s.modSite i f).wan = s.wan := rfl
@[simp] theorem State.modSite_round (s : State) (i : Nat) (f : SiteSt → SiteSt) : (s.modSite i f).round = s.round := rfl
@[simp] theorem State.modSite_ck (s : State) (i : Nat) (f : SiteSt → SiteSt) : (s.modSite i f).ck = s.ck := rfl
@[simp] theorem State.modSite_fuses (s : State) (i : Nat) (f : SiteSt → SiteSt) : (s.modSite i f).fuses = s.fuses := rfl
@[simp] theorem State.modSite_sec (s : State) (i : Nat) (f : SiteSt → SiteSt) : (s.modSite i f).sec = s.sec := rfl
@[simp] theorem State.modSite_engines (s : State) (i : Nat) (f : SiteSt → SiteSt) : (s.modSite i f).engines = s.engines := rfl
@[simp] theorem State.modSite_flash (s : State) (i : Nat) (f : SiteSt → SiteSt) : (s.modSite i f).flash = s.flash := rfl
@[simp] theorem State.modSite_power (s : State) (i : Nat) (f : SiteSt → SiteSt) : (s.modSite i f).power = s.power := rfl
@[simp] theorem State.modSite_host (s : State) (i : Nat) (f : SiteSt → SiteSt) : (s.modSite i f).host = s.host := rfl
@[simp] theorem State.modSite_recorder (s : State) (i : Nat) (f : SiteSt → SiteSt) : (s.modSite i f).recorder = s.recorder := rfl
@[simp] theorem State.modSite_image (s : State) (i : Nat) (f : SiteSt → SiteSt) : (s.modSite i f).image = s.image := rfl
@[simp] theorem State.modSite_copyGood (s : State) (i : Nat) (f : SiteSt → SiteSt) : (s.modSite i f).copyGood = s.copyGood := rfl
@[simp] theorem State.modSite_core (s : State) (i : Nat) (f : SiteSt → SiteSt) (k : Nat) : (s.modSite i f).core k = s.core k := rfl
@[simp] theorem State.modSite_queue (s : State) (i : Nat) (f : SiteSt → SiteSt) (k j : Nat) : (s.modSite i f).queue k j = s.queue k j := rfl
@[simp] theorem State.modSite_now (s : State) (i : Nat) (f : SiteSt → SiteSt) : (s.modSite i f).now = s.now := rfl
@[simp] theorem State.modSite_img (s : State) (i : Nat) (f : SiteSt → SiteSt) : (s.modSite i f).img = s.img := rfl

/-! ### modPower -/

@[simp] theorem State.modPower_pending (s : State) (f : Power → Power) : (s.modPower f).pending = s.pending := rfl
@[simp] theorem State.modPower_bus (s : State) (f : Power → Power) : (s.modPower f).bus = s.bus := rfl
@[simp] theorem State.modPower_free (s : State) (f : Power → Power) : (s.modPower f).free = s.free := rfl
@[simp] theorem State.modPower_mem (s : State) (f : Power → Power) : (s.modPower f).mem = s.mem := rfl
@[simp] theorem State.modPower_cores (s : State) (f : Power → Power) : (s.modPower f).cores = s.cores := rfl
@[simp] theorem State.modPower_clusters (s : State) (f : Power → Power) : (s.modPower f).clusters = s.clusters := rfl
@[simp] theorem State.modPower_governors (s : State) (f : Power → Power) : (s.modPower f).governors = s.governors := rfl
@[simp] theorem State.modPower_time (s : State) (f : Power → Power) : (s.modPower f).time = s.time := rfl
@[simp] theorem State.modPower_gate (s : State) (f : Power → Power) : (s.modPower f).gate = s.gate := rfl
@[simp] theorem State.modPower_commit (s : State) (f : Power → Power) : (s.modPower f).commit = s.commit := rfl
@[simp] theorem State.modPower_tiers (s : State) (f : Power → Power) : (s.modPower f).tiers = s.tiers := rfl
@[simp] theorem State.modPower_torus (s : State) (f : Power → Power) : (s.modPower f).torus = s.torus := rfl
@[simp] theorem State.modPower_wan (s : State) (f : Power → Power) : (s.modPower f).wan = s.wan := rfl
@[simp] theorem State.modPower_sites (s : State) (f : Power → Power) : (s.modPower f).sites = s.sites := rfl
@[simp] theorem State.modPower_round (s : State) (f : Power → Power) : (s.modPower f).round = s.round := rfl
@[simp] theorem State.modPower_ck (s : State) (f : Power → Power) : (s.modPower f).ck = s.ck := rfl
@[simp] theorem State.modPower_fuses (s : State) (f : Power → Power) : (s.modPower f).fuses = s.fuses := rfl
@[simp] theorem State.modPower_sec (s : State) (f : Power → Power) : (s.modPower f).sec = s.sec := rfl
@[simp] theorem State.modPower_engines (s : State) (f : Power → Power) : (s.modPower f).engines = s.engines := rfl
@[simp] theorem State.modPower_flash (s : State) (f : Power → Power) : (s.modPower f).flash = s.flash := rfl
@[simp] theorem State.modPower_host (s : State) (f : Power → Power) : (s.modPower f).host = s.host := rfl
@[simp] theorem State.modPower_recorder (s : State) (f : Power → Power) : (s.modPower f).recorder = s.recorder := rfl
@[simp] theorem State.modPower_image (s : State) (f : Power → Power) : (s.modPower f).image = s.image := rfl
@[simp] theorem State.modPower_copyGood (s : State) (f : Power → Power) : (s.modPower f).copyGood = s.copyGood := rfl
@[simp] theorem State.modPower_core (s : State) (f : Power → Power) (k : Nat) : (s.modPower f).core k = s.core k := rfl
@[simp] theorem State.modPower_queue (s : State) (f : Power → Power) (k j : Nat) : (s.modPower f).queue k j = s.queue k j := rfl
@[simp] theorem State.modPower_now (s : State) (f : Power → Power) : (s.modPower f).now = s.now := rfl
@[simp] theorem State.modPower_img (s : State) (f : Power → Power) : (s.modPower f).img = s.img := rfl

/-! ### modRound -/

@[simp] theorem State.modRound_pending (s : State) (f : RoundUnit → RoundUnit) : (s.modRound f).pending = s.pending := rfl
@[simp] theorem State.modRound_bus (s : State) (f : RoundUnit → RoundUnit) : (s.modRound f).bus = s.bus := rfl
@[simp] theorem State.modRound_free (s : State) (f : RoundUnit → RoundUnit) : (s.modRound f).free = s.free := rfl
@[simp] theorem State.modRound_mem (s : State) (f : RoundUnit → RoundUnit) : (s.modRound f).mem = s.mem := rfl
@[simp] theorem State.modRound_cores (s : State) (f : RoundUnit → RoundUnit) : (s.modRound f).cores = s.cores := rfl
@[simp] theorem State.modRound_clusters (s : State) (f : RoundUnit → RoundUnit) : (s.modRound f).clusters = s.clusters := rfl
@[simp] theorem State.modRound_governors (s : State) (f : RoundUnit → RoundUnit) : (s.modRound f).governors = s.governors := rfl
@[simp] theorem State.modRound_time (s : State) (f : RoundUnit → RoundUnit) : (s.modRound f).time = s.time := rfl
@[simp] theorem State.modRound_gate (s : State) (f : RoundUnit → RoundUnit) : (s.modRound f).gate = s.gate := rfl
@[simp] theorem State.modRound_commit (s : State) (f : RoundUnit → RoundUnit) : (s.modRound f).commit = s.commit := rfl
@[simp] theorem State.modRound_tiers (s : State) (f : RoundUnit → RoundUnit) : (s.modRound f).tiers = s.tiers := rfl
@[simp] theorem State.modRound_torus (s : State) (f : RoundUnit → RoundUnit) : (s.modRound f).torus = s.torus := rfl
@[simp] theorem State.modRound_wan (s : State) (f : RoundUnit → RoundUnit) : (s.modRound f).wan = s.wan := rfl
@[simp] theorem State.modRound_sites (s : State) (f : RoundUnit → RoundUnit) : (s.modRound f).sites = s.sites := rfl
@[simp] theorem State.modRound_ck (s : State) (f : RoundUnit → RoundUnit) : (s.modRound f).ck = s.ck := rfl
@[simp] theorem State.modRound_fuses (s : State) (f : RoundUnit → RoundUnit) : (s.modRound f).fuses = s.fuses := rfl
@[simp] theorem State.modRound_sec (s : State) (f : RoundUnit → RoundUnit) : (s.modRound f).sec = s.sec := rfl
@[simp] theorem State.modRound_engines (s : State) (f : RoundUnit → RoundUnit) : (s.modRound f).engines = s.engines := rfl
@[simp] theorem State.modRound_flash (s : State) (f : RoundUnit → RoundUnit) : (s.modRound f).flash = s.flash := rfl
@[simp] theorem State.modRound_power (s : State) (f : RoundUnit → RoundUnit) : (s.modRound f).power = s.power := rfl
@[simp] theorem State.modRound_host (s : State) (f : RoundUnit → RoundUnit) : (s.modRound f).host = s.host := rfl
@[simp] theorem State.modRound_recorder (s : State) (f : RoundUnit → RoundUnit) : (s.modRound f).recorder = s.recorder := rfl
@[simp] theorem State.modRound_image (s : State) (f : RoundUnit → RoundUnit) : (s.modRound f).image = s.image := rfl
@[simp] theorem State.modRound_copyGood (s : State) (f : RoundUnit → RoundUnit) : (s.modRound f).copyGood = s.copyGood := rfl
@[simp] theorem State.modRound_core (s : State) (f : RoundUnit → RoundUnit) (k : Nat) : (s.modRound f).core k = s.core k := rfl
@[simp] theorem State.modRound_queue (s : State) (f : RoundUnit → RoundUnit) (k j : Nat) : (s.modRound f).queue k j = s.queue k j := rfl
@[simp] theorem State.modRound_now (s : State) (f : RoundUnit → RoundUnit) : (s.modRound f).now = s.now := rfl
@[simp] theorem State.modRound_img (s : State) (f : RoundUnit → RoundUnit) : (s.modRound f).img = s.img := rfl

/-! ### modRec -/

@[simp] theorem State.modRec_pending (s : State) (f : Recorder → Recorder) : (s.modRec f).pending = s.pending := rfl
@[simp] theorem State.modRec_bus (s : State) (f : Recorder → Recorder) : (s.modRec f).bus = s.bus := rfl
@[simp] theorem State.modRec_free (s : State) (f : Recorder → Recorder) : (s.modRec f).free = s.free := rfl
@[simp] theorem State.modRec_mem (s : State) (f : Recorder → Recorder) : (s.modRec f).mem = s.mem := rfl
@[simp] theorem State.modRec_cores (s : State) (f : Recorder → Recorder) : (s.modRec f).cores = s.cores := rfl
@[simp] theorem State.modRec_clusters (s : State) (f : Recorder → Recorder) : (s.modRec f).clusters = s.clusters := rfl
@[simp] theorem State.modRec_governors (s : State) (f : Recorder → Recorder) : (s.modRec f).governors = s.governors := rfl
@[simp] theorem State.modRec_time (s : State) (f : Recorder → Recorder) : (s.modRec f).time = s.time := rfl
@[simp] theorem State.modRec_gate (s : State) (f : Recorder → Recorder) : (s.modRec f).gate = s.gate := rfl
@[simp] theorem State.modRec_commit (s : State) (f : Recorder → Recorder) : (s.modRec f).commit = s.commit := rfl
@[simp] theorem State.modRec_tiers (s : State) (f : Recorder → Recorder) : (s.modRec f).tiers = s.tiers := rfl
@[simp] theorem State.modRec_torus (s : State) (f : Recorder → Recorder) : (s.modRec f).torus = s.torus := rfl
@[simp] theorem State.modRec_wan (s : State) (f : Recorder → Recorder) : (s.modRec f).wan = s.wan := rfl
@[simp] theorem State.modRec_sites (s : State) (f : Recorder → Recorder) : (s.modRec f).sites = s.sites := rfl
@[simp] theorem State.modRec_round (s : State) (f : Recorder → Recorder) : (s.modRec f).round = s.round := rfl
@[simp] theorem State.modRec_ck (s : State) (f : Recorder → Recorder) : (s.modRec f).ck = s.ck := rfl
@[simp] theorem State.modRec_fuses (s : State) (f : Recorder → Recorder) : (s.modRec f).fuses = s.fuses := rfl
@[simp] theorem State.modRec_sec (s : State) (f : Recorder → Recorder) : (s.modRec f).sec = s.sec := rfl
@[simp] theorem State.modRec_engines (s : State) (f : Recorder → Recorder) : (s.modRec f).engines = s.engines := rfl
@[simp] theorem State.modRec_flash (s : State) (f : Recorder → Recorder) : (s.modRec f).flash = s.flash := rfl
@[simp] theorem State.modRec_power (s : State) (f : Recorder → Recorder) : (s.modRec f).power = s.power := rfl
@[simp] theorem State.modRec_host (s : State) (f : Recorder → Recorder) : (s.modRec f).host = s.host := rfl
@[simp] theorem State.modRec_image (s : State) (f : Recorder → Recorder) : (s.modRec f).image = s.image := rfl
@[simp] theorem State.modRec_copyGood (s : State) (f : Recorder → Recorder) : (s.modRec f).copyGood = s.copyGood := rfl
@[simp] theorem State.modRec_core (s : State) (f : Recorder → Recorder) (k : Nat) : (s.modRec f).core k = s.core k := rfl
@[simp] theorem State.modRec_queue (s : State) (f : Recorder → Recorder) (k j : Nat) : (s.modRec f).queue k j = s.queue k j := rfl
@[simp] theorem State.modRec_now (s : State) (f : Recorder → Recorder) : (s.modRec f).now = s.now := rfl
@[simp] theorem State.modRec_img (s : State) (f : Recorder → Recorder) : (s.modRec f).img = s.img := rfl

/-! ### modFlash -/

@[simp] theorem State.modFlash_pending (s : State) (f : Flash → Flash) : (s.modFlash f).pending = s.pending := rfl
@[simp] theorem State.modFlash_bus (s : State) (f : Flash → Flash) : (s.modFlash f).bus = s.bus := rfl
@[simp] theorem State.modFlash_free (s : State) (f : Flash → Flash) : (s.modFlash f).free = s.free := rfl
@[simp] theorem State.modFlash_mem (s : State) (f : Flash → Flash) : (s.modFlash f).mem = s.mem := rfl
@[simp] theorem State.modFlash_cores (s : State) (f : Flash → Flash) : (s.modFlash f).cores = s.cores := rfl
@[simp] theorem State.modFlash_clusters (s : State) (f : Flash → Flash) : (s.modFlash f).clusters = s.clusters := rfl
@[simp] theorem State.modFlash_governors (s : State) (f : Flash → Flash) : (s.modFlash f).governors = s.governors := rfl
@[simp] theorem State.modFlash_time (s : State) (f : Flash → Flash) : (s.modFlash f).time = s.time := rfl
@[simp] theorem State.modFlash_gate (s : State) (f : Flash → Flash) : (s.modFlash f).gate = s.gate := rfl
@[simp] theorem State.modFlash_commit (s : State) (f : Flash → Flash) : (s.modFlash f).commit = s.commit := rfl
@[simp] theorem State.modFlash_tiers (s : State) (f : Flash → Flash) : (s.modFlash f).tiers = s.tiers := rfl
@[simp] theorem State.modFlash_torus (s : State) (f : Flash → Flash) : (s.modFlash f).torus = s.torus := rfl
@[simp] theorem State.modFlash_wan (s : State) (f : Flash → Flash) : (s.modFlash f).wan = s.wan := rfl
@[simp] theorem State.modFlash_sites (s : State) (f : Flash → Flash) : (s.modFlash f).sites = s.sites := rfl
@[simp] theorem State.modFlash_round (s : State) (f : Flash → Flash) : (s.modFlash f).round = s.round := rfl
@[simp] theorem State.modFlash_ck (s : State) (f : Flash → Flash) : (s.modFlash f).ck = s.ck := rfl
@[simp] theorem State.modFlash_fuses (s : State) (f : Flash → Flash) : (s.modFlash f).fuses = s.fuses := rfl
@[simp] theorem State.modFlash_sec (s : State) (f : Flash → Flash) : (s.modFlash f).sec = s.sec := rfl
@[simp] theorem State.modFlash_engines (s : State) (f : Flash → Flash) : (s.modFlash f).engines = s.engines := rfl
@[simp] theorem State.modFlash_power (s : State) (f : Flash → Flash) : (s.modFlash f).power = s.power := rfl
@[simp] theorem State.modFlash_host (s : State) (f : Flash → Flash) : (s.modFlash f).host = s.host := rfl
@[simp] theorem State.modFlash_recorder (s : State) (f : Flash → Flash) : (s.modFlash f).recorder = s.recorder := rfl
@[simp] theorem State.modFlash_image (s : State) (f : Flash → Flash) : (s.modFlash f).image = s.image := rfl
@[simp] theorem State.modFlash_copyGood (s : State) (f : Flash → Flash) : (s.modFlash f).copyGood = s.copyGood := rfl
@[simp] theorem State.modFlash_core (s : State) (f : Flash → Flash) (k : Nat) : (s.modFlash f).core k = s.core k := rfl
@[simp] theorem State.modFlash_queue (s : State) (f : Flash → Flash) (k j : Nat) : (s.modFlash f).queue k j = s.queue k j := rfl
@[simp] theorem State.modFlash_now (s : State) (f : Flash → Flash) : (s.modFlash f).now = s.now := rfl
@[simp] theorem State.modFlash_img (s : State) (f : Flash → Flash) : (s.modFlash f).img = s.img := rfl

/-! ### modFuses -/

@[simp] theorem State.modFuses_pending (s : State) (f : Fuses → Fuses) : (s.modFuses f).pending = s.pending := rfl
@[simp] theorem State.modFuses_bus (s : State) (f : Fuses → Fuses) : (s.modFuses f).bus = s.bus := rfl
@[simp] theorem State.modFuses_free (s : State) (f : Fuses → Fuses) : (s.modFuses f).free = s.free := rfl
@[simp] theorem State.modFuses_mem (s : State) (f : Fuses → Fuses) : (s.modFuses f).mem = s.mem := rfl
@[simp] theorem State.modFuses_cores (s : State) (f : Fuses → Fuses) : (s.modFuses f).cores = s.cores := rfl
@[simp] theorem State.modFuses_clusters (s : State) (f : Fuses → Fuses) : (s.modFuses f).clusters = s.clusters := rfl
@[simp] theorem State.modFuses_governors (s : State) (f : Fuses → Fuses) : (s.modFuses f).governors = s.governors := rfl
@[simp] theorem State.modFuses_time (s : State) (f : Fuses → Fuses) : (s.modFuses f).time = s.time := rfl
@[simp] theorem State.modFuses_gate (s : State) (f : Fuses → Fuses) : (s.modFuses f).gate = s.gate := rfl
@[simp] theorem State.modFuses_commit (s : State) (f : Fuses → Fuses) : (s.modFuses f).commit = s.commit := rfl
@[simp] theorem State.modFuses_tiers (s : State) (f : Fuses → Fuses) : (s.modFuses f).tiers = s.tiers := rfl
@[simp] theorem State.modFuses_torus (s : State) (f : Fuses → Fuses) : (s.modFuses f).torus = s.torus := rfl
@[simp] theorem State.modFuses_wan (s : State) (f : Fuses → Fuses) : (s.modFuses f).wan = s.wan := rfl
@[simp] theorem State.modFuses_sites (s : State) (f : Fuses → Fuses) : (s.modFuses f).sites = s.sites := rfl
@[simp] theorem State.modFuses_round (s : State) (f : Fuses → Fuses) : (s.modFuses f).round = s.round := rfl
@[simp] theorem State.modFuses_ck (s : State) (f : Fuses → Fuses) : (s.modFuses f).ck = s.ck := rfl
@[simp] theorem State.modFuses_sec (s : State) (f : Fuses → Fuses) : (s.modFuses f).sec = s.sec := rfl
@[simp] theorem State.modFuses_engines (s : State) (f : Fuses → Fuses) : (s.modFuses f).engines = s.engines := rfl
@[simp] theorem State.modFuses_flash (s : State) (f : Fuses → Fuses) : (s.modFuses f).flash = s.flash := rfl
@[simp] theorem State.modFuses_power (s : State) (f : Fuses → Fuses) : (s.modFuses f).power = s.power := rfl
@[simp] theorem State.modFuses_host (s : State) (f : Fuses → Fuses) : (s.modFuses f).host = s.host := rfl
@[simp] theorem State.modFuses_recorder (s : State) (f : Fuses → Fuses) : (s.modFuses f).recorder = s.recorder := rfl
@[simp] theorem State.modFuses_image (s : State) (f : Fuses → Fuses) : (s.modFuses f).image = s.image := rfl
@[simp] theorem State.modFuses_copyGood (s : State) (f : Fuses → Fuses) : (s.modFuses f).copyGood = s.copyGood := rfl
@[simp] theorem State.modFuses_core (s : State) (f : Fuses → Fuses) (k : Nat) : (s.modFuses f).core k = s.core k := rfl
@[simp] theorem State.modFuses_queue (s : State) (f : Fuses → Fuses) (k j : Nat) : (s.modFuses f).queue k j = s.queue k j := rfl
@[simp] theorem State.modFuses_now (s : State) (f : Fuses → Fuses) : (s.modFuses f).now = s.now := rfl
@[simp] theorem State.modFuses_img (s : State) (f : Fuses → Fuses) : (s.modFuses f).img = s.img := rfl

/-! ### modCommit -/

@[simp] theorem State.modCommit_pending (s : State) (f : CommitUnit → CommitUnit) : (s.modCommit f).pending = s.pending := rfl
@[simp] theorem State.modCommit_bus (s : State) (f : CommitUnit → CommitUnit) : (s.modCommit f).bus = s.bus := rfl
@[simp] theorem State.modCommit_free (s : State) (f : CommitUnit → CommitUnit) : (s.modCommit f).free = s.free := rfl
@[simp] theorem State.modCommit_mem (s : State) (f : CommitUnit → CommitUnit) : (s.modCommit f).mem = s.mem := rfl
@[simp] theorem State.modCommit_cores (s : State) (f : CommitUnit → CommitUnit) : (s.modCommit f).cores = s.cores := rfl
@[simp] theorem State.modCommit_clusters (s : State) (f : CommitUnit → CommitUnit) : (s.modCommit f).clusters = s.clusters := rfl
@[simp] theorem State.modCommit_governors (s : State) (f : CommitUnit → CommitUnit) : (s.modCommit f).governors = s.governors := rfl
@[simp] theorem State.modCommit_time (s : State) (f : CommitUnit → CommitUnit) : (s.modCommit f).time = s.time := rfl
@[simp] theorem State.modCommit_gate (s : State) (f : CommitUnit → CommitUnit) : (s.modCommit f).gate = s.gate := rfl
@[simp] theorem State.modCommit_tiers (s : State) (f : CommitUnit → CommitUnit) : (s.modCommit f).tiers = s.tiers := rfl
@[simp] theorem State.modCommit_torus (s : State) (f : CommitUnit → CommitUnit) : (s.modCommit f).torus = s.torus := rfl
@[simp] theorem State.modCommit_wan (s : State) (f : CommitUnit → CommitUnit) : (s.modCommit f).wan = s.wan := rfl
@[simp] theorem State.modCommit_sites (s : State) (f : CommitUnit → CommitUnit) : (s.modCommit f).sites = s.sites := rfl
@[simp] theorem State.modCommit_round (s : State) (f : CommitUnit → CommitUnit) : (s.modCommit f).round = s.round := rfl
@[simp] theorem State.modCommit_ck (s : State) (f : CommitUnit → CommitUnit) : (s.modCommit f).ck = s.ck := rfl
@[simp] theorem State.modCommit_fuses (s : State) (f : CommitUnit → CommitUnit) : (s.modCommit f).fuses = s.fuses := rfl
@[simp] theorem State.modCommit_sec (s : State) (f : CommitUnit → CommitUnit) : (s.modCommit f).sec = s.sec := rfl
@[simp] theorem State.modCommit_engines (s : State) (f : CommitUnit → CommitUnit) : (s.modCommit f).engines = s.engines := rfl
@[simp] theorem State.modCommit_flash (s : State) (f : CommitUnit → CommitUnit) : (s.modCommit f).flash = s.flash := rfl
@[simp] theorem State.modCommit_power (s : State) (f : CommitUnit → CommitUnit) : (s.modCommit f).power = s.power := rfl
@[simp] theorem State.modCommit_host (s : State) (f : CommitUnit → CommitUnit) : (s.modCommit f).host = s.host := rfl
@[simp] theorem State.modCommit_recorder (s : State) (f : CommitUnit → CommitUnit) : (s.modCommit f).recorder = s.recorder := rfl
@[simp] theorem State.modCommit_image (s : State) (f : CommitUnit → CommitUnit) : (s.modCommit f).image = s.image := rfl
@[simp] theorem State.modCommit_copyGood (s : State) (f : CommitUnit → CommitUnit) : (s.modCommit f).copyGood = s.copyGood := rfl
@[simp] theorem State.modCommit_core (s : State) (f : CommitUnit → CommitUnit) (k : Nat) : (s.modCommit f).core k = s.core k := rfl
@[simp] theorem State.modCommit_queue (s : State) (f : CommitUnit → CommitUnit) (k j : Nat) : (s.modCommit f).queue k j = s.queue k j := rfl
@[simp] theorem State.modCommit_now (s : State) (f : CommitUnit → CommitUnit) : (s.modCommit f).now = s.now := rfl
@[simp] theorem State.modCommit_img (s : State) (f : CommitUnit → CommitUnit) : (s.modCommit f).img = s.img := rfl

/-! ### modCk -/

@[simp] theorem State.modCk_pending (s : State) (f : CheckpointUnit → CheckpointUnit) : (s.modCk f).pending = s.pending := rfl
@[simp] theorem State.modCk_bus (s : State) (f : CheckpointUnit → CheckpointUnit) : (s.modCk f).bus = s.bus := rfl
@[simp] theorem State.modCk_free (s : State) (f : CheckpointUnit → CheckpointUnit) : (s.modCk f).free = s.free := rfl
@[simp] theorem State.modCk_mem (s : State) (f : CheckpointUnit → CheckpointUnit) : (s.modCk f).mem = s.mem := rfl
@[simp] theorem State.modCk_cores (s : State) (f : CheckpointUnit → CheckpointUnit) : (s.modCk f).cores = s.cores := rfl
@[simp] theorem State.modCk_clusters (s : State) (f : CheckpointUnit → CheckpointUnit) : (s.modCk f).clusters = s.clusters := rfl
@[simp] theorem State.modCk_governors (s : State) (f : CheckpointUnit → CheckpointUnit) : (s.modCk f).governors = s.governors := rfl
@[simp] theorem State.modCk_time (s : State) (f : CheckpointUnit → CheckpointUnit) : (s.modCk f).time = s.time := rfl
@[simp] theorem State.modCk_gate (s : State) (f : CheckpointUnit → CheckpointUnit) : (s.modCk f).gate = s.gate := rfl
@[simp] theorem State.modCk_commit (s : State) (f : CheckpointUnit → CheckpointUnit) : (s.modCk f).commit = s.commit := rfl
@[simp] theorem State.modCk_tiers (s : State) (f : CheckpointUnit → CheckpointUnit) : (s.modCk f).tiers = s.tiers := rfl
@[simp] theorem State.modCk_torus (s : State) (f : CheckpointUnit → CheckpointUnit) : (s.modCk f).torus = s.torus := rfl
@[simp] theorem State.modCk_wan (s : State) (f : CheckpointUnit → CheckpointUnit) : (s.modCk f).wan = s.wan := rfl
@[simp] theorem State.modCk_sites (s : State) (f : CheckpointUnit → CheckpointUnit) : (s.modCk f).sites = s.sites := rfl
@[simp] theorem State.modCk_round (s : State) (f : CheckpointUnit → CheckpointUnit) : (s.modCk f).round = s.round := rfl
@[simp] theorem State.modCk_fuses (s : State) (f : CheckpointUnit → CheckpointUnit) : (s.modCk f).fuses = s.fuses := rfl
@[simp] theorem State.modCk_sec (s : State) (f : CheckpointUnit → CheckpointUnit) : (s.modCk f).sec = s.sec := rfl
@[simp] theorem State.modCk_engines (s : State) (f : CheckpointUnit → CheckpointUnit) : (s.modCk f).engines = s.engines := rfl
@[simp] theorem State.modCk_flash (s : State) (f : CheckpointUnit → CheckpointUnit) : (s.modCk f).flash = s.flash := rfl
@[simp] theorem State.modCk_power (s : State) (f : CheckpointUnit → CheckpointUnit) : (s.modCk f).power = s.power := rfl
@[simp] theorem State.modCk_host (s : State) (f : CheckpointUnit → CheckpointUnit) : (s.modCk f).host = s.host := rfl
@[simp] theorem State.modCk_recorder (s : State) (f : CheckpointUnit → CheckpointUnit) : (s.modCk f).recorder = s.recorder := rfl
@[simp] theorem State.modCk_image (s : State) (f : CheckpointUnit → CheckpointUnit) : (s.modCk f).image = s.image := rfl
@[simp] theorem State.modCk_copyGood (s : State) (f : CheckpointUnit → CheckpointUnit) : (s.modCk f).copyGood = s.copyGood := rfl
@[simp] theorem State.modCk_core (s : State) (f : CheckpointUnit → CheckpointUnit) (k : Nat) : (s.modCk f).core k = s.core k := rfl
@[simp] theorem State.modCk_queue (s : State) (f : CheckpointUnit → CheckpointUnit) (k j : Nat) : (s.modCk f).queue k j = s.queue k j := rfl
@[simp] theorem State.modCk_now (s : State) (f : CheckpointUnit → CheckpointUnit) : (s.modCk f).now = s.now := rfl
@[simp] theorem State.modCk_img (s : State) (f : CheckpointUnit → CheckpointUnit) : (s.modCk f).img = s.img := rfl

/-! ### modGov -/

@[simp] theorem State.modGov_pending (s : State) (die : Nat) (f : Governor → Governor) : (s.modGov die f).pending = s.pending := rfl
@[simp] theorem State.modGov_bus (s : State) (die : Nat) (f : Governor → Governor) : (s.modGov die f).bus = s.bus := rfl
@[simp] theorem State.modGov_free (s : State) (die : Nat) (f : Governor → Governor) : (s.modGov die f).free = s.free := rfl
@[simp] theorem State.modGov_mem (s : State) (die : Nat) (f : Governor → Governor) : (s.modGov die f).mem = s.mem := rfl
@[simp] theorem State.modGov_cores (s : State) (die : Nat) (f : Governor → Governor) : (s.modGov die f).cores = s.cores := rfl
@[simp] theorem State.modGov_clusters (s : State) (die : Nat) (f : Governor → Governor) : (s.modGov die f).clusters = s.clusters := rfl
@[simp] theorem State.modGov_time (s : State) (die : Nat) (f : Governor → Governor) : (s.modGov die f).time = s.time := rfl
@[simp] theorem State.modGov_gate (s : State) (die : Nat) (f : Governor → Governor) : (s.modGov die f).gate = s.gate := rfl
@[simp] theorem State.modGov_commit (s : State) (die : Nat) (f : Governor → Governor) : (s.modGov die f).commit = s.commit := rfl
@[simp] theorem State.modGov_tiers (s : State) (die : Nat) (f : Governor → Governor) : (s.modGov die f).tiers = s.tiers := rfl
@[simp] theorem State.modGov_torus (s : State) (die : Nat) (f : Governor → Governor) : (s.modGov die f).torus = s.torus := rfl
@[simp] theorem State.modGov_wan (s : State) (die : Nat) (f : Governor → Governor) : (s.modGov die f).wan = s.wan := rfl
@[simp] theorem State.modGov_sites (s : State) (die : Nat) (f : Governor → Governor) : (s.modGov die f).sites = s.sites := rfl
@[simp] theorem State.modGov_round (s : State) (die : Nat) (f : Governor → Governor) : (s.modGov die f).round = s.round := rfl
@[simp] theorem State.modGov_ck (s : State) (die : Nat) (f : Governor → Governor) : (s.modGov die f).ck = s.ck := rfl
@[simp] theorem State.modGov_fuses (s : State) (die : Nat) (f : Governor → Governor) : (s.modGov die f).fuses = s.fuses := rfl
@[simp] theorem State.modGov_sec (s : State) (die : Nat) (f : Governor → Governor) : (s.modGov die f).sec = s.sec := rfl
@[simp] theorem State.modGov_engines (s : State) (die : Nat) (f : Governor → Governor) : (s.modGov die f).engines = s.engines := rfl
@[simp] theorem State.modGov_flash (s : State) (die : Nat) (f : Governor → Governor) : (s.modGov die f).flash = s.flash := rfl
@[simp] theorem State.modGov_power (s : State) (die : Nat) (f : Governor → Governor) : (s.modGov die f).power = s.power := rfl
@[simp] theorem State.modGov_host (s : State) (die : Nat) (f : Governor → Governor) : (s.modGov die f).host = s.host := rfl
@[simp] theorem State.modGov_recorder (s : State) (die : Nat) (f : Governor → Governor) : (s.modGov die f).recorder = s.recorder := rfl
@[simp] theorem State.modGov_image (s : State) (die : Nat) (f : Governor → Governor) : (s.modGov die f).image = s.image := rfl
@[simp] theorem State.modGov_copyGood (s : State) (die : Nat) (f : Governor → Governor) : (s.modGov die f).copyGood = s.copyGood := rfl
@[simp] theorem State.modGov_core (s : State) (die : Nat) (f : Governor → Governor) (k : Nat) : (s.modGov die f).core k = s.core k := rfl
@[simp] theorem State.modGov_queue (s : State) (die : Nat) (f : Governor → Governor) (k j : Nat) : (s.modGov die f).queue k j = s.queue k j := rfl
@[simp] theorem State.modGov_now (s : State) (die : Nat) (f : Governor → Governor) : (s.modGov die f).now = s.now := rfl
@[simp] theorem State.modGov_img (s : State) (die : Nat) (f : Governor → Governor) : (s.modGov die f).img = s.img := rfl

/-! ### setRing -/

@[simp] theorem State.setRing_pending (s : State) (ring : Nat) (r : ResultRing) : (s.setRing ring r).pending = s.pending := rfl
@[simp] theorem State.setRing_bus (s : State) (ring : Nat) (r : ResultRing) : (s.setRing ring r).bus = s.bus := rfl
@[simp] theorem State.setRing_free (s : State) (ring : Nat) (r : ResultRing) : (s.setRing ring r).free = s.free := rfl
@[simp] theorem State.setRing_mem (s : State) (ring : Nat) (r : ResultRing) : (s.setRing ring r).mem = s.mem := rfl
@[simp] theorem State.setRing_cores (s : State) (ring : Nat) (r : ResultRing) : (s.setRing ring r).cores = s.cores := rfl
@[simp] theorem State.setRing_clusters (s : State) (ring : Nat) (r : ResultRing) : (s.setRing ring r).clusters = s.clusters := rfl
@[simp] theorem State.setRing_governors (s : State) (ring : Nat) (r : ResultRing) : (s.setRing ring r).governors = s.governors := rfl
@[simp] theorem State.setRing_time (s : State) (ring : Nat) (r : ResultRing) : (s.setRing ring r).time = s.time := rfl
@[simp] theorem State.setRing_gate (s : State) (ring : Nat) (r : ResultRing) : (s.setRing ring r).gate = s.gate := rfl
@[simp] theorem State.setRing_commit (s : State) (ring : Nat) (r : ResultRing) : (s.setRing ring r).commit = s.commit := rfl
@[simp] theorem State.setRing_tiers (s : State) (ring : Nat) (r : ResultRing) : (s.setRing ring r).tiers = s.tiers := rfl
@[simp] theorem State.setRing_torus (s : State) (ring : Nat) (r : ResultRing) : (s.setRing ring r).torus = s.torus := rfl
@[simp] theorem State.setRing_wan (s : State) (ring : Nat) (r : ResultRing) : (s.setRing ring r).wan = s.wan := rfl
@[simp] theorem State.setRing_sites (s : State) (ring : Nat) (r : ResultRing) : (s.setRing ring r).sites = s.sites := rfl
@[simp] theorem State.setRing_round (s : State) (ring : Nat) (r : ResultRing) : (s.setRing ring r).round = s.round := rfl
@[simp] theorem State.setRing_ck (s : State) (ring : Nat) (r : ResultRing) : (s.setRing ring r).ck = s.ck := rfl
@[simp] theorem State.setRing_fuses (s : State) (ring : Nat) (r : ResultRing) : (s.setRing ring r).fuses = s.fuses := rfl
@[simp] theorem State.setRing_sec (s : State) (ring : Nat) (r : ResultRing) : (s.setRing ring r).sec = s.sec := rfl
@[simp] theorem State.setRing_engines (s : State) (ring : Nat) (r : ResultRing) : (s.setRing ring r).engines = s.engines := rfl
@[simp] theorem State.setRing_flash (s : State) (ring : Nat) (r : ResultRing) : (s.setRing ring r).flash = s.flash := rfl
@[simp] theorem State.setRing_power (s : State) (ring : Nat) (r : ResultRing) : (s.setRing ring r).power = s.power := rfl
@[simp] theorem State.setRing_recorder (s : State) (ring : Nat) (r : ResultRing) : (s.setRing ring r).recorder = s.recorder := rfl
@[simp] theorem State.setRing_image (s : State) (ring : Nat) (r : ResultRing) : (s.setRing ring r).image = s.image := rfl
@[simp] theorem State.setRing_copyGood (s : State) (ring : Nat) (r : ResultRing) : (s.setRing ring r).copyGood = s.copyGood := rfl
@[simp] theorem State.setRing_core (s : State) (ring : Nat) (r : ResultRing) (k : Nat) : (s.setRing ring r).core k = s.core k := rfl
@[simp] theorem State.setRing_queue (s : State) (ring : Nat) (r : ResultRing) (k j : Nat) : (s.setRing ring r).queue k j = s.queue k j := rfl
@[simp] theorem State.setRing_now (s : State) (ring : Nat) (r : ResultRing) : (s.setRing ring r).now = s.now := rfl
@[simp] theorem State.setRing_img (s : State) (ring : Nat) (r : ResultRing) : (s.setRing ring r).img = s.img := rfl

/-! ### sendMsg -/

@[simp] theorem State.sendMsg_pending (s : State) (port : Nat) (m : Message) : (s.sendMsg port m).pending = s.pending := rfl
@[simp] theorem State.sendMsg_bus (s : State) (port : Nat) (m : Message) : (s.sendMsg port m).bus = s.bus := rfl
@[simp] theorem State.sendMsg_free (s : State) (port : Nat) (m : Message) : (s.sendMsg port m).free = s.free := rfl
@[simp] theorem State.sendMsg_mem (s : State) (port : Nat) (m : Message) : (s.sendMsg port m).mem = s.mem := rfl
@[simp] theorem State.sendMsg_cores (s : State) (port : Nat) (m : Message) : (s.sendMsg port m).cores = s.cores := rfl
@[simp] theorem State.sendMsg_clusters (s : State) (port : Nat) (m : Message) : (s.sendMsg port m).clusters = s.clusters := rfl
@[simp] theorem State.sendMsg_governors (s : State) (port : Nat) (m : Message) : (s.sendMsg port m).governors = s.governors := rfl
@[simp] theorem State.sendMsg_time (s : State) (port : Nat) (m : Message) : (s.sendMsg port m).time = s.time := rfl
@[simp] theorem State.sendMsg_gate (s : State) (port : Nat) (m : Message) : (s.sendMsg port m).gate = s.gate := rfl
@[simp] theorem State.sendMsg_commit (s : State) (port : Nat) (m : Message) : (s.sendMsg port m).commit = s.commit := rfl
@[simp] theorem State.sendMsg_tiers (s : State) (port : Nat) (m : Message) : (s.sendMsg port m).tiers = s.tiers := rfl
@[simp] theorem State.sendMsg_wan (s : State) (port : Nat) (m : Message) : (s.sendMsg port m).wan = s.wan := rfl
@[simp] theorem State.sendMsg_sites (s : State) (port : Nat) (m : Message) : (s.sendMsg port m).sites = s.sites := rfl
@[simp] theorem State.sendMsg_round (s : State) (port : Nat) (m : Message) : (s.sendMsg port m).round = s.round := rfl
@[simp] theorem State.sendMsg_ck (s : State) (port : Nat) (m : Message) : (s.sendMsg port m).ck = s.ck := rfl
@[simp] theorem State.sendMsg_fuses (s : State) (port : Nat) (m : Message) : (s.sendMsg port m).fuses = s.fuses := rfl
@[simp] theorem State.sendMsg_sec (s : State) (port : Nat) (m : Message) : (s.sendMsg port m).sec = s.sec := rfl
@[simp] theorem State.sendMsg_engines (s : State) (port : Nat) (m : Message) : (s.sendMsg port m).engines = s.engines := rfl
@[simp] theorem State.sendMsg_flash (s : State) (port : Nat) (m : Message) : (s.sendMsg port m).flash = s.flash := rfl
@[simp] theorem State.sendMsg_power (s : State) (port : Nat) (m : Message) : (s.sendMsg port m).power = s.power := rfl
@[simp] theorem State.sendMsg_host (s : State) (port : Nat) (m : Message) : (s.sendMsg port m).host = s.host := rfl
@[simp] theorem State.sendMsg_recorder (s : State) (port : Nat) (m : Message) : (s.sendMsg port m).recorder = s.recorder := rfl
@[simp] theorem State.sendMsg_image (s : State) (port : Nat) (m : Message) : (s.sendMsg port m).image = s.image := rfl
@[simp] theorem State.sendMsg_copyGood (s : State) (port : Nat) (m : Message) : (s.sendMsg port m).copyGood = s.copyGood := rfl
@[simp] theorem State.sendMsg_core (s : State) (port : Nat) (m : Message) (k : Nat) : (s.sendMsg port m).core k = s.core k := rfl
@[simp] theorem State.sendMsg_queue (s : State) (port : Nat) (m : Message) (k j : Nat) : (s.sendMsg port m).queue k j = s.queue k j := rfl
@[simp] theorem State.sendMsg_now (s : State) (port : Nat) (m : Message) : (s.sendMsg port m).now = s.now := rfl
@[simp] theorem State.sendMsg_img (s : State) (port : Nat) (m : Message) : (s.sendMsg port m).img = s.img := rfl

/-! ### report -/

@[simp] theorem State.report_pending (s : State) (type : Nat) (payload : List Byte) : (s.report type payload).pending = s.pending := rfl
@[simp] theorem State.report_bus (s : State) (type : Nat) (payload : List Byte) : (s.report type payload).bus = s.bus := rfl
@[simp] theorem State.report_free (s : State) (type : Nat) (payload : List Byte) : (s.report type payload).free = s.free := rfl
@[simp] theorem State.report_mem (s : State) (type : Nat) (payload : List Byte) : (s.report type payload).mem = s.mem := rfl
@[simp] theorem State.report_cores (s : State) (type : Nat) (payload : List Byte) : (s.report type payload).cores = s.cores := rfl
@[simp] theorem State.report_clusters (s : State) (type : Nat) (payload : List Byte) : (s.report type payload).clusters = s.clusters := rfl
@[simp] theorem State.report_governors (s : State) (type : Nat) (payload : List Byte) : (s.report type payload).governors = s.governors := rfl
@[simp] theorem State.report_time (s : State) (type : Nat) (payload : List Byte) : (s.report type payload).time = s.time := rfl
@[simp] theorem State.report_gate (s : State) (type : Nat) (payload : List Byte) : (s.report type payload).gate = s.gate := rfl
@[simp] theorem State.report_commit (s : State) (type : Nat) (payload : List Byte) : (s.report type payload).commit = s.commit := rfl
@[simp] theorem State.report_tiers (s : State) (type : Nat) (payload : List Byte) : (s.report type payload).tiers = s.tiers := rfl
@[simp] theorem State.report_torus (s : State) (type : Nat) (payload : List Byte) : (s.report type payload).torus = s.torus := rfl
@[simp] theorem State.report_wan (s : State) (type : Nat) (payload : List Byte) : (s.report type payload).wan = s.wan := rfl
@[simp] theorem State.report_sites (s : State) (type : Nat) (payload : List Byte) : (s.report type payload).sites = s.sites := rfl
@[simp] theorem State.report_round (s : State) (type : Nat) (payload : List Byte) : (s.report type payload).round = s.round := rfl
@[simp] theorem State.report_ck (s : State) (type : Nat) (payload : List Byte) : (s.report type payload).ck = s.ck := rfl
@[simp] theorem State.report_fuses (s : State) (type : Nat) (payload : List Byte) : (s.report type payload).fuses = s.fuses := rfl
@[simp] theorem State.report_sec (s : State) (type : Nat) (payload : List Byte) : (s.report type payload).sec = s.sec := rfl
@[simp] theorem State.report_engines (s : State) (type : Nat) (payload : List Byte) : (s.report type payload).engines = s.engines := rfl
@[simp] theorem State.report_flash (s : State) (type : Nat) (payload : List Byte) : (s.report type payload).flash = s.flash := rfl
@[simp] theorem State.report_power (s : State) (type : Nat) (payload : List Byte) : (s.report type payload).power = s.power := rfl
@[simp] theorem State.report_host (s : State) (type : Nat) (payload : List Byte) : (s.report type payload).host = s.host := rfl
@[simp] theorem State.report_image (s : State) (type : Nat) (payload : List Byte) : (s.report type payload).image = s.image := rfl
@[simp] theorem State.report_copyGood (s : State) (type : Nat) (payload : List Byte) : (s.report type payload).copyGood = s.copyGood := rfl
@[simp] theorem State.report_core (s : State) (type : Nat) (payload : List Byte) (k : Nat) : (s.report type payload).core k = s.core k := rfl
@[simp] theorem State.report_queue (s : State) (type : Nat) (payload : List Byte) (k j : Nat) : (s.report type payload).queue k j = s.queue k j := rfl
@[simp] theorem State.report_now (s : State) (type : Nat) (payload : List Byte) : (s.report type payload).now = s.now := rfl
@[simp] theorem State.report_img (s : State) (type : Nat) (payload : List Byte) : (s.report type payload).img = s.img := rfl

/-! ### event -/

@[simp] theorem State.event_pending (s : State) (type : Nat) (cause : Cause) (index arg addr : Nat) : (s.event type cause index arg addr).pending = s.pending := rfl
@[simp] theorem State.event_bus (s : State) (type : Nat) (cause : Cause) (index arg addr : Nat) : (s.event type cause index arg addr).bus = s.bus := rfl
@[simp] theorem State.event_mem (s : State) (type : Nat) (cause : Cause) (index arg addr : Nat) : (s.event type cause index arg addr).mem = s.mem := rfl
@[simp] theorem State.event_cores (s : State) (type : Nat) (cause : Cause) (index arg addr : Nat) : (s.event type cause index arg addr).cores = s.cores := rfl
@[simp] theorem State.event_clusters (s : State) (type : Nat) (cause : Cause) (index arg addr : Nat) : (s.event type cause index arg addr).clusters = s.clusters := rfl
@[simp] theorem State.event_governors (s : State) (type : Nat) (cause : Cause) (index arg addr : Nat) : (s.event type cause index arg addr).governors = s.governors := rfl
@[simp] theorem State.event_time (s : State) (type : Nat) (cause : Cause) (index arg addr : Nat) : (s.event type cause index arg addr).time = s.time := rfl
@[simp] theorem State.event_gate (s : State) (type : Nat) (cause : Cause) (index arg addr : Nat) : (s.event type cause index arg addr).gate = s.gate := rfl
@[simp] theorem State.event_commit (s : State) (type : Nat) (cause : Cause) (index arg addr : Nat) : (s.event type cause index arg addr).commit = s.commit := rfl
@[simp] theorem State.event_tiers (s : State) (type : Nat) (cause : Cause) (index arg addr : Nat) : (s.event type cause index arg addr).tiers = s.tiers := rfl
@[simp] theorem State.event_torus (s : State) (type : Nat) (cause : Cause) (index arg addr : Nat) : (s.event type cause index arg addr).torus = s.torus := rfl
@[simp] theorem State.event_wan (s : State) (type : Nat) (cause : Cause) (index arg addr : Nat) : (s.event type cause index arg addr).wan = s.wan := rfl
@[simp] theorem State.event_sites (s : State) (type : Nat) (cause : Cause) (index arg addr : Nat) : (s.event type cause index arg addr).sites = s.sites := rfl
@[simp] theorem State.event_round (s : State) (type : Nat) (cause : Cause) (index arg addr : Nat) : (s.event type cause index arg addr).round = s.round := rfl
@[simp] theorem State.event_ck (s : State) (type : Nat) (cause : Cause) (index arg addr : Nat) : (s.event type cause index arg addr).ck = s.ck := rfl
@[simp] theorem State.event_fuses (s : State) (type : Nat) (cause : Cause) (index arg addr : Nat) : (s.event type cause index arg addr).fuses = s.fuses := rfl
@[simp] theorem State.event_sec (s : State) (type : Nat) (cause : Cause) (index arg addr : Nat) : (s.event type cause index arg addr).sec = s.sec := rfl
@[simp] theorem State.event_engines (s : State) (type : Nat) (cause : Cause) (index arg addr : Nat) : (s.event type cause index arg addr).engines = s.engines := rfl
@[simp] theorem State.event_flash (s : State) (type : Nat) (cause : Cause) (index arg addr : Nat) : (s.event type cause index arg addr).flash = s.flash := rfl
@[simp] theorem State.event_power (s : State) (type : Nat) (cause : Cause) (index arg addr : Nat) : (s.event type cause index arg addr).power = s.power := rfl
@[simp] theorem State.event_host (s : State) (type : Nat) (cause : Cause) (index arg addr : Nat) : (s.event type cause index arg addr).host = s.host := rfl
@[simp] theorem State.event_image (s : State) (type : Nat) (cause : Cause) (index arg addr : Nat) : (s.event type cause index arg addr).image = s.image := rfl
@[simp] theorem State.event_copyGood (s : State) (type : Nat) (cause : Cause) (index arg addr : Nat) : (s.event type cause index arg addr).copyGood = s.copyGood := rfl
@[simp] theorem State.event_core (s : State) (type : Nat) (cause : Cause) (index arg addr : Nat) (k : Nat) : (s.event type cause index arg addr).core k = s.core k := rfl
@[simp] theorem State.event_queue (s : State) (type : Nat) (cause : Cause) (index arg addr : Nat) (k j : Nat) : (s.event type cause index arg addr).queue k j = s.queue k j := rfl
@[simp] theorem State.event_now (s : State) (type : Nat) (cause : Cause) (index arg addr : Nat) : (s.event type cause index arg addr).now = s.now := rfl
@[simp] theorem State.event_img (s : State) (type : Nat) (cause : Cause) (index arg addr : Nat) : (s.event type cause index arg addr).img = s.img := rfl

/-! ### Cores -/

@[simp] theorem State.core_setCore_self (s : State) (c : Nat) (x : CoreSt) : (s.setCore c x).core c = x := by
  simp [State.core, State.setCore]
theorem State.core_setCore_ne (s : State) {c k : Nat} (x : CoreSt) (h : k ≠ c) : (s.setCore c x).core k = s.core k := by
  simp [State.core, State.setCore, Tab.at_set_ne _ _ h]
@[simp] theorem State.core_modCore_self (s : State) (c : Nat) (f : CoreSt → CoreSt) : (s.modCore c f).core c = f (s.core c) := by
  simp [State.modCore]
theorem State.core_modCore_ne (s : State) {c k : Nat} (f : CoreSt → CoreSt) (h : k ≠ c) : (s.modCore c f).core k = s.core k := by
  simp [State.modCore, State.core_setCore_ne _ _ h]
@[simp] theorem State.queue_modQueue_self (s : State) (c q : Nat) (f : Queue → Queue) : (s.modQueue c q f).queue c q = f (s.queue c q) := by
  simp [State.queue, State.modQueue, CoreSt.modQueue]
theorem State.queue_modQueue_ne (s : State) {c q k j : Nat} (f : Queue → Queue) (h : (k, j) ≠ (c, q)) :
    (s.modQueue c q f).queue k j = s.queue k j := by
  unfold State.queue State.modQueue
  by_cases hk : k = c
  · subst hk
    have hj : j ≠ q := by rintro rfl; exact h rfl
    simp [CoreSt.modQueue, Tab.at_upd_ne _ _ hj]
  · simp [State.core_modCore_ne _ _ hk]
@[simp] theorem State.core_modQueue_self (s : State) (c q : Nat) (f : Queue → Queue) : (s.modQueue c q f).core c = (s.core c).modQueue q f := by
  simp [State.modQueue]
theorem State.core_modQueue_ne (s : State) {c k : Nat} (q : Nat) (f : Queue → Queue) (h : k ≠ c) : (s.modQueue c q f).core k = s.core k := by
  simp [State.modQueue, State.core_modCore_ne _ _ h]

@[simp] theorem State.when_true (s : State) (f : State → State) : s.when true f = f s := rfl
@[simp] theorem State.when_false (s : State) (f : State → State) : s.when false f = s := rfl

end Sys2Proof.Machine
end

