-- ==== Sys2Proof/Laws/Access.lean ====
section
/-! SUPPORT. What reads and writes of the stores can change: a read changes no byte, and a read of a core's own SRAM changes
no other core. -/

namespace Sys2Proof.Machine

open Sys2Proof

theorem State.countWords_mem (s : State) (a ce ue bad : Nat) : (s.countWords a ce ue bad).mem = s.mem := by
  unfold State.countWords; split
  · simp
  · dsimp only; split <;> simp

theorem State.countWords_core_ne (s : State) {a k : Nat} (ce ue bad : Nat) (h : addrSpace a = 0 → k ≠ addrCore a) :
    (s.countWords a ce ue bad).core k = s.core k := by
  unfold State.countWords; split
  · rename_i h0; simp [State.core_modCore_ne _ _ (h h0)]
  · dsimp only; split <;> simp

theorem State.countUe_mem (s : State) (a : Nat) (c : Cause) : (s.countUe a c).mem = s.mem := by unfold State.countUe; rfl
theorem State.countUe_core (s : State) (a : Nat) (c : Cause) (k : Nat) : (s.countUe a c).core k = s.core k := by unfold State.countUe; rfl
theorem State.tierUe_mem (s : State) (line : Nat) : (s.tierUe line).mem = s.mem := by
  unfold State.tierUe; rw [State.event_mem, State.countUe_mem]
theorem State.tierUe_core (s : State) (line k : Nat) : (s.tierUe line).core k = s.core k := by
  unfold State.tierUe; rw [State.event_core, State.countUe_core]
theorem State.countCe_mem (s : State) (n : Nat) : (s.countCe n).mem = s.mem := by unfold State.countCe; exact s.modTiers_mem _
theorem State.countCe_core (s : State) (n k : Nat) : (s.countCe n).core k = s.core k := by
  unfold State.countCe; exact s.modTiers_core _ _

theorem State.readWords_mem (s : State) (a len : Nat) : (s.readWords a len).1.mem = s.mem := by
  unfold State.readWords; dsimp only; split
  · rfl
  · exact s.countWords_mem _ _ _ _

theorem State.readWords_core_ne (s : State) {a k : Nat} (len : Nat) (h : addrSpace a = 0 → k ≠ addrCore a) :
    (s.readWords a len).1.core k = s.core k := by
  unfold State.readWords; dsimp only; split
  · rfl
  · exact s.countWords_core_ne _ _ _ h

theorem State.readBadLine_mem (a : Nat) (r : Res (List Byte)) (e : Nat × ErrPattern) : (State.readBadLine a r e).1.mem = r.1.mem := by
  obtain ⟨s, o⟩ := r
  unfold State.readBadLine; dsimp only
  split
  · exact s.tierUe_mem _
  · split
    · rfl
    · exact s.countCe_mem _

theorem State.readBadLine_core (a k : Nat) (r : Res (List Byte)) (e : Nat × ErrPattern) :
    (State.readBadLine a r e).1.core k = r.1.core k := by
  obtain ⟨s, o⟩ := r
  unfold State.readBadLine; dsimp only
  split
  · exact s.tierUe_core _ _
  · split
    · rfl
    · exact s.countCe_core _ _

/-- A property of the state that every step of a fold keeps. -/
theorem foldl_keeps {α β γ : Type} (p : β → γ) (f : β → α → β) (h : ∀ b a, p (f b a) = p b) (l : List α) (b : β) :
    p (l.foldl f b) = p b := by
  induction l generalizing b with
  | nil => rfl
  | cons a l ih => rw [List.foldl_cons, ih, h]

theorem State.readLines_mem (s : State) (a len : Nat) : (s.readLines a len).1.mem = s.mem := by
  unfold State.readLines; split
  · rfl
  · exact foldl_keeps (fun r : Res (List Byte) => r.1.mem) _ (fun r e => State.readBadLine_mem a r e) _ _

theorem State.readLines_core (s : State) (a len k : Nat) : (s.readLines a len).1.core k = s.core k := by
  unfold State.readLines; split
  · rfl
  · exact foldl_keeps (fun r : Res (List Byte) => r.1.core k) _ (fun r e => State.readBadLine_core a k r e) _ _

/-- A read changes no byte of memory. -/
@[simp] theorem State.readMem_mem (s : State) (a len : Nat) : (s.readMem a len).1.mem = s.mem := by
  unfold State.readMem; split
  · rfl
  · split
    · exact s.readLines_mem _ _
    · exact s.readWords_mem _ _

/-- A read changes no core but the one whose SRAM it reads. -/
theorem State.readMem_core_ne (s : State) {a k : Nat} (len : Nat) (h : addrSpace a = 0 → k ≠ addrCore a) :
    (s.readMem a len).1.core k = s.core k := by
  unfold State.readMem; split
  · rfl
  · split
    · exact s.readLines_core _ _ _
    · exact s.readWords_core_ne _ h

@[simp] theorem State.readOwn_mem (s : State) (core a len align : Nat) : (s.readOwn core a len align).1.mem = s.mem := by
  unfold State.readOwn; split
  · exact s.readMem_mem _ _
  · rfl

theorem State.readOwn_core_ne (s : State) {core k : Nat} (a len align : Nat) (h : k ≠ core) :
    (s.readOwn core a len align).1.core k = s.core k := by
  unfold State.readOwn; split
  · rename_i h0
    simp only [Bool.and_eq_true, decide_eq_true_eq] at h0
    exact s.readMem_core_ne _ (fun _ => by rw [h0.1.1.2]; exact h)
  · rfl

theorem State.readWords_cores (s : State) (a len : Nat) (h : s.tiers.wordErrs = []) : s.readWords a len = (s, .ok (s.peek a len)) := by
  simp [State.readWords, Tab.range, h]

/-- With no SRAM word in error a read of SRAM gives the stored bytes and changes nothing. -/
theorem State.readMem_clean (s : State) (a len : Nat) (h : s.tiers.wordErrs = []) (h1 : addrSpace a ≠ 1) (h2 : addrSpace a ≠ 2) :
    s.readMem a len = (s, .ok (s.peek a len)) := by
  unfold State.readMem; split
  · rename_i hl; subst hl; simp [State.peek, Memory.read, cellRun]
  · simp [h1, h2, s.readWords_cores a len h]

/-- With no SRAM word in error a write of SRAM writes its bytes and changes nothing else. -/
theorem State.writeWords_clean (s : State) (a : Nat) (bs : List Byte) (h : s.tiers.wordErrs = []) :
    s.writeWords a bs = (s.poke a bs, 0) := by
  simp [State.writeWords, Tab.range, h]

theorem State.writeMem_clean (s : State) (a : Nat) (bs : List Byte) (h : s.tiers.wordErrs = []) (h1 : addrSpace a ≠ 1)
    (h2 : addrSpace a ≠ 2) (hb : bs ≠ []) : s.writeMem a bs = (s.poke a bs, 0) := by
  unfold State.writeMem
  have : bs.isEmpty = false := by cases bs <;> simp_all
  simp [this, h1, h2, s.writeWords_clean a bs h]

/-! ## Lengths -/

theorem cellRun_length (m : Memory) (a n : Nat) : (cellRun m a n).length = n := by
  induction n generalizing m a with
  | zero => cases m <;> simp [cellRun]
  | succ n ih =>
    cases m with
    | nil => simp [cellRun, zeros]
    | cons c m =>
      obtain ⟨k, b⟩ := c
      unfold cellRun
      split <;> simp [ih]

@[simp] theorem State.peek_length (s : State) (a n : Nat) : (s.peek a n).length = n := by
  simp [State.peek, Memory.read, cellRun_length]

@[simp] theorem leBytes_length (n w : Nat) : (leBytes n w).length = n := by
  induction n generalizing w with
  | zero => rfl
  | succ n ih => simp [leBytes, ih]

theorem leBytes_getD (n w i : Nat) (h : i < n) : (leBytes n w).getD i 0 = BitVec.ofNat 8 (w / 256 ^ i) := by
  induction n generalizing w i with
  | zero => omega
  | succ n ih =>
    cases i with
    | zero => simp [leBytes]
    | succ i =>
      have := ih (w / 256) i (by omega)
      simp only [leBytes, List.getD_cons_succ]
      rw [this, Nat.pow_succ', Nat.div_div_eq_div_mul]

theorem leNat_lt (bs : List Byte) : leNat bs < 256 ^ bs.length := by
  induction bs with
  | nil => simp [leNat]
  | cons b bs ih =>
    have := b.isLt
    simp only [leNat, List.length_cons, Nat.pow_succ]
    omega

/-- Bytes that a read answers are as many as it asked for. -/
def OkLength (n : Nat) (r : Except Cause (List Byte)) : Prop := ∀ bs, r = .ok bs → bs.length = n

theorem State.readBadLine_length (a n : Nat) (r : Res (List Byte)) (e : Nat × ErrPattern) (h : OkLength n r.2) :
    OkLength n (State.readBadLine a r e).2 := by
  obtain ⟨s, o⟩ := r
  unfold State.readBadLine; dsimp only
  split
  · intro bs hbs; cases hbs
  · intro bs hbs
    cases o with
    | error c => cases hbs
    | ok x => cases hbs; simpa using h x rfl

theorem State.readMem_length (s : State) (a n : Nat) : OkLength n (s.readMem a n).2 := by
  unfold State.readMem; split
  · rename_i h; subst h; intro bs hbs; cases hbs; rfl
  · split
    · unfold State.readLines; split
      · intro bs hbs; cases hbs
      · generalize (s.tiers.lineErrs.range (a / 64) ((a + n + 63) / 64)) = l
        have h0 : OkLength n ((s, Except.ok (s.peek a n)) : Res (List Byte)).2 := by intro bs hbs; cases hbs; simp
        generalize ((s, Except.ok (s.peek a n)) : Res (List Byte)) = r at h0
        induction l generalizing r with
        | nil => exact h0
        | cons e l ih => exact ih _ (State.readBadLine_length a n r e h0)
    · unfold State.readWords; dsimp only; split
      · intro bs hbs; cases hbs; simp
      · dsimp only; split
        · intro bs hbs; cases hbs; simp
        · intro bs hbs; cases hbs

/-- A descriptor read answers its whole length. -/
theorem State.readOwn_length {s t : State} {core a n align : Nat} {bs : List Byte} (h : s.readOwn core a n align = (t, .ok bs)) :
    bs.length = n := by
  unfold State.readOwn at h; split at h
  · exact s.readMem_length a n bs (by rw [h])
  · cases h

end Sys2Proof.Machine
end

