-- ==== Sys2Proof/Laws/Memory.lean ====
section
/-! SUPPORT. Laws of memory: what a byte reads as after a write, and that every operation keeps the canonical form. -/

namespace Sys2Proof.Machine

open Sys2Proof

/-! ## Reading a byte after a write -/

theorem find?_cells (a : Nat) (bs : List Byte) (k : Nat) :
    Tab.find? (cells a bs) k = if a ≤ k ∧ k < a + bs.length ∧ bs.getD (k - a) 0 ≠ 0 then some (bs.getD (k - a) 0) else none := by
  induction bs generalizing a with
  | nil => simp [cells]
  | cons b bs ih =>
    unfold cells
    by_cases hb : b = 0
    · subst hb
      rw [if_pos rfl, ih]
      by_cases hk : a = k
      · subst hk; simp
      · by_cases hlt : a + 1 ≤ k
        · obtain ⟨d, rfl⟩ : ∃ d, k = a + 1 + d := ⟨k - (a + 1), by omega⟩
          have h1 : a + 1 + d - (a + 1) = d := by omega
          have h2 : a + 1 + d - a = d + 1 := by omega
          simp only [h1, h2, List.getD_cons_succ, List.length_cons]
          congr 1
          apply propext
          constructor <;> rintro ⟨x, y, z⟩ <;> exact ⟨by omega, by omega, z⟩
        · rw [if_neg (by omega), if_neg (by omega)]
    · rw [if_neg hb, Tab.find?_cons]
      by_cases hk : a = k
      · subst hk; simp; exact hb
      · rw [if_neg hk, ih]
        by_cases hlt : a + 1 ≤ k
        · obtain ⟨d, rfl⟩ : ∃ d, k = a + 1 + d := ⟨k - (a + 1), by omega⟩
          have h1 : a + 1 + d - (a + 1) = d := by omega
          have h2 : a + 1 + d - a = d + 1 := by omega
          simp only [h1, h2, List.getD_cons_succ, List.length_cons]
          congr 1
          apply propext
          constructor <;> rintro ⟨x, y, z⟩ <;> exact ⟨by omega, by omega, z⟩
        · rw [if_neg (by omega), if_neg (by omega)]

/-- A byte after a write: the byte written where the write covers its address, else as before. -/
theorem Memory.byte_write (m : Memory) (a : Nat) (bs : List Byte) (k : Nat) :
    Memory.byte (m.write a bs) k = if a ≤ k ∧ k < a + bs.length then bs.getD (k - a) 0 else m.byte k := by
  unfold Memory.byte Tab.at Memory.write
  rw [Tab.find?_append, Tab.find?_append, find?_cells, Tab.find?_filter m _ (fun j => decide (j < a)) (fun e => rfl),
    Tab.find?_filter m _ (fun j => decide (a + bs.length ≤ j)) (fun e => rfl)]
  by_cases h : a ≤ k ∧ k < a + bs.length
  · have h1 : decide (k < a) = false := decide_eq_false (by omega)
    have h2 : decide (a + bs.length ≤ k) = false := decide_eq_false (by omega)
    rw [if_pos h, h1, h2]
    by_cases hz : bs.getD (k - a) 0 = 0
    · have hn : ¬(a ≤ k ∧ k < a + bs.length ∧ bs.getD (k - a) 0 ≠ 0) := fun x => x.2.2 hz
      rw [if_neg Bool.false_ne_true, if_neg hn, hz]; rfl
    · have hp : a ≤ k ∧ k < a + bs.length ∧ bs.getD (k - a) 0 ≠ 0 := ⟨h.1, h.2, hz⟩
      rw [if_neg Bool.false_ne_true, if_pos hp]; rfl
  · have hn : ¬(a ≤ k ∧ k < a + bs.length ∧ bs.getD (k - a) 0 ≠ 0) := fun x => h ⟨x.1, x.2.1⟩
    rw [if_neg h, if_neg hn]
    by_cases h1 : k < a
    · have h2 : decide (a + bs.length ≤ k) = false := decide_eq_false (by omega)
      rw [decide_eq_true h1, h2]; simp
    · have h2 : a + bs.length ≤ k := by omega
      rw [decide_eq_false h1, decide_eq_true h2]; simp

theorem Memory.byte_write_out (m : Memory) {a k : Nat} (bs : List Byte) (h : k < a ∨ a + bs.length ≤ k) :
    Memory.byte (m.write a bs) k = m.byte k := by
  rw [Memory.byte_write, if_neg (by omega)]

/-! ## Canonical form -/

theorem cells_ge (a : Nat) (bs : List Byte) : ∀ c ∈ cells a bs, a ≤ c.1 ∧ c.1 < a + bs.length ∧ c.2 ≠ 0 := by
  induction bs generalizing a with
  | nil => simp [cells]
  | cons b bs ih =>
    unfold cells
    split
    · intro c hc; have := ih (a + 1) c hc; simp only [List.length_cons]; exact ⟨by omega, by omega, this.2.2⟩
    · rename_i hb
      intro c hc
      rcases List.mem_cons.1 hc with rfl | hc
      · exact ⟨Nat.le_refl _, by simp, hb⟩
      · have := ih (a + 1) c hc; simp only [List.length_cons]; exact ⟨by omega, by omega, this.2.2⟩

theorem cells_wf (a : Nat) (bs : List Byte) : Tab.wf (cells a bs) := by
  induction bs generalizing a with
  | nil => simp [cells, Tab.wf]
  | cons b bs ih =>
    unfold cells
    split
    · exact ih _
    · exact Tab.wf_cons (ih _) (fun e he => by have := cells_ge (a + 1) bs e he; omega)

/-- A write keeps the canonical form. -/
theorem Memory.wf_write {m : Memory} (a : Nat) (bs : List Byte) (h : Memory.wf m) : Memory.wf (m.write a bs) := by
  unfold Memory.write
  refine ⟨?_, ?_⟩
  · refine Tab.wf_append (Tab.wf_append (Tab.wf_filter _ h.1) (cells_wf a bs) ?_) (Tab.wf_filter _ h.1) ?_
    · intro x hx y hy
      have h1 : x.1 < a := by simpa using (List.mem_filter.1 hx).2
      have h2 := (cells_ge a bs y hy).1
      omega
    · intro x hx y hy
      have h2 : a + bs.length ≤ y.1 := by simpa using (List.mem_filter.1 hy).2
      rcases List.mem_append.1 hx with hx | hx
      · have h1 : x.1 < a := by simpa using (List.mem_filter.1 hx).2
        omega
      · have := (cells_ge a bs x hx).2.1
        omega
  · intro c hc
    rcases List.mem_append.1 hc with hc | hc
    · rcases List.mem_append.1 hc with hc | hc
      · exact h.2 c (List.mem_filter.1 hc).1
      · exact (cells_ge a bs c hc).2.2
    · exact h.2 c (List.mem_filter.1 hc).1

theorem Memory.wf_filter {m : Memory} (p : Host.Cell → Bool) (h : Memory.wf m) : Memory.wf (m.filter p) :=
  ⟨Tab.wf_filter p h.1, fun c hc => h.2 c (List.mem_filter.1 hc).1⟩

theorem Memory.wf_clear {m : Memory} (a n : Nat) (h : Memory.wf m) : Memory.wf (m.clear a n) := Memory.wf_filter _ h

theorem Memory.wf_nil : Memory.wf [] := ⟨List.Pairwise.nil, fun c hc => by cases hc⟩

theorem State.poke_wf {s : State} (a : Nat) (bs : List Byte) (h : Memory.wf s.mem) : Memory.wf (s.poke a bs).mem :=
  Memory.wf_write a bs h

end Sys2Proof.Machine
end

