-- ==== Sys2Proof/Laws/Canonical.lean ====
section
/-! SUPPORT. Every operation that stores bytes keeps memory in canonical form: the stores, the job status record, result
records, halts and the heads of queues. -/

namespace Sys2Proof.Machine

open Sys2Proof

/-- The memory of `t` is in canonical form if that of `s` is. -/
@[irreducible] def State.Canon (s t : State) : Prop := Memory.wf s.mem → Memory.wf t.mem

theorem State.canon_of {s t : State} (h : Memory.wf s.mem → Memory.wf t.mem) : s.Canon t := by unfold State.Canon; exact h
theorem State.canon_refl (s : State) : s.Canon s := State.canon_of id
theorem State.canon_trans {s t u : State} (h : s.Canon t) (k : t.Canon u) : s.Canon u := by
  unfold State.Canon at *; exact k ∘ h
theorem State.canon_of_mem {s t : State} (h : t.mem = s.mem) : s.Canon t := by unfold State.Canon; rw [h]; exact id
theorem State.canon_poke (s : State) (a : Nat) (bs : List Byte) : s.Canon (s.poke a bs) := State.canon_of (State.poke_wf a bs)
theorem State.canon_when {s : State} {p : Bool} {f : State → State} (h : s.Canon (f s)) : s.Canon (s.when p f) := by
  unfold State.when; split
  · exact h
  · exact s.canon_refl
/-- A change under a condition, of any state with the memory of `s`. -/
theorem State.canon_when_of {s x : State} (h : x.mem = s.mem) {p : Bool} {f : State → State} (hf : x.Canon (f x)) : s.Canon (x.when p f) :=
  State.canon_trans (State.canon_of_mem h) (State.canon_when hf)
theorem State.canon_each {α : Type} {f : State → α → State} (h : ∀ (s : State) (x : α), s.Canon (f s x)) (xs : List α) (s : State) :
    s.Canon (s.each xs f) := by
  unfold State.each
  induction xs generalizing s with
  | nil => exact s.canon_refl
  | cons x xs ih => exact State.canon_trans (h s x) (ih (f s x))
/-- A fold over states with a second result. -/
theorem State.canon_foldl {α β : Type} {f : State × β → α → State × β} (h : ∀ (r : State × β) (x : α), r.1.Canon (f r x).1) (xs : List α) (r : State × β) :
    r.1.Canon (xs.foldl f r).1 := by
  induction xs generalizing r with
  | nil => exact r.1.canon_refl
  | cons x xs ih => exact State.canon_trans (h r x) (ih (f r x))

/-! ## Reads and writes of the stores -/

theorem State.canon_readMem (s : State) (a len : Nat) : s.Canon (s.readMem a len).1 := State.canon_of_mem (s.readMem_mem a len)
theorem State.canon_readOwn (s : State) (core a len align : Nat) : s.Canon (s.readOwn core a len align).1 :=
  State.canon_of_mem (s.readOwn_mem core a len align)

theorem State.canon_storeLine (s : State) (line : Nat) (e c : ErrPattern) : s.Canon (s.storeLine line e c) := by
  apply State.canon_of; exact State.poke_wf _ _

theorem State.canon_fixLine (r : State × Cause) (e : Nat × ErrPattern) : r.1.Canon (State.fixLine r e).1 := by
  obtain ⟨s, c⟩ := r
  unfold State.fixLine; dsimp only; split
  · exact State.canon_of_mem (s.tierUe_mem _)
  · refine State.canon_trans ?_ (State.canon_storeLine _ _ _ _)
    split
    · exact s.canon_refl
    · exact State.canon_of_mem (s.countCe_mem _)

theorem State.canon_writeWords (s : State) (a : Nat) (bs : List Byte) : s.Canon (s.writeWords a bs).1 := by
  unfold State.writeWords; dsimp only; split
  · exact s.canon_poke a bs
  · split
    · exact State.canon_of_mem (s.countWords_mem a _ _ _)
    · exact State.canon_trans (State.canon_of_mem (s.countWords_mem a _ _ _))
        (State.canon_trans (State.canon_poke _ a bs) (State.canon_of_mem (State.modTiers_mem _ _)))

theorem State.canon_writeLines (s : State) (a : Nat) (bs : List Byte) : s.Canon (s.writeLines a bs).1 := by
  unfold State.writeLines; split
  · exact s.canon_refl
  · dsimp only
    generalize hr : List.foldl State.fixLine (s, 0) _ = r
    have k : s.Canon r.1 := by rw [← hr]; exact State.canon_foldl State.canon_fixLine _ (s, 0)
    split
    · exact k
    · exact State.canon_trans k (State.canon_trans (State.canon_poke _ a bs) (State.canon_of_mem (State.modTiers_mem _ _)))

/-- A write of a store keeps memory canonical. -/
theorem State.canon_writeMem (s : State) (a : Nat) (bs : List Byte) : s.Canon (s.writeMem a bs).1 := by
  unfold State.writeMem; split
  · exact s.canon_refl
  · split
    · exact s.canon_writeLines a bs
    · exact s.canon_writeWords a bs

theorem State.canon_writeAll (ws : List (Nat × List Byte)) (s : State) : s.Canon (s.writeAll ws).1 := by
  induction ws generalizing s with
  | nil => exact s.canon_refl
  | cons w ws ih =>
    unfold State.writeAll
    have h := s.canon_writeMem w.1 w.2
    split
    · rename_i t heq; rw [heq] at h; exact State.canon_trans h (ih t)
    · rename_i t c _ heq; rw [heq] at h; exact h

/-! ## Records -/

theorem State.canon_hsWord (s : State) (w : Nat × List Byte) : s.Canon (s.hsWord w) := by
  unfold State.hsWord; dsimp only; split
  · exact s.canon_poke _ _
  · split
    · exact State.canon_trans (s.canon_poke w.1 w.2) (State.canon_of_mem rfl)
    · exact State.canon_trans (State.canon_of_mem rfl) (State.canon_trans (State.canon_poke _ w.1 w.2) (State.canon_of_mem rfl))
  · split
    · exact State.canon_trans (s.canon_poke w.1 w.2) (State.canon_of_mem rfl)
    · exact State.canon_of_mem rfl
/-- A unit of the headstock writing headstock SRAM keeps memory canonical. -/
theorem State.canon_hsWrite (s : State) (a : Nat) (bs : List Byte) : s.Canon (s.hsWrite a bs) := by
  unfold State.hsWrite; split
  · exact s.canon_poke a bs
  · exact State.canon_each State.canon_hsWord _ s

theorem State.canon_jobStatus (s : State) : s.Canon s.jobStatus := by
  unfold State.jobStatus; dsimp only
  refine State.canon_trans ?_ (State.canon_hsWrite _ _ _)
  exact State.canon_of_mem rfl
theorem State.msix_mem (s : State) (v : Nat) : (s.msix v).mem = s.mem := by unfold State.msix; dsimp only; split <;> [rfl; (split <;> rfl)]
theorem State.canon_msix (s : State) (v : Nat) : s.Canon (s.msix v) := State.canon_of_mem (s.msix_mem v)
theorem State.canon_msixDue (s : State) : s.Canon s.msixDue := by
  unfold State.msixDue
  refine State.canon_each (fun s v => ?_) _ _
  exact State.canon_of_mem (State.msix_mem _ v)

theorem State.canon_issueRec (s : State) (ring tag : Nat) : s.Canon (s.issueRec ring tag) := by
  unfold State.issueRec; dsimp only; split
  · exact State.canon_trans (State.canon_of_mem (s.setRing_mem ring _)) (State.canon_hsWrite _ _ _)
  · exact State.canon_of_mem rfl

theorem State.canon_closeRec (s : State) (ring index st : Nat) (cause : Cause) (payload : List Byte) :
    s.Canon (s.closeRec ring index st cause payload) := by
  unfold State.closeRec; dsimp only; split
  · exact s.canon_refl
  · refine State.canon_trans ?_ (State.canon_msix _ _)
    exact State.canon_trans (State.canon_of_mem (s.setRing_mem ring _)) (State.canon_hsWrite _ _ _)

theorem State.canon_finishRec (s : State) (ring tag : Nat) (cause : Cause) (payload : List Byte) :
    s.Canon (s.finishRec ring tag cause payload) := by
  unfold State.finishRec; split
  · exact s.canon_closeRec _ _ _ _ _
  · exact State.canon_of_mem (by simp)

theorem State.canon_failRecs (s : State) (cause : Cause) : s.Canon (s.failRecs cause) :=
  State.canon_each (fun _ _ => State.canon_closeRec _ _ _ _ _ _) _ _

theorem State.canon_jobRecord (s : State) (ev : Nat) (cause : Cause) : s.Canon (s.jobRecord ev cause) :=
  State.canon_trans (s.canon_issueRec 1 ev) (State.canon_finishRec _ _ _ _ _)

theorem State.canon_setJob (s : State) (j : JobState) (cause : Cause) : s.Canon (s.setJob j cause) := by
  unfold State.setJob; split
  · exact s.canon_refl
  · dsimp only
    refine State.canon_trans ?_ (State.canon_msix _ _)
    refine State.canon_trans ?_ (State.canon_jobStatus _)
    refine State.canon_trans ?_ (State.canon_of_mem (State.report_mem _ _ _))
    refine State.canon_trans ?_ (State.canon_when (State.canon_of_mem rfl))
    unfold State.when; split
    · dsimp only
      refine State.canon_trans ?_ (State.canon_failRecs _ _)
      exact State.canon_of_mem rfl
    · exact State.canon_of_mem rfl

/-- The job state of any state with the memory of `s` changes. -/
theorem State.canon_setJob_of {s t : State} (h : t.mem = s.mem) (j : JobState) (cause : Cause) : s.Canon (t.setJob j cause) :=
  State.canon_trans (State.canon_of_mem h) (t.canon_setJob j cause)

theorem State.setPwr_mem (s : State) (p : PwrState) (cause : Cause) : (s.setPwr p cause).mem = s.mem := by
  unfold State.setPwr; split <;> rfl
theorem State.canon_flood (s : State) (but : Option Nat) (m : Message) : s.Canon (s.flood but m) := by
  unfold State.flood
  refine State.canon_each (fun s p => ?_) _ _
  exact State.canon_of_mem (s.sendMsg_mem p m)

/-! ## Halts and the heads of queues -/

theorem State.canon_haltPolicy (s : State) (cause : Cause) : s.Canon (s.haltPolicy cause) := by
  unfold State.haltPolicy
  dsimp only; split
  · apply State.canon_setJob_of; rfl
  · apply State.canon_setJob_of; rfl

theorem State.canon_haltSite (s : State) (cause : Cause) : s.Canon (s.haltSite cause) := by
  unfold State.haltSite; split
  · dsimp only
    refine State.canon_trans ?_ (State.canon_haltPolicy _ _)
    refine State.canon_trans ?_ (State.canon_flood _ _ _)
    exact State.canon_of_mem rfl
  · exact s.canon_refl

/-- A queue's halt, and the policy it calls, keep memory canonical. -/
theorem State.canon_haltQueue (s : State) (c q : Nat) (cause : Cause) : s.Canon (s.haltQueue c q cause) := by
  unfold State.haltQueue
  refine State.canon_trans ?_ (State.canon_haltSite _ _)
  exact State.canon_of_mem (by simp [State.haltOnly])

/-- What the head of a queue does keeps memory canonical where its action does. -/
theorem State.canon_atHead {f : State → Entry → State} (h : ∀ (s : State) (e : Entry), s.Canon (f s e)) (s : State) (c q : Nat) : s.Canon (s.atHead c q f) := by
  unfold State.atHead; split
  · exact s.canon_refl
  · have k := s.canon_readOwn c (s.headAddr c q) 32 1
    split
    · rename_i t _ heq; rw [heq] at k; exact State.canon_trans k (State.canon_haltQueue _ _ _ _)
    · rename_i t _ heq; rw [heq] at k; dsimp only
      refine State.canon_trans k ?_
      split
      · exact State.canon_haltQueue _ _ _ _
      · split
        · exact State.canon_haltQueue _ _ _ _
        · exact h _ _

theorem State.canon_issue {act : State → Entry → State} (h : ∀ (s : State) (e : Entry), s.Canon (act s e)) (s : State) (c q kind : Nat) :
    s.Canon (s.issue c q kind act) := by
  unfold State.issue
  refine State.canon_atHead (fun s e => ?_) s c q
  split
  · exact h s e
  · exact s.canon_refl

theorem State.canon_endItem (s : State) (c n inc : Nat) (cause : Cause) : s.Canon (s.endItem c n inc cause) := by
  unfold State.endItem; split <;> exact State.canon_of_mem rfl

theorem State.canon_endXfer (s : State) (c ctr inc : Nat) (cause : Cause) : s.Canon (s.endXfer c ctr inc cause) := by
  unfold State.endXfer; split
  · exact s.canon_endItem _ _ _ _
  · refine State.canon_trans ?_ (State.canon_endItem _ _ _ _ _)
    exact State.canon_of_mem rfl

theorem State.canon_issueXfer {act : State → Nat → State} (h : ∀ (s : State) (w : Nat), s.Canon (act s w)) (s : State) (c q op : Nat) :
    s.Canon (s.issueXfer c q op act) := by
  refine State.canon_issue (fun s e => ?_) s c q 4
  unfold State.actXfer
  have k := s.canon_readOwn c e.addr 32 1
  split
  · rename_i t _ heq; rw [heq] at k
    refine State.canon_trans k (State.canon_trans ?_ (State.canon_haltQueue _ _ _ _))
    exact State.canon_of_mem rfl
  · rename_i t _ heq; rw [heq] at k; dsimp only
    refine State.canon_trans k ?_
    split
    · refine State.canon_trans ?_ (h _ _)
      exact State.canon_of_mem rfl
    · split
      · exact State.canon_refl _
      · refine State.canon_trans ?_ (State.canon_endXfer _ _ _ _ _)
        exact State.canon_of_mem rfl

end Sys2Proof.Machine
end

