-- ==== Sys2Proof/Laws/Frames.lean ====
section
/-! SUPPORT. What records, changes of the job's state and halts of queues can change: only the host's records, the recorder,
memory and the counts of its words in error, and for a halt the messages, the restore and the stop of issuing that its policy brings. -/

namespace Sys2Proof.Machine

open Sys2Proof

/-- Two states differ at most in memory with the words in error and their counts, the host interface, the recorder and the free counter. -/
def State.Reports (s t : State) : Prop := t = { s with mem := t.mem, host := t.host, recorder := t.recorder, free := t.free, tiers := t.tiers }
/-- Two states differ at most in those and in power, torus and checkpoint unit. -/
def State.Halts (s t : State) : Prop :=
  t = { s with mem := t.mem, host := t.host, recorder := t.recorder, free := t.free, tiers := t.tiers, power := t.power, torus := t.torus, ck := t.ck }

theorem State.reports_refl (s : State) : s.Reports s := rfl
theorem State.reports_trans {s t u : State} (h : s.Reports t) (k : t.Reports u) : s.Reports u := by
  unfold State.Reports at *; rw [k, h]
theorem State.halts_refl (s : State) : s.Halts s := rfl
theorem State.halts_trans {s t u : State} (h : s.Halts t) (k : t.Halts u) : s.Halts u := by
  unfold State.Halts at *; rw [k, h]
theorem State.halts_of_reports {s t : State} (h : s.Reports t) : s.Halts t := by
  unfold State.Halts State.Reports at *; rw [h]
theorem State.reports_when {s : State} {p : Bool} {f : State → State} (h : s.Reports (f s)) : s.Reports (s.when p f) := by
  unfold State.when; split
  · exact h
  · rfl
theorem State.reports_each {α : Type} {f : State → α → State} (h : ∀ (s : State) (x : α), s.Reports (f s x)) (xs : List α) (s : State) :
    s.Reports (s.each xs f) := by
  unfold State.each
  induction xs generalizing s with
  | nil => rfl
  | cons x xs ih => exact State.reports_trans (h s x) (ih _)
theorem State.halts_each {α : Type} {f : State → α → State} (h : ∀ (s : State) (x : α), s.Halts (f s x)) (xs : List α) (s : State) :
    s.Halts (s.each xs f) := by
  unfold State.each
  induction xs generalizing s with
  | nil => rfl
  | cons x xs ih => exact State.halts_trans (h s x) (ih _)

theorem State.reports_report (s : State) (ty : Nat) (p : List Byte) : s.Reports (s.report ty p) := rfl
theorem State.reports_event (s : State) (ty : Nat) (c : Cause) (a b d : Nat) : s.Reports (s.event ty c a b d) := rfl
theorem State.reports_stateRecord (s : State) (c : Cause) : s.Reports (s.stateRecord c) := rfl
theorem State.reports_poke (s : State) (a : Nat) (bs : List Byte) : s.Reports (s.poke a bs) := rfl
theorem State.reports_hsWord (s : State) (w : Nat × List Byte) : s.Reports (s.hsWord w) := by
  unfold State.hsWord; dsimp only; split
  · rfl
  · split <;> rfl
  · split <;> rfl
theorem State.reports_hsWrite (s : State) (a : Nat) (bs : List Byte) : s.Reports (s.hsWrite a bs) := by
  unfold State.hsWrite; split
  · rfl
  · exact State.reports_each State.reports_hsWord _ s
theorem State.reports_jobStatus (s : State) : s.Reports s.jobStatus := by
  unfold State.jobStatus; dsimp only
  refine State.reports_trans ?_ (State.reports_hsWrite _ _ _)
  rfl
theorem State.reports_setRing (s : State) (k : Nat) (r : ResultRing) : s.Reports (s.setRing k r) := rfl
theorem State.reports_msix (s : State) (v : Nat) : s.Reports (s.msix v) := by
  unfold State.msix; dsimp only; split
  · rfl
  · split <;> rfl
theorem State.reports_issueRec (s : State) (ring tag : Nat) : s.Reports (s.issueRec ring tag) := by
  unfold State.issueRec; dsimp only; split
  · exact State.reports_trans (s.reports_setRing ring _) (State.reports_hsWrite _ _ _)
  · rfl
theorem State.reports_closeRec (s : State) (ring index st : Nat) (cause : Cause) (payload : List Byte) :
    s.Reports (s.closeRec ring index st cause payload) := by
  unfold State.closeRec; dsimp only; split
  · rfl
  · exact State.reports_trans (State.reports_trans (s.reports_setRing ring _) (State.reports_hsWrite _ _ _)) (State.reports_msix _ _)
theorem State.reports_finishRec (s : State) (ring tag : Nat) (cause : Cause) (payload : List Byte) :
    s.Reports (s.finishRec ring tag cause payload) := by
  unfold State.finishRec; split
  · exact s.reports_closeRec _ _ _ _ _
  · rfl
theorem State.reports_failRecs (s : State) (cause : Cause) : s.Reports (s.failRecs cause) :=
  State.reports_each (fun _ _ => State.reports_closeRec _ _ _ _ _ _) _ _
theorem State.reports_jobRecord (s : State) (ev : Nat) (cause : Cause) : s.Reports (s.jobRecord ev cause) :=
  State.reports_trans (s.reports_issueRec 1 ev) (State.reports_finishRec _ _ _ _ _)
/-- A change of the job's state changes only what it reports. -/
theorem State.reports_setJob (s : State) (j : JobState) (cause : Cause) : s.Reports (s.setJob j cause) := by
  unfold State.setJob; split
  · rfl
  · dsimp only
    refine State.reports_trans ?_ (State.reports_msix _ _)
    refine State.reports_trans ?_ (State.reports_jobStatus _)
    refine State.reports_trans ?_ (State.reports_stateRecord _ _)
    refine State.reports_trans ?_ (State.reports_when (f := State.draw) rfl)
    exact State.reports_trans (t := { s with host := { s.host with job := j, lastCause := if (j == .halted || j == .ended) = true then cause else s.host.lastCause } })
      rfl (State.reports_when (State.reports_failRecs _ _))
theorem State.halts_setPwr (s : State) (p : PwrState) (cause : Cause) : s.Halts (s.setPwr p cause) := by
  unfold State.setPwr; split <;> rfl
theorem State.halts_flood (s : State) (but : Option Nat) (m : Message) : s.Halts (s.flood but m) := by
  unfold State.flood; exact State.halts_each (fun s p => by rfl) _ _
theorem State.halts_haltPolicy (s : State) (cause : Cause) : s.Halts (s.haltPolicy cause) := by
  unfold State.haltPolicy; dsimp only; split
  · exact State.halts_trans (by rfl) (State.halts_of_reports (State.reports_setJob _ _ _))
  · exact State.halts_trans (by rfl) (State.halts_of_reports (State.reports_setJob _ _ _))
/-- The policy on a halt leaves every core, tier, site and key as it is. -/
theorem State.halts_haltSite (s : State) (cause : Cause) : s.Halts (s.haltSite cause) := by
  unfold State.haltSite; split
  · dsimp only
    exact State.halts_trans (State.halts_trans (by rfl) (State.halts_flood _ _ _)) (State.halts_haltPolicy _ _)
  · rfl
/-- A queue's halt is its halt in its core, up to what the policy does. -/
theorem State.halts_haltQueue (s : State) (c q : Nat) (cause : Cause) :
    (s.modCore c (fun x => { x.modQueue q (fun k => { k with halted := true, active := false }) with haltCause := cause })).Halts
      (s.haltQueue c q cause) := by
  unfold State.haltQueue
  exact State.halts_trans (by rfl) (State.halts_haltSite _ _)

theorem State.Halts.cores {s t : State} (h : s.Halts t) : t.cores = s.cores := by rw [h]
theorem State.Halts.core {s t : State} (h : s.Halts t) (k : Nat) : t.core k = s.core k := by rw [h]; rfl
theorem State.Halts.queue {s t : State} (h : s.Halts t) (k j : Nat) : t.queue k j = s.queue k j := by rw [h]; rfl
theorem State.Reports.core {s t : State} (h : s.Reports t) (k : Nat) : t.core k = s.core k := by rw [h]; rfl

end Sys2Proof.Machine
end

