-- ==== Sys2Proof/Laws/Heads.lean ====
section
/-! SUPPORT. What the head of a queue does under the premises of Safety, and states that differ in one core only. -/

namespace Sys2Proof.Machine

open Sys2Proof

/-! ## States that differ in one core only -/

theorem OnlyCore.refl (core : Nat) (s : State) : Safety.OnlyCore core s s := ⟨fun _ _ => rfl, rfl⟩
theorem OnlyCore.trans {core : Nat} {s t u : State} (h : Safety.OnlyCore core s t) (g : Safety.OnlyCore core t u) : Safety.OnlyCore core s u :=
  ⟨fun c hc => (g.1 c hc).trans (h.1 c hc), g.2.trans h.2⟩
theorem OnlyCore.modCore (core : Nat) (s : State) (f : CoreSt → CoreSt) : Safety.OnlyCore core s (s.modCore core f) :=
  ⟨fun _ hc => State.core_modCore_ne s f hc, rfl⟩
theorem OnlyCore.modQueue (core q : Nat) (s : State) (f : Queue → Queue) : Safety.OnlyCore core s (s.modQueue core q f) :=
  ⟨fun _ hc => State.core_modQueue_ne s q f hc, rfl⟩
theorem OnlyCore.endItem (core n inc : Nat) (s : State) (cause : Cause) : Safety.OnlyCore core s (s.endItem core n inc cause) := by
  unfold State.endItem; split <;> exact OnlyCore.modCore core s _
/-- A read of a core's own SRAM. -/
theorem OnlyCore.readOwn {s t : State} {core a n al : Nat} {r : Except Cause (List Byte)} (h : s.readOwn core a n al = (t, r)) :
    Safety.OnlyCore core s t := by
  have x : ∀ k, k ≠ core → (s.readOwn core a n al).1.core k = s.core k := fun k hk => State.readOwn_core_ne s (k := k) a n al hk
  have b := State.readOwn_mem s core a n al
  rw [h] at x b
  exact ⟨x, b⟩

/-! ## Heads of queues -/

/-- A head that breaks no rule is acted on. -/
theorem State.atHead_head {s t : State} {core q : Nat} {e : Entry} (h : Safety.HeadIs s core q t e) (f : State → Entry → State) :
    s.atHead core q f = f t e := by
  obtain ⟨h1, ⟨bs, h2, h3⟩, h4, h5⟩ := h
  unfold State.atHead
  simp [h1, h2, h3, h4, h5]

/-- A queue that is not live does nothing. -/
theorem State.atHead_dead {s : State} {core q : Nat} (h : s.queueLive core q = false) (f : State → Entry → State) : s.atHead core q f = s := by
  unfold State.atHead; simp [h]

/-- An entry that is ready issues. -/
theorem State.issue_ready {s t : State} {core q : Nat} {e : Entry} (h : Safety.Ready s core q t e) {k : Nat} (hk : e.kind = k)
    (act : State → Entry → State) : s.issue core q k act = act t e := by
  unfold State.issue
  simp only [State.atHead_head h.1]
  simp [hk, h.2.1, h.2.2.1, h.2.2.2]

/-- An entry does not issue while a lower-numbered queue is ready. -/
theorem State.issue_later {s t : State} {core q : Nat} {e : Entry} (h : Safety.HeadIs s core q t e) (hf : s.firstReady core q = false)
    (k : Nat) (act : State → Entry → State) : s.issue core q k act = t := by
  unfold State.issue
  simp only [State.atHead_head h]
  simp [hf]

/-- Reading the head changes no other core and no byte of memory. -/
theorem OnlyCore.head {s t : State} {core q : Nat} {e : Entry} (h : Safety.HeadIs s core q t e) : Safety.OnlyCore core s t := by
  obtain ⟨_, ⟨bs, h2, _⟩, _⟩ := h
  exact OnlyCore.readOwn h2
theorem OnlyCore.ready {s t : State} {core q : Nat} {e : Entry} (h : Safety.Ready s core q t e) : Safety.OnlyCore core s t := OnlyCore.head h.1

/-- A transfer that is ready acts on its descriptor. -/
theorem State.issueXfer_transfer {s t : State} {core q w op : Nat} (h : Safety.Transfer s core q t w) (ho : w % 256 = op) (act : State → Nat → State) :
    s.issueXfer core q op act = act (t.goNext core q) w := by
  obtain ⟨t', e, bs, h1, h2, h3, h4⟩ := h
  unfold State.issueXfer
  rw [State.issue_ready h1 h2]
  unfold State.actXfer
  rw [h3]
  simp [h4, ho]

/-- Reading a transfer's entry and descriptor changes no other core and no byte of memory. -/
theorem OnlyCore.transfer {s t : State} {core q w : Nat} (h : Safety.Transfer s core q t w) : Safety.OnlyCore core s t := by
  obtain ⟨t', e, bs, h1, h2, h3, h4⟩ := h
  exact OnlyCore.trans (OnlyCore.ready h1) (OnlyCore.readOwn h3)

end Sys2Proof.Machine
end

