-- ==== Sys2Proof/Machine/HostRead.lean ====
section
/-! DEFINITION. What a read by the host returns: registers, status and result windows, intake windows (00_scope R10, R18;
11_memory R380, R386; 18_configuration R634, R635, R645). No row of the opcode table is such a read (log entry 92), so no command
calls these. -/

namespace Sys2Proof.Machine

open Sys2Proof

/-- `n` bytes of all-ones. -/
def allOnes (n : Nat) : List Byte := List.replicate n 0xFF

/-- The record of a result ring that a headstock offset lies in: its base offset, its size and the offset inside it. -/
def State.recordAt (s : State) (o : Nat) : Option (Nat × Nat × Nat) :=
  ((List.range 16).map s.ringGeom).findSome? (fun (base, size, nr) =>
    if base ≤ o && o < base + nr * size && size ≠ 0 then some (o - (o - base) % size, size, (o - base) % size) else none)

/-- A word of a record's payload cannot be corrected (R380). -/
def State.payloadLost (s : State) (base size : Nat) : Bool :=
  (s.tiers.wordErrs.range (hsAddr (base + 64) / 16) ((hsAddr (base + size) + 15) / 16)).any (fun e => e.2 == .double)

/-- A byte of the windows as the host sees it (R18, R645): a payload reads 0 while its record is EMPTY or PENDING and all-ones
while it is CORRUPT; a complete record whose payload has met an uncorrectable error reads CORRUPT. -/
def State.windowByte (s : State) (o : Nat) (b : Byte) : Byte :=
  match s.recordAt o with
  | none => b
  | some (base, size, off) =>
    let st := s.peekNat (hsAddr (base + 4)) 1
    let lost := s.payloadLost base size
    if off < 64 then (if off = 4 && lost && 2 ≤ st then 4 else b)
    else if st < 2 then 0
    else if st = 4 || lost then 0xFF
    else b

/-- A read of headstock SRAM by the host: a word that cannot be corrected reads all-ones (R380). -/
def State.windowRead (s : State) (o n : Nat) : List Byte × State :=
  match s.readMem (hsAddr o) n with
  | (t, .ok bs) => (bs.zipIdx.map (fun (b, i) => s.windowByte (o + i) b), t)
  | (t, .error _) => ((allOnes n).zipIdx.map (fun (b, i) => if i + o < 0x1102000 then b else s.windowByte (o + i) b), t)

/-- Parts of BAR0 whose content CXL 3.1 and PCIe give (R634): component registers, device capabilities, mailbox, MSI-X. -/
def barStandard (o : Nat) : Bool :=
  (0x3000000 ≤ o && o < 0x3010000) || (0x3100000 ≤ o && o < 0x3101000) || (0x3200000 ≤ o && o < 0x3300020) ||
  (0x3400000 ≤ o && o < 0x3400040) || (0x3401000 ≤ o && o < 0x3401008)

/-- A read of BAR0 (R634): registers in words of 4 bytes, naturally aligned, with the latching of the low halves; the windows;
contents that a standard gives, which are free; any other offset reads all-ones. -/
def State.barRead (s : State) (o n : Nat) : List Byte × State :=
  if o + n ≤ 0x1200000 then
    (if (n = 4 || n = 8) && o % n = 0 then
      let (vs, t) := State.readRegs ((List.range (n / 4)).map (fun i => o + 4 * i)) s
      (vs.flatMap (fun v => leBytes 4 v.toNat), t)
    else (allOnes n, s))
  else if 0x2000000 ≤ o && o + n ≤ 0x2F00000 then s.windowRead (0x1100000 + (o - 0x2000000)) n
  else if barStandard o && barStandard (o + n - 1) then ((List.range n).map (Config.reply s.free), s.draw)
  else (allOnes n, s)

/-- A read of host-managed device memory: the intake area from device address 0 on, nothing else (R386, R636). A line that
cannot be corrected is delivered as all-ones. -/
def State.hdmRead (s : State) (o n : Nat) : List Byte × State :=
  if o + n ≤ s.img.intakeSize then
    match s.readMem (nearAddr (s.img.intakeBase + o)) n with
    | (t, .ok bs) => (bs, t)
    | (t, .error _) => (allOnes n, t)
  else (allOnes n, s)

end Sys2Proof.Machine
end

