-- ==== Sys2Proof/WellFormed.lean ====
section
/-! DEFINITION. Commands that an agent of the module can give: every number lies in the range of what it names
(00_scope R1, 02_dataflow R62, 12_torus R396 and R397, 11_memory R369, 15_security R549, 18_configuration R636 and
R640). Where a rule answers an out-of-range operand itself (a mailbox parameter, a received field), no check
stands here: the command's meaning gives the answer. -/

namespace Sys2Proof

/-- The command is well-formed. -/
def Instr.wellFormed : Instr → Bool
  | .wait core q => decide (core < 1024) && decide (q < 8)
  | .addEntry core q => decide (core < 1024) && decide (q < 8)
  | .jump core q => decide (core < 1024) && decide (q < 8)
  | .endEntry core q => decide (core < 1024) && decide (q < 8)
  | .queueTimeout core q => decide (core < 1024) && decide (q < 8)
  | .launchArrival core q => decide (core < 1024) && decide (q < 8)
  | .setLaunchInstant slot => decide (slot < 64)
  | .launchBroadcastReceive slot die => decide (slot < 64) && decide (die < 8)
  | .launchIssue core q => decide (core < 1024) && decide (q < 8)
  | .lateLaunchIssue core q => decide (core < 1024) && decide (q < 8)
  | .rampEnd slot => decide (slot < 64)
  | .setpointHoldEnd die => decide (die < 8)
  | .governorCompare die _ => decide (die < 8)
  | .powerAverage die _ _ => decide (die < 8)
  | .workingTargetRaise die => decide (die < 8)
  | .oscFault => true
  | .timeNowLoRead => true
  | .mm core q => decide (core < 1024) && decide (q < 8)
  | .mmTa core q => decide (core < 1024) && decide (q < 8)
  | .mmTb core q => decide (core < 1024) && decide (q < 8)
  | .gradW core q => decide (core < 1024) && decide (q < 8)
  | .gradX core q => decide (core < 1024) && decide (q < 8)
  | .tileComplete core => decide (core < 1024)
  | .expanderStall core port => decide (core < 1024) && decide (port < 2)
  | .mxTokensLoRead core => decide (core < 1024)
  | .causeOrClear core _ => decide (core < 1024)
  | .load core q => decide (core < 1024) && decide (q < 8)
  | .loadWaitWake core => decide (core < 1024)
  | .tableWaitLimit core => decide (core < 1024)
  | .hold core q => decide (core < 1024) && decide (q < 8)
  | .release core q => decide (core < 1024) && decide (q < 8)
  | .kernelStart core => decide (core < 1024)
  | .vector core q => decide (core < 1024) && decide (q < 8)
  | .vAdd core => decide (core < 1024)
  | .vSub core => decide (core < 1024)
  | .vMul core => decide (core < 1024)
  | .vFma core => decide (core < 1024)
  | .vMax core => decide (core < 1024)
  | .vMin core => decide (core < 1024)
  | .vAbs core => decide (core < 1024)
  | .vNeg core => decide (core < 1024)
  | .vRcp core => decide (core < 1024)
  | .vRsqrt core => decide (core < 1024)
  | .vExp2 core => decide (core < 1024)
  | .vLog2 core => decide (core < 1024)
  | .vCvt core => decide (core < 1024)
  | .vCmp core => decide (core < 1024)
  | .vSel core => decide (core < 1024)
  | .vAnd core => decide (core < 1024)
  | .vOr core => decide (core < 1024)
  | .vXor core => decide (core < 1024)
  | .vShl core => decide (core < 1024)
  | .vShr core => decide (core < 1024)
  | .vSar core => decide (core < 1024)
  | .vPlog core => decide (core < 1024)
  | .vPset core => decide (core < 1024)
  | .vTrn core => decide (core < 1024)
  | .vBrow core => decide (core < 1024)
  | .vBcol core => decide (core < 1024)
  | .vIota core => decide (core < 1024)
  | .vLd core => decide (core < 1024)
  | .vSt core => decide (core < 1024)
  | .vLdx core => decide (core < 1024)
  | .vStx core => decide (core < 1024)
  | .vLdg core => decide (core < 1024)
  | .vStg core => decide (core < 1024)
  | .vLdp core => decide (core < 1024)
  | .vStp core => decide (core < 1024)
  | .vSset core => decide (core < 1024)
  | .vSseth core => decide (core < 1024)
  | .vSadd core => decide (core < 1024)
  | .vSaddr core => decide (core < 1024)
  | .vSmul core => decide (core < 1024)
  | .vSget core => decide (core < 1024)
  | .vSld core => decide (core < 1024)
  | .vSst core => decide (core < 1024)
  | .vJmp core => decide (core < 1024)
  | .vBnz core => decide (core < 1024)
  | .vLoop core => decide (core < 1024)
  | .vEnd core => decide (core < 1024)
  | .vRclr core => decide (core < 1024)
  | .vRfeed core => decide (core < 1024)
  | .vRget core => decide (core < 1024)
  | .vRtap core => decide (core < 1024)
  | .kernelTimeout core => decide (core < 1024)
  | .vxTokensLoRead core => decide (core < 1024)
  | .flagsOrClear core _ => decide (core < 1024)
  | .tree core q => decide (core < 1024) && decide (q < 8)
  | .sum core q => decide (core < 1024) && decide (q < 8)
  | .rows core q => decide (core < 1024) && decide (q < 8)
  | .tapread core q => decide (core < 1024) && decide (q < 8)
  | .dispatch core q => decide (core < 1024) && decide (q < 8)
  | .dispatchDone core _ => decide (core < 1024)
  | .combine core q => decide (core < 1024) && decide (q < 8)
  | .gateContribution core => decide (core < 1024)
  | .gateTotalsMessage axis _ _ => decide (axis < 4)
  | .selectorAdvance core => decide (core < 1024)
  | .gateTimeout => true
  | .stepLoRead => true
  | .innerSegment core q => decide (core < 1024) && decide (q < 8)
  | .previousStepResume core => decide (core < 1024)
  | .slotReleaseResume core => decide (core < 1024)
  | .stagedResume core => decide (core < 1024)
  | .chunkWriteback core => decide (core < 1024)
  | .segmentFailReport core => decide (core < 1024)
  | .shardCommit shard => decide (shard < 4096)
  | .digestExchange shard _ _ => decide (shard < 4096)
  | .deferralLimit core => decide (core < 1024)
  | .updStepLoRead core => decide (core < 1024)
  | .shardStepLoRead => true
  | .copy core q => decide (core < 1024) && decide (q < 8)
  | .stage core q => decide (core < 1024) && decide (q < 8)
  | .writeback core q => decide (core < 1024) && decide (q < 8)
  | .sramScrub _ => true
  | .patrolScrub _ => true
  | .strobeStep channel => decide (channel < 96)
  | .channelRetrain channel _ => decide (channel < 96)
  | .refresh channel _ => decide (channel < 96)
  | .dramTemperatureReport channel _ => decide (channel < 96)
  | .poolCompletion _ _ _ bytes => decide (bytes.length ≤ 64)
  | .poolTimeout _ => true
  | .ueAddrLoRead => true
  | .detect port _ => decide (port < 8)
  | .equalize port _ => decide (port < 8)
  | .laneMap port tests goodOut => decide (port < 8) && decide (tests.length = 17) && decide (goodOut < 131072)
  | .align port _ => decide (port < 8)
  | .exchange port _ => decide (port < 8)
  | .identitySend port => decide (port < 8)
  | .configuredWaitLimit port => decide (port < 8)
  | .attemptTimeout port => decide (port < 8)
  | .miscabledRetry port => decide (port < 8)
  | .noValidFrame port => decide (port < 8)
  | .laneErrorLimit port lane _ _ => decide (port < 8) && decide (lane < 17)
  | .laneRetest port results => decide (port < 8) && decide (results.tests.length = 17) && decide (results.goodOut < 131072)
  | .lanePropose port mask switchSeq => decide (port < 8) && decide (mask < 131072) && decide (switchSeq < 65536)
  | .laneAccept port mask switchSeq => decide (port < 8) && decide (mask < 131072) && decide (switchSeq < 65536)
  | .laneSwitch port => decide (port < 8)
  | .laneSwitchTimeout port => decide (port < 8)
  | .frame port count sent errors => decide (port < 8) && decide (count < 65536) && decide (sent.length = 1280) && decide (errors.length = 1088) && errors.all (fun x => decide (x < 1024))
  | .inServiceRetrain port _ => decide (port < 8)
  | .tc0Window port _ => decide (port < 8)
  | .write port => decide (port < 8)
  | .completion port => decide (port < 8)
  | .refused port => decide (port < 8)
  | .refusedRetry tag => decide (tag < 16777216)
  | .retryWindowEnd tag => decide (tag < 16777216)
  | .epochEnd port => decide (port < 8)
  | .epochAck port => decide (port < 8)
  | .epochClose port => decide (port < 8)
  | .drainLimit node => decide (node < 65536)
  | .linkState _ node port _ _ => decide (node < 65536) && decide (port < 8)
  | .openTransferTimeout edge src tag => decide (edge < 2) && decide (src < 65536) && decide (tag < 16777216)
  | .sourceTransferTimeout tag => decide (tag < 16777216)
  | .linkWaitExpiry => true
  | .haltMessage _ node _ => decide (node < 65536)
  | .wakeMessage node => decide (node < 65536)
  | .partnerClaim port node => decide (port < 8) && decide (node < 65536)
  | .partnerRefusal port => decide (port < 8)
  | .roundLoRead => true
  | .heartbeat hdr _ => decide (hdr.wanPort < 4)
  | .heartbeatSend => true
  | .reachabilityLapse site => decide (site < 16)
  | .routeDown site _ => decide (site < 16)
  | .delta hdr _ _ => decide (hdr.wanPort < 4)
  | .ack hdr _ => decide (hdr.wanPort < 4)
  | .ackSend site => decide (site < 16)
  | .packetResend site _ => decide (site < 16)
  | .streamPause site => decide (site < 16)
  | .propose hdr _ => decide (hdr.wanPort < 4)
  | .accept hdr _ _ => decide (hdr.wanPort < 4)
  | .close hdr _ => decide (hdr.wanPort < 4)
  | .fetch hdr _ => decide (hdr.wanPort < 4)
  | .data hdr _ => decide (hdr.wanPort < 4)
  | .digest hdr _ _ => decide (hdr.wanPort < 4)
  | .join hdr _ => decide (hdr.wanPort < 4)
  | .deltaForm shard core => decide (shard < 4096) && decide (core < 1024)
  | .wanSend site => decide (site < 16)
  | .wanFetch site => decide (site < 16)
  | .fetchLimit => true
  | .outerSegment shard core => decide (shard < 4096) && decide (core < 1024)
  | .anchorDigest => true
  | .roundDeadline => true
  | .roundOrphan => true
  | .recoveryFailover site => decide (site < 16)
  | .recoveryRoutesDown site => decide (site < 16)
  | .keyEpochStart => true
  | .gracePeriodEnd site => decide (site < 16)
  | .rateTokens => true
  | .neighborSolicitation port _ _ => decide (port < 4)
  | .arpRequest port _ _ => decide (port < 4)
  | .echoRequest port _ _ => decide (port < 4)
  | .packetTooBig port _ => decide (port < 4)
  | .ckShard core q => decide (core < 1024) && decide (q < 8)
  | .ckState core q => decide (core < 1024) && decide (q < 8)
  | .targetWriteDone target => decide (target < 4)
  | .targetWriteFail target _ => decide (target < 4)
  | .checkpointSeal target => decide (target < 4)
  | .ckSealedLoRead => true
  | .restore => true
  | .restoreManifestsRead _ => true
  | .sealedStepExchange _ _ => true
  | .restoreLoaded _ _ => true
  | .restoreCommitted => true
  | .restoreVerified => true
  | .voltageAlarm => true
  | .temperatureAlarm => true
  | .glitchAlarm => true
  | .alarmRecovery => true
  | .alarmClear _ => true
  | .changeWindowEnd => true
  | .encrypt engine _ => decide (engine < 4)
  | .decrypt engine _ => decide (engine < 4)
  | .mac engine _ => decide (engine < 4)
  | .keySlotLoad engine slot _ => decide (engine < 4) && decide (slot < 48)
  | .slotCtrLoRead engine => decide (engine < 4)
  | .keyWrCommit _ => true
  | .getVersion => true
  | .getCapabilities => true
  | .negotiateAlgorithms _ => true
  | .getDigests => true
  | .getCertificate _ _ _ => true
  | .challenge _ _ => true
  | .getMeasurements _ _ _ => true
  | .spdmUnsupported _ => true
  | .nonceGet => true
  | .nonceLapse => true
  | .lock _ => true
  | .unlock _ => true
  | .enrol _ _ _ => true
  | .revoke _ _ => true
  | .retire _ => true
  | .recorderClear _ _ => true
  | .provision _ _ _ => true
  | .keyInstall _ => true
  | .inputStart _ => true
  | .bulkCharged _ straps straps2 =>
    decide (straps.length = 7) && decide (straps2.length = 7) &&
    (straps ++ straps2).all (fun p => match p with | .unconnected => true | .level _ vstby => decide (0 < vstby))
  | .headstockRailsGood => true
  | .firmwareRunning => true
  | .channelsTrained _ => true
  | .imageVerified => true
  | .wave => true
  | .lastWaveDone _ => true
  | .zeroingComplete => true
  | .fullReset _ => true
  | .computeReset _ => true
  | .dieReset die _ => decide (die < 256)
  | .computeRailsOff => true
  | .resetWavesDone => true
  | .overcurrent _ => true
  | .overvoltage _ => true
  | .faultLatchClear _ => true
  | .inputLow _ => true
  | .inputLoss _ => true
  | .holdupThrottled => true
  | .holdupFlushDone => true
  | .holdupRailsOff => true
  | .edgeThermalShutdown die _ => decide (8 ≤ die ∧ die < 10)
  | .thermalTrip die _ => decide (die < 8)
  | .thermalHoldExit _ => true
  | .thermalThrottle die _ => decide (die < 8)
  | .rest => true
  | .wake => true
  | .wakeWave => true
  | .resetNLow => true
  | .resetNHeld => true
  | .resetNRelease => true
  | .tamper _ => true
  | .perstN => true
  | .refclkChange _ _ => true
  | .i3cRead _ => true
  | .i3cArm _ => true
  | .i3cCold => true
  | .i3cFull => true
  | .i3cWake => true
  | .rstdaa => true
  | .setdasa _ _ => true
  | .entdaa _ => true
  | .getpid => true
  | .getbcr => true
  | .getdcr => true
  | .getstatus => true
  | .getmxds => true
  | .transferFwFull _ _ _ => true
  | .transferFwInitiate _ _ _ => true
  | .transferFwContinue _ _ _ => true
  | .transferFwEnd _ _ _ => true
  | .transferFwAbort => true
  | .cfgTransferFull _ _ _ _ => true
  | .cfgTransferInitiate _ _ _ => true
  | .cfgTransferContinue _ _ _ => true
  | .cfgTransferEnd _ _ _ _ => true
  | .cfgTransferAbort => true
  | .transferIdleTimeout => true
  | .activateFw _ _ => true
  | .fwConfirm => true
  | .trialTimeout => true
  | .getFwInfo => true
  | .getTimestamp => true
  | .setTimestamp _ => true
  | .getSupportedLogs => true
  | .getLog => true
  | .unsupportedOpcode _ => true
  | .jobStart => true
  | .jobStop => true
  | .cfgInfo => true
  | .intakePoll ring => decide (ring < 16)
  | .intakeRelease ring => decide (ring < 16)
  | .planRecordReady ring => decide (ring < 16)
  | .resConsumedWrite ring _ => decide (ring < 16)
  | .hostErrClear => true
  | .registerWrite _ _ => true
  | .eventReport => true
  | .lost => true
  | .mirrorAppend _ _ => true
  | .telemetry => true
  | .recRead _ _ _ => true
  | .combineDone core _ => decide (core < 1024)
  | .wanPortDown port _ _ => decide (port < 4)
  | .wanPortUp port => decide (port < 4)
  | .cxlLinkDown => true
  | .cxlLinkUp => true
  | .perstNDeassert => true
  | .inputLowClear _ => true
  | .partnerAcceptance port => decide (port < 8)
  | .copyRegionRequest port => decide (port < 8)
  | .shardExportRequest node shard => decide (node < 65536) && decide (shard < 4096)
  | .doeDiscovery _ => true
  | .tableAccess _ => true

end Sys2Proof
end

