-- ==== Sys2Proof/Tests/Slice0.lean ====
section
/-! SUPPORT. Tests. The small states are built from `base`; each `test_` theorem shows that the conditions of a statement are
met together on one of them, or a result that the manual prints. -/

namespace Sys2Proof.Tests

set_option Elab.async false

open Sys2Proof Sys2Proof.Machine

/-! ## The kit -/

/-- The state that a command leaves. -/
def after (o : Out) : State := match o with | .next t => t | _ => State.reset
/-- `c` run on `s`. -/
def run (c : Instr) (s : State) : State := after (exec c s)
/-- A layout as a number: value at bit. -/
def word (fs : List (Nat × Nat)) : Nat := fs.foldl (fun a f => a + f.2 <<< f.1) 0
/-- An image with one core section for core 0 whose queues all start at entry 0. -/
def img0 : Image := { cores := [{ core := 0, queues := List.replicate 8 (some 0), stepList := 0x1000 }] }
/-- The module READY with a job RUNNING, every die up and package time 1 s. -/
def base : State :=
  { State.reset with
    power := { State.reset.power with boot := .ready, state := .ready, diesUp := 0xFF, vbulk := 5400 }
    time := { State.reset.time with released := true, copies := List.replicate 10 1000000000 }
    host := { State.reset.host with job := .running, cxlUp := true }
    image := some img0 }
def withImg (f : Image → Image) (s : State) : State := { s with image := s.image.map f }
/-- Queue `q` of core 0 live at entry 0, which is `w`. -/
def live (q w : Nat) (s : State) : State :=
  (s.modQueue 0 q (fun k => { k with active := true, waitFrom := 1000000000 })).poke 0x1000 (leBytes 32 w)
/-- The entry at the head of a live queue of core 0. -/
def head (s : State) (q : Nat) : Entry :=
  Entry.ofNat (leNat (s.peek (s.headAddr 0 q) 32))

/-- Strap pins in the middle of the range of their codes. -/
def strapsOf (codes : List Nat) : List StrapPin := codes.map (fun c => .level ((15 - c) * 206250 + 103125) 3300000)

/-- `Safety.HeadIs` as a check. -/
def isHead (s : State) (core q : Nat) (t : State) (e : Entry) : Bool :=
  s.queueLive core q &&
  (match s.readOwn core (s.headAddr core q) 32 1 with
   | (t', .ok bs) => t' == t && Entry.ofNat (leNat bs) == e
   | _ => false) && t.entryOk core q e && (t.core core).latched e == 0
/-- `Safety.Ready` as a check. -/
def isReady (s : State) (core q : Nat) (t : State) (e : Entry) : Bool :=
  isHead s core q t e && !e.launch && t.conditions core q e && s.firstReady core q

theorem head_of_check {s t : State} {core q : Nat} {e : Entry} (h : isHead s core q t e = true) : Safety.HeadIs s core q t e := by
  unfold isHead at h
  split at h
  · rename_i t' bs heq
    simp only [Bool.and_eq_true, beq_iff_eq] at h
    obtain ⟨⟨⟨h1, h2, h3⟩, h4⟩, h5⟩ := h
    subst h2
    exact ⟨h1, ⟨bs, heq, h3⟩, h4, h5⟩
  · simp at h

theorem ready_of_check {s t : State} {core q : Nat} {e : Entry} (h : isReady s core q t e = true) : Safety.Ready s core q t e := by
  unfold isReady at h
  simp only [Bool.and_eq_true, Bool.not_eq_true'] at h
  exact ⟨head_of_check h.1.1.1, h.1.1.2, h.1.2, h.2⟩

/-! ## Control entries (02_dataflow R70 to R77) -/

def waitSt : State := live 0 0 base
def addSt : State := live 0 (word [(0, 6), (128, 63), (144, 0xFFFF)]) base
def jumpSt : State := live 0 (word [(0, 7), (112, 3), (128, 5)]) base
def endSt : State := live 0 8 base

theorem test_step_front : ({ base with pending := [.wait 0 0, .alarmClear 0] } : State).pending = .wait 0 0 :: [.alarmClear 0] ∧
    base.pending = [] ∧ base.tick.now = 1000000001 := by decide +kernel

theorem test_wait_issues : Safety.Ready waitSt 0 0 waitSt (head waitSt 0) ∧ (head waitSt 0).kind = 0 ∧
    ((run (.wait 0 0) waitSt).queue 0 0).pos = 1 := ⟨ready_of_check (by decide +kernel), by decide +kernel, by decide +kernel⟩

theorem test_add_issues : Safety.Ready addSt 0 0 addSt (head addSt 0) ∧ (head addSt 0).kind = 6 ∧
    (((run (.addEntry 0 0) addSt).core 0).counters.at 63).value = 0xFFFF :=
  ⟨ready_of_check (by decide +kernel), by decide +kernel, by decide +kernel⟩

/-- LOOP 3 jumps twice; then the entry after it is at the head. -/
theorem test_jump_loops : Safety.Ready jumpSt 0 0 jumpSt (head jumpSt 0) ∧ (head jumpSt 0).kind = 7 ∧
    (jumpSt.queue 0 0).loops.find? (fun l => l.1 == 0) = none ∧
    ((run (.jump 0 0) jumpSt).queue 0 0).pos = 5 ∧ ((run (.jump 0 0) jumpSt).queue 0 0).loops = [(0, 1)] :=
  ⟨ready_of_check (by decide +kernel), by decide +kernel, by decide +kernel, by decide +kernel, by decide +kernel⟩
def jumpOn (n : Nat) : State := jumpSt.modQueue 0 0 (fun k => { k with loops := [(0, n)] })
theorem test_jump_on : Safety.Ready (jumpOn 1) 0 0 (jumpOn 1) (head jumpSt 0) ∧ Safety.Ready (jumpOn 0) 0 0 (jumpOn 0) (head jumpSt 0) ∧
    ((jumpOn 1).queue 0 0).loops.find? (fun l => l.1 == ((jumpOn 1).queue 0 0).pos) = some (((jumpOn 1).queue 0 0).pos, 0 + 1) ∧
    ((jumpOn 0).queue 0 0).loops.find? (fun l => l.1 == ((jumpOn 0).queue 0 0).pos) = some (((jumpOn 0).queue 0 0).pos, 0) ∧
    ((run (.jump 0 0) (jumpOn 1)).queue 0 0).pos = 5 ∧ ((run (.jump 0 0) (jumpOn 0)).queue 0 0).pos = 1 :=
  ⟨ready_of_check (by decide +kernel), ready_of_check (by decide +kernel), by decide +kernel, by decide +kernel, by decide +kernel,
    by decide +kernel⟩

theorem test_end_retires : Safety.Ready endSt 0 0 endSt (head endSt 0) ∧ (head endSt 0).kind = 8 ∧
    ((run (.endEntry 0 0) endSt).queue 0 0).retired = true :=
  ⟨ready_of_check (by decide +kernel), by decide +kernel, by decide +kernel⟩

def lateQueue : State := waitSt.modQueue 0 0 (fun k => { k with waitFrom := 0 })
def slowImg : State := withImg (fun i => { i with cores := [{ core := 0, stepList := 0x1000, waits := [999999999] }] }) lateQueue
theorem test_queue_timeout : slowImg.queueLive 0 0 = true ∧ (slowImg.queue 0 0).waitFrom + slowImg.waitLimit 0 0 < slowImg.now ∧
    ((run (.queueTimeout 0 0) slowImg).core 0).haltCause = Cause.timeout ∧ (run (.queueTimeout 0 0) slowImg).host.job = .restoring := by
  decide +kernel

/-! ## Launches (R80 to R91) -/

def launchSt : State :=
  withImg (fun i => { i with launch := [{ slot := 63, participants := [0], spacing := 7 }] }) (live 0 (word [(9, 1), (96, 63)]) base)
/-- The arrival of the one participant is at the launch unit. -/
def arrivedSt : State := run (.launchArrival 0 0) launchSt
/-- L is set, to 1 s + 1 000 ns. -/
def setSt : State := run (.setLaunchInstant 63) arrivedSt
/-- Die 0 has the broadcast. -/
def recvSt : State := run (.launchBroadcastReceive 63 0) setSt
def clock (t : Nat) (s : State) : State := { s with time := { s.time with copies := List.replicate 10 t } }

theorem test_launch_arrival : Safety.HeadIs launchSt 0 0 launchSt (head launchSt 0) ∧ (head launchSt 0).launch = true ∧
    (launchSt.queue 0 0).arrived = false ∧ launchSt.conditions 0 0 (head launchSt 0) = true ∧
    (arrivedSt.slotSt 63).arrived = [(0, 0)] ∧ (arrivedSt.slotSt 63).lastAt = 1000000000 :=
  ⟨head_of_check (by decide +kernel), by decide +kernel, by decide +kernel, by decide +kernel, by decide +kernel, by decide +kernel⟩
theorem test_launch_instant : (arrivedSt.launchCfg 63).map (·.participants) = some [0] ∧ arrivedSt.time.oscFault = false ∧
    (∀ c ∈ [0], ∃ a ∈ (arrivedSt.slotSt 63).arrived, a.1 = c) ∧ (setSt.slotSt 63).instant = some 1000001000 ∧
    (setSt.slotSt 63).generation = 1 := by decide +kernel
theorem test_launch_broadcast : (∃ c ∈ [0], coreDie c = 0) ∧ 0 ∉ (setSt.slotSt 63).received ∧
    (recvSt.governors.at 0).holds = [(63, 1000001000, 1000003000)] := by decide +kernel
theorem test_launch_issue : Safety.HeadIs (clock 1000001005 recvSt) 0 0 (clock 1000001005 recvSt) (head launchSt 0) ∧
    ((clock 1000001005 recvSt).queue 0 0).arrived = true ∧ ((clock 1000001005 recvSt).queue 0 0).late = false ∧
    (clock 1000001005 recvSt).launchTime 0 0 63 = some 1000001000 ∧ (clock 1000001005 recvSt).firstReady 0 0 = true ∧
    ((run (.launchIssue 0 0) (clock 1000001005 recvSt)).queue 0 0).pos = 1 ∧
    ((run (.launchIssue 0 0) (clock 1000000999 recvSt)).queue 0 0).pos = 0 :=
  ⟨head_of_check (by decide +kernel), by decide +kernel, by decide +kernel, by decide +kernel, by decide +kernel, by decide +kernel,
    by decide +kernel⟩
/-- The moment of the instant passes: an entry whose conditions hold is on time, one whose counter lags is late (R72). -/
theorem test_launch_judged : ((clock 1000001000 recvSt).tick.queue 0 0).onTime = true ∧
    ((clock 1000000999 recvSt).tick.queue 0 0).onTime = false := by decide +kernel
/-- Two queues are ready: the lower-numbered issues, the other waits (R74). -/
def bothReady : State := base.modCore 0 (fun x => { x with queues := [(0, { pos := 8, active := true }), (1, { pos := 9, active := true })] })
theorem test_lowest_queue_first : (bothReady.queueLive 0 1) = true ∧ bothReady.firstReady 0 1 = false ∧
    ((run (.wait 0 1) bothReady).queue 0 1).pos = 9 ∧ ((run (.wait 0 0) bothReady).queue 0 0).pos = 9 := by decide +kernel
def rampSt : State := clock 1000001001 recvSt
def lateSt : State := (run (.rampEnd 63) rampSt)
theorem test_ramp_end : (rampSt.launchCfg 63).map (fun l => LaunchCfg.lastOffset l rampSt (fun _ => true)) = some 0 ∧
    1000001000 + 0 < rampSt.now ∧ (lateSt.slotSt 63).instant = none ∧ (lateSt.slotSt 63).generation = 1 := by decide +kernel
theorem test_late_issue : Safety.HeadIs lateSt 0 0 lateSt (head launchSt 0) ∧ (lateSt.queue 0 0).arrived = true ∧
    (lateSt.queue 0 0).late = true ∧ (run (.lateLaunchIssue 0 0) lateSt).time.launchLate = 1 ∧
    ((run (.lateLaunchIssue 0 0) lateSt).queue 0 0).pos = 1 :=
  ⟨head_of_check (by decide +kernel), by decide +kernel, by decide +kernel, by decide +kernel, by decide +kernel⟩

/-! ## Governor, oscillator and register reads (R47 to R61) -/

def govSt : State := { base with governors := [(7, { target := 2000, working := 200000, vset := 848 })] }
theorem test_governor : govSt.diePowered 7 = true ∧ (govSt.governors.at 7).held govSt.now = false ∧
    ((run (.governorCompare 7 1979) govSt).governors.at 7).vset = 850 ∧ ((run (.governorCompare 7 1980) govSt).governors.at 7).vset = 848 ∧
    ((run (.governorCompare 7 2021) govSt).governors.at 7).vset = 843 ∧ ((run (.workingTargetRaise 7) govSt).governors.at 7).working = 200000 ∧
    ((run (.powerAverage 7 291 90) govSt).governors.at 7).working = 198000 ∧
    ((run (.powerAverage 7 290 95) govSt).governors.at 7).working = 200000 := by decide +kernel
def heldGov : State := { base with governors := [(0, { target := 2000, working := 200000, holds := [(1, 1000000000, 1000000000)] })] }
theorem test_governor_hold : (heldGov.governors.at 0).held heldGov.now = true ∧ ((run (.governorCompare 0 0) heldGov).governors.at 0).vset = 700 ∧
    ((run (.setpointHoldEnd 0) heldGov).governors.at 0).holds = [] := by decide +kernel
theorem test_osc_fault : waitSt.time.oscFault = false ∧ waitSt.time.released = true ∧ waitSt.runningQueues = [(0, 0)] ∧
    ((run .oscFault waitSt).queue 0 0).halted = true ∧ (run .oscFault waitSt).tick.now = 1000000000 := by decide +kernel
theorem test_lo_reads : base.wanExists 0 = true ∧ (run .timeNowLoRead (clock 0x100000002 base)).bus = 2 ∧
    (run .timeNowLoRead (clock 0x100000002 base)).time.hiLatch = 1 := by decide +kernel
theorem test_w1c : base.barUp = true ∧
    ((run (.causeOrClear 0 0x81) (base.modCore 0 (fun x => { x with mx := { x.mx with causeOr := 0xFF } }))).core 0).mx.causeOr = 0x7E := by
  decide +kernel

/-! ## Matrix engine (05_matrix_engine R157 to R189): BF16 operands, one tile of one element, FP32 output -/

def mmWord (kind incr : Nat) : Nat :=
  word [(0, kind), (20, 1), (24, 1), (32, 1), (48, 1), (64, 1), (118, 3), (128, incr), (160, 0x100), (179, 1), (192, 0x200), (211, 1),
    (224, 0x300), (243, 1), (408, 0x310)]
/-- A MATRIX entry whose descriptor lies at offset 8 192; A holds 1.0 and B holds 2.0 in their first element. -/
def mmSt (kind incr : Nat) : State :=
  (((live 0 (word [(0, 1), (128, 0x2000)]) base).poke 0x2000 (leBytes 64 (mmWord kind incr))).poke 0x4000 (leBytes 2 0x3F80)).poke 0x8000
    (leBytes 2 0x4000)
def mmDesc (kind incr : Nat) : MDesc := MDesc.ofNat (mmWord kind incr)
/-- The operation is in the engine. -/
def mmRun : State := run (.mm 0 0) (mmSt 1 1)
def mmOp : MatOp := { desc := BitVec.ofNat 512 (mmWord 1 1) }

theorem test_matrix_issue : Safety.Ready (mmSt 1 1) 0 0 (mmSt 1 1) (head (mmSt 1 1) 0) ∧ (head (mmSt 1 1) 0).kind = 1 ∧
    (mmSt 1 1).readOwn 0 (head (mmSt 1 1) 0).addr 64 1 = (mmSt 1 1, .ok (leBytes 64 (mmWord 1 1))) ∧
    (∀ k ∈ [1, 2, 3, 4, 5], (mmDesc k 1).kind = k ∧ ((mmSt k 1).goNext 0 0).matrixCheck 0 (mmDesc k 1) = some (0, 0)) ∧
    ((mmSt 1 0).goNext 0 0).matrixCheck 0 (mmDesc 1 0) = none :=
  ⟨ready_of_check (by decide +kernel), by decide +kernel, by decide +kernel, by decide +kernel, by decide +kernel⟩
theorem test_matrix_queues : ((run (.mmTa 0 0) (mmSt 2 1)).core 0).mx.ops.length = 1 ∧ ((run (.mmTb 0 0) (mmSt 3 1)).core 0).mx.ops.length = 1 ∧
    ((run (.gradW 0 0) (mmSt 4 1)).core 0).mx.ops.length = 1 ∧ ((run (.gradX 0 0) (mmSt 5 1)).core 0).mx.ops.length = 1 ∧
    ((run (.mm 0 0) (mmSt 1 0)).core 0).mx.lastFail = Cause.planReject := by decide +kernel

def tileBlocksOf (s : State) (op : MatOp) : Option TileBlocks := s.tileBlocks 0 op (MDesc.ofNat op.desc.toNat) 0 0
def tileOutOf (s : State) (op : MatOp) : TileOut :=
  s.tileOut 0 (MDesc.ofNat op.desc.toNat) (s.tileAccs 0 (MDesc.ofNat op.desc.toNat) 0 0 ((tileBlocksOf s op).getD []))
/-- 1.0 × 2.0: the output word is 2.0, the status word is written with DONE, and the counter advances. -/
theorem test_tile : (mmRun.core 0).mx.ops = [mmOp] ∧ (MDesc.ofNat mmOp.desc.toNat).tileAt mmOp.done = (0, 0) ∧
    (tileBlocksOf mmRun mmOp).isSome = true ∧
    (∀ w ∈ ((mmDesc 1 1).statusAddr 0 0 0, []) :: (mmDesc 1 1).tileData 0 0 0
      (mmRun.tileAccs 0 (mmDesc 1 1) 0 0 ((tileBlocksOf mmRun mmOp).getD [])) (tileOutOf mmRun mmOp), addrSpace w.1 = 0) ∧
    (run (.tileComplete 0) mmRun).peekNat 0xC000 4 = 0x40000000 ∧
    (((run (.tileComplete 0) mmRun).core 0).counters.at 3).value = 1 := by decide +kernel
/-- With 65 output columns the first of two tiles leaves the operation running. -/
def wideOp : MatOp := { desc := BitVec.ofNat 512 (mmWord 1 1 + (64 <<< 48)) }
def wideRun : State := mmRun.modCore 0 (fun x => { x with mx := { x.mx with ops := [wideOp] } })
theorem test_tile_goes_on : (MDesc.ofNat wideOp.desc.toNat).tiles = 2 ∧ (tileBlocksOf wideRun wideOp).isSome = true ∧
    ((run (.tileComplete 0) wideRun).core 0).mx.ops.map (·.done) = [1] := by decide +kernel
def sparseOp : MatOp := { desc := BitVec.ofNat 512 (mmWord 1 1 + (1 <<< 11)) }
/-- A 2:4 word whose p0 is not below p1 (R172). -/
def sparseRun : State := mmRun.modCore 0 (fun x => { x with mx := { x.mx with ops := [sparseOp] } })
theorem test_tile_reject : (tileBlocksOf sparseRun sparseOp).isNone = true ∧
    ((run (.tileComplete 0) sparseRun).core 0).mx.lastFail = Cause.planReject := by decide +kernel
theorem test_expander_stall : mmOp.stalledA = false ∧ mmOp.stalledB = false ∧
    ((run (.expanderStall 0 1) mmRun).core 0).mx.ops.map (·.stalledB) = [true] := by decide +kernel

/-! ## KFR tables (06_fixed_rate R195 to R203): a rate-4 table of 16 entries at offset 12 288 -/


/-- A TRANSFER entry whose descriptor, at offset 8 192, is `w`. -/
def xferSt (w : Nat) : State := (live 0 (word [(0, 4), (128, 0x2000)]) base).poke 0x2000 (leBytes 32 w)
/-- The entry at the head reads its descriptor whole: the witness of the reads of every TRANSFER statement. -/
def xferReads (s : State) (w : Nat) : Bool :=
  isReady s 0 0 s (head s 0) && (head s 0).kind == 4 &&
  (match s.readOwn 0 (head s 0).addr 32 1 with | (t, .ok bs) => t == s && leNat bs == w | _ => false)
/-- OP, slot 3 of both expanders and of the compressor, WAIT, COUNT. -/
def tabWord (op wait count : Nat) : Nat :=
  word [(0, op), (8, 3), (10, 7), (13, wait), (16, count), (32, 5), (48, 2), (64, if op = 0x40 then 0xC0 else 0)]
def tabSt (op wait count : Nat) : State := (xferSt (tabWord op wait count)).poke 0x3000 [0x43, 0, 7]
def tab0 : Table := { rate := 4, carried := 3, id := 7, entries := zeros 16 }
/-- Slot 7 of the expanders holds one explicit hold. -/
def heldSt (op wait count n : Nat) : State :=
  (tabSt op wait count).modCore 0 (fun x => { x with xp := { x.xp with slots := x.xp.slots.upd 7 (fun k => { k with explicit := n }) } })
def readsTable (s : State) : Bool :=
  match (s.goNext 0 0).readTable 0 (TDesc.ofNat (tabWord 0x40 0 0)) with | (_, .ok t) => t == tab0 | _ => false

theorem test_load : xferReads (tabSt 0x40 0 0) (tabWord 0x40 0 0) = true ∧ (TDesc.ofNat (tabWord 0x40 0 0)).ok = true ∧
    ((tabSt 0x40 0 0).goNext 0 0).slotsFree 0 (TDesc.ofNat (tabWord 0x40 0 0)) = true ∧ readsTable (tabSt 0x40 0 0) = true ∧
    (((run (.load 0 0) (tabSt 0x40 0 0)).core 0).xp.slots.at 7).table = some tab0 ∧
    (((run (.load 0 0) (tabSt 0x40 0 0)).cluster 0).slots.at 3).table = some tab0 := by decide +kernel
theorem test_load_busy : xferReads (heldSt 0x40 0 0 1) (tabWord 0x40 0 0) = true ∧ xferReads (heldSt 0x40 1 0 1) (tabWord 0x40 1 0) = true ∧
    ((heldSt 0x40 0 0 1).goNext 0 0).slotsFree 0 (TDesc.ofNat (tabWord 0x40 0 0)) = false ∧
    ((run (.load 0 0) (heldSt 0x40 0 0 1)).core 0).xf.lastFail = Cause.tableBusy ∧
    ((run (.load 0 0) (heldSt 0x40 1 0 1)).core 0).xp.waiting.map (·.deadline) = [1010000000] := by decide +kernel
theorem test_hold_release : xferReads (heldSt 0x41 0 65535 0) (tabWord 0x41 0 65535) = true ∧ xferReads (heldSt 0x42 0 1 0) (tabWord 0x42 0 1) = true ∧
    (TDesc.ofNat (tabWord 0x41 0 65535)).ok = true ∧ (TDesc.ofNat (tabWord 0x42 0 1)).ok = true ∧
    (((run (.hold 0 0) (heldSt 0x41 0 65535 0)).core 0).xp.slots.at 7).explicit = 65535 ∧
    ((run (.hold 0 0) (heldSt 0x41 0 65535 1)).core 0).xf.lastFail = Cause.planReject ∧
    ((run (.release 0 0) (heldSt 0x42 0 1 0)).core 0).xf.lastFail = Cause.planReject ∧
    ((run (.release 0 0) (run (.hold 0 0) (heldSt 0x41 0 1 0))).core 0).xp.slots.map (·.1) = [3, 7] := by decide +kernel
def waitLoad : WaitingLoad := { desc := BitVec.ofNat 256 (tabWord 0x40 1 0), deadline := 1000000000 }
def waitingSt (n : Nat) : State := (heldSt 0x40 1 0 n).modCore 0 (fun x => { x with xp := { x.xp with waiting := [waitLoad] } })
theorem test_load_waits : ((waitingSt 0).core 0).xp.waiting = waitLoad :: [] ∧ (waitingSt 0).now ≤ waitLoad.deadline ∧
    (waitingSt 0).slotsFree 0 (TDesc.ofNat waitLoad.desc.toNat) = true ∧ readsTable ((waitingSt 0).dropWaiting 0 waitLoad) = true ∧
    (((run (.loadWaitWake 0) (waitingSt 0)).core 0).xp.slots.at 3).table = some tab0 ∧ run (.tableWaitLimit 0) (waitingSt 0) = waitingSt 0 ∧
    (waitingSt 1).slotsFree 0 (TDesc.ofNat waitLoad.desc.toNat) = false ∧
    ((run (.tableWaitLimit 0) (waitingSt 1)).core 0).xp.waiting = [] ∧
    ((run (.tableWaitLimit 0) (clock 1000000001 (waitingSt 0))).core 0).xf.lastFail = Cause.tableBusy := by decide +kernel

/-! ## Vector engine (07_vector R224 to R252) -/

def vWord (op ty d a b imm : Nat) : Nat := word [(56, op), (48, ty), (43, d), (38, a), (33, b), (0, imm)]
/-- T[1] begins 3.0, −2.0; T[2] begins 2.0, 1.0; P[1] holds lane 0 alone; S[4] is 4 096; S[5] is 1. -/
def engine0 : VectorEngine :=
  { tiles := [(1, [0x40400000, 0xC0000000]), (2, [0x40000000, 0x3F800000])], preds := [(1, 1)], scalars := [(4, 4096), (5, 1)] }
/-- A kernel of core 0 stands before the instruction `w` at place 0. -/
def vecR (r : Running) (w : Nat) : State :=
  base.modCore 0 (fun x => { x with kernelRegion := [(r.pc, BitVec.ofNat 64 w)], vx := { engine0 with run := some r } })
def vec (w : Nat) : State := vecR {} w
/-- `Safety.Fetched` as a check. -/
def isFetched (s : State) (r : Running) (w : Nat) : Bool :=
  (s.core 0).vx.run == some r && VInstr.ofNat ((s.core 0).kernelRegion.at r.pc).toNat == VInstr.ofNat w && (VInstr.ofNat w).ok && r.pc < 8191
theorem fetched_of_check {s : State} {r : Running} {w : Nat} (h : isFetched s r w = true) : Safety.Fetched s 0 r (VInstr.ofNat w) := by
  unfold isFetched at h
  simp only [Bool.and_eq_true, beq_iff_eq, decide_eq_true_eq] at h
  exact ⟨h.1.1.1, h.1.1.2, h.1.2, h.2⟩
/-- Lane `l` of T[d] after the instruction. -/
def laneAfter (c : Instr) (w d l : Nat) : Word := Safety.lane ((run c (vec w)).core 0).vx d l

/-- OP, TYPE, A, B, IMM, the lane looked at and what R234 and R237 make of it. -/
theorem test_lane_results : ∀ p ∈ ([(.vAdd 0, 0x01, 0, 1, 2, 0, 0, 0x40A00000), (.vSub 0, 0x02, 0, 1, 2, 0, 1, 0xC0400000),
      (.vMul 0, 0x03, 0, 1, 2, 0, 0, 0x40C00000), (.vFma 0, 0x04, 0, 1, 2, 2, 0, 0x41000000), (.vMax 0, 0x05, 0, 1, 2, 0, 1, 0x3F800000),
      (.vMin 0, 0x06, 0, 1, 2, 0, 1, 0xC0000000), (.vAbs 0, 0x07, 0, 1, 0, 0, 1, 0x40000000), (.vNeg 0, 0x08, 0, 1, 0, 0, 0, 0xC0400000),
      (.vRcp 0, 0x09, 0, 2, 0, 0, 0, 0x3F000000), (.vRsqrt 0, 0x0A, 0, 2, 0, 0, 1, 0x3F800000), (.vExp2 0, 0x0B, 0, 2, 0, 0, 0, 0x40800000),
      (.vLog2 0, 0x0C, 0, 2, 0, 0, 0, 0x3F800000), (.vSel 0, 0x11, 3, 1, 2, 1, 1, 0x3F800000), (.vAnd 0, 0x12, 3, 1, 2, 0, 0, 0x40000000),
      (.vOr 0, 0x13, 3, 1, 2, 0, 0, 0x40400000), (.vXor 0, 0x14, 3, 1, 2, 0, 0, 0x00400000), (.vShl 0, 0x15, 3, 1, 2, 0, 0, 0x40400000),
      (.vShr 0, 0x16, 3, 1, 3, 0, 1, 0xC0000000), (.vSar 0, 0x17, 3, 1, 3, 0, 1, 0xC0000000), (.vTrn 0, 0x1C, 0, 1, 0, 0, 16, 0xC0000000),
      (.vBrow 0, 0x1D, 0, 1, 0, 0, 17, 0xC0000000), (.vBcol 0, 0x1E, 0, 1, 0, 1, 15, 0xC0000000), (.vIota 0, 0x1F, 0, 4, 0, 0, 255, 4351)] :
      List (Instr × Nat × Nat × Nat × Nat × Nat × Nat × Word)),
    isFetched (vec (vWord p.2.1 p.2.2.1 7 p.2.2.2.1 p.2.2.2.2.1 p.2.2.2.2.2.1)) {} (vWord p.2.1 p.2.2.1 7 p.2.2.2.1 p.2.2.2.2.1 p.2.2.2.2.2.1) = true ∧
    laneAfter p.1 (vWord p.2.1 p.2.2.1 7 p.2.2.2.1 p.2.2.2.2.1 p.2.2.2.2.2.1) 7 p.2.2.2.2.2.2.1 = p.2.2.2.2.2.2.2 := by decide +kernel

/-- An inactive lane keeps T[D], or becomes 0 by ZM. -/
def predWord (zm : Nat) : Nat := vWord 0x01 0 1 1 2 0 + 1 <<< 55 + 1 <<< 52 + zm <<< 51
theorem test_inactive_lanes : isFetched (vec (predWord 0)) {} (predWord 0) = true ∧ isFetched (vec (predWord 1)) {} (predWord 1) = true ∧
    laneAfter (.vAdd 0) (predWord 0) 1 1 = 0xC0000000 ∧ laneAfter (.vAdd 0) (predWord 1) 1 1 = 0 ∧
    laneAfter (.vAdd 0) (predWord 1) 1 0 = 0x40A00000 := by decide +kernel

theorem test_cvt_and_predicates : isFetched (vec (vWord 0x0D 3 7 1 0 0)) {} (vWord 0x0D 3 7 1 0 0) = true ∧
    laneAfter (.vCvt 0) (vWord 0x0D 3 7 1 0 0) 7 1 = 0xFFFFFFFE ∧
    isFetched (vec (vWord 0x10 0 7 1 2 2)) {} (vWord 0x10 0 7 1 2 2) = true ∧
    isFetched (vec (vWord 0x18 0 7 1 0 3)) {} (vWord 0x18 0 7 1 0 3) = true ∧
    ((run (.vPlog 0) (vec (vWord 0x18 0 7 1 0 3))).core 0).vx.pred 7 = 1 ∧
    isFetched (vec (vWord 0x19 0 7 0 0 (16 + 256))) {} (vWord 0x19 0 7 0 0 (16 + 256)) = true ∧
    (((run (.vPset 0) (vec (vWord 0x19 0 7 0 0 (16 + 256)))).core 0).vx.pred 7).getLsbD 240 = true ∧
    (((run (.vPset 0) (vec (vWord 0x19 0 7 0 0 (16 + 256)))).core 0).vx.pred 7).getLsbD 241 = false := by decide +kernel

/-- Scalars, SRAM words and predicate tiles. -/
def sWord (op d a b imm : Nat) : Nat := vWord op 0 d a b imm
def scalarAfter (c : Instr) (w d : Nat) : Word64 := ((run c (vec w)).core 0).vx.scalar d
theorem test_scalars : (∀ p ∈ ([(.vSset 0, 0x30, 0, 0, 0xFFFFFFFF, 0xFFFFFFFFFFFFFFFF), (.vSseth 0, 0x31, 0, 0, 1, 0x100000000),
      (.vSadd 0, 0x32, 4, 0, 0xFFFFFFFF, 4095), (.vSaddr 0, 0x33, 4, 5, 0, 4097), (.vSmul 0, 0x34, 4, 0, 2, 8192), (.vSget 0, 0x35, 1, 0, 1, 0xC0000000)] :
      List (Instr × Nat × Nat × Nat × Nat × Word64)),
    isFetched (vec (sWord p.2.1 31 p.2.2.1 p.2.2.2.1 p.2.2.2.2.1)) {} (sWord p.2.1 31 p.2.2.1 p.2.2.2.1 p.2.2.2.2.1) = true ∧
    scalarAfter p.1 (sWord p.2.1 31 p.2.2.1 p.2.2.2.1 p.2.2.2.2.1) 31 = p.2.2.2.2.2) := by decide +kernel
def pcAfter (c : Instr) (w : Nat) : Option Nat := ((run c (vec w)).core 0).vx.run.map (·.pc)
theorem test_jumps : (∀ p ∈ ([(.vJmp 0, 0x3A, 0, 8191), (.vBnz 0, 0x3B, 5, 9), (.vBnz 0, 0x3B, 6, 1), (.vLoop 0, 0x3C, 4, 9), (.vLoop 0, 0x3C, 5, 1)] :
      List (Instr × Nat × Nat × Nat)),
    isFetched (vec (sWord p.2.1 0 p.2.2.1 0 (if p.2.1 = 0x3A then 8191 else 9))) {} (sWord p.2.1 0 p.2.2.1 0 (if p.2.1 = 0x3A then 8191 else 9)) = true ∧
    pcAfter p.1 (sWord p.2.1 0 p.2.2.1 0 (if p.2.1 = 0x3A then 8191 else 9)) = some p.2.2.2) := by decide +kernel
def sldSt : State := (vec (sWord 0x36 7 4 0 0)).poke 4096 [0x34, 0x12]
def lastWord (op : Nat) : Nat := sWord op 5 0 0 (2 ^ 25 - 8)
theorem test_sld_sst : sldSt.tiers.wordErrs = [] ∧ ((engine0.scalar 4).toNat + 0) % 2 ^ 64 % 8 = 0 ∧
    isFetched sldSt {} (sWord 0x36 7 4 0 0) = true ∧ ((run (.vSld 0) sldSt).core 0).vx.scalar 7 = 0x1234 ∧
    isFetched (vec (lastWord 0x37)) {} (lastWord 0x37) = true ∧ (run (.vSst 0) (vec (lastWord 0x37))).peekNat (2 ^ 25 - 8) 8 = 1 := by decide +kernel
def endRun : Running := { counter := 63, increment := 2, statusEn := true, statusOff := 2 ^ 25 - 8 }
theorem test_kernel_end : isFetched (vecR endRun (sWord 0x3F 0 0 0 0)) endRun (sWord 0x3F 0 0 0 0) = true ∧
    (((run (.vEnd 0) (vecR endRun (sWord 0x3F 0 0 0 0))).core 0).counters.at 63).value = 2 ∧
    (run (.vEnd 0) (vecR endRun (sWord 0x3F 0 0 0 0))).peekNat (2 ^ 25 - 8) 8 = 2 ^ 63 := by decide +kernel

/-! ## Vector loads, stores, blocks and banks; the kernel's life -/

/-- S[2] is a base at the top of SRAM, S[3] a stride of 64 bytes, S[6] a misaligned base. -/
def engineV : VectorEngine :=
  { engine0 with scalars := [(2, 2 ^ 25 - 1024), (3, 64), (4, 4096), (5, 1), (6, 2)], banks := [(1, { op := 1, rows := List.replicate 16 {} })] }
def vecV (w : Nat) : State := (vec w).modCore 0 (fun x => { x with vx := { engineV with run := some {} } })
def vIs (w : Nat) : VInstr := VInstr.ofNat w
def memLd (op b : Nat) : Nat := vWord op 0 7 2 b 0
theorem test_loads : ∀ p ∈ ([(.vLd 0, 0x20, 3), (.vSt 0, 0x21, 3), (.vLdg 0, 0x24, 9), (.vStg 0, 0x25, 9)] : List (Instr × Nat × Nat)),
    isFetched (vecV (memLd p.2.1 p.2.2)) {} (memLd p.2.1 p.2.2) = true ∧ engineV.rowAligned (vIs (memLd 0x20 3)) = true ∧
    ((engineV.scalar 2).toNat % 4 == 0) = true ∧
    (∀ l < 256, engineV.rowLane (vIs (memLd 0x20 3)) l + 4 ≤ 2 ^ 25 ∧ engineV.gatherLane (vIs (memLd 0x24 9)) l + 4 ≤ 2 ^ 25) ∧
    ((run p.1 (vecV (memLd p.2.1 p.2.2))).core 0).vx.run.map (·.pc) = some 1 := by decide +kernel
def memBad (op : Nat) : Nat := vWord op 0 7 6 3 0
theorem test_loads_misaligned : ∀ p ∈ ([(.vLd 0, 0x20), (.vSt 0, 0x21), (.vLdg 0, 0x24), (.vStg 0, 0x25)] : List (Instr × Nat)),
    isFetched (vecV (memBad p.2)) {} (memBad p.2) = true ∧ engineV.rowAligned (vIs (memBad p.2)) = false ∧
    ((run p.1 (vecV (memBad p.2))).core 0).vx.lastFail = Cause.planReject := by decide +kernel
/-- The higher lane wins where two store to one word: STG with every lane at offset 0. -/
theorem test_stg_last_wins : (run (.vStg 0) (vecV (vWord 0x25 0 1 4 9 0))).peekNat 4096 4 = 0 := by decide +kernel
def lastPred (op : Nat) : Nat := vWord op 0 1 9 0 (2 ^ 25 - 32)
theorem test_predicate_words : isFetched (vecV (lastPred 0x26)) {} (lastPred 0x26) = true ∧ isFetched (vecV (lastPred 0x27)) {} (lastPred 0x27) = true ∧
    ((engineV.scalar 9).toNat + (2 ^ 25 - 32)) % 2 ^ 64 % 32 = 0 ∧ ((run (.vLdp 0) (vecV (lastPred 0x26))).core 0).vx.pred 1 = 0 ∧
    (run (.vStp 0) (vecV (lastPred 0x27))).peekNat (2 ^ 25 - 32) 32 = 1 := by decide +kernel
/-- MXINT8 blocks 64 bytes apart, scales one after another from the base at S[4]. -/
def blkWord (op : Nat) : Nat := vWord op 0 8 4 3 (8 * 256 + 4)
def blkSt (op : Nat) : State := (vecV (blkWord op)).poke 4096 [0x40]
theorem test_blocks : isFetched (blkSt 0x22) {} (blkWord 0x22) = true ∧ isFetched (blkSt 0x23) {} (blkWord 0x23) = true ∧
    (vIs (blkWord 0x23)).imm.testBit 13 = false ∧ (vIs (blkWord 0x23)).imm.testBit 12 = false ∧
    (∀ n < 16, (engineV.blockAddr (vIs (blkWord 0x22)) n).1 + 32 ≤ 2 ^ 25) ∧
    ((run (.vLdx 0) (blkSt 0x22)).core 0).vx.run.map (·.pc) = some 1 ∧ ((run (.vStx 0) (blkSt 0x23)).core 0).vx.run.map (·.pc) = some 1 := by
  decide +kernel
theorem test_banks : isFetched (vecV (vWord 0x40 0 1 0 0 (6 + 8 * 256))) {} (vWord 0x40 0 1 0 0 (6 + 8 * 256)) = true ∧
    isFetched (vecV (vWord 0x41 0 1 1 5 0)) {} (vWord 0x41 0 1 1 5 0) = true ∧ (engineV.banks.at 1).op ≠ 0 ∧ (engineV.banks.at 0).op = 0 ∧
    isFetched (vecV (vWord 0x41 0 0 1 5 0)) {} (vWord 0x41 0 0 1 5 0) = true ∧ isFetched (vecV (vWord 0x42 0 7 1 0 0)) {} (vWord 0x42 0 7 1 0 0) = true ∧
    isFetched (vecV (vWord 0x43 0 0 1 5 3)) {} (vWord 0x43 0 0 1 5 3) = true ∧
    (((run (.vRclr 0) (vecV (vWord 0x40 0 1 0 0 (6 + 8 * 256)))).core 0).vx.banks.at 1).k = 8 ∧
    ((run (.vRfeed 0) (vecV (vWord 0x41 0 0 1 5 0))).core 0).vx.lastFail = Cause.planReject ∧
    ((run (.vRfeed 0) (vecV (vWord 0x41 0 1 1 5 0))).core 0).vx.run.map (·.pc) = some 1 ∧
    ((run (.vRget 0) (vecV (vWord 0x42 0 7 1 0 0))).core 0).vx.run.map (·.pc) = some 1 ∧
    (((run (.vRtap 0) (vecV (vWord 0x43 0 0 1 5 3))).core 0).rd.taps.at 7).count = 1 := by decide +kernel

def vectorSt : State := live 0 (word [(0, 2), (128, 8191), (152, 0x2000)]) base
theorem test_vector_entry : Safety.Ready vectorSt 0 0 vectorSt (head vectorSt 0) ∧ (head vectorSt 0).kind = 2 ∧ (head vectorSt 0).kernel = 8191 ∧
    vectorSt.readArgs 0 (head vectorSt 0).argBlock = (vectorSt, .ok (zeros 256)) ∧
    ((run (.vector 0 0) vectorSt).core 0).vx.queue.map (·.index) = [8191] :=
  ⟨ready_of_check (by decide +kernel), by decide +kernel, by decide +kernel, by decide +kernel, by decide +kernel⟩
/-- Argument word 30 asks for INCREMENT `n`. -/
def startSt (n : Nat) : State := (run (.vector 0 0) vectorSt).poke (0x2000 + 242) [BitVec.ofNat 8 n]
theorem test_kernel_start : ((startSt 1).core 0).vx.queue = [{ index := 8191, args := 0x2000 }] ∧ ((startSt 1).core 0).vx.run = none ∧
    (startSt 1).dieRunning 0 = true ∧ settingsOk false (leNat (((startSt 1).peek 0x2000 256).drop 240 |>.take 8)) 0 = true ∧
    settingsOk false (leNat (((startSt 0).peek 0x2000 256).drop 240 |>.take 8)) 0 = false ∧
    ((run (.kernelStart 0) (startSt 1)).core 0).vx.run.map (·.pc) = some 8191 ∧
    ((run (.kernelStart 0) (startSt 1)).core 0).vx.scalar 30 = 0x10000 ∧
    ((run (.kernelStart 0) (startSt 0)).core 0).vx.lastFail = Cause.planReject := by decide +kernel
def slowKernel : State := clock 31000000001 (vecR { counter := 4, started := 1000000000 } 0)
theorem test_kernel_timeout : (slowKernel.core 0).vx.run = some { counter := 4, started := 1000000000 } ∧
    1000000000 + slowKernel.waitLimit 0 0 < slowKernel.now ∧ ((slowKernel.core 0).counters.at 4).cause = 0 ∧
    (((run (.kernelTimeout 0) slowKernel).core 0).counters.at 4).cause = Cause.timeout := by decide +kernel
def endOfRegion : State := vecR { pc := 8191 } (sWord 0x30 1 0 0 5)
theorem test_region_end : VInstr.ofNat ((endOfRegion.core 0).kernelRegion.at 8191).toNat = vIs (sWord 0x30 1 0 0 5) ∧
    (vIs (sWord 0x30 1 0 0 5)).ok = true ∧ ((run (.vSset 0) endOfRegion).core 0).vx.scalar 1 = 5 ∧
    ((run (.vSset 0) endOfRegion).core 0).vx.lastFail = Cause.planReject := by decide +kernel

/-! ## Reduction unit (07_vector R253 to R256): one tile of one element, FP32 -/

def redWord (op incr : Nat) : Nat :=
  word [(0, op), (32, 0), (36, if op = 1 then 10 else 0), (26, 2), (48, incr), (64, 2), (80, 5), (97, 0x100), (135, 0x800), (173, 0x900),
    (192, 1), (205, 16), (224, 1), (240, 16)]
def redSt (op incr : Nat) : State := (live 0 (word [(0, 3), (128, 0x2000)]) base).poke 0x2000 (leBytes 32 (redWord op incr))
theorem test_reduce : ∀ p ∈ ([(.tree 0 0, 1), (.sum 0 0, 2), (.rows 0 0, 3), (.tapread 0 0, 4)] : List (Instr × Nat)),
    isReady (redSt p.2 1) 0 0 (redSt p.2 1) (head (redSt p.2 1) 0) = true ∧ (head (redSt p.2 1) 0).kind = 3 ∧
    (redSt p.2 1).readOwn 0 (head (redSt p.2 1) 0).addr 32 1 = (redSt p.2 1, .ok (leBytes 32 (redWord p.2 1))) ∧
    (((redSt p.2 1).goNext 0 0).core 0).reduceOk (RDesc.ofNat (redWord p.2 1)) = true ∧
    (((redSt p.2 0).goNext 0 0).core 0).reduceOk (RDesc.ofNat (redWord p.2 0)) = false ∧
    (((run p.1 (redSt p.2 1)).core 0).counters.at 2).value = 1 ∧ ((run p.1 (redSt p.2 0)).core 0).rd.lastFail = Cause.planReject := by
  decide +kernel

/-! ## Expert transfers (08_experts R268 to R282) -/

/-- Two tokens that both name expert 0, which admits one. -/
def scanBlock (replay : Bool) : DBlock := { DBlock.ofNat 0 with tokens := 2, k := 1, experts := 1, cap := 1, replay := replay }
def scanRow (st : Nat) : REntry := { gate := 0, state := st, rank := 0, reserved := 0, expert := 0 }
theorem test_scan : [scanRow 0, scanRow 0].length = (scanBlock false).tokens * (scanBlock false).k ∧
    (∀ x ∈ [scanRow 0, scanRow 0], x.expert < (scanBlock false).experts) ∧
    ((scanBlock false).scan [scanRow 0, scanRow 0]).1.toList.map (·.state) = [1, 2] ∧
    ((scanBlock true).scan [scanRow 2, scanRow 1]).2.getD 0 [] = [1] := by decide +kernel
def expWord (op : Nat) : Nat := word [(0, op), (8, 1), (16, 1), (32, 1), (36, 1), (234, 0xC0)]
/-- A block of one token, one expert and one source; rows of one BF16 block. -/
def blockD (k : Nat) : Nat :=
  word [(217, 0x200), (198, 0x210), (179, 0x220), (160, 0x230), (141, 1), (128, 1), (112, 1), (64, 1), (48, 1), (24, 1), (16, 1), (0, k)]
def dispSt (k : Nat) : State :=
  (((xferSt (expWord 0x20)).poke 0x3000 (leBytes 64 (blockD k))).poke 0x8400 (leBytes 8 (word [(28, 0x400), (22, 9)]))).poke 0x8C00
    [0x80, 0x3F]
theorem test_dispatch : xferReads (dispSt 1) (expWord 0x20) = true ∧ xferReads (dispSt 9) (expWord 0x20) = true ∧
    (let b := DBlock.ofNat (blockD 1)
     (XDesc.ofNat (expWord 0x20)).expertOk && b.fieldsOk && b.formatOk (dispSt 1) 0 (XDesc.ofNat (expWord 0x20)) && b.regionsOk (XDesc.ofNat (expWord 0x20))) = true ∧
    ([Home.ofNat (word [(28, 0x400), (22, 9)])].all ((DBlock.ofNat (blockD 1)).homeOk (dispSt 1)) && (DBlock.ofNat (blockD 1)).routeOk [REntry.ofNat 0]) = true ∧
    (DBlock.ofNat (blockD 9)).fieldsOk = false ∧ ((run (.dispatch 0 0) (dispSt 9)).core 0).rt.lastFail = Cause.planReject ∧
    ((run (.dispatch 0 0) (dispSt 1)).core 0).rt.admitted = 1 ∧ (((run (.dispatch 0 0) (dispSt 1)).core 0).counters.at 9).value = 1 ∧
    ((run (.dispatch 0 0) (dispSt 1)).core 0).xf.open_.map (·.outstanding) = [[]] := by decide +kernel
def blockC (cap : Nat) : Nat := word [(134, 0x200), (115, 0x210), (96, 0x220), (77, 1), (64, 1), (16, cap), (0, 1)]
def combSt (cap : Nat) : State :=
  ((xferSt (expWord 0x21)).poke 0x3000 (leBytes 64 (blockC cap))).poke 0x8000 (leBytes 8 (word [(16, 0x400), (10, 9)]))
theorem test_combine : xferReads (combSt 1) (expWord 0x21) = true ∧ (CBlock.ofNat (blockC 1)).ok (XDesc.ofNat (expWord 0x21)) 32 = true ∧
    (rowBlocks 1 (CBlock.ofNat (blockC 1)).rowBytes ((combSt 1).rowRate 0 (XDesc.ofNat (expWord 0x21)))).getD 0 = 1 ∧
    (CBlock.ofNat (blockC 0)).ok (XDesc.ofNat (expWord 0x21)) 32 = false ∧ retOk (combSt 1) (word [(16, 0x400), (10, 9)]) = true ∧
    (CBlock.ofNat (blockC 1)).headerOk 0 = true ∧ ((run (.combine 0 0) (combSt 0)).core 0).rt.lastFail = Cause.planReject ∧
    (((run (.combine 0 0) (combSt 1)).core 0).counters.at 9).value = 1 := by decide +kernel
def sentSt : State := run (.dispatch 0 0) (dispSt 1)
theorem test_expert_done : ((sentSt.core 0).xf.open_.map (fun x => (x.id, x.kind, x.outstanding))) = [(0, .dispatch, [])] ∧
    (((run (.dispatchDone 0 0) sentSt).core 0).counters.at 1).value = 1 ∧ run (.combineDone 0 0) sentSt = sentSt ∧
    (((run (.combineDone 0 0) (run (.combine 0 0) (combSt 1))).core 0).counters.at 1).value = 1 := by decide +kernel

/-! ## The gate (09_training R308 to R319) -/

/-- Core 0 contributes one set; two cores where `two`. -/
def gateImg (two : Bool) (i : Image) : Image :=
  { i with cores := [{ core := 0, gateRing := 0x10000, gateFirst := some 0, gateCtr := 1, selectorCtr := 2 }] ++
                    (if two then [{ core := 16, gateFirst := some 0, gateCtr := 1, selectorCtr := 2 }] else [])
           layers := [{ layer := 3, tapSets := [0], format := 1, limit := 0x3F800000 }] }
def gateSt (two : Bool) : State :=
  { withImg (gateImg two) base with gate := { State.reset.gate with landed := [(0, 1)] } }
theorem test_gate_contribution : (gateSt true).gateRegion 0 = some (0x1000000, 64) ∧ (gateSt true).gate.taken.at 0 < (gateSt true).gate.landed.at 0 ∧
    (gateSt true).serialOk 0 = true ∧ (gateSt true).readMem (hsAddr 0x1000000) 64 = (gateSt true, .ok (zeros 64)) ∧
    16 ∈ (gateSt true).contributors ∧ (gateSt false).contributors = [0] ∧ (∀ a < 4, (gateSt false).axis a = 1) ∧
    (run (.gateContribution 0) (gateSt true)).gate.taken.at 0 = 1 ∧ (run (.gateContribution 0) (gateSt true)).gate.step = 0 ∧
    (run (.gateContribution 0) (gateSt false)).gate.step = 1 ∧ (((run (.gateContribution 0) (gateSt false)).core 0).counters.at 1).value = 1 := by
  decide +kernel
def ringSt : State := withImg (fun i => { i with axes := [1, 2, 1, 1] }) (gateSt true)
def peerTotals (n : Word64) : GateTotals := { step := n, layers := [] }
theorem test_gate_totals : ringSt.gate.step ≤ (peerTotals 0).step.toNat ∧ 1 < ringSt.axis 1 ∧ ringSt.coord ringSt.img.node 1 ≠ 1 ∧
    (run (.gateTotalsMessage 1 1 (peerTotals 0)) ringSt).gate.held.length = 1 ∧
    (peerTotals 0).step.toNat < (run (.gateContribution 0) (gateSt false)).gate.step := by decide +kernel
def siteOf (g : W36) : List LayerTotals := [{ layer := 3, gradient := g, vanished := 0, weight := 0, update := 0 }]
/-- +1.0 as W36, and +infinity. -/
theorem test_gate_decision : (w36 0x3FF000000).isFinite = true ∧ (w36 0x7FE000000).isFinite = false ∧
    (gateSt false).gateDecision 0 (siteOf 0x7FE000000) = { code := 1, cause := Cause.nonfiniteUpdate, first := 3 } ∧
    aboveLimit (w36 (totalsOf (siteOf 0x3FF000000) 3).gradient) ((gateSt false).lossScale 0) 0x3F800000 = false ∧
    aboveLimit (gradientSum (siteOf 0x3FF000000)) ((gateSt false).lossScale 0) (gateSt false).img.globalLimit = false ∧
    (gateSt false).gateDecision 0 (siteOf 0x3FF000000) = { code := 0, cause := 0, first := 0xFFFF } := by decide +kernel
theorem test_selector : (gateSt false).selectorReady 0 = true ∧ (gateSt false).selectorReady 16 = false ∧
    (((run (.selectorAdvance 0) (gateSt false)).core 0).counters.at 2).value = 1 ∧
    (run (.selectorAdvance 0) (run (.selectorAdvance 0) (gateSt false))).gate.selector.at 0 = 1 := by decide +kernel
def lateGate : State := clock 11000000001 (run (.gateContribution 0) (gateSt true))
theorem test_gate_timeout : lateGate.gate.firstAt = some 1000000000 ∧ 1000000000 + lateGate.img.gateWait < lateGate.now ∧
    (run .gateTimeout lateGate).gate.halted = true ∧ (((run .gateTimeout lateGate).core 16).counters.at 2).cause = Cause.timeout := by decide +kernel

/-! ## Update segments and commits (10_parameter R325 to R359): one shard of 64 elements, one segment -/

def shard0 : ShardCfg :=
  { tid := 1, pool := false, nslot := 2, moments := 0, momBf16 := false, omFmt := 0, rank := 1, dims := [64], boxStart := [0], boxExt := [64]
    slotBase := [nearAddr 0, nearAddr 0x1000], anchorBase := nearAddr 0x8000, omBase := nearAddr 0x9000, commitBase := nearAddr 0x2000
    parkBase := nearAddr 0x3000, windowBase := nearAddr 0x4000, segCount := 1, deferMax := 0, replicaSet := 1 }
def updWord : Nat :=
  word [(0, 1), (8, 1), (16, 1), (24, 5), (32, 1), (104, 64), (136, 0x1000), (193, 0x800), (212, 0x900)]
def seg0 (ph : SegPhase) (step : Nat) : Segment := { desc := BitVec.ofNat 256 updWord, step := step, phase := ph, since := 1000000000 }
/-- The segment at the front of the unit; the gate record of its step holds decision `dec`. -/
def segOf (c : ShardCfg) (ph : SegPhase) (step dec : Nat) : State :=
  ((withImg (fun i => { i with shards := [c], cores := [{ core := 0, stepList := 0x1000, gateRing := 0x10000 }] })
    { base with commit := { State.reset.commit with shards := [(0, { hasState := true })] } }).modCore 0 (fun x =>
      { x with up := { x.up with segs := [seg0 ph step] } })).poke (0x10000 + step * 64) (leBytes 9 (step + dec <<< 64))
def segSt (ph : SegPhase) (step dec : Nat) : State := segOf shard0 ph step dec
/-- An UPDATE entry at the head of queue 0. -/
def updateSt : State := (live 0 (word [(0, 5), (128, 0x2000)]) (segSt .waitPrev 0 0)).poke 0x2000 (leBytes 32 updWord)
def waitsOn (s : State) (g : Segment) : Bool :=
  ((s.segBegin 0 g).headSeg 0).any (fun h => h.phase == .waitPrev && h.entry == g.entry && h.step == g.step)

theorem test_segment_queues : Safety.Ready updateSt 0 0 updateSt (head updateSt 0) ∧ (head updateSt 0).kind = 5 ∧
    updateSt.readOwn 0 (head updateSt 0).addr 32 1 = (updateSt, .ok (leBytes 32 updWord)) ∧ (updateSt.core 0).up.segs = [seg0 .waitPrev 0] ∧
    ((run (.innerSegment 0 0) updateSt).core 0).up.segs.map (·.phase) = [.waitPrev, .queued] :=
  ⟨ready_of_check (by decide +kernel), by decide +kernel, by decide +kernel, by decide +kernel, by decide +kernel⟩
theorem test_previous_step : (segSt .waitPrev 0 0).headSeg 0 = some (seg0 .waitPrev 0) ∧ (segSt .waitPrev 0 0).dieRunning 0 = true ∧
    waitsOn (segSt .waitPrev 0 0) (seg0 .waitPrev 0) = false ∧ waitsOn (segSt .waitPrev 1 0) (seg0 .waitPrev 1) = true ∧
    ((run (.previousStepResume 0) (segSt .waitPrev 0 0)).headSeg 0).map (·.phase) = some .kernel ∧
    run (.previousStepResume 0) (segSt .waitPrev 1 0) = segSt .waitPrev 1 0 := by decide +kernel
theorem test_segment_checks : (segSt .waitPrev 0 0).shardCfg (seg0 .waitPrev 0).udesc.shard = some shard0 ∧ (seg0 .waitPrev 0).udesc.op = 1 ∧
    (segSt .waitPrev 1 0).segmentOk 0 (seg0 .waitPrev 1).udesc shard0 = true ∧ (segSt .waitPrev 1 0).nextStep 0 = 0 ∧
    (segSt .waitPrev 1 0).readMem (sramAddr 0 (0x10000 + 1 % 4 * 64)) 64 = (segSt .waitPrev 1 0, .ok (leBytes 64 1)) := by decide +kernel
theorem test_segment_skips : (segSt .waitPrev 1 1).readMem (sramAddr 0 (0x10000 + 64)) 64 = (segSt .waitPrev 1 1, .ok (leBytes 64 (1 + 1 <<< 64))) ∧
    (((segSt .waitPrev 1 1).shardSt 0).skipReports.upd 1 (· + 1)).at ((segSt .waitPrev 1 1).nextStep 0) < shard0.segCount ∧
    ((run (.previousStepResume 0) (segSt .waitPrev 1 1)).core 0).up.segs = [] ∧
    (((run (.previousStepResume 0) (segSt .waitPrev 1 1)).core 0).counters.at 5).value = 1 := by decide +kernel
/-- The target slot is held. -/
def heldSlot (ph : SegPhase) : State :=
  (segSt ph 0 0).modShard 0 (fun x => { x with target := some (1, 0), holds := [{ slot := 1, holder := 2, mark := 63 }] })
theorem test_slot_wait : (segSt .waitSlot 0 0).chunkReleased (seg0 .waitSlot 0) shard0 = true ∧
    (heldSlot .waitSlot).chunkReleased (seg0 .waitSlot 0) shard0 = false ∧
    run (.slotReleaseResume 0) (heldSlot .waitSlot) = heldSlot .waitSlot ∧
    1000000000 + (heldSlot .waitSlot).waitLimit 0 0 < (clock 31000000001 (heldSlot .waitSlot)).now ∧
    ((run (.slotReleaseResume 0) (clock 31000000001 (heldSlot .waitSlot))).headSeg 0).map (·.phase) = some (.failed Cause.timeout) ∧
    ((run (.slotReleaseResume 0) (segSt .waitSlot 0 0)).core 0).up.segs = [] := by decide +kernel
def poolShard : ShardCfg := { shard0 with pool := true, slotBase := [poolAddr 0, poolAddr 0x1000] }
def stageWait (st : Bool) : State := (segOf poolShard .waitStage 0 0).modShard 0 (fun x => { x with staged := st })
theorem test_stage_wait : (stageWait true).headSeg 0 = some (seg0 .waitStage 0) ∧ ((stageWait true).shardSt 0).staged = true ∧
    run (.stagedResume 0) (stageWait false) = stageWait false ∧ run (.deferralLimit 0) (stageWait false) = stageWait false ∧
    1000000000 + (stageWait false).img.deferWait < (clock 11000000001 (stageWait false)).now ∧
    ((run (.deferralLimit 0) (clock 11000000001 (stageWait false))).headSeg 0).map (·.phase) = some (.failed Cause.deferralLimit) ∧
    ((run (.stagedResume 0) (stageWait true)).headSeg 0).map (·.phase) = some .kernel := by decide +kernel
def kernelEnd (c : Cause) (s : State) : State := s.modCore 0 (fun x => { x with vx := { x.vx with segEnd := some c } })
theorem test_chunk_writeback : ((kernelEnd 0 (segSt .kernel 0 0)).headSeg 0) = some (seg0 .kernel 0) ∧
    ((kernelEnd 0 (segSt .kernel 0 0)).core 0).vx.segEnd = some 0 ∧
    (segSt .kernel 0 0).chunkReleased (seg0 .kernel 0) shard0 = true ∧ (heldSlot .kernel).chunkReleased (seg0 .kernel 0) shard0 = false ∧
    ((run (.chunkWriteback 0) (kernelEnd 0 (heldSlot .kernel))).headSeg 0).map (·.phase) = some .waitSlot ∧
    ((run (.chunkWriteback 0) (kernelEnd 5 (heldSlot .kernel))).headSeg 0).map (·.phase) = some (.failed 5) ∧
    ((run (.chunkWriteback 0) (kernelEnd 0 (segSt .kernel 0 0))).shardSt 0).reports = 1 := by decide +kernel
def failedSeg : State := segSt (.failed Cause.nonfiniteUpdate) 0 0
theorem test_segment_fails : (failedSeg.core 0).up.segs = [seg0 (.failed Cause.nonfiniteUpdate) 0] ∧ retriable Cause.nonfiniteUpdate = false ∧
    ((run (.segmentFailReport 0) failedSeg).shardSt 0).uncommitted = true ∧ ((run (.segmentFailReport 0) failedSeg).queue 0 7).halted = true := by
  decide +kernel

def reported (outer : Bool) : State :=
  (segSt .queued 0 0).modShard 0 (fun x => { x with reports := if outer then 0 else 1, outerReports := if outer then 1 else 0, target := some (1, 4) })
theorem test_commit : (reported false).commitReady 0 shard0 = true ∧ (reported true).commitReady 0 shard0 = false ∧
    ((reported true).shardSt 0).outerReports = shard0.segCount ∧ ((reported false).shardSt 0).target = some (1, 4) ∧
    ((reported false).writeMem (shard0.commitBase + 64) (⟨1, 1, 4, 1, 1, 1⟩ : CommitRec).bytes).2 = 0 ∧
    ((run (.shardCommit 0) (reported false)).shardSt 0).step = 4 ∧ ((run (.shardCommit 0) (reported true)).shardSt 0).version = 1 ∧
    ((run (.shardCommit 0) (reported true)).shardSt 0).count = 0 ∧ run (.shardCommit 0) (segSt .queued 0 0) = segSt .queued 0 0 := by decide +kernel
/-- Three members; this module is node 0. -/
def digestSt (held : List (Nat × Word64)) : State :=
  (withImg (fun i => { i with axes := [3, 1, 1, 1], digestInterval := 1, replicaCoord := [(1, 0), (1, 1), (1, 2)] }) (segSt .queued 0 0)).modCommit
    (fun u => { u with digests := [(0, 0, held)] })
theorem test_digests : ((digestSt []).replicas shard0.replicaSet).contains 9 = false ∧ (1 ∈ (digestSt []).replicas shard0.replicaSet) ∧
    (∃ m ∈ (digestSt []).replicas 1, m ≠ 1 ∧ ∀ e ∈ ([(0, 7)] : List (Nat × Word64)), e.1 ≠ m) ∧
    (∀ m ∈ (digestSt []).replicas 1, m = 1 ∨ ∃ e ∈ ([(0, 7), (2, 8)] : List (Nat × Word64)), e.1 = m) ∧
    majority ([(0, 7), (2, 8)] ++ [(1, 8)]) = some (1, 8) := by decide +kernel
theorem test_diverged : ((run (.digestExchange 0 1 8) (digestSt [(0, 7), (2, 8)])).shardSt 0).diverged = true ∧
    ((run (.digestExchange 0 1 7) (digestSt [(0, 7), (2, 8)])).shardSt 0).diverged = false ∧
    (run (.digestExchange 0 1 7) (digestSt [(0, 7)])).commit.digests = [(0, 0, [(0, 7), (1, 7)])] ∧
    run (.digestExchange 0 9 7) (digestSt [(0, 7)]) = digestSt [(0, 7)] := by decide +kernel

/-! ## Transfers and the tiers (11_memory) -/

def copyWord (dctr : Nat) : Nat := word [(0, 1), (8, 3), (16, 2), (43, dctr), (48, 0xFFFF), (64, 0x4000), (120, 0x8000), (176, 1), (216, 9)]
def copySt (dctr : Nat) : State := (xferSt (copyWord dctr)).poke 0x4000 [1, 2, 3]
theorem test_copy : Memory.wf (copySt 1).mem ∧ xferReads (copySt 0) (copyWord 0) = true ∧
    xferReads (copySt 1) (copyWord 1) = true ∧ ((copySt 1).goNext 0 0).copyOk 0 (XDesc.ofNat (copyWord 1)) = true ∧
    ((copySt 0).goNext 0 0).copyOk 0 (XDesc.ofNat (copyWord 0)) = true ∧ (copySt 0).destResetting 0x4000 = false ∧
    (XDesc.ofNat (copyWord 1)).node = 0xFFFF ∧ (0, 3) ≠ (addrCore 0x8000, 9) ∧ (run (.copy 0 0) (copySt 1)).peekNat 0x8000 3 = 0x030201 ∧
    (((run (.copy 0 0) (copySt 1)).core 0).counters.at 9).value = 2 ∧ (((run (.copy 0 0) (copySt 1)).core 0).counters.at 3).value = 2 := by
  decide +kernel

def poolImg (i : Image) : Image := { i with shards := [poolShard], pool := [{ base := 0, size := 1, hpa := 0, host := true }] }
def poolWord (op shard : Nat) : Nat := word [(0, op), (8, 3), (16, 2), (48, 0xFFFF), (222, shard)]
def poolSt (op shard : Nat) : State :=
  { withImg poolImg (xferSt (poolWord op shard)) with
    commit := { State.reset.commit with shards := [(0, { hasState := true, target := some (1, 0), parkReports := 0, reports := 1 })] }
    tiers := { State.reset.tiers with poolValid := 1 } }
theorem test_stage : xferReads (poolSt 2 0) (poolWord 2 0) = true ∧ (poolSt 2 0).shardCfg 0 = some poolShard ∧
    (XDesc.ofNat (poolWord 2 0)).shardOpOk (poolSt 2 0) = true ∧ ((poolSt 2 0).shardSt 0).canHold ((poolSt 2 0).shardSt 0).slot = true ∧
    (poolSt 2 0).poolBlocked (poolShard.slotAddr 0) poolShard.slotSize = false ∧
    ((run (.stage 0 0) (poolSt 2 0)).core 0).xf.open_.map (·.outstanding.length) = [3] ∧
    xferReads (poolSt 2 1) (poolWord 2 1) = true ∧ (poolSt 2 1).shardCfg 1 = none ∧ ((poolSt 2 1).shardSt 1).canHold 0 = true ∧
    ((run (.stage 0 0) (poolSt 2 1)).core 0).xf.lastFail = Cause.planReject := by decide +kernel
theorem test_writeback : xferReads (poolSt 3 0) (poolWord 3 0) = true ∧ (XDesc.ofNat (poolWord 3 0)).shardOpOk (poolSt 3 0) = true ∧
    ((poolSt 3 0).shardSt 0).writebackSlot poolShard = some 1 ∧ (poolSt 3 0).poolBlocked (poolShard.slotAddr 1) poolShard.slotSize = false ∧
    ((run (.writeback 0 0) (poolSt 3 0)).core 0).xf.open_.map (·.writing) = [true] := by decide +kernel
/-- The STAGE's item waits for its three lines under tag 0. -/
def poolOpen : State := run (.stage 0 0) (poolSt 2 0)
theorem test_pool_requests : (poolOpen.poolItem 0).map (·.1) = some 0 ∧ poolOpen.poolItem 99 = none ∧
    ((poolOpen.core 0).xf.open_.map (·.outstanding)) = [[poolAddr 0, poolAddr 64, poolAddr 128]] ∧
    ((run (.poolCompletion 0 (poolAddr 0) .success (zeros 64)) poolOpen).core 0).xf.open_.map (·.outstanding) = [[poolAddr 64, poolAddr 128]] ∧
    ((run (.poolCompletion 0 (poolAddr 0) .poisoned []) poolOpen).core 0).xf.lastFail = Cause.memUncorrectable ∧
    poolOpen.poolEntry (addrOff (poolAddr 0)) = some 0 ∧ (run (.poolCompletion 0 (poolAddr 0) .unsupported []) poolOpen).tiers.poolUnbound = 1 ∧
    run (.poolTimeout 0) poolOpen = poolOpen ∧ ((run (.poolTimeout 0) (clock 1050000001 poolOpen)).core 0).xf.lastFail = Cause.timeout := by decide +kernel

def wordErr (e : WordErr) : State := { base with tiers := { State.reset.tiers with wordErrs := [(1, e)] } }
theorem test_sram_scrub : (wordErr .single).tiers.wordErrs.at (31 / 16) = .single ∧ ((run (.sramScrub 31) (wordErr .single)).core 0).sramCe = 1 ∧
    ((run (.sramScrub 31) (wordErr .double)).core 0).sramUe = 1 ∧ run (.sramScrub 15) (wordErr .single) = wordErr .single := by decide +kernel
def lineErr : State := { base with tiers := { State.reset.tiers with lineErrs := [(nearAddr 64 / 64, [(3, 0x10)])], channels := [(5, { state := 2 })] } }
theorem test_patrol : lineErr.channelFailed (64 * (nearAddr 64 / 64)) 64 = false ∧ (lineDecode [(3, 0x10)]).isSome = true ∧
    (run (.patrolScrub (nearAddr 127)) lineErr).tiers.lineErrs.at (nearAddr 64 / 64) = [] ∧
    (run (.patrolScrub (nearAddr 0)) lineErr).tiers.lineErrs.length = 1 ∧ (lineErr.tiers.channels.at 5).state = 2 ∧
    ((run (.channelRetrain 5 true) lineErr).tiers.channels.at 5).state = 1 ∧ ((run (.channelRetrain 5 false) lineErr).tiers.channels.at 5).state = 3 ∧
    ((run (.dramTemperatureReport 95 false) lineErr).tiers.channels.at 95).hot = true := by decide +kernel

/-! ## Torus ports (12_torus R401 to R420) -/

def portSt (x : Port) : State := { base with torus := { State.reset.torus with ports := [(7, x)] } }
def upPort : Port := { state := 6, width := 16, good := 0x1FFFF, lastFrameAt := 1000000000, lastRetest := 0 }
/-- A site of two modules along W, whose job is 5. -/
def siteSt (x : Port) : State := withImg (fun i => { i with job := 5, site := 2, axes := [2, 1, 1, 1] }) (portSt x)
/-- R402: a lane with at most 171 798 errors in 2^33 bits passes. -/
def lanesPass (bad : Nat) : List LaneTest := List.replicate bad { bits := 2 ^ 33, errors := 171799 } ++ List.replicate (17 - bad) { bits := 2 ^ 33, errors := 171798 }
theorem test_lane_pass : passMask (lanesPass 1) = 0x1FFFE ∧ passMask [{ bits := 2 ^ 33 - 1, errors := 0 }] = 0 := by decide +kernel
theorem test_training : ((portSt { state := 1 }).port 7).retryAt ≤ (portSt { state := 1 }).now ∧ (lanesOf 0xFF).length = 8 ∧
    ((run (.detect 7 0xFF) (portSt { state := 1 })).port 7).state = 2 ∧ ((run (.equalize 7 true) (portSt { state := 2 })).port 7).state = 3 ∧
    (lanesOf ((portSt { state := 3 }).fusedLanes 7 (passMask (lanesPass 0) &&& 0x1FE00))).length = 8 ∧
    ((run (.laneMap 7 (lanesPass 0) 0x1FE00) (portSt { state := 3 })).port 7).width = 8 ∧ ((run (.align 7 true) (portSt { state := 4 })).port 7).state = 5 ∧
    ((run (.equalize 7 false) (portSt { state := 2 })).port 7).retryAt = 1100000000 ∧
    ((run (.laneMap 7 [] 0x1FFFF) (portSt { state := 3 })).port 7).failing = true ∧
    ((run (.detect 7 0xFF) (portSt { state := 2, failing := true, retryAt := 1000000000 })).port 7).state = 2 ∧
    ((run (.align 7 false) (portSt { state := 4 })).port 7).failing = true ∧
    (run (.align 7 true) (portSt { state := 4 })).torus.sentMessages = [(7, .identity ((portSt {}).identity 7))] := by decide +kernel
def goodId (node : Nat) : PortIdentity := { site := 2, job := 5, node := node, port := 6, feed := 0, serial := 1 }
def exSt : State := siteSt { state := 5, ownSent := true }
theorem test_exchange : (siteSt { state := 5 }).configured = true ∧ (goodId 0).node = exSt.neighbour 0 7 ∧
    ((run (.exchange 7 (goodId 0)) exSt).port 7).state = 6 ∧ ((run (.exchange 7 (goodId 1)) exSt).port 7).state = 7 ∧
    ((run (.exchange 7 { goodId 0 with job := 0 }) exSt).port 7).state = 5 ∧ ((run (.exchange 7 (goodId 0)) (siteSt { state := 5 })).port 7).state = 5 ∧
    ((siteSt { state := 5 }).port 7).nbrId = none ∧ ((siteSt { state := 5, idSentAt := 999900000 }).port 7).idSentAt + 100000 ≤ (siteSt {}).now ∧
    (run (.identitySend 7) (siteSt { state := 5, idSentAt := 999900000 })).torus.sentMessages.length = 1 ∧
    (run (.identitySend 7) (siteSt { state := 5, idSentAt := 999900001 })).torus.sentMessages.length = 0 ∧
    ((run (.attemptTimeout 7) (clock 1001000001 (siteSt { state := 5, bothAt := some 1000000000 }))).port 7).failing = true ∧
    ((run (.attemptTimeout 7) (clock 1001000000 (siteSt { state := 5, bothAt := some 1000000000 }))).port 7).failing = false := by decide +kernel
theorem test_port_falls : max 0 0 + attemptBound 2 < (clock 200000001 (portSt { state := 2 })).now ∧
    ((run (.attemptTimeout 7) (clock 200000001 (portSt { state := 2 }))).port 7).downReason = 5 ∧
    ((run (.attemptTimeout 7) (clock 200000000 (portSt { state := 2 }))).port 7).state = 2 ∧
    ((run (.configuredWaitLimit 7) (clock 600000000000 (portSt { state := 5, nbrId := some { goodId 0 with job := 0 } }))).port 7).state = 1 ∧
    ((run (.miscabledRetry 7) (portSt { state := 7 })).port 7).state = 1 ∧
    ((run (.noValidFrame 7) (clock 1000001001 (portSt upPort))).port 7).downs = 1 ∧
    ((run (.noValidFrame 7) (clock 1000001000 (portSt upPort))).port 7).downs = 0 ∧
    ((run (.laneSwitchTimeout 7) (clock 1000010001 (portSt { upPort with switching := true, since := 1000000000 }))).port 7).state = 1 ∧
    ((run (.inServiceRetrain 7 false) (portSt { upPort with retraining := true })).port 7).state = 1 ∧
    ((run (.inServiceRetrain 7 true) (clock 1050000000 (portSt { upPort with retraining := true, since := 1000000000 }))).port 7).retraining = false := by
  decide +kernel
theorem test_lanes : bitOf upPort.good 16 = true ∧ 1 < 1 * 10000 ∧ (lanesOf (upPort.good - 2 ^ 16)).length = 16 ∧
    ((run (.laneErrorLimit 7 16 1 9999) (portSt upPort)).port 7).switch.map (·.1) = some 0xFFFF ∧
    ((run (.laneErrorLimit 7 16 1 10000) (portSt upPort)).port 7).switch = none ∧
    (lanesOf ((0xFFFF : Nat) ||| (portSt upPort).fusedLanes 7 (passMask (lanesPass 0) &&& 0x1FFFF))).length = 17 ∧
    ((run (.laneRetest 7 ⟨lanesPass 0, 0x1FFFF⟩) (clock 10000000000 (portSt { upPort with good := 0xFFFF }))).port 7).switch.map (·.1) = some 0x1FFFF ∧
    ((run (.lanePropose 7 0xFF 9) (portSt upPort)).port 7).switch = some (0xFF, 9, false) ∧
    ((run (.laneAccept 7 0xFF 9) (portSt { upPort with switch := some (0xFF, 9, false) })).port 7).switch = some (0xFF, 9, true) ∧
    ({ upPort with waiting := [{ kind := 7 }], txSeq := 8 } : Port).atSwitch 9 = false ∧
    run (.laneSwitch 7) (portSt { upPort with switch := some (0xFF, 9, true), waiting := [{ kind := 7 }], txSeq := 8 }) =
      portSt { upPort with switch := some (0xFF, 9, true), waiting := [{ kind := 7 }], txSeq := 8 } ∧
    ((run (.laneSwitch 7) (portSt { upPort with switch := some (0xFF, 9, true), waiting := [{ kind := 7 }], txSeq := 9 })).port 7).width = 8 := by
  decide +kernel
/-- A frame of SEQ n with a payload; its CRC is not computed here. -/
def frameBody (n : Nat) : List Byte := 1 :: zeros 1215 ++ leBytes 60 n
def frameBytes (n : Nat) : List Byte := frameBody n ++ leBytes 4 (crc32 (frameBody n)).toNat
theorem frameBody_length (n : Nat) : (frameBody n).length = 1276 := by
  unfold frameBody zeros
  rw [List.length_append, List.length_cons, List.length_replicate]
  rfl
theorem test_frame_crc (n : Nat) : (frameBytes n).length = 1280 ∧ leNat ((frameBytes n).drop 1276) = (crc32 ((frameBytes n).take 1276)).toNat := by
  have h := frameBody_length n
  have ht : (frameBytes n).take 1276 = frameBody n := by rw [frameBytes, ← h, List.take_left]
  have hd : (frameBytes n).drop 1276 = leBytes 4 (crc32 (frameBody n)).toNat := by rw [frameBytes, ← h, List.drop_left]
  refine ⟨by rw [frameBytes, List.length_append, h]; rfl, ?_⟩
  rw [ht, hd]
  have hl := (crc32 (frameBody n)).isLt
  generalize (crc32 (frameBody n)).toNat = x at hl
  simp only [leBytes, leNat, BitVec.toNat_ofNat]
  omega
set_option maxRecDepth 20000 in
theorem test_frames : ((frameBody 0).take 1216).all (· == 0) = false ∧ bitsOf (leNat ((frameBody 0).drop 1216)) 0 16 = 0 ∧
    (0 : Nat) = (upPort.rxSeq + 1) % 65536 ∧ (5 : Nat) ≠ (upPort.rxSeq + 1) % 65536 ∧ seqLe 5 upPort.rxSeq = false ∧ seqLe 0xFFFE upPort.rxSeq = true ∧
    (fecReceive (fecArrive 0 [] [])).frame.isSome = true ∧ ((run (.frame 7 0 [] []) (portSt upPort)).port 7).nak = true := by decide +kernel
/-- The neighbour's frame 0 with three wrong symbols. -/
def wrong3 : List Nat := [0, 77, 0, 1023, 9] ++ List.replicate 1083 0
def goodBlock : List Nat := fecArrive 0 (frameBytes 0) wrong3
set_option maxRecDepth 40000 in
theorem test_good_frame : (fecReceive goodBlock).frame = some (leNat (frameBytes 0)) ∧ (fecReceive goodBlock).lost = 0 := by decide +kernel
theorem test_tc0_window : ((run (.tc0Window 7 80121) (portSt upPort)).port 7).tc0Over = 1 ∧ run (.tc0Window 7 80120) (portSt upPort) = portSt upPort := by
  decide +kernel

/-! ## Packets and transfers (R424 to R440) -/

def writePkt (addr : Nat) : Packet :=
  { kind := 1, units := 1, pad := 28, dstAddr := addr, total := 4, dctrEn := true, dctr := 9, increment := 2, src := 1, tc := 1, payload := [1, 2, 3, 4] }
def inboxSt (p : Packet) : State := siteSt { upPort with inbox := [p] }
theorem test_write_arrives : firstOf 1 [] ((inboxSt (writePkt 0x8000)).port 7).inbox = some (writePkt 0x8000) ∧
    (inboxSt (writePkt 0x8000)).entryRoom (portEdge 7) (writePkt 0x8000) = true ∧ (inboxSt (writePkt 0x8000)).torus.rxEpoch.at 1 = 0 ∧
    (inboxSt (writePkt 0x8000)).destOk 0x8000 0 4 = true ∧ sramAddr (addrCore 0x8000) (sramOff 0x8000) = 0x8000 ∧
    (inboxSt (writePkt (2 ^ 25))).destOk (2 ^ 25) 0 4 = false ∧ addrSpace (2 ^ 25) = 0 ∧ (writePkt 0x8000).data.length = 4 ∧
    (run (.write 7) (inboxSt (writePkt 0x8000))).peekNat 0x8000 4 = 0x04030201 ∧
    (((run (.write 7) (inboxSt (writePkt 0x8000))).core 0).counters.at 9).value = 2 ∧
    (run (.write 7) (inboxSt (writePkt (2 ^ 25)))).mem = base.mem := by decide +kernel
def openInSt : State := { base with torus := { State.reset.torus with openIn := [{ edge := 1, src := 2, tag := 3, lastAt := 899999999 }, { src := 4 }] } }
theorem test_open_transfer_timeout : openInSt.torus.openIn.find? (fun o => o.edge == 1 && o.src == 2 && o.tag == 3) =
      some { edge := 1, src := 2, tag := 3, lastAt := 899999999 } ∧ 899999999 + openInSt.img.fabricTimeout < openInSt.now ∧
    (run (.openTransferTimeout 1 2 3) openInSt).torus.openIn.map (·.src) = [4] := by decide +kernel
/-- A remote item of core 0 with one transfer, tag 5, to node 1. -/
def srcOf (ref : Option Nat) (tc : Nat) : Source := { tag := 5, core := 0, item := 0, dst := 1, tc := tc, sent := true, lastSent := 899999999, refusedAt := ref }
def answer (kind : Nat) (cause : Cause) : Packet := { kind := kind, src := 1, tag := 5, cause := cause }
def remote0 : Xfer := { id := 0, kind := .remote, outstanding := [5], counter := 6, increment := 7 }
def sourceSt (p : Packet) (ref : Option Nat) (tc : Nat) : State :=
  let s := (inboxSt p).modCore 0 (fun x => { x with xf := { x.xf with open_ := [remote0], nextId := 1 } })
  { s with torus := { s.torus with sources := [srcOf ref tc] } }
theorem test_completion : firstOf 2 [] ((sourceSt (answer 2 0) none 1).port 7).inbox = some (answer 2 0) ∧
    (sourceSt (answer 2 0) none 1).sourceOf 5 = some (srcOf none 1) ∧ (sourceSt (answer 2 0) none 1).findXfer 0 0 = some remote0 ∧
    (((run (.completion 7) (sourceSt (answer 2 0) none 1)).core 0).counters.at 6).value = 7 ∧
    ((run (.completion 7) (sourceSt (answer 2 9) none 1)).core 0).xf.lastFail = 9 := by decide +kernel
theorem test_refused : 0 < (sourceSt (answer 3 0) none 3).retryWindow 3 ∧ firstOf 3 [] ((sourceSt (answer 3 0) none 3).port 7).inbox = some (answer 3 0) ∧
    ((run (.refused 7) (sourceSt (answer 3 0) none 3)).sourceOf 5).map (·.refusedAt) = some (some 1000000000) ∧
    (let s := sourceSt (answer 2 0) (some 999900000) 3
     s.now < 999900000 + s.retryWindow 3 ∧ max 999900000 0 + 100000 ≤ s.now ∧ (s.torus.paths.at 1).state ≠ 3 ∧
     ((run (.refusedRetry 5) s).sourceOf 5).map (·.resentAt) = some 1000000000) ∧
    (let s := sourceSt (answer 2 0) (some 500000000) 3
     500000000 + s.retryWindow 3 ≤ s.now ∧ ((run (.retryWindowEnd 5) s).core 0).xf.lastFail = Cause.targetResetting) ∧
    (let s := sourceSt (answer 2 0) none 1
     899999999 + s.img.fabricTimeout < s.now ∧ ((run (.sourceTransferTimeout 5) s).core 0).xf.lastFail = Cause.timeout) := by decide +kernel
def pathSt (p : Packet) (aw : List (Nat × Nat)) : State :=
  let s := inboxSt p
  { s with torus := { s.torus with paths := [(1, { held := true, awaiting := aw, draining := [3, 4], heldAt := 999000000 })],
                                   openIn := [{ src := 1, epoch := 2 }, { src := 1, epoch := 3 }] } }
theorem test_epochs : firstOf 4 [] ((pathSt (answer 4 0) []).port 7).inbox = some (answer 4 0) ∧
    (run (.epochEnd 7) (pathSt (answer 4 0) [])).torus.rxEpoch.at 1 = 1 ∧ firstOf 5 [] ((pathSt (answer 5 1) [(0, 1)]).port 7).inbox = some (answer 5 1) ∧
    ((pathSt (answer 5 1) [(0, 1)]).torus.paths.at 1).awaiting.erase (0, 1) = [] ∧ ((pathSt (answer 5 1) [(0, 1), (0, 2)]).torus.paths.at 1).awaiting.erase (0, 1) ≠ [] ∧
    ((run (.epochAck 7) (pathSt (answer 5 1) [(0, 1)])).torus.paths.at 1).held = false ∧
    ((run (.epochAck 7) (pathSt (answer 5 1) [(0, 1), (0, 2)])).torus.paths.at 1).awaiting = [(0, 2)] ∧
    (run (.epochClose 7) (pathSt { answer 6 0 with epoch := 2 } [])).torus.openIn.map (·.epoch) = [3] ∧
    ((pathSt (answer 5 1) [(0, 1)]).torus.paths.at 1).heldAt + (pathSt (answer 5 1) [(0, 1)]).img.drainLimit ≤ (pathSt (answer 5 1) [(0, 1)]).now ∧
    (run (.drainLimit 1) (pathSt (answer 5 1) [(0, 1)])).torus.epochsLost = 2 := by decide +kernel
def seqSt : State := { siteSt upPort with torus := { (siteSt upPort).torus with linkSeq := [(1, 3, 8)] } }
theorem test_link_states : run (.linkState 7 0 3 false 9) seqSt = seqSt ∧ run (.linkState 7 1 3 false 8) seqSt = seqSt ∧
    (run (.linkState 7 1 3 false 9) seqSt).torus.linksDown = [(1, 3)] ∧ (run (.linkState 7 1 3 true 9) seqSt).torus.linksDown = [] ∧
    (1, 3, 9) ∈ (run (.linkState 7 1 3 false 9) seqSt).torus.linkSeq := by decide +kernel

/-! ## Freyn (13_freyn): sites 0 (this one) and 1, WAN port 0 UP, epoch 1 of site 1 known -/

def assoc0 : AssocCfg :=
  { assoc := 7, site := 0, members := 3, q := 1, h := 1, rate := 4, carried := 3, tableId := 7, cslot := 3, roundShards := [0], keyBits256 := false, mbps := 0
    offcutBase0 := nearAddr 0x100000, offcutBase1 := nearAddr 0x110000, sendBase := nearAddr 0x120000, recvBases := [(1, nearAddr 0x130000)]
    pendingBase := nearAddr 0x140000, journalBase := nearAddr 0x150000
    routes := [⟨1, false, 0, [1, 1, 1, 1], [2, 2, 2, 2], [2, 0, 0, 0, 0, 1], none⟩, ⟨1, true, 2, [1, 1, 1, 9], [2, 2, 2, 2], [2, 0, 0, 0, 0, 1], none⟩] }
def km0 : List Byte := List.replicate 16 1
def site1 : SiteSt := { rxEpoch := some 1 }
def frnOf (x : SiteSt) : State :=
  { withImg (fun i => { i with shards := [shard0], assoc := some assoc0, cores := [{ core := 0, gateRing := 0x10000 }] }) base with
    wan := [(0, { state := 2 }), (2, { state := 2 })], sites := [(1, x)], sec := { State.reset.sec with km := some { key := km0, assoc := 7 } }
    commit := { State.reset.commit with shards := [(0, { hasState := true })] } }
def frnSt : State := frnOf site1
def withRound (f : RoundUnit → RoundUnit) (s : State) : State := { s with round := f s.round }
def hdr (type : Nat) : FrnHeader :=
  { wanPort := 0, net := { source := [2, 2, 2, 2], dest := [1, 1, 1, 1], srcPort := 47710, destPort := 47710, sum := 0 }
    version := 1, type := type, resend := false, second := false, rekey := false, flagsReserved := 0, src := 1, dst := 0, keyEpoch := 1
    assoc := 7, ctr := 5, ctrPort := 0, ctrReserved := 0, seq := 9, length := 0, cipher := [], tag := [] }
/-- A packet as site 1 sends it: its payload under the key of epoch 1, and the UDP checksum. -/
def sealHdr (h : FrnHeader) (p : List Byte) : FrnHeader :=
  let h := { h with length := p.length }
  let c := sealPacket h (freynKey km0 7 1 1 128) p
  let h := { h with cipher := c.1, tag := c.2 }
  { h with net := { h.net with sum := udpSum h.net.source h.net.dest h.net.srcPort h.net.destPort (h.bytes ++ c.1 ++ c.2) } }
def pkt (type : Nat) (p : List Byte) : FrnHeader := sealHdr (hdr type) p
def hb0 : HeartbeatBody := { openRound := 0, lastClosed := none, lastKind := 0, state := 2, active := 3, held := 0 }
def hbPkt : FrnHeader := pkt 1 hb0.bytes
def prop (r : Nat) (mask : Nat) : ProposeBody := { round := r, mask := mask, included := [] }

/-- The worked case of 13_freyn: the first packet sent again, its header words and nonce, and its fragment header. -/
def workedHdr : FrnHeader :=
  { hdr 2 with resend := true, src := 3, keyEpoch := 0x0123, assoc := 0x480101A5, ctr := 0x04D2, seq := deltaSeq 57 179298, length := 8256 }
theorem test_worked_header : wordsOf 4 workedHdr.bytes =
      [0x00010201, 0x01230003, 0x480101A5, 0x000004D2, 0x00000000, 0x0002BC62, 0x00000039, 0x00002040] ∧
    workedHdr.nonce = [0xA5, 0x01, 0x01, 0x48, 0xD2, 0x04, 0, 0, 0, 0, 0, 0] := by decide +kernel
theorem test_worked_fragment : ipBytes ⟨1, false, 0, zeros 16, [], [], none⟩ 8256 = 8352 ∧
    wordsOf 8 ((DeltaFragment.mk 0x39 0x39 0x02BC6200 0x0D800000 0x100 7 9 false 0 0 0).bytes.take 32) = [0x39, 0x39, 0x02BC6200, 0x0D800000] := by
  decide +kernel

theorem test_freyn_filter : (frnSt.wanUp 1) = false ∧ frnSt.wanUp 0 = true ∧ frnSt.power.holdup = 0 ∧ frnSt.netOk hbPkt = true ∧
    frnSt.netOk { hbPkt with ctr := 6 } = false ∧ frnSt.headerOk hbPkt 1 = true ∧ frnSt.headerOk { hbPkt with version := 2 } 1 = false ∧
    frnSt.epochOk hbPkt = true ∧ (frnSt.windowOf hbPkt).ok 5 = true ∧ frnSt.inWindow = false := by decide +kernel
theorem test_freyn_drops : run (.heartbeat { hbPkt with wanPort := 1 } hb0) frnSt = frnSt ∧
    ((run (.heartbeat (sealHdr { hdr 1 with version := 2 } hb0.bytes) hb0) frnSt).wan.at 0).drop = 1 ∧
    ((run (.heartbeat { hbPkt with net := { hbPkt.net with extension := true } } hb0) frnSt).wan.at 0).drop = 1 ∧
    frnSt.tagOk hbPkt frnSt.sec.km (List.replicate hb0.bytes.length 0) = false ∧
    (run (.heartbeat hbPkt { hb0 with state := 1 }) frnSt).round.authFails = 1 := by decide +kernel
theorem test_freyn_accepts : (frnSt.receive hbPkt 1 hb0.bytes).2 = true ∧
    ((frnSt.receive hbPkt 1 hb0.bytes).1.receive hbPkt 1 hb0.bytes).2 = false := by decide +kernel
theorem test_freyn_duplicate : ((run (.heartbeat hbPkt hb0) (frnOf { site1 with heldSeqs := [9] })).site 1).reachable = false ∧
    (((run (.heartbeat hbPkt hb0) (frnOf { site1 with heldSeqs := [9] })).site 1).windows.at 0).seen = [5] := by decide +kernel
/-- A packet is accepted, and its SEQ is new. -/
def taken (h : FrnHeader) (type : Nat) (p : List Byte) (s : State) : Bool :=
  (s.receive h type p).2 && !((s.receive h type p).1.site h.src).heldSeqs.contains h.seq
def acks : List SeqRange := [⟨4, 2⟩]
theorem test_heartbeat : ((run (.heartbeat hbPkt hb0) frnSt).site 1).reachable = true ∧
    ((run (.heartbeat (sealHdr { hdr 1 with second := true } hb0.bytes) hb0) frnSt).site 1).secondUp = true := by decide +kernel
theorem test_ack :
    ((run (.ack (pkt 3 (ackBytes acks)) acks) (frnOf { site1 with out := [{ seq := 3 }, { seq := 5 }, { seq := 6 }] })).site 1).out.map (·.seq) = [3, 6] := by
  decide +kernel
theorem test_join : ((run (.join (pkt 10 [2]) .complete) frnSt).site 1).join = true ∧
    ((run (.join (pkt 10 [0]) .rebasing) frnSt).site 1).state = 3 := by decide +kernel
def roundSt : State := withRound (fun u => { u with accepted := [prop 4 3], proposal := some (prop 4 3) }) frnSt
def propPkt (r mask : Nat) : FrnHeader := pkt 4 (prop r mask).bytes
theorem test_propose :
    (run (.propose (propPkt 5 3) (prop 5 3)) roundSt).round.accepted = [prop 4 3, prop 5 3] := by decide +kernel
theorem test_propose_again : taken (propPkt 4 1) 4 (prop 4 1).bytes roundSt = true ∧ (run (.propose (propPkt 4 1) (prop 4 1)) roundSt).round.accepted = [prop 4 3] := by
  decide +kernel
def accPkt (w : Word64) : FrnHeader := pkt 5 (acceptBytes 4 w)
theorem test_accept :
    bitOf (run (.accept (accPkt (proposeCrc (prop 4 3))) 4 (proposeCrc (prop 4 3))) roundSt).round.accepts 1 = true ∧
    proposeCrc (prop 4 3) ≠ 9 ∧ bitOf (run (.accept (accPkt 9) 4 9) roundSt).round.accepts 1 = false := by decide +kernel
def close0 : CloseBody := ⟨prop 0 3, 1, 3⟩
def closePkt : FrnHeader := pkt 6 close0.bytes
theorem test_close : frnSt.round.openRound = 0 ∧ frnSt.round.ownState ≠ 3 ∧ frnSt.round.joinStep = 0 ∧
    frnSt.round.closing = none ∧ (run (.close closePkt close0) frnSt).round.closing = some close0 := by decide +kernel
theorem test_digest : frnSt.round.ownDigest = none ∧
    (run (.digest (pkt 9 (digestBytes 0 5)) 0 5) frnSt).round.digests = [(1, 0, 5)] := by decide +kernel

def frag0 : DeltaFragment := { round := 0, baseRound := 0, firstBlock := 0, totalBlocks := 1, blocks := 1, tableId := 7, rate := 4, pending := false, streamCrc := 9 }
def blocks0 : List Byte := 5 :: zeros 31
def fragPkt : FrnHeader := pkt 2 (frag0.bytes ++ blocks0)
def fragIn : State := (frnSt.receive fragPkt 2 (frag0.bytes ++ blocks0)).1
theorem test_delta_accepted : fragIn.fragOk 1 frag0 blocks0 = true ∧ fragIn.staleWeight 0 ≠ none ∧
    fragIn.heldDelta 1 0 = none ∧ ((fragIn.noteSeq fragPkt).writeMem (fragIn.deltaBase 1) blocks0).2 = 0 ∧ (run (.delta fragPkt frag0 blocks0) frnSt).peekNat (nearAddr 0x130000) 4 = 5 := by decide +kernel
/-- The compressor of core 0 holds the association's table; an INNER segment of the shard is kept; the boundary is reached. -/
def formSt : State :=
  withRound (fun u => { u with boundaries := [(0, 1)] }) ((frnSt.modCore 0 (fun x => { x with up := { x.up with kept := [seg0 .queued 0] } })).modCluster 0
    (fun k => { k with slots := [(3, { table := some tab0 })] }))
def formEncs : List KfrEnc := (pieces 64 1 ((formSt.holdForm.deltaValues 0 shard0).2.toOption.getD [])).map (kfrEncode tab0 3)
theorem test_delta_form : formSt.holdForm.mayForm 0 0 = true ∧ formSt.holdForm.mayForm 1 0 = false ∧ formSt.holdForm.deltaTable 0 = some tab0 ∧
    (formSt.holdForm.deltaValues 0 shard0).2.toOption.map (·.length) = some 64 ∧ (∀ e ∈ formEncs, e.nan = false) ∧
    (run (.deltaForm 0 0) formSt).round.sentDelta = true ∧ (run (.deltaForm 0 0) formSt).round.formSlots = [] ∧
    run (.deltaForm 1 0) formSt = formSt.holdForm := by decide +kernel
def sendSt : State := withRound (fun u => { u with sentDelta := true }) frnSt
theorem test_wan_send : sendSt.isOther 1 = true ∧ sendSt.ownHeld = true ∧ sendSt.round.closing = none ∧ (sendSt.site 1).sentRound ≠ some 0 ∧
    ((run (.wanSend 1) sendSt).site 1).sentRound = some 0 ∧ sendSt.sec.km ≠ none ∧ sendSt.round.exhausted = false ∧ sendSt.round.pendingSend = false ∧
    ((run (.wanSend 1) sendSt).site 1).out.map (fun e => e.payload.length) = [96] ∧ run (.wanSend 1) frnSt = frnSt ∧
    run (.wanSend 1) (run (.wanSend 1) sendSt) = run (.wanSend 1) sendSt := by decide +kernel
def outSt (t : Nat) : State :=
  frnOf { site1 with out := [{ type := 8, seq := 4, service := 2, sentAt := t, sent := true }], rxSeqs := [3, 4], rxSinceAck := 256, recoveryAck := 996999999, lastAck := t }
theorem test_streams : ((outSt 980000000).site 1).out.find? (fun e => e.seq == 4) = some { type := 8, seq := 4, service := 2, sentAt := 980000000, sent := true } ∧
    980000000 + max (4 * ((outSt 980000000).site 1).rtt) 20000000 ≤ (outSt 980000000).now ∧ (run (.packetResend 1 4) (outSt 980000000)).round.queue.map (fun o => (o.seq, o.resend)) = [(4, true)] ∧
    run (.packetResend 1 4) (outSt 980000001) = outSt 980000001 ∧ ((run (.ackSend 1) (outSt 1)).site 1).rxSeqs = [] ∧
    0 + 1000000000 < (clock 1000000001 (outSt 0)).now ∧ ((run (.streamPause 1) (clock 1000000001 (outSt 0))).site 1).paused = true := by decide +kernel

def deadlineSt : State := clock 300000000001 (withRound (fun u => { u with boundaries := [(0, 1)], sentDelta := true, active := 1 }) (frnOf { site1 with state := 2 }))
theorem test_round_deadline : deadlineSt.isCoordinator = true ∧ deadlineSt.boundaryAt = some 1 ∧ 1 + deadlineSt.assoc.deadline * 1000000000 ≤ deadlineSt.now ∧
    deadlineSt.assoc.q ≤ deadlineSt.heldSites.length ∧ (run .roundDeadline deadlineSt).round.proposedRound = some 0 ∧
    (run .roundOrphan (clock 360000000001 deadlineSt)).round.orphans = [0] ∧ deadlineSt.round.closeSeen = none ∧
    (run .roundOrphan (clock 360000000001 (withRound (fun u => { u with closeSeen := some 0 }) deadlineSt))).round.orphans = [] ∧ (run .roundOrphan (clock 360000000001 deadlineSt)).round.openRound = 1 := by
  decide +kernel
def fetch0 : FetchSt := { object := .anchor, site := 1, round := 0, total := 128, started := 0 }
def fetchSt : State := withRound (fun u => { u with rebaseStep := 2, rebaseSite := 1, ownState := 3 }) frnSt
def fetching : State := withRound (fun u => { u with fetch := some fetch0 }) fetchSt
theorem test_fetches : 0 + fetching.assoc.fetchLimit * 1000000000 < (clock 600000000001 fetching).now ∧
    (run .fetchLimit (clock 600000000001 fetching)).round.fetch = none ∧ fetchSt.nextFetch = some (.anchor, 1, 0) ∧ fetchSt.objectSize .anchor ≠ 0 ∧
    (run (.wanFetch 1) fetchSt).round.fetch.map (·.total) = some 128 ∧ run (.wanFetch 2) fetchSt = fetchSt := by decide +kernel
def req : FetchBody := { object := .anchor, round := 0, first := 64, length := 64 }
def reqPkt (b : FetchBody) : FrnHeader := pkt 7 b.bytes
theorem test_fetch : (frnSt.objectBytes (.checkpoint 0)).isNone = true ∧ (frnSt.objectBytes .anchor).bind (fun r => r.2.toOption.map List.length) = some 128 ∧
    ((run (.fetch (reqPkt req) req) frnSt).site 1).out.map (fun e => e.payload.length) = [128] := by decide +kernel
def badAnchor : State := { frnSt with tiers := { frnSt.tiers with channels := [((frnSt.channelOf (nearAddr 0x8000)).1, { state := 3 })] } }
theorem test_fetch_error : (badAnchor.objectBytes .anchor).bind (fun r => r.2.toOption) = none := by decide +kernel
def fetch1 : State := withRound (fun u => { u with fetch := some { fetch0 with object := .openRound, total := 8 } }) fetchSt
def dat (n : Nat) : DataBody := { object := .openRound, round := 0, offset := 0, data := zeros n }
theorem test_data : (run (.data (pkt 8 (dat 7).bytes) (dat 7)) fetch1).round.fetch.map (fun f => f.got.length) = some 1 ∧
    (run (.data (pkt 8 (dat 9).bytes) (dat 9)) fetch1).round.fetch.map (fun f => f.got.length) = some 0 := by decide +kernel
def appliedSt : State := withRound (fun u => { u with openRound := 1, lastApplied := some 0 }) frnSt
theorem test_anchor_digest : appliedSt.round.lastKind = 0 ∧ appliedSt.round.ownState ≠ 3 ∧ appliedSt.round.ownState ≠ 4 ∧ appliedSt.round.ownDigest = none ∧
    (run .anchorDigest appliedSt).round.ownDigest.map (·.1) = some 0 ∧
    run .anchorDigest (withRound (fun u => { u with ownDigest := some (0, 5) }) appliedSt) = withRound (fun u => { u with ownDigest := some (0, 5) }) appliedSt := by
  decide +kernel
def outerSt : State := withRound (fun u => { u with closing := some close0 }) formSt
theorem test_outer_segment : outerSt.roundShards.contains 0 = true ∧ outerSt.roundShards.contains 5 = false ∧ outerSt.outerInputs = true ∧ outerSt.shardBusy 0 1 = false ∧ outerSt.round.outerIssued.contains (0, 0) = false ∧
    run (.outerSegment 0 0) (withRound (fun u => { u with outerIssued := [(0, 0)] }) outerSt) = withRound (fun u => { u with outerIssued := [(0, 0)] }) outerSt ∧
    (outerSt.shardSt 0).target = none ∧ ((run (.outerSegment 0 0) outerSt).core 0).up.segs.length = 1 ∧ run (.outerSegment 5 0) outerSt = outerSt := by
  decide +kernel

def quietSt : State :=
  clock 6000000000 (frnOf { site1 with reachable := true, lastHeartbeat := some 999999999, primaryUp := true, secondUp := true, secondAt := 999999999 })
def downSt : State := (outSt 0).modSite 1 (fun x => { x with routesDownAt := some 0 })
theorem test_routes : 999999999 + 5000000000 < quietSt.now ∧ ((run (.reachabilityLapse 1) quietSt).site 1).reachable = false ∧
    ((run (.routeDown 1 false) quietSt).site 1).primaryUp = false ∧ ((run (.routeDown 1 true) quietSt).site 1).secondUp = false ∧
    (outSt 0).recoveryOpen 1 = true ∧ 996999999 + 3000000 < (outSt 0).now ∧ ((outSt 0).route 1 true).map (·.port) = some 2 ∧ (outSt 0).wanUp 2 = true ∧
    (run (.recoveryFailover 1) (outSt 0)).round.failovers = 1 ∧
    0 + 1000000000 ≤ downSt.now ∧ ((run (.recoveryRoutesDown 1) downSt).site 1).out = [] := by decide +kernel
def oldKey : State := { frnOf { site1 with prevEpoch := some 0, epochAt := 1 } with engines := [(0, { slots := [(3, { key := [7] })] })] }
theorem test_grace_period : recvSlot 1 0 = 3 ∧ oldKey.sitePorts 1 = [0, 2] ∧ run (.gracePeriodEnd 1) (clock 2000000000 oldKey) = clock 2000000000 oldKey ∧
    ((run (.gracePeriodEnd 1) (clock 2000000001 oldKey)).site 1).prevEpoch = none ∧
    ((run (.gracePeriodEnd 1) (clock 2000000001 oldKey)).engine 0).slots = [] := by decide +kernel
def epochSt (e : Nat) : State := withRound (fun u => { u with txEpoch := e }) (clock 3600000000000 frnSt)
theorem test_key_epochs : (epochSt 4).maySend = true ∧ (epochSt 4).rekeyDue = false ∧ (epochSt 4).epochDue = true ∧ (run .keyEpochStart (epochSt 4)).round.txEpoch = 5 ∧
    (run .keyEpochStart (epochSt 0xFFFF)).round.exhausted = true ∧ base.maySend = false ∧ frnSt.img.assoc ≠ none ∧
    ((run .heartbeatSend frnSt).site 1).msgCount = 2 ∧ (run .rateTokens frnSt).round.bucket ≤ 4000000 * frnSt.assoc.mbps := by decide +kernel
theorem test_wan_ports : frnSt.wanExists 3 = true ∧ frnSt.edgePowered = true ∧ ((run (.wanPortDown 3 true false) frnSt).wan.at 3).localFault = true ∧
    ((run (.wanPortUp 3) frnSt).wan.at 3).state = 2 ∧ frnSt.ownAddress 0 [1, 1, 1, 1] = true ∧ frnSt.ownAddress 0 [1, 1, 1, 9] = false ∧
    (run (.arpRequest 0 [1, 1, 1, 1] [5]) frnSt).round.answers = [(0, 2, [1, 1, 1, 1, 5] ++ frnSt.fuses.wanMac.getD 0 [])] ∧ ((run (.arpRequest 0 [1, 1, 1, 9] []) frnSt).wan.at 0).drop = 1 ∧
    (let s := { frnSt with wan := [(0, { state := 2, echoes := 10, echoAt := 1 })] }
     s.now < 1 + 1000000000 ∧ ((run (.echoRequest 0 [] []) s).wan.at 0).drop = 1 ∧ ((run (.echoRequest 0 [] []) (clock 1000000001 s)).wan.at 0).drop = 0) := by
  decide +kernel
def v6 : List Byte := zeros 15 ++ [1]
def ndSt : State := withImg (fun i => { i with assoc := some { assoc0 with routes := [⟨1, false, 0, v6, v6, v6, none⟩] } }) frnSt
theorem test_neighbor_solicitation : ndSt.ownAddress 0 v6 = true ∧ v6.length = 16 ∧ (run (.neighborSolicitation 0 v6 []) ndSt).round.answers = [(0, 1, v6 ++ ndSt.fuses.wanMac.getD 0 [])] ∧
    (run (.packetTooBig 0 0) ndSt).wan = ndSt.wan := by decide +kernel

/-! ## Checkpoints and restores (14_checkpoint R496 to R523) -/

/-- `Safety.Transfer` of core 0 as a check. -/
def isTransfer (s : State) (q w : Nat) : Bool :=
  isReady s 0 q s (head s q) && (head s q).kind == 4 &&
  (match s.readOwn 0 (head s q).addr 32 1 with | (t, .ok bs) => t == s && leNat bs == w | _ => false)
theorem transfer_of_check {s : State} {q w : Nat} (h : isTransfer s q w = true) : Safety.Transfer s 0 q s w := by
  unfold isTransfer at h
  split at h
  · rename_i t bs heq
    simp only [Bool.and_eq_true, beq_iff_eq] at h
    obtain ⟨⟨h1, h2⟩, h3, h4⟩ := h
    subst h3
    exact ⟨_, _, bs, ready_of_check h1, h2, heq, h4⟩
  · simp at h
/-- CK_SHARD of all of shard 0; CK_STATE. -/
def ckShardWord : Nat := word [(0, 8), (8, 3), (16, 1), (176, 64)]
def ckStateWord : Nat := word [(0, 9), (8, 3), (16, 1)]
def ckSt (w : Nat) (t : Target) : State :=
  let s := withImg (fun i => { i with shards := [shard0], ckInterval := 4, ckTargets := [⟨2, 0, 0x100000, 0, 1⟩] })
    ((live 7 (word [(0, 4), (128, 0x2000)]) base).poke 0x2000 (leBytes 32 w))
  { s with commit := { s.commit with shards := [(0, { hasState := true, processed := some 7 })] }, ck := { s.ck with targets := [(0, t)] } }
def dueTarget : Target := { due := some 4, piecesLeft := [(0, 64)], coresLeft := [0] }
theorem test_ck_shard_reads : Safety.Transfer (ckSt ckShardWord dueTarget) 0 7 (ckSt ckShardWord dueTarget) ckShardWord ∧
    Safety.Transfer (ckSt ckShardWord {}) 0 7 (ckSt ckShardWord {}) ckShardWord ∧
    Safety.Transfer (ckSt ckStateWord dueTarget) 0 7 (ckSt ckStateWord dueTarget) ckStateWord :=
  ⟨transfer_of_check (by decide +kernel), transfer_of_check (by decide +kernel), transfer_of_check (by decide +kernel)⟩
theorem test_ck_shard : ckShardWord % 256 = 8 ∧ ckFieldsOk ckShardWord = true ∧ ckRange ckShardWord = (0, 64) ∧ shard0.count = 64 ∧
    (ckSt ckShardWord {}).dueTargets 0 64 = [] ∧ (ckSt ckShardWord dueTarget).dueTargets 0 64 = [0] ∧
    (((run (.ckShard 0 7) (ckSt ckShardWord {})).core 0).counters.at 3).value = 1 ∧
    ((run (.ckShard 0 7) (ckSt ckShardWord dueTarget)).ck.targets.at 0).writes = [(0, 0)] := by decide +kernel
def latched (s : State) : State := s.latch 0 9 Cause.timeout
theorem test_ck_state : ckFieldsOk ckStateWord = true ∧ fld ckStateWord 64 40 = 0 ∧ fld ckStateWord 222 12 = 0 ∧ fld ckStateWord 192 24 = 0 ∧
    (∀ k ∈ ((ckSt ckStateWord dueTarget).core 0).counters, k.2.cause = 0) ∧ ((run (.ckState 0 7) (ckSt ckStateWord dueTarget)).ck.targets.at 0).coresLeft = [] ∧
    isTransfer (latched (ckSt ckStateWord dueTarget)) 7 ckStateWord = true ∧
    (((latched (ckSt ckStateWord dueTarget)).core 0).counters.map (fun c => c.2.cause)).filter (· != 0) = [Cause.timeout] ∧
    ((run (.ckState 0 7) (latched (ckSt ckStateWord dueTarget))).core 0).xf.lastFail = Cause.timeout := by decide +kernel
def writingSt : State := run (.ckShard 0 7) (ckSt ckShardWord dueTarget)
theorem test_target_writes : (writingSt.ck.targets.at 0).writes = (0, 0) :: [] ∧ (writingSt.findXfer 0 0).map (·.outstanding) = some [0] ∧
    (((run (.targetWriteDone 0) writingSt).core 0).counters.at 3).value = 1 ∧ ((run (.targetWriteDone 0) writingSt).shardSt 0).holds = [] ∧
    ((run (.targetWriteDone 0) (ckSt 0 { writes := [(1024, 0), (1025, 0)] })).ck.targets.at 0).writes = [(1025, 0)] ∧ Cause.linkDown ∈ targetCauses ∧
    ((run (.targetWriteFail 0 Cause.linkDown) writingSt).ck.targets.at 0).lastCause = Cause.linkDown ∧
    ((run (.targetWriteFail 0 Cause.linkDown) writingSt).ck.targets.at 0).due = none := by decide +kernel
def sealSt : State := ckSt 0 { due := some 4, sealed := true, sealedStep := 0, seq := 1, buffer := 1 }
theorem test_seal : (sealSt.ck.targets.at 0).piecesLeft = [] ∧ sealSt.unacked 0 manifestWrite = false ∧ (run (.checkpointSeal 0) sealSt).ck.sealedStep = 4 ∧
    ((run (.checkpointSeal 0) sealSt).ck.targets.at 0).buffer = 0 ∧ ((run (.checkpointSeal 0) sealSt).ck.targets.at 0).seq = 2 ∧
    run (.checkpointSeal 0) (ckSt 0 dueTarget) = ckSt 0 dueTarget := by decide +kernel
/-- Counter 4 of core 0 is a checkpoint counter: captured as 1, it holds 9 at the seal. -/
def ctrSt : State :=
  (withImg (fun i => { i with cores := [{ base.coreCfg 0 with ckCounters := [4] }] })
    (ckSt 0 { due := some 4, records := [{ core := 0, counters := [(4, 1), (5, 2)], queues := [], updStep := 7 }] })).advance 0 4 9
theorem test_seal_counters : (ctrSt.coreCfg 0).ckCounters = [4] ∧ (ctrSt.ck.targets.at 0).due = some 4 ∧ (ctrSt.ck.targets.at 0).writes = [] ∧
    ((run (.checkpointSeal 0) ctrSt).ck.targets.at 0).records = [{ core := 0, counters := [(5, 2), (4, 9)], queues := [], updStep := 7 }] := by decide +kernel

def jobSt (j : JobState) : State := { base with host := { base.host with job := j } }
theorem test_restore : base.mailboxUp = true ∧ base.jobBusy = false ∧ (run .restore base).host.job = .restoring ∧
    (run .restore (jobSt .halted)).ck.restoring = 1 ∧ (run .restore (jobSt .noJob)).host.lastCause = Cause.planReject ∧
    (run .restore (run .restore base)).host.reply = Rc.busy.code := by decide +kernel
/-- A manifest copy 1 with SEQ 0x245 (14_checkpoint, worked case: its layout by R508). -/
def maniCopy (step round cursor grain m : Nat) : ManifestCopy :=
  let body := leBytes 8 0x245 ++ leBytes 8 step ++ leBytes 8 round ++ leBytes 8 cursor ++ leBytes 8 grain ++ leBytes 4 7 ++ leBytes 2 0x1A5 ++ leBytes 2 0 ++
    leBytes 4 2 ++ leBytes 4 1 ++ leBytes 4 m ++ zeros 60
  { target := 0, copy := 1, bytes := body ++ leBytes 8 (crc64 body).toNat, roundTag := 0 }
def mani (step : Nat) : Manifest :=
  { target := 0, seq := 0x245, step := step, round := 0, dataCursor := step + 1, grain := step + 1, node := 0x1A5, buffer := 0, pieces := 2, mbPerStep := 1 }
set_option maxRecDepth 20000 in
theorem test_manifest : (parseManifest (maniCopy 290500 58 9296032 290502 32)).map (fun m => (m.seq, m.step, m.round, m.dataCursor, m.grain, m.mbPerStep)) =
    some (581, 0x46EC4, 0x3A, 0x8DD8A0, 0x46EC6, 0x20) ∧ (parseManifest { maniCopy 3 0 4 4 1 with copy := 0 }) = none := by decide +kernel
/-- Two modules; the restore stands at step `n`. -/
def restSt (n : Nat) (u : CheckpointUnit) : State :=
  withImg (fun i => { i with axes := [2, 1, 1, 1], cores := [{ core := 0, stepList := 0x1000 }], shards := [shard0], ckTargets := [⟨2, 0, 0x100000, 0, 1⟩], verifyTrust := true })
    { jobSt .restoring with ck := { u with restoring := n }, commit := { base.commit with shards := [(0, {})] } }
def heldSteps : CheckpointUnit := { State.reset.ck with manifests := [mani 3, mani 7], siteSteps := [(0, [3, 7])] }
set_option maxRecDepth 20000 in
theorem test_restore_steps : (restSt 2 {}).nodes = 2 ∧ (restSt 2 {}).img.node = 0 ∧ (restSt 2 {}).power.restPhase = 0 ∧
    (run (.restoreManifestsRead [maniCopy 3 0 4 4 1]) (restSt 2 {})).ck.restoring = 3 ∧ (run (.sealedStepExchange 1 [3]) (restSt 3 heldSteps)).ck.chosen = 3 ∧
    (run (.sealedStepExchange 1 [3, 7]) (restSt 3 heldSteps)).ck.chosen = 7 ∧ (run (.sealedStepExchange 1 [5]) (restSt 3 heldSteps)).host.job = .halted ∧
    (run (.sealedStepExchange 1 [3]) (restSt 3 {})).ck.restoring = 3 := by decide +kernel
/-- The export of shard 0 (10_parameter R360). -/
def piece0 : PieceLoad :=
  let slot := 5 :: zeros 191
  { target := 0, bytes := shard0.exportHeader 0 3 1 2 0 (shard0.digest 3 2 (shard0.arrays slot)) ++ slot, anchor := [], momentum := [] }
def shardLoad0 : ShardLoad :=
  { shard := 0, step := 3, version := 1, count := 2, park := 0, slotBytes := 5 :: zeros 191, anchor := [], momentum := [], parking := [], offcut := [] }
def modRec0 : ModuleRecord := { step := 4, ls := [16], growthRun := 0, layers := [], openRound := 2, lastApplied := none, cur := false, anchorRound := 2, cores := [] }
def chosenCk : CheckpointUnit := { State.reset.ck with chosen := 3, manifests := [mani 3], chosenManifest := some (mani 3) }
def loadedCk : CheckpointUnit := { chosenCk with pieces := [shardLoad0], moduleRec := some modRec0 }
set_option maxRecDepth 20000 in
theorem test_restore_loads : (restSt 4 chosenCk).assemble [piece0] = .ok (false, [shardLoad0]) ∧
    (restSt 4 chosenCk).assemble [{ piece0 with bytes := piece0.bytes.set 256 6 }] = .error Cause.digestMismatch ∧ (restSt 4 chosenCk).assemble [] = .error Cause.planReject ∧
    (restSt 4 chosenCk).wantsPartner = false ∧ (mani 3).mbPerStep = (restSt 4 chosenCk).img.m ∧ (mani 3).dataCursor = (3 + 1) * 1 ∧
    (run (.restoreLoaded [piece0] modRec0) (restSt 4 chosenCk)).ck.restoring = 6 ∧ (run (.restoreLoaded [] modRec0) (restSt 4 chosenCk)).host.job = .halted := by
  decide +kernel
theorem test_restore_ends : ((restSt 6 loadedCk).shardList.foldl State.restoreShard (restSt 6 loadedCk, 0)).2 = 0 ∧
    (run .restoreCommitted (restSt 6 loadedCk)).ck.restoring = 7 ∧ (run .restoreCommitted (restSt 6 loadedCk)).peekNat (nearAddr 0) 1 = 5 ∧
    (run .restoreVerified (restSt 7 loadedCk)).gate.step = 4 ∧ (run .restoreVerified (restSt 7 loadedCk)).host.job = .running ∧
    (run .restoreVerified (restSt 7 { loadedCk with noMajority := true })).host.job = .halted ∧ run .restoreVerified (restSt 6 loadedCk) = restSt 6 loadedCk ∧
    run .restoreCommitted (restSt 7 loadedCk) = restSt 7 loadedCk := by decide +kernel

/-! ## Messages about the job -/

def startingSt : State := { siteSt upPort with host := { base.host with job := .noJob, starting := some 0 } }
theorem test_link_wait : startingSt.linksReady = false ∧ 0 + startingSt.img.linkWait < (clock 60000000001 startingSt).now ∧
    (run .linkWaitExpiry (clock 60000000001 startingSt)).host.lastCause = Cause.linkDown := by decide +kernel
def haltSt : State := { siteSt upPort with torus := { (siteSt upPort).torus with haltSeq := [(1, 4)] } }
theorem test_halt_message : run (.haltMessage 7 1 4) haltSt = haltSt ∧ run (.haltMessage 7 0 9) haltSt = haltSt ∧
    (run (.haltMessage 6 1 5) haltSt).torus.sentMessages = [(7, .halt 1 5)] ∧ (run (.haltMessage 6 1 5) haltSt).power.stopIssue = true := by decide +kernel
def restPower (n : Nat) : State := { base with power := { base.power with restPhase := n } }
theorem test_wake_message : (run (.wakeMessage 1) (restPower 1)).power.restPhase = 2 ∧ run (.wakeMessage 1) base = base := by decide +kernel
def partnerSt (f : CheckpointUnit → CheckpointUnit) (x : Port) : State :=
  withImg (fun i => { i with partnerPorts := [5, 6, 7], ckTargets := [⟨0, 0, 64, 0, 1⟩], copyRegion := nearAddr 0 })
    { siteSt x with ck := f State.reset.ck, power := { base.power with feed := 1 } }
theorem test_partner_claims : (run (.partnerClaim 7 1) (partnerSt id upPort)).ck.claimedBy = some 7 ∧
    (run (.partnerClaim 7 1) (partnerSt (fun u => { u with claimedBy := some 5 }) upPort)).torus.sentMessages = [(7, .claimRefused 1)] := by decide +kernel
def claimSt (c : Nat) : State := partnerSt (fun u => { u with claiming := some 5, candidate := c, restoring := 5 }) { upPort with nbrFeed := 2 }
theorem test_partner_refusal : (claimSt 0).img.partnerPorts[2]? = some 7 ∧ feedsDiffer 2 (claimSt 0).power.feed = true ∧ ((claimSt 0).port 6).state ≠ 6 ∧
    (run (.partnerRefusal 5) (claimSt 0)).ck.claiming = some 7 ∧ (run (.partnerRefusal 5) (claimSt 0)).ck.candidate = 2 ∧ (claimSt 2).img.partnerPorts.length ≤ 2 + 1 ∧
    (run (.partnerRefusal 5) (claimSt 2)).ck.lastCause = Cause.partnerSameFeed ∧ (run (.partnerAcceptance 5) (claimSt 0)).ck.partner = some 5 := by decide +kernel
/-- A copy claimed by the neighbour at port 7, node 1, whose path is known. -/
def serveSt : State :=
  let s := partnerSt (fun u => { u with claimedBy := some 7 }) { upPort with nbrNode := 1 }
  let s := withImg (fun i => { i with shards := [shard0] }) s
  { s with torus := { s.torus with paths := [(1, { known := true, state := 1 })] }, commit := { s.commit with shards := [(0, { hasState := true })] } }
theorem test_served_copies : (serveSt.img.ckTargets.find? (fun t => t.kind == 0)).isSome = true ∧ (serveSt.port 7).nbrNode = 1 ∧
    (serveSt.torus.paths.at 1).known = true ∧ serveSt.torus.sources = [] ∧ ((serveSt.shardSt 0).canHold 0) = true ∧ (1 : Nat) < serveSt.nodes ∧
    (run (.copyRegionRequest 7) serveSt).torus.sources.map (·.dst) = [1] ∧ (run (.shardExportRequest 1 0) serveSt).torus.sources.map (·.tc) = [3] := by
  decide +kernel
theorem test_clean : Safety.Clean serveSt ∧ Safety.Clean (ckSt ckShardWord dueTarget) := by
  constructor <;> exact ⟨rfl, rfl, fun c h => by cases h⟩

/-! ## Alarms and keys (15_security R542 to R557) -/

def alarmSt : State :=
  { base with sec := { base.sec with km := some { key := [1], assoc := 7 }, identityKeys := true }
              engines := [(0, { slots := [(3, { key := [7] })] })] }
theorem test_alarms : alarmSt.edgePowered = true ∧ State.reset.edgePowered = false ∧ (run .voltageAlarm alarmSt).sec.km = none ∧
    (run .voltageAlarm alarmSt).sec.recovering = some 1 ∧ ((run .temperatureAlarm alarmSt).engine 0).slots = [] ∧
    (run .glitchAlarm alarmSt).sec.identityErased = true ∧ (run (.tamper 2001) alarmSt).sec.alarm = 0x10 ∧ (run (.tamper 2000) alarmSt).sec.alarm = 0 ∧
    (run .voltageAlarm State.reset).sec = State.reset.sec := by decide +kernel
def recovSt : State := { base with sec := { base.sec with recovering := some 1, alarmAt := 1, windowEnd := 1000000000, prevKm := some {} } }
theorem test_alarm_recovery : recovSt.img.keys = [] ∧ run .alarmRecovery recovSt = recovSt ∧
    (run .alarmRecovery (clock 1000000001 recovSt)).sec.recovering = none ∧ (run .changeWindowEnd recovSt).sec.prevKm = none ∧
    run .changeWindowEnd (clock 999999999 recovSt) = clock 999999999 recovSt := by decide +kernel
def load0 : SlotLoad := { key := zeros 15 ++ [9], usage := 0, site := 0, epoch := 1, fixed := 7 }
theorem test_key_slots : base.wanExists 3 = true ∧ ((run (.keySlotLoad 3 47 load0) base).engine 3).slots.at 47 =
    { key := load0.key, usage := 0, site := 0, epoch := 1, fixed := 7, nextCtr := 3 * 2 ^ 40, loadedAt := 1000000000, encryptions := 0 } := by decide +kernel
/-- A KD960-M: the key registers hold 3, KEYWR_ASSOC 7. -/
def keyWrSt (lock : Bool) : State :=
  { frnSt with fuses := { base.fuses with variantM := true }, sec := { base.sec with keyWr := [3, 0, 0, 0, 0, 0, 0, 0], keyWrAssoc := 7 }
               flash := { base.flash with security := { base.flash.security with ownerLock := lock } } }
theorem test_key_write : (0x80000001 : Word).getLsbD 31 = true ∧ (0x80000001 : Word).toNat % 256 = 1 ∧ (keyWrSt false).barUp = true ∧
    (keyWrSt false).kekClosed = false ∧ (keyWrSt false).sec.keyWrAssoc.toNat = (keyWrSt false).assoc.assoc ∧
    (run (.keyWrCommit 0x80000001) (keyWrSt false)).sec.km = some ⟨3 :: zeros 15, 7⟩ ∧
    (run (.keyWrCommit 0x80000001) (keyWrSt true)).sec.keyWrStatus = some Cause.authFail ∧ run (.keyWrCommit 1) (keyWrSt false) = keyWrSt false := by decide +kernel
def erasedKeySt : State := { keyWrSt false with sec := { (keyWrSt false).sec with keyWrLost := 0x1FF } }
theorem test_key_write_erased : erasedKeySt.keyWrErased false = true ∧ (keyWrSt false).keyWrErased true = false ∧
    (run (.keyWrCommit 0x80000001) erasedKeySt).sec.keyWrStatus = some Cause.keyErased ∧
    ([0, 1, 2, 3, 8].foldl (fun s i => s.writeCip (0x1000 + 4 * i) 7) erasedKeySt).keyWrErased false = false := by decide +kernel

/-! ## Cipher jobs, SPDM and owner commands (15_security R530 to R555) -/

/-- Key slot 3 of engine 0 with usage `u`. -/
def slotSt (u : Nat) : State := { base with engines := [(0, { slots := [(3, { key := zeros 16, usage := u, nextCtr := 5, loadedAt := 1000000000 })] })] }
/-- A job on slot 3: OP, MODE, SRC in Near, DST 4 KiB above it, LEN 16. -/
def jobWord (op mode : Nat) : Nat :=
  word [(0, op), (24, mode), (28, 15), (32, 3), (56, 16), (336, nearAddr 0), (392, nearAddr 0x1000), (448, nearAddr 0x2000)]
def cipherJob (op mode : Nat) : CipherJob := CipherJob.ofNat (BitVec.ofNat 512 (jobWord op mode)).toNat
def jobSlot (u : Nat) : KeySlot := ((slotSt u).engine 0).slots.at 3
def macOf (j : CipherJob) (s : State) (k : KeySlot) : CipherOut :=
  j.run k.key (j.iv.take 12) (s.peek j.src j.inLen) (if j.mode = 3 then s.peek j.aadAddr j.aadLen else [])
theorem test_cipher_jobs : base.wanExists 0 = true ∧ base.edgePowered = true ∧ (cipherJob 1 1).op = 1 ∧ (cipherJob 2 3).op = 2 ∧ (cipherJob 3 4).op = 3 ∧
    (cipherJob 1 1).slot = 3 ∧ (base.engine 0).slots.at 3 = {} ∧ (cipherJob 1 1).reservedZero = true ∧ (cipherJob 1 1).shapeOk = true ∧
    (jobSlot 3).key ≠ [] ∧ (jobSlot 3).usage ≠ 0 ∧ (jobSlot 0).usage = 0 ∧ (slotSt 3).jobRefusal 0 (cipherJob 1 1) (jobSlot 3) = 0 ∧
    (slotSt 3).jobRefusal 0 (cipherJob 2 3) (jobSlot 3) = 0 ∧ (slotSt 2).jobRefusal 0 (cipherJob 3 4) (jobSlot 2) = 0 ∧
    (slotSt 2).jobRefusal 0 (cipherJob 1 1) (jobSlot 2) ≠ 0 ∧ (slotSt 0).jobRefusal 0 (cipherJob 1 3) (jobSlot 0) = 0 ∧
    (((run (.encrypt 0 (BitVec.ofNat 512 (jobWord 1 3))) (slotSt 0)).engine 0).slots.at 3).nextCtr = 6 := by decide +kernel
theorem run_bytes {j : CipherJob} (h : j.mode = 1 ∨ j.mode = 4) (key nonce input aad : List Byte) : ∃ bs, j.run key nonce input aad = .bytes bs := by
  unfold CipherJob.run
  rcases h with h | h <;> simp [h]
theorem test_cipher_results : Safety.Clean (slotSt 3) ∧ Safety.Clean (slotSt 0) ∧ (∃ bs, macOf (cipherJob 1 1) (slotSt 3) (jobSlot 3) = .bytes bs) ∧
    (∃ bs, macOf (cipherJob 3 4) (slotSt 2) (jobSlot 2) = .bytes bs) :=
  ⟨⟨rfl, rfl, fun _ h => by cases h⟩, ⟨rfl, rfl, fun _ h => by cases h⟩, run_bytes (by decide +kernel) _ _ _ _, run_bytes (by decide +kernel) _ _ _ _⟩
theorem test_cipher_bad_tag : macOf (cipherJob 2 3) (slotSt 3) (jobSlot 3) = .badTag := by decide +kernel
/-- Slot 3 is a GENERAL slot on which `n` GCM encryptions have run. -/
def generalSt (n : Nat) : State := { base with engines := [(0, { slots := [(3, { key := zeros 16, usage := 3, encryptions := n })] })] }
theorem test_general_slot : (cipherJob 1 3).op = 1 ∧ (cipherJob 1 3).mode = 3 ∧ (cipherJob 1 3).reservedZero = true ∧ (cipherJob 1 3).shapeOk = true ∧
    (cipherJob 1 3).len ≤ (cipherJob 1 3).limit 3 ∧ base.jobRegions (cipherJob 1 3) false = true ∧
    (((run (.encrypt 0 (BitVec.ofNat 512 (jobWord 1 3))) (generalSt (2 ^ 32 - 1))).engine 0).slots.at 3).encryptions = 2 ^ 32 ∧
    ((run (.encrypt 0 (BitVec.ofNat 512 (jobWord 1 3))) (generalSt (2 ^ 32))).engine 0).lastFail = Cause.counterExhausted ∧
    (((run (.keySlotLoad 0 3 { load0 with usage := 3 }) (generalSt (2 ^ 32))).engine 0).slots.at 3).encryptions = 0 := by decide +kernel
theorem test_general_clean : Safety.Clean (generalSt 0) := ⟨rfl, rfl, fun _ h => by cases h⟩

theorem test_spdm : base.mailboxUp = true ∧ base.spdmShut = false ∧ base.retired = false ∧ 0 < base.certChain.length ∧
    (run (.negotiateAlgorithms true) base).sec.response.length = 40 ∧ (run .getVersion base).sec.spdmVersion = true ∧
    (run .getDigests { base with sec := { base.sec with identityErased := true } }).sec.response = [0x13, 0x7F, 5, 0] ∧
    (run (.spdmUnsupported 0x81) base).sec.response = [0x13, 0x7F, 7, 0x81] := by decide +kernel
def nonceSt (at_ : Nat) : State := { base with sec := { base.sec with nonce := some (zeros 32, at_) } }
theorem test_nonce : (nonceSt 1).sec.nonce = some (zeros 32, 1) ∧ 1 + 60000000000 < (clock 60000000002 (nonceSt 1)).now ∧
    (run .nonceLapse (clock 60000000002 (nonceSt 1))).sec.nonce = none ∧ (run .nonceLapse (clock 60000000001 (nonceSt 1))).sec.nonce = some (zeros 32, 1) := by
  decide +kernel

/-- An owner's key and signature. Both numbers of the signature are the digest, so the check adds G and the key. -/
def ownerAuth (entry nonce x y e : Nat) : OwnerAuth :=
  { nonce := BitVec.ofNat 8 nonce :: zeros 31, keyEntry := entry, pub := 4 :: beBytes 48 x ++ beBytes 48 y, sig := beBytes 48 e ++ beBytes 48 e }
def lockAuth : OwnerAuth := ownerAuth 1 2 0x70bc4935ef6af2fd8750681e8ba15e4799ffe741d02e835ca600b2f6b3b3e93ee2e239eb2d8accf8f73086d5ffae7949
  0x2f91e1e69851bedf15a19d028bb32f4a2a8b36ab71b2384a3bc20f0ea860ae5fd61e8ede935056ec967fe1dc4a0de299
  0x8a2eaaa4fa4136a4d1195d6d364eb694d835e8b0719d0509fae36711c5510a8a89c7415d7cbed5e5fa19fa172c00394b
def unlockAuth : OwnerAuth := ownerAuth 1 4 0x18fad61565475e880c3281c0e5610bfb3f00ee7f8f0413cf5ec078fcc0733fe3dc5160ad93e6ff7bce17ac1d227f1a37
  0x2837e63ac12c0aa12b8c836f056d33d113d9701b1457081bfecaa76751417a70b628d5c01918727ebdccfd1ce817a47b
  0x4b25c51de5adc7c8f0ba04c39564d8cbf109ada50ae3515568f40054d4a0f97fb1a64e1472fe87e6bd25515795726d88
def enrolAuth (e : Nat) : OwnerAuth := ownerAuth e 0 0x311b40f4736d9f26f2b3449268816565a3a9f278d242841743588c75c9de7c426a9325255d56da26740e113fe5d04b14
  0x55cea341930e6f632d5b181b64295b73d4ee2941088432e21b4a0ef4184fbaf2367ecec082b58bb9c465eba17292d7e4
  0x270e78328f00d644b739fdb2c5b7852a72d7fdebd27170d44187397a8b36e0551c37b9905971c395702b59bcf60977b5
def revokeAuth (e : Nat) : OwnerAuth := ownerAuth e 5 0xef75afbbb3b5e729a5d6a3ec1bda4a14fc67e9a42276a9a11d7b1431a563c44be4bea31a2755a56bb0b1d2ec1bcd86f
  0x88a85b62b698107db655c9feef9fecff8d5ba125cdddc41cd5033d4c2d1555f5ff0770bd1c60a671aa83913cd97f549a
  0x360d7f34d7a4f605601515a1d8b9ab34364aa11d3f509318a0d29f7f28c522d3c38ada99a44c5412985e5c29fa92856b
def retireAuth : OwnerAuth := ownerAuth 1 0 0x899a5baff970b9627fdeced37284afc6f75dd352a398ed12cbccb9b529ba15c3cc069799df81ec0498b877ee58d648da
  0x1d562e645087663822f179387cde0e3aa8220b5d9227cb5b22dd27992c4ac480e26096a4c7e33165bcaf83a8b3071f62
  0x6d054ccb796bd3ecf4e9b35d40ffb71c0767f5a7ef0ffeab226433d3e318613fa24bd6b5c5f52004ca0285b18e94c54c
def clearAuth : OwnerAuth := ownerAuth 1 1 0x7917bac14acc3a22e371b4b3ae4da85abe749d57ec3122d20bab8ef66e908f8b71008dc0acbc9cc9ce03f5aa07f3b598
  0x67dff5a7b32527de1c2646dd7e29bb01ff5fe8164713c04f11318e74f3df8cc8a1e77c1bf1ee08b05e643a02fcac6d0a
  0x505622229f847f1fb778d3d088840258e9844e91e7251d0e49b98a25a64076a4eaca522713646e0204635ce9a74b08ef
def clear2Auth : OwnerAuth := ownerAuth 1 0 0x23ad0756b780726af7076593644811e0f3e4e3fc9d021b212ba354ea72912850c06ff661b32165966290e7396f6c5396
  0x46b7512e8d1e14ef0205008cba83381a46d8e5d5de7f33df3fbf5c39e4fae39934f1521fdeffde6a62750330407b7fa9
  0x71489cc438a17df7d26f3bf893629a8abfea15e7bab9b7e5e2fa43e86d8ce37fe11b684f46f1ad5251840690dc6df767
/-- The nonce of `a` lives, its key is enrolled; `others` are the other entries. -/
def signedSt (a : OwnerAuth) (others : List (List Byte)) : State :=
  { base with fuses := { base.fuses with ownerKeyHash := others.set a.keyEntry (sha384 a.pub) }, sec := { base.sec with nonce := some (a.nonce, 1) } }
def noKeys : List (List Byte) := [[], [], [], []]
def isSigned (s : State) (code : Nat) (a : OwnerAuth) (args : List Byte) : Bool :=
  s.mailboxUp && !s.nonceOld && s.sec.nonce.map (·.1) == some a.nonce && s.ownerKeyOk a.keyEntry a.pub &&
  ecdsaOk a.pub (leBytes 2 code ++ a.nonce ++ leBytes 8 s.fuses.serial ++ args) a.sig
theorem signed_of_check {s : State} {code : Nat} {a : OwnerAuth} {args : List Byte} (h : isSigned s code a args = true) : Safety.Signed s code a args := by
  unfold isSigned at h
  simp only [Bool.and_eq_true, Bool.not_eq_true', beq_iff_eq] at h
  exact ⟨h.1.1.1.1, h.1.1.1.2, h.1.1.2, h.1.2, h.2⟩
theorem test_signed_locks : Safety.Signed (signedSt lockAuth noKeys) 1 lockAuth [] ∧
    Safety.Signed { signedSt lockAuth noKeys with host := { base.host with fwReady := true } } 1 lockAuth [] ∧
    Safety.Signed (signedSt unlockAuth noKeys) 2 unlockAuth [] :=
  ⟨signed_of_check (by decide +kernel), signed_of_check (by decide +kernel), signed_of_check (by decide +kernel)⟩
theorem test_signed_enrol : Safety.Signed (signedSt (enrolAuth 0) noKeys) 3 (enrolAuth 0) (leBytes 1 1 ++ zeros 97) ∧
    Safety.Signed (signedSt (enrolAuth 1) noKeys) 3 (enrolAuth 1) (leBytes 1 1 ++ zeros 97) :=
  ⟨signed_of_check (by decide +kernel), signed_of_check (by decide +kernel)⟩
theorem test_signed_revoke : Safety.Signed (signedSt (revokeAuth 1) [[1], [], [], []]) 4 (revokeAuth 1) (leBytes 1 0) ∧
    Safety.Signed (signedSt (revokeAuth 0) [[], [], [1], []]) 4 (revokeAuth 0) (leBytes 1 0) ∧
    Safety.Signed (signedSt (revokeAuth 0) noKeys) 4 (revokeAuth 0) (leBytes 1 0) :=
  ⟨signed_of_check (by decide +kernel), signed_of_check (by decide +kernel), signed_of_check (by decide +kernel)⟩
theorem test_signed_others : Safety.Signed (signedSt retireAuth noKeys) 5 retireAuth [] ∧ Safety.Signed (signedSt clearAuth noKeys) 6 clearAuth (leBytes 1 0) ∧
    Safety.Signed (signedSt clear2Auth noKeys) 6 clear2Auth (leBytes 1 2) :=
  ⟨signed_of_check (by decide +kernel), signed_of_check (by decide +kernel), signed_of_check (by decide +kernel)⟩
theorem test_owner : (run (.lock lockAuth) (signedSt lockAuth noKeys)).flash.security.ownerLock = true ∧
    (signedSt (enrolAuth 0) noKeys).fuses.ownerKeyHash.getD 1 [] = [] ∧ ((signedSt (enrolAuth 1) noKeys).fuses.ownerKeyHash.getD 1 []).isEmpty = false ∧
    (run (.revoke (revokeAuth 1) 0) (signedSt (revokeAuth 1) [[1], [], [], []])).fuses.ownerRevoke = 1 ∧
    (run (.revoke (revokeAuth 0) 0) (signedSt (revokeAuth 0) noKeys)).host.lastCause = Cause.planReject ∧
    ((run (.recorderClear clearAuth 0) (signedSt clearAuth noKeys)).recorder.ring.map (·.type)) = [0x8004] := by decide +kernel
theorem test_owner_nonce : (base.sec.nonce.map (·.1) ≠ some lockAuth.nonce) ∧
    (clock 60000000002 (signedSt lockAuth noKeys)).nonceOld = true ∧ (run (.lock lockAuth) base).host.lastCause = Cause.authFail := by decide +kernel

def qe0 : List Byte := pointBytes (some curveG)
def shipSt : State := { base with sec := { base.sec with identityKeys := true } }
theorem test_provision : qe0.length = 97 ∧ (zeros 96).length = 96 ∧ (zeros 16).length = 16 ∧ shipSt.fuses.lifecycle = 1 ∧ shipSt.sec.identityKeys = true := by
  decide +kernel
/-- The provisioning key of `qe0` and the tag of 96 zero bytes under it. -/
def provKey : List Byte := beBytes 32 0xf5567ee763bccbe3bc60d25c7b4949b560c7b590a83e57f11ba0c2696dc831b9
def provTag : List Byte := beBytes 16 0x7d565da9af207961fbee5a980ff99d75
theorem test_provision_key : shipSt.provisionKey qe0 = some provKey := by decide +kernel
theorem test_provision_tag : gcmTag provKey (zeros 12) (leBytes 8 0) (zeros 96) = provTag ∧ provTag ≠ zeros 16 ∧ provTag.length = 16 := by decide +kernel

/-! ## Bring-up, resets and power (16_power R563 to R612) -/

/-- A signed firmware image of 217 bytes (18_configuration R622) whose key is 5 × G. -/
def fwPub : List Byte := 4 :: beBytes 48 0xd3ec4dfce2647725100dabea7b5f59f465848a4b4fbb6080ac96ddf237f84f4fbc1247651c2770d2cebab9fd2412dfb ++
  beBytes 48 0x20168ac65e9bb101ebaa167fa90635f939f00d1d90ed0c6d97495c4579bb950ce059c219dfbbc32b3f9b162e47634690
def fwBytes : List Byte :=
  leBytes 4 0x5746444B ++ leBytes 2 1 ++ [1, 0] ++ leBytes 4 217 ++ leBytes 4 3 ++ zeros 8 ++ fwPub ++
  beBytes 48 0x6460f955efdcbf3bf7393081ddf04a64747781bc8956c1e5ff47be522f7f758244ae054e91e8aa160c76dc7302bcf181 ++
  beBytes 48 0x683f042ccc692617db8584733c1b70594dc024862193ae019dc982ffacb3deffee8fbc12536ff0463d8b9bc766af3c15
theorem test_fw_signed : fwSignatureOk (Memory.write [] 0 fwBytes) = true := by decide +kernel
def plainFuses : Fuses :=
  { State.reset.fuses with vendorKeyHash := [sha384 fwPub, []], clusterGood := List.replicate 8 0xFF, coreGood := List.replicate 8 (List.replicate 9 0xFFFF) }
def goodFuses : Fuses := { plainFuses.sealed with repairCrc := crcOf plainFuses.repair }
theorem test_blank_fuses : State.reset.fuses.fuseCrcOk = true ∧ State.reset.fuses.repairCrcOk = true := by decide +kernel
/-- The module at a stage of its bring-up, with a good firmware image in slot A. -/
def bootSt (b : Boot) (f : Fuses) : State :=
  { State.reset with fuses := f, power := { State.reset.power with boot := b, vbulk := 5400 }, image := some img0
                     flash := { State.reset.flash with fwA := { bytes := Memory.write [] 0 fwBytes, header := true } } }
theorem fw_ok (s : State) (b : Bool) (h : ((s.fwSlotOf b).header && s.fwHeaderOk (s.fwSlotOf b).bytes) = true) (hb : (s.fwSlotOf b).bytes = Memory.write [] 0 fwBytes) :
    s.fwSlotOk b = true := by
  have h2 := test_fw_signed
  rw [← hb] at h2
  simp only [State.fwSlotOk, h, h2, Bool.and_self]
theorem test_input_start : State.reset.power.boot = .off ∧ State.reset.power.holdup = 0 ∧ State.reset.power.faultLatched = false ∧
    run (.inputStart 47999) State.reset = State.reset ∧ (run (.inputStart 48000) State.reset).power.boot = .charging ∧ (run (.inputStart 66000) State.reset).power.vin = 6600 := by
  decide +kernel
theorem test_bulk_charged : (bootSt .charging goodFuses).power.resetHeld = false ∧
    (run (.bulkCharged 2200 (strapsOf [1, 2, 3, 4, 5, 6, 1]) (strapsOf [1, 2, 3, 4, 5, 6, 1])) (bootSt .charging goodFuses)).power.state = .bringup ∧
    (run (.bulkCharged 2200 (strapsOf [1, 2, 3, 4, 5, 6, 1]) (strapsOf [1, 2, 3, 4, 5, 6, 0])) (bootSt .charging goodFuses)).power.state = .fault := by decide +kernel
theorem test_headstock : (bootSt .standby goodFuses).power.state ≠ .fault ∧ (bootSt .standby goodFuses).fuses.fuseCrcOk = true ∧
    (bootSt .standby goodFuses).fuses.repairCrcOk = true ∧ (bootSt .standby goodFuses).repairOk = true ∧ (bootSt .standby goodFuses).power.tamper = false ∧
    (bootSt .standby goodFuses).bootRecord.trial = false ∧ (bootSt .standby goodFuses).fwSlotOk (slotBit (bootSt .standby goodFuses).bootRecord.active) = true ∧
    (run .headstockRailsGood (bootSt .standby { goodFuses with crc := 0 })).power.state = .fault :=
  ⟨by decide +kernel, by decide +kernel, by decide +kernel, by decide +kernel, by decide +kernel, by decide +kernel,
    fw_ok _ _ (by decide +kernel) (by rfl), by decide +kernel⟩
theorem test_channels : (bootSt .firmware goodFuses).power.state ≠ .fault ∧ (run .firmwareRunning (bootSt .headstock goodFuses)).power.boot = .firmware ∧
    (∀ c ∈ [96], 96 ≤ c) ∧ (bootSt .firmware goodFuses).cfgOrder = [] ∧ (run (.channelsTrained [96]) (bootSt .firmware goodFuses)).power.boot = .channels ∧
    (run (.channelsTrained [96]) (bootSt .firmware goodFuses)).power.state = .fault ∧ (∃ c ∈ [3], c < 96) ∧
    ((run (.channelsTrained [3]) (bootSt .firmware goodFuses)).tiers.channels.at 3).state = 3 := by decide +kernel
theorem test_image_verified : (bootSt .channels goodFuses).img.keys = [] ∧ (run .imageVerified (bootSt .channels goodFuses)).power.boot = .verified := by
  decide +kernel
def waveSt (b : Boot) (w : Nat) (z : Bool) : State :=
  withImg (fun i => { i with startHold := true }) { bootSt b goodFuses with power := { (bootSt b goodFuses).power with wave := w, zeroing := z } }
theorem test_waves : (waveSt .verified 0 false).power.state = .bringup ∧ (run .wave (waveSt .verified 0 false)).power.wave = 1 ∧
    (run .wave (waveSt .waves 7 false)).power.wave = 8 ∧ (0 : Nat) ∈ (waveSt .waves 7 false).coreList ∧
    (run (.lastWaveDone []) (waveSt .waves 8 true)).power.boot = .pool ∧ (run (.lastWaveDone [3]) (waveSt .waves 8 false)).host.job = .waitStart ∧
    (waveSt .pool 8 true).img.startHold = true ∧ (run .zeroingComplete (waveSt .pool 8 true)).power.boot = .ready ∧
    (run .zeroingComplete (waveSt .waves 8 true)).power.zeroing = false := by decide +kernel

/-- READY, or with a reset in a phase; the CXL link up and no job. -/
def readySt (rs : List ResetRun) : State := { base with power := { base.power with resets := rs }, host := { base.host with job := .ended } }
def resetRun (phase waves : Nat) (thermal : Bool) : ResetRun := { dies := [2], phase := phase, wavesDone := waves, thermal := thermal }
theorem test_full_reset : base.power.holdup = 0 ∧ base.power.resetHeld = false ∧ base.power.boot ≠ .off ∧ base.power.boot ≠ .charging ∧ base.mailboxUp = true ∧
    base.host.starting = none ∧ base.ck.restoring = 0 ∧ base.host.ending = false ∧ base.power.restPhase ≠ 2 ∧ base.host.xfer = none ∧
    (run (.fullReset .mailbox) base).power.boot = .standby ∧ (run (.computeReset .mailbox) { base with ck := { base.ck with restoring := 1 } }).host.reply = Rc.busy.code := by
  decide +kernel
theorem test_compute_reset : (∀ r ∈ base.power.resets, r.compute = false) ∧ (run (.computeReset .mailbox) (live 7 0 base)).host.job = .halted ∧
    ((run (.computeReset .mailbox) (live 7 0 base)).queue 0 7).halted = true ∧
    (run (.computeReset .restore) { base with ck := { base.ck with restoring := 1 } }).power.computeCount = 1 := by decide +kernel
theorem test_die_reset : base.power.resets = [] ∧ (run (.dieReset 7 .firmware) base).power.diesUp = 0x7F ∧ (run (.dieReset 0 .mailbox) (live 7 0 base)).host.job = .halted ∧
    ((run (.dieReset 0 .mailbox) (live 7 0 base)).queue 0 7).halted = true := by decide +kernel
theorem test_reset_steps : (readySt [resetRun 1 0 false]).copyIntact = true ∧ (run .computeRailsOff (readySt [resetRun 1 0 false])).power.resets = [resetRun 3 0 false] ∧
    (run .computeRailsOff (readySt [resetRun 1 0 true])).power.state = .thermalHold ∧
    ((run (.thermalHoldExit 85) { readySt [resetRun 2 0 true] with power := { (readySt [resetRun 2 0 true]).power with state := .thermalHold } }).power.resets) = [resetRun 3 0 false] ∧
    (run .wave (readySt [resetRun 3 7 false])).power.resets = [resetRun 3 8 false] ∧ (run .resetWavesDone (readySt [resetRun 3 8 false])).power.resets = [] ∧
    run .resetWavesDone (readySt [resetRun 3 7 false]) = readySt [resetRun 3 7 false] := by decide +kernel
theorem test_thermal_trip : (run (.thermalTrip 7 110) base).power.trips = 1 ∧ run (.thermalTrip 7 109) base = base := by decide +kernel
def resetNSt : State := { base with power := { base.power with resetNLow := some 1 } }
theorem test_reset_n : base.power.resetNLow = none ∧ (run .resetNLow base).power.full = true ∧ run .resetNLow resetNSt = resetNSt ∧
    (run .resetNHeld resetNSt).power.boot = .charging ∧ (run .resetNRelease resetNSt).power.resetNLow = none := by decide +kernel

theorem test_input : { base.power with switchOpen := false }.switchOpen = false ∧
    (run (.overcurrent 100001) { base with power := { base.power with switchOpen := false } }).power.switchOpen = true ∧
    run (.overcurrent 100000) base = base ∧ (run (.inputLow 46000) base).power.inputLow = true ∧ (run (.inputLow 49999) base).power.powerCap = true ∧
    (run (.inputLowClear 50000) base).power.vin = 5000 := by decide +kernel
theorem test_input_loss : (run (.inputLoss 45999) base).power.holdup = 1 ∧ (run (.overvoltage 63001) base).power.switchOpen = true := by decide +kernel
def holdSt (n : Nat) : State := { base with power := { base.power with holdup := n } }
theorem test_holdup : (run .holdupThrottled (holdSt 1)).power.holdup = 2 ∧ (run .holdupFlushDone (holdSt 2)).power.boot = .off ∧
    (run .holdupRailsOff (holdSt 3)).power.holdup = 4 := by decide +kernel
theorem test_edge_die : (run (.edgeThermalShutdown 9 110) base).power.state = .fault ∧ ((run (.thermalThrottle 7 105) base).governors.at 7).working = 90000 ∧
    ((run (.thermalThrottle 7 105) base).governors.at 7).thermalLimited = true ∧ run (.thermalThrottle 7 104) base = base := by decide +kernel
def restingSt (ph waves : Nat) : State := { readySt [] with power := { (readySt []).power with restPhase := ph, wakeWaves := waves, diesUp := 0 } }
theorem test_rest : (readySt []).mailboxUp = true ∧ (readySt []).jobBusy = false ∧ (readySt []).power.state = .ready ∧ (run .rest (readySt [])).power.restPhase = 1 ∧
    base.jobBusy = false ∧ (run .rest base).host.lastCause = Cause.planReject ∧ (restingSt 1 0).jobBusy = false ∧ (run .wake (restingSt 1 0)).power.restPhase = 2 ∧
    (run .wakeWave (restingSt 2 6)).power.wakeWaves = 7 ∧ (run .wakeWave (restingSt 2 7)).power.diesUp = 0xFF := by decide +kernel
def cxlSt : State := { base with host := { base.host with cxlUp := false }, power := { base.power with refclkOk := true } }
theorem test_cxl : (∀ c ∈ base.cores, c.2.xf.open_ = []) ∧ cxlSt.power.refclkOk = true ∧ cxlSt.power.perstLow = false ∧
    (run .cxlLinkUp cxlSt).host.cxlUp = true ∧
    (run (.refclkChange true (-301)) base).power.refclkOk = false ∧ (run .cxlLinkDown (run .perstN base)).host.cxlUp = false := by decide +kernel

/-! ## The I3C target (18_configuration R650, R651) -/

def armedSt (holdup rest : Nat) : State :=
  { base with host := { base.host with i3cArmedAt := some 900000000 }, power := { base.power with holdup := holdup, restPhase := rest } }
theorem test_i3c_read : State.reset.standbyOn = false ∧ base.standbyOn = true ∧ 0x1FFFC0 + 64 ≤ 0x200000 ∧
    (run (.i3cRead 0x100000) base).host.i3cOut.length = 64 ∧ (bootSt .charging goodFuses).standbyOn = true ∧ (bootSt .charging goodFuses).edgePowered = false ∧
    (run (.i3cRead 0x200000) (bootSt .charging goodFuses)).host.i3cOut = List.replicate 64 0xFF := by decide +kernel
theorem test_i3c_arm : (run (.i3cArm 0xC3A5) base).host.i3cArmedAt = some 1000000000 ∧ run (.i3cArm 0xA5C3) base = base ∧
    (armedSt 0 0).now ≤ 900000000 + 100000000 ∧ (run .i3cCold (armedSt 0 0)).power.coldAsked = true ∧ (run .i3cFull (armedSt 0 0)).power.full = true ∧
    (run .i3cWake (armedSt 0 1)).power.restPhase = 2 ∧ 900000000 + 100000000 < (clock 1000000001 (armedSt 0 0)).now ∧
    run .i3cCold (clock 1000000001 (armedSt 0 0)) = clock 1000000001 (armedSt 0 0) := by decide +kernel
def addrSt : State := { base with host := { base.host with i3cAddr := some 9 }, power := { base.power with slot := 5 } }
/-- The static address of slot 5 is 0x45 (16_power R567 and 18_configuration R650 worked case). -/
theorem test_i3c_address : (run (.setdasa 0x45 9) { addrSt with host := base.host }).host.i3cAddr = some 9 ∧ (run .rstdaa addrSt).host.i3cAddr = none ∧
    base.host.i3cAddr = none ∧ run (.entdaa 3) addrSt = addrSt ∧ (run .getpid addrSt).host.i3cOut.length = 6 ∧ run .getpid base = base := by decide +kernel
theorem test_recorder_order : State.reset.recorderOrder [(0, 0), (48, 0), (128, 0)] = [(0, 0), (128, 0), (48, 0)] ∧
    State.reset.pinLevels = [false, true, true, true, true] ∧ base.pinLevels.head? = some false := by decide +kernel

/-! ## Transfers and the mailbox (18_configuration R617 to R648) -/

/-- A signed configuration image of 256 bytes whose key is `fwPub`, owner key entry 1. -/
def cfgBytes : List Byte :=
  leBytes 4 0x4943444B ++ leBytes 2 1 ++ leBytes 2 1 ++ leBytes 4 256 ++ leBytes 4 0 ++ leBytes 8 1 ++ [0, 1, 1] ++ zeros 5 ++ fwPub ++ zeros 31 ++
  beBytes 48 0x6460f955efdcbf3bf7393081ddf04a64747781bc8956c1e5ff47be522f7f758244ae054e91e8aa160c76dc7302bcf181 ++
  beBytes 48 0x02f72ce030db0b86668a13272e6ebb61b95e9569b3cccc7aabff690a69123b3aa7fdd0eb6a36bc00a614ad6cf0b32eba
/-- Updates are allowed: no job, the input at 54 V, the hold-up capacitor charged. -/
def updSt : State :=
  { readySt [] with power := { base.power with vin := 5400, cap := 2200, switchOpen := false }
                    fuses := { goodFuses with lifecycle := 2, ownerKeyHash := [[], sha384 fwPub, [], []] } }
def lockedSt : State := { updSt with flash := { updSt.flash with security := { updSt.flash.security with ownerLock := true } } }
theorem test_first_part : updSt.mailboxUp = true ∧ updSt.updateRefusal = none ∧ updSt.firstRefusal false 2 0 cfgBytes = none ∧ cfgBytes.length = 256 ∧
    lockedSt.firstRefusal false 2 0 cfgBytes = some (.securityState, Cause.authFail) ∧ updSt.firstRefusal true 1 0 [] = some (.invalidSlot, Cause.planReject) ∧
    (run (.cfgTransferInitiate 2 0 cfgBytes) updSt).host.xfer.map (·.sum) = some 256 ∧ (run (.cfgTransferInitiate 2 0 cfgBytes) lockedSt).flash = lockedSt.flash := by
  decide +kernel
def openX (sum : Nat) (head : List Byte) (at_ : Nat) : OpenXfer := { firmware := false, slot := 2, sum := sum, head := head, lastAt := at_ }
theorem test_open_transfer : (updSt.openTransfer false 2 cfgBytes).host.xfer = some (openX 256 cfgBytes 1000000000) := by decide +kernel
theorem test_image_whole : (updSt.openTransfer false 2 cfgBytes).imageWhole false (openX 256 cfgBytes 1000000000) = 0 := by decide +kernel
theorem test_image_short : (updSt.openTransfer false 2 (cfgBytes ++ [0])).imageWhole false (openX 257 (cfgBytes ++ [0]) 1000000000) = Cause.planReject := by
  decide +kernel
def partSt (n at_ : Nat) : State := { updSt with host := { updSt.host with xfer := some (openX n (cfgBytes.take n) at_) } }
theorem test_parts : (partSt 128 1).openPart false 2 1 = some (openX 128 (cfgBytes.take 128) 1) ∧ 128 + (cfgBytes.drop 128).length ≤ slotSize false ∧
    updSt.openPart false 2 1 = none ∧ (partSt 128 1).openPart false 2 2 = none ∧
    (run (.cfgTransferContinue 2 1 (cfgBytes.drop 128)) (partSt 128 1)).host.xfer = some (openX 256 cfgBytes 1000000000) ∧
    (run (.cfgTransferContinue 2 2 []) (partSt 128 1)).host.reply = Rc.transferOutOfOrder.code ∧ (run .cfgTransferAbort (partSt 128 1)).host.xfer = none ∧
    (run .transferIdleTimeout (clock 30000000000 (partSt 128 1))).host.xfer = (partSt 128 1).host.xfer ∧
    (run .transferIdleTimeout (clock 30000000001 (partSt 128 1))).host.xfer = none := by decide +kernel
theorem test_last_part : ((partSt 128 1).addPart false (openX 128 (cfgBytes.take 128) 1) (cfgBytes.drop 128)).host.xfer = some (openX 256 cfgBytes 1000000000) ∧
    ((partSt 64 1).addPart false (openX 64 (cfgBytes.take 64) 1) (cfgBytes.drop 128)).imageWhole false (openX 192 (cfgBytes.take 64 ++ cfgBytes.drop 128) 1) ≠ 0 := by
  decide +kernel
/-- Firmware runs from slot B; slot A holds a good image. -/
def slotBSt (trial : Bool) : State :=
  { updSt with host := { updSt.host with fwSlot := true, fwTrial := trial }
               flash := { updSt.flash with fwA := { bytes := Memory.write [] 0 fwBytes, header := true }, fwB := { bytes := Memory.write [] 0 fwBytes, header := true } } }
theorem test_activate : (slotBSt false).fwSlotOk (1 == 2) = true ∧ (slotBSt false).activeSlot true = 2 ∧ (slotBSt false).updateRefusal = none :=
  ⟨fw_ok _ _ (by decide +kernel) (by rfl), by decide +kernel, by decide +kernel⟩
theorem test_trial : (slotBSt true).host.fwTrial = true ∧ (slotBSt true).power.boot = .ready ∧ (slotBSt true).holdupReady = true ∧ 5200 ≤ (slotBSt true).power.vin ∧
    (run .fwConfirm (slotBSt true)).fuses.rollback = 3 ∧ (run .fwConfirm (slotBSt false)).host.lastCause = Cause.planReject ∧
    (slotBSt true).host.trialAt + 600000000000 ≤ (clock 600000000000 (slotBSt true)).now ∧
    (run .trialTimeout (clock 600000000000 (slotBSt true))).power.full = true ∧ run .trialTimeout (slotBSt false) = slotBSt false := by decide +kernel
theorem test_mailbox : (run .getFwInfo base).host.output.length = 80 ∧ (0xC0FF : Nat) ∉ opcodes ∧ (0x0200 : Nat) ∈ opcodes ∧
    (run (.unsupportedOpcode 0xC0FF) base).host.reply = Rc.unsupported.code ∧ (run (.doeDiscovery 2) base).host.doe = [0x98, 0x1E, 2, 0] ∧
    (run (.tableAccess 0) base).host.doe.length = 20 := by decide +kernel
def waitStartSt : State := { siteSt upPort with host := { base.host with job := .waitStart } }
def oneModule : State := withImg (fun i => { i with axes := [1, 1, 1, 1] }) { base with host := { base.host with job := .waitStart } }
theorem test_job_start : oneModule.linksReady = true ∧ oneModule.power.state = .ready ∧ oneModule.ck.claiming = none ∧ oneModule.img.startRestore = false ∧
    oneModule.wantsPartner = false ∧ (run .jobStart oneModule).host.job = .running ∧ waitStartSt.linksReady = false ∧ waitStartSt.mailboxUp = true ∧
    (run .jobStart waitStartSt).host.starting = some 1000000000 ∧ (run .jobStart waitStartSt).jobBusy = true ∧ (run .jobStart base).host.lastCause = Cause.planReject := by
  decide +kernel
theorem test_job_stop : (run .jobStop (jobSt .halted)).host.job = .ended ∧ base.stepInProgress = false ∧ (∀ t ∈ base.ck.targets, t.2.due = none) ∧
    (run .jobStop base).host.job = .ended ∧ { base with gate := { base.gate with step := 1 } }.stepInProgress = true ∧
    (run .jobStop { base with gate := { base.gate with step := 1 } }).host.ending = true ∧ (run .jobStop (jobSt .ended)).host.lastCause = Cause.planReject := by
  decide +kernel

/-! ## Intake, result rings and registers (18_configuration R636 to R646) -/

def ring0 : RingCfg := { nb := 2, bufSize := 128, consumers := [(0, 3), (0, 4)], releaseCore := 0, releaseCtr := 5 }
/-- One intake ring, its first buffer with a header; 3 buffers released. -/
def intakeSt (gen mb len : Nat) : State :=
  (((withImg (fun i => { i with rings := [ring0], intakeBase := 0x20000 }) base).modCore 0 (fun x =>
    { x with counters := [(5, { value := 3 })] })).poke (nearAddr 0x20000) (leBytes 8 gen ++ leBytes 8 mb ++ leBytes 4 len))
def found (s : State) : Intake := Machine.RingCfg.judge ring0 (s.host.intake.at 0) (s.peek (s.bufAddr 0 ring0 0) 64)
theorem test_intake : (intakeSt 1 0 64).img.rings[0]? = some ring0 ∧ found (intakeSt 0 0 64) = .waiting ∧ found (intakeSt 1 0 64) = .taken 1 ∧ found (intakeSt 1 1 64) = .skew ∧
    found (intakeSt 1 0 65) = .badHeader ∧ ring0.consumers.Nodup ∧ (((run (.intakePoll 0) (intakeSt 1 0 64)).core 0).counters.at 4).value = 1 ∧
    ((run (.intakePoll 0) (intakeSt 1 1 64)).host.intake.at 0).skew = true ∧ ((run (.intakePoll 0) (intakeSt 0 0 64)).host.intake.at 0).waiting = true ∧
    ((run (.intakeRelease 0) (intakeSt 1 0 64)).host.intake.at 0).released = 3 := by decide +kernel
theorem test_intake_again : (run (.intakePoll 0) (run (.intakePoll 0) (intakeSt 1 1 64))).free = (run (.intakePoll 0) (intakeSt 1 1 64)).free ∧
    run (.intakeRelease 0) (run (.intakeRelease 0) (intakeSt 1 0 64)) = run (.intakeRelease 0) (intakeSt 1 0 64) := by decide +kernel
def planRing : PlanRingCfg := { ring := 3, base := 0x30000, recSize := 64, nr := 4, core := 0, written := 7, free := 8, freeCount := 1 }
/-- Ring 3 is a PLAN ring with one record pending at index 5 and `w` written. -/
def planSt (w : Nat) : State :=
  ((withImg (fun i => { i with planRings := [planRing] })
    { base with host := { base.host with rings := [(3, { issued := 6, consumed := 5, recs := [{ index := 5, state := 1 }], ready := 5 })] } }).modCore 0 (fun x =>
      { x with counters := [(7, { value := BitVec.ofNat 32 w })] }))
theorem test_plan_record : (planSt 6).img.planRings.find? (fun p => p.ring == 3) = some planRing ∧
    ((planSt 6).host.rings.at 3).oldestPending = some { index := 5, state := 1 } ∧ run (.planRecordReady 3) (planSt 5) = planSt 5 ∧
    (((run (.planRecordReady 3) (planSt 6)).host.rings.at 3).recs.map (·.state)) = [2] ∧ (((run (.planRecordReady 3) (planSt 6)).host.rings.at 3).ready) = 6 := by
  decide +kernel
/-- That record complete. -/
def consumeSt : State :=
  { planSt 6 with host := { (planSt 6).host with job := .ended, rings := [(3, { issued := 6, consumed := 5, recs := [{ index := 5, state := 2 }], ready := 6 })] } }
theorem test_consume : ((planSt 6).host.rings.at 3).passesOpen 1 = true ∧ (run (.resConsumedWrite 3 6) (planSt 6)).host.hostErr = true ∧
    (consumeSt.host.rings.at 3).passesOpen 1 = false ∧ ((run (.resConsumedWrite 3 6) consumeSt).host.rings.at 3).consumed = 6 ∧
    (((run (.resConsumedWrite 3 6) consumeSt).core 0).counters.at 8).value = 1 := by decide +kernel
theorem test_registers : base.barUp = true ∧ State.reset.barUp = false ∧ (run (.registerWrite 0x9010 0x1FFF) base).commit.sel = 0xFFF ∧
    base.coreExists (cdCore 7 0x404) = true ∧ run (.registerWrite 0x100000 1) base = base ∧ (0x8000 : Word).getLsbD 15 = true := by decide +kernel

/-! ## The event recorder (19_event_recorder R653 to R671) -/

/-- Marks are held up to 0x1000000; one report waits. -/
def recSt (es : List EventRecord) : State :=
  { base with recorder := { base.recorder with firstMark := false, limit := 0x1000000, input := es } }
def report0 : EventRecord := { type := 0x0040, payload := leBytes 8 1 }
theorem test_recorder : base.recorder.firstMark = true ∧ State.reset.recorderOn = false ∧ base.recorderOn = true ∧
    ((run .eventReport base).recorder.ring.map (·.type)) = [0x8006] ∧ (recSt []).markDue = false ∧ (recSt [report0]).markDue = false ∧ (recSt [report0]).seqFree = true ∧
    run .eventReport (recSt []) = recSt [] ∧ ((run .eventReport (recSt [report0])).recorder.ring.map (·.seq)) = [1] ∧
    { recSt [] with recorder := { (recSt []).recorder with next := 0x1000001 } }.seqFree = false := by decide +kernel
def lostSt : State := { recSt [] with recorder := { (recSt []).recorder with lostCount := 2 } }
theorem test_lost : ((run .lost lostSt).recorder.ring.map (·.type)) = [0x0005] ∧ (run .lost lostSt).recorder.lostCount = 0 ∧ lostSt.recorder.criticalOnly = false := by
  decide +kernel
def mirrorRec : RingRecord := { seq := 4, type := 0x8060, len := 32 }
def mirrorSt : State := { base with recorder := { base.recorder with toMirror := [mirrorRec] } }
theorem test_mirror : mirrorHolds mirrorSt.flash.mirror0 mirrorRec = false ∧ mirrorHolds mirrorSt.flash.mirror1 mirrorRec = false ∧
    mirrorHolds (run (.mirrorAppend true true) mirrorSt).flash.mirror1 mirrorRec = true ∧ (run (.mirrorAppend false false) mirrorSt).recorder.mirrorFault = true := by
  decide +kernel
def telSt : State := withImg (fun i => { i with telemetry := 2 }) base
theorem test_telemetry : telSt.image ≠ none ∧ telSt.now < telSt.recorder.telemetryAt + telSt.img.telemetry * 1000000000 ∧
    ((run .telemetry (clock 2000000000 telSt)).recorder.input.map (·.payload.length)) = [4 * telemetryRegs.length] ∧ telSt.recorder.input = [] := by decide +kernel
theorem test_rec_read : base.sourceEnds 0 = (1, 0) ∧ newer 1 ((0 : Word) + 1) = false ∧ newer 2 ((0 : Word) + 1) = true ∧
    (run (.recRead 0 1 16) base).host.reply = Rc.success.code ∧ (run (.recRead 2 1 16) base).host.lastCause = Cause.planReject ∧
    (run (.recRead 0 1 15) base).host.reply = Rc.invalidInput.code ∧ (run (.recRead 0 2 16) base).host.reply = Rc.invalidInput.code := by decide +kernel

/-! ## Counters, elements, reset and memory -/

theorem test_counters : (([2 ^ 32 - 1, 3].foldl (fun x k => CoreSt.advance x 5 k) (default : CoreSt)).counters.at 5).value = 2 := by decide +kernel
theorem test_w36_values : decodeElem 10 0x3FE000000 = .fin false (2 ^ 25) (-25) ∧ decodeElem 10 0x800000001 = .fin true 1 (-535) ∧
    decodeElem 10 0xFFE000000 = .inf true ∧ decodeElem 10 0x7FE000001 = .nan := by decide +kernel
theorem test_mxint8 : decodeElem 8 0x81 = .fin true 127 (-6) ∧ (convElem 8 true none (.fin false 1000 0)).bits = 0x7F ∧ (convElem 8 true none (.fin true 1000 0)).bits = 0x81 := by
  decide +kernel
theorem test_memory_canonical : Safety.Inv (intakeSt 1 0 64) ∧ Safety.Inv { (intakeSt 1 0 64) with pending := [.intakePoll 0] } := by
  constructor <;> (unfold Safety.Inv; decide +kernel)
theorem test_step : step { intakeSt 1 0 64 with pending := [.intakePoll 0, .wait 0 1] } = exec (.intakePoll 0) { intakeSt 1 0 64 with pending := [.wait 0 1] } ∧
    step State.reset = .next State.reset.tick := ⟨rfl, rfl⟩

/-! ## Commands that WellFormed refuses: one for each check -/

theorem test_ill_formed_0 : ([
    .wait 1024 0, .wait 0 8, .addEntry 1024 0, .addEntry 0 8, .jump 1024 0, .jump 0 8,
    .endEntry 1024 0, .endEntry 0 8, .queueTimeout 1024 0, .queueTimeout 0 8, .launchArrival 1024 0, .launchArrival 0 8,
    .setLaunchInstant 64, .launchBroadcastReceive 64 0, .launchBroadcastReceive 0 8, .launchIssue 1024 0, .launchIssue 0 8, .lateLaunchIssue 1024 0,
    .lateLaunchIssue 0 8, .rampEnd 64, .setpointHoldEnd 8, .governorCompare 8 0, .powerAverage 8 0 0, .workingTargetRaise 8,
    .mm 1024 0, .mm 0 8, .mmTa 1024 0, .mmTa 0 8, .mmTb 1024 0, .mmTb 0 8,
    .gradW 1024 0, .gradW 0 8, .gradX 1024 0, .gradX 0 8, .tileComplete 1024, .expanderStall 1024 0,
    .expanderStall 0 2, .mxTokensLoRead 1024, .causeOrClear 1024 0, .load 1024 0] : List Instr).all (fun i => !i.wellFormed) = true := by rfl
theorem test_ill_formed_1 : ([
    .load 0 8, .loadWaitWake 1024, .tableWaitLimit 1024, .hold 1024 0, .hold 0 8, .release 1024 0,
    .release 0 8, .kernelStart 1024, .vector 1024 0, .vector 0 8, .vAdd 1024, .vSub 1024,
    .vMul 1024, .vFma 1024, .vMax 1024, .vMin 1024, .vAbs 1024, .vNeg 1024,
    .vRcp 1024, .vRsqrt 1024, .vExp2 1024, .vLog2 1024, .vCvt 1024, .vCmp 1024,
    .vSel 1024, .vAnd 1024, .vOr 1024, .vXor 1024, .vShl 1024, .vShr 1024,
    .vSar 1024, .vPlog 1024, .vPset 1024, .vTrn 1024, .vBrow 1024, .vBcol 1024,
    .vIota 1024, .vLd 1024, .vSt 1024, .vLdx 1024] : List Instr).all (fun i => !i.wellFormed) = true := by rfl
theorem test_ill_formed_2 (xGateTotals : GateTotals) : ([
    .vStx 1024, .vLdg 1024, .vStg 1024, .vLdp 1024, .vStp 1024, .vSset 1024,
    .vSseth 1024, .vSadd 1024, .vSaddr 1024, .vSmul 1024, .vSget 1024, .vSld 1024,
    .vSst 1024, .vJmp 1024, .vBnz 1024, .vLoop 1024, .vEnd 1024, .vRclr 1024,
    .vRfeed 1024, .vRget 1024, .vRtap 1024, .kernelTimeout 1024, .vxTokensLoRead 1024, .flagsOrClear 1024 0,
    .tree 1024 0, .tree 0 8, .sum 1024 0, .sum 0 8, .rows 1024 0, .rows 0 8,
    .tapread 1024 0, .tapread 0 8, .dispatch 1024 0, .dispatch 0 8, .dispatchDone 1024 0, .combine 1024 0,
    .combine 0 8, .gateContribution 1024, .gateTotalsMessage 4 0 xGateTotals, .selectorAdvance 1024] : List Instr).all (fun i => !i.wellFormed) = true := by rfl
theorem test_ill_formed_3 (xPoolStatus : PoolStatus) (xPortIdentity : PortIdentity) : ([
    .innerSegment 1024 0, .innerSegment 0 8, .previousStepResume 1024, .slotReleaseResume 1024, .stagedResume 1024, .chunkWriteback 1024,
    .segmentFailReport 1024, .shardCommit 4096, .digestExchange 4096 0 0, .deferralLimit 1024, .updStepLoRead 1024, .copy 1024 0,
    .copy 0 8, .stage 1024 0, .stage 0 8, .writeback 1024 0, .writeback 0 8, .strobeStep 96,
    .channelRetrain 96 false, .refresh 96 0, .dramTemperatureReport 96 false, .poolCompletion 0 0 xPoolStatus (zeros 65), .detect 8 0, .equalize 8 false,
    .laneMap 8 (List.replicate 17 ⟨0, 0⟩) 0, .laneMap 0 [] 0, .laneMap 0 (List.replicate 17 ⟨0, 0⟩) 131072, .align 8 false, .exchange 8 xPortIdentity, .identitySend 8,
    .configuredWaitLimit 8, .attemptTimeout 8, .miscabledRetry 8, .noValidFrame 8, .laneErrorLimit 8 0 0 0, .laneErrorLimit 0 17 0 0,
    .laneRetest 8 ⟨List.replicate 17 ⟨0, 0⟩, 0⟩, .laneRetest 0 ⟨[], 0⟩, .laneRetest 0 ⟨List.replicate 17 ⟨0, 0⟩, 131072⟩, .lanePropose 8 0 0, .lanePropose 0 131072 0, .lanePropose 0 0 65536] : List Instr).all (fun i => !i.wellFormed) = true := by rfl
theorem test_ill_formed_4 (xCloseBody : CloseBody) (xDeltaFragment : DeltaFragment) (xFrnHeader : FrnHeader) (xHeartbeatBody : HeartbeatBody) (xProposeBody : ProposeBody) : ([
    .laneAccept 8 0 0, .laneAccept 0 131072 0, .laneAccept 0 0 65536, .laneSwitch 8, .laneSwitchTimeout 8,
    .frame 0 0 [] [], .frame 0 65536 (zeros 1280) (List.replicate 1088 0), .inServiceRetrain 8 false, .tc0Window 8 0, .write 8, .completion 8, .refused 8,
    .refusedRetry 16777216, .retryWindowEnd 16777216, .epochEnd 8, .epochAck 8, .epochClose 8, .drainLimit 65536,
    .linkState 0 65536 0 false 0, .linkState 0 0 8 false 0, .openTransferTimeout 2 0 0, .openTransferTimeout 0 65536 0, .openTransferTimeout 0 0 16777216, .sourceTransferTimeout 16777216,
    .haltMessage 0 65536 0, .wakeMessage 65536, .partnerClaim 8 0, .partnerClaim 0 65536, .partnerRefusal 8, .heartbeat { xFrnHeader with wanPort := 4 } xHeartbeatBody,
    .reachabilityLapse 16, .routeDown 16 false, .delta { xFrnHeader with wanPort := 4 } xDeltaFragment [], .ack { xFrnHeader with wanPort := 4 } [], .ackSend 16, .packetResend 16 0,
    .streamPause 16, .propose { xFrnHeader with wanPort := 4 } xProposeBody, .accept { xFrnHeader with wanPort := 4 } 0 0, .close { xFrnHeader with wanPort := 4 } xCloseBody] : List Instr).all (fun i => !i.wellFormed) = true := by rfl
theorem test_ill_formed_5 (xDataBody : DataBody) (xFetchBody : FetchBody) (xFrnHeader : FrnHeader) (xJoinBody : JoinBody) (xResetSource : ResetSource) (xSlotLoad : SlotLoad) : ([
    .fetch { xFrnHeader with wanPort := 4 } xFetchBody, .data { xFrnHeader with wanPort := 4 } xDataBody, .digest { xFrnHeader with wanPort := 4 } 0 0, .join { xFrnHeader with wanPort := 4 } xJoinBody, .deltaForm 4096 0, .deltaForm 0 1024,
    .wanSend 16, .wanFetch 16, .outerSegment 4096 0, .outerSegment 0 1024, .recoveryFailover 16, .recoveryRoutesDown 16,
    .gracePeriodEnd 16, .neighborSolicitation 4 [] [], .arpRequest 4 [] [], .echoRequest 4 [] [], .packetTooBig 4 0, .ckShard 1024 0,
    .ckShard 0 8, .ckState 1024 0, .ckState 0 8, .targetWriteDone 4, .targetWriteFail 4 0, .checkpointSeal 4,
    .encrypt 4 0, .decrypt 4 0, .mac 4 0, .keySlotLoad 4 0 xSlotLoad, .keySlotLoad 0 48 xSlotLoad, .slotCtrLoRead 4,
    .dieReset 256 xResetSource, .edgeThermalShutdown 7 0, .edgeThermalShutdown 10 0, .thermalTrip 8 0, .thermalThrottle 8 0, .intakePoll 16,
    .intakeRelease 16, .planRecordReady 16, .resConsumedWrite 16 0, .combineDone 1024 0] : List Instr).all (fun i => !i.wellFormed) = true := by rfl
theorem test_ill_formed_6 : ([
    .wanPortDown 4 false false, .wanPortUp 4, .partnerAcceptance 8, .copyRegionRequest 8, .shardExportRequest 65536 0, .shardExportRequest 0 4096] : List Instr).all (fun i => !i.wellFormed) = true := by rfl
theorem test_well_formed : ([.wait 1023 7, .laneErrorLimit 7 16 0 0, .edgeThermalShutdown 9 0, .shardExportRequest 65535 4095] : List Instr).all Instr.wellFormed = true := by decide +kernel
theorem test_ill_formed_frame : ([.frame 8 0 [] [], .frame 0 0 (zeros 1279) [], .frame 0 0 (zeros 1280) (1024 :: List.replicate 1087 0)] : List Instr).all (fun i => !i.wellFormed) = true := by
  decide +kernel

/-! ## Worked cases of the specification -/

/-- An FP32 block to MXFP4 E2M1 (03_tensor, first worked case): codes and scale byte. -/
def block0 : List Val := [0x3F400000, 0xC0266666, 0x41300000, 0x40200000, 0xBE99999A, 0x40A66666, 0, 0x3FB33333].map fp32 ++ List.replicate 24 (fp32 0)
theorem test_case_mxfp4 : (convComputed 7 true (List.replicate 32 none) block0).scale = 0x80 ∧
    packBits 4 ((convComputed 7 true (List.replicate 32 none) block0).elems.map (·.bits)) = 0x105827B1 := by decide +kernel
/-- KL8 and BF16, to nearest and stochastically (03_tensor, second worked case). -/
theorem test_case_kl8 : (convComputed 9 true [none, none] [fp32 0x40400000, fp32 0xC0400000]).scale = 0x79 ∧
    ((convComputed 9 true [none, none] [fp32 0x40400000, fp32 0xC0400000]).elems.map (·.bits)) = [0x7D, 0xFD] ∧
    toFp32 (decodeScaled 9 0x79 0x7D) = 0x40456700 ∧ (convElem 1 true none (fp32 0x40456700)).bits = 0x4045 ∧
    (convElem 1 true (some 0xA3C1) (fp32 0x40456700)).bits = 0x4046 ∧ (convElem 1 true (some 0x1234) (fp32 0x40456700)).bits = 0x4045 := by decide +kernel
/-- Scale sums past the E8M0 range (04_dot, second worked case): W36, FP32, BF16 and a saturated E4M3 element. -/
theorem test_case_scale_sums : toW36 (.fin false 3 210) = 0x5A5000000 ∧ toFp32 (.fin false 3 210) = 0x7F800000 ∧ (convElem 1 true none (.fin false 3 210)).bits = 0x7F80 ∧
    (convComputed 3 true [none] [.fin false 3 210]).scale = 0xFE ∧ ((convComputed 3 true [none] [.fin false 3 210]).elems.map (·.bits)) = [0x7E] ∧
    toW36 (.fin false 3 (-230)) = 0x235000000 ∧ toFp32 (.fin false 3 (-230)) = 0 := by decide +kernel
/-- A far address on both variants (11_memory worked case). -/
theorem test_case_far_address : base.channelOf 0x20012000004A40 = (0x2C, 0xC40) ∧ { base with fuses := { base.fuses with variantM := true } }.channelOf 0x20012000004A40 = (0x50, 0xC40) := by decide +kernel
/-- The straps of the module at node 421 (17_module_signals worked case): FEED0 at 2.993 V and SLOT0 at 2.166 V. -/
def workedStraps : List StrapPin := (strapsOf [1, 2, 0, 0, 5, 2, 0]).set 0 (.level 2993000 3300000) |>.set 4 (.level 2166000 3300000)
theorem test_case_straps : (run (.bulkCharged 2200 workedStraps workedStraps) (bootSt .charging goodFuses)).power.feed = 0x21 ∧
    (run (.bulkCharged 2200 workedStraps workedStraps) (bootSt .charging goodFuses)).power.slot = 0x25 ∧ strapCode .unconnected = 0 ∧
    strapCode (.level 0 3300000) = 15 ∧ strapCode (.level 3300000 3300000) = 0 := by decide +kernel

/-! ## Further clauses -/

/-- A table operation of core `c` at the head of its queue 0, beside one of core 0. -/
def withTable (c w : Nat) (s : State) : State :=
  ((withImg (fun i => { i with cores := i.cores ++ [{ core := c, queues := List.replicate 8 (some 0), stepList := 0x1000 }] })
    (s.modQueue c 0 (fun k => { k with active := true, waitFrom := 1000000000 }))).poke (sramAddr c 0x1000)
      (leBytes 32 (word [(0, 4), (128, sramAddr c 0x2000)]))).poke (sramAddr c 0x2000) (leBytes 32 w)
/-- R202: a HOLD of the same moment comes before a LOAD, and the lower core's LOAD before the higher core's. -/
theorem test_table_order : (withTable 1 (tabWord 0x41 0 1) (tabSt 0x40 0 0)).holdDue 0 0 (TDesc.ofNat (tabWord 0x40 0 0)) = true ∧
    ((withTable 1 (tabWord 0x40 0 0) (tabSt 0x40 0 0)).tableDue 1 0) = some (TDesc.ofNat (tabWord 0x40 0 0)) ∧
    (withTable 1 (tabWord 0x40 0 0) (tabSt 0x40 0 0)).tableTurn 1 0 (TDesc.ofNat (tabWord 0x40 0 0)) = false ∧
    (withTable 1 (tabWord 0x40 0 0) (tabSt 0x40 0 0)).tableTurn 0 0 (TDesc.ofNat (tabWord 0x40 0 0)) = true ∧
    (waitingSt 0).holdDue 0 8 (TDesc.ofNat waitLoad.desc.toNat) = false := by decide +kernel

def predBad (op : Nat) : Nat := vWord op 0 1 6 0 0
theorem test_predicate_misaligned : isFetched (vecV (predBad 0x26)) {} (predBad 0x26) = true ∧ isFetched (vecV (predBad 0x27)) {} (predBad 0x27) = true ∧
    ((engineV.scalar 6).toNat + 0) % 2 ^ 64 % 32 ≠ 0 ∧ ((run (.vLdp 0) (vecV (predBad 0x26))).core 0).vx.lastFail = Cause.planReject ∧
    ((run (.vStp 0) (vecV (predBad 0x27))).core 0).vx.lastFail = Cause.planReject := by decide +kernel
/-- STX of T[2], T[3] to E4M3: bit 12 takes recipe 0, bit 13 asks for stochastic rounding, which only a segment's kernel may. -/
def stxWord (bits : Nat) : Nat := vWord 0x23 0 2 4 3 (3 * 256 + 4 + bits)
def stxSt (bits : Nat) (r : Running) (x : Recipe) : State :=
  (vecV (stxWord bits)).modCore 0 (fun c => { c with recipes := [(0, x)], vx := { engineV with run := some r } })
theorem test_stx_recipes : isFetched (stxSt 4096 {} {}) {} (stxWord 4096) = true ∧ isFetched (stxSt 8192 {} {}) {} (stxWord 8192) = true ∧
    (((stxSt 4096 {} {}).core 0).stxRecipe (vIs (stxWord 4096))).map (·.kind) = some 7 ∧ bitOf (vIs (stxWord 8192)).imm 13 = true ∧
    ((run (.vStx 0) (stxSt 4096 {} {})).core 0).vx.lastFail = Cause.planReject ∧ ((run (.vStx 0) (stxSt 8192 {} {})).core 0).vx.lastFail = Cause.planReject ∧
    ((run (.vStx 0) (stxSt 4096 {} { kind := 3, scale := 127 })).core 0).vx.run.map (·.pc) = some 1 ∧
    (stxNewScale 3 (some 100) ((stxSt 4096 {} { kind := 3, scale := 100 }).stxRows 0 (vIs (stxWord 4096)) engineV)).isSome = true ∧
    (run (.vStx 0) (stxSt 4096 {} { kind := 3, scale := 127 })).peekNat 4096 1 = 127 := by decide +kernel

def vectorFar : State := live 0 (word [(0, 2), (128, 8192), (152, 0x2000)]) base
theorem test_vector_far : Safety.Ready vectorFar 0 0 vectorFar (head vectorFar 0) ∧ 8191 < (head vectorFar 0).kernel ∧
    ((run (.vector 0 0) vectorFar).core 0).vx.lastFail = Cause.planReject :=
  ⟨ready_of_check (by decide +kernel), by decide +kernel, by decide +kernel⟩
theorem test_tap_clear : (RDesc.ofNat (redWord 4 1)).op = 4 ∧ (RDesc.ofNat (redWord 2 1)).op = 2 ∧ (RDesc.ofNat (redWord 3 1)).op = 3 := by decide +kernel

/-- Layer 3 under policy HALT, each silent step a report; and under a global limit of 1.0. -/
def haltGate : State := withImg (fun i => { i with layers := [{ layer := 3, tapSets := [0], format := 1, limit := 0, n := 1, policy := 2 }] }) (gateSt false)
def limitGate : State := withImg (fun i => { i with globalLimit := 0x3F800000 }) (gateSt false)
theorem test_gate_halts : (haltGate.img.layers.any (fun l => l.policy == 2 && LayerCfg.firesAny l (haltGate.runsAfter l (totalsOf (siteOf 0) l.layer)))) = true ∧
    (haltGate.gateDecision 0 (siteOf 0)).code = 2 ∧
    aboveLimit (gradientSum (siteOf 0x500000000)) (limitGate.lossScale 0) limitGate.img.globalLimit = true ∧
    limitGate.gateDecision 0 (siteOf 0x500000000) = { code := 1, cause := Cause.normLimit, first := 0xFFFF } ∧
    aboveLimit (w36 (totalsOf (siteOf 0x500000000) 3).gradient) ((gateSt false).lossScale 0) 0x3F800000 = true ∧
    (gateSt false).gateDecision 0 (siteOf 0x500000000) = { code := 1, cause := Cause.normLimit, first := 3 } := by decide +kernel
def heldVector : State := { ringSt with gate := { ringSt.gate with held := [(0, 1, 1, [])] } }
theorem test_gate_totals_again : run (.gateTotalsMessage 1 1 (peerTotals 0)) heldVector = heldVector := by decide +kernel

/-- A piece of a REMOTE target whose packets are not acknowledged. -/
def remoteWrite : State :=
  { ckSt 0 { writes := [(1024, 0)] } with sites := [(1, { out := [{ type := 8, seq := 4, service := 3, piece := some (0, 1024, 0), sent := true }] })] }
theorem test_remote_piece : remoteWrite.unacked 0 (1024, 0) = true ∧ run (.targetWriteDone 0) remoteWrite = remoteWrite ∧
    (ckSt 0 { writes := [(1024, 0)] }).unacked 0 (1024, 0) = false := by decide +kernel
/-- The last record of a PARTNER target is written: the manifest goes to node 1 in TC3, and the seal waits for its COMPLETION. -/
def partnerWrite : State := run (.targetWriteDone 0)
  { serveSt with ck := { serveSt.ck with partner := some 7, targets := [(0, { due := some 4, writes := [(1024, 0)] })] } }
theorem test_partner_manifest : partnerWrite.torus.sources.map (fun y => (y.core, y.dst, y.tc)) = [(4096, 1, 3)] ∧
    ((run (.checkpointSeal 0) partnerWrite).ck.targets.at 0).due = some 4 := by decide +kernel
def minority : State := withImg (fun i => { i with verifyTrust := false })
  { serveSt with commit := { serveSt.commit with shards := [(0, { hasState := true, diverged := true, good := some 1 })] } }
theorem test_minority : (minority.replicaRepair 0).torus.sentMessages = [(7, .exportRequest 1 0)] ∧ ((minority.replicaRepair 0).shardSt 0).repair = true := by decide +kernel
/-- The tensor of shard 0 cut into two boxes: each half's element 0 and the new shard's element 40, in the second half. -/
def halfShard (lo : Nat) : ShardCfg := { shard0 with rank := 1, dims := [64, 1, 1, 1], boxStart := [lo, 0, 0, 0], boxExt := [32, 1, 1, 1] }
def halfPiece (lo : Nat) : ExportPiece :=
  { target := 0, cfg := halfShard lo, step := 3, version := 1, count := 2, park := 0, good := true, arrays := [leBytes 64 lo, zeros 32],
    anchor := [], momentum := [], parking := [], offcut := [] }
def wholeShard : ShardCfg := { shard0 with rank := 1, dims := [64, 1, 1, 1], boxStart := [0, 0, 0, 0], boxExt := [64, 1, 1, 1], moments := 0 }
theorem test_remap : (placeOf [halfPiece 0, halfPiece 32] wholeShard 40).map (fun x => (x.1.cfg.boxStart.headD 9, x.2)) = some (32, 8) ∧
    (remapped [halfPiece 0, halfPiece 32] 0 wholeShard none).map (fun x => (x.slotBytes.take 65).drop 64) = some [32] ∧
    (remapped [halfPiece 0] 0 wholeShard none) = none := by decide +kernel
def fullHolds : State := serveSt.modShard 0 (fun x => { x with holds := (List.range 15).map (fun n => { slot := 0, holder := n, mark := 0 }) })
theorem test_exports : (serveSt.exportBytes 0 shard0).2.toOption.isSome = true ∧ (fullHolds.shardSt 0).canHold (fullHolds.shardSt 0).slot = false ∧
    ((run (.shardExportRequest 1 0) fullHolds).shardSt 0).waiting = [.exportTo 1] := by decide +kernel

/-- A drain of epochs 3 and 4 to node 1 with one transfer of epoch 3; the way back to node 1 is port 7. -/
def drainSt : State :=
  let s := pathSt (answer 5 1) [(3, 1)]
  { s with torus := { s.torus with sources := [{ srcOf none 1 with epoch := 3 }, { srcOf none 1 with tag := 6, epoch := 5 }] } }
theorem test_drain_sources : (drainSt.torus.paths.at 1).held = true ∧ (drainSt.torus.paths.at 1).awaiting ≠ [] ∧
    (run (.drainLimit 1) drainSt).torus.sources.map (·.tag) = [6] := by decide +kernel
def replySt : State :=
  let s := pathSt { answer 4 0 with epoch := 2, tc := 1 } []
  { s with torus := { s.torus with ports := s.torus.ports ++ [(0, upPort)] } }
theorem test_epoch_reply : (replySt.knowPath 1).nextPort ((replySt.knowPath 1).torus.paths.at 1).route replySt.img.node 1 = some 0 ∧ (replySt.port 0).state = 6 ∧
    (run (.epochEnd 7) replySt).torus.rxEpoch.at 1 = 3 := by decide +kernel
theorem test_sent_packets : (sourceSt (answer 2 0) none 1).unsent 5 = false := by decide +kernel

/-- CBC decryption with padding; a SEND slot's nonce goes to byte 4 of 32 bytes of additional data. -/
def padJob : Nat := jobWord 2 0 + word [(27, 1)]
theorem test_recovery_keys : recovSt.sec.authCount + recovSt.img.keys.length < 8 := by decide +kernel
theorem run_gcm {j : CipherJob} (hm : j.mode = 3) (ho : j.op = 1) (key nonce input aad : List Byte) : ∃ bs, j.run key nonce input aad = .bytes bs := by
  unfold CipherJob.run
  simp [hm, ho]
theorem test_send_slot (v : State) : ∃ bs, (cipherJob 1 3).run (jobSlot 0).key (leBytes 4 0 ++ leBytes 8 5) (v.peek (cipherJob 1 3).src (cipherJob 1 3).inLen)
    (v.peek (cipherJob 1 3).aadAddr (cipherJob 1 3).aadLen) = .bytes bs := run_gcm (by decide +kernel) (by decide +kernel) _ _ _ _
theorem test_bad_pad : (CipherJob.ofNat padJob).run (zeros 16) (zeros 12) (zeros 16) [] = .badPad := by decide +kernel

/-! ## Supplied update rules (R355, R472); worked by hand -/

def ruleOf (b wd mu : Word) : RuleArgs :=
  { lr := 0x3E800000, b1 := b, b2 := b, eps := 0, wd := wd, mu := mu, k1 := biasScale fone b, k2 := biasScale fone b }
theorem test_inner_sgd : innerRule .sgd (ruleOf 0 fone 0) fone 0x3F000000 0 0 = (0x3F200000, 0, 0) := by decide +kernel
theorem test_inner_momentum : innerRule .momentum (ruleOf 0 0 0x3F000000) fone 0x3F000000 fone 0 = (0x3F400000, fone, 0) := by decide +kernel
theorem test_inner_adamw : innerRule .adamw (ruleOf 0x3F000000 0 0) fone fone 0 0 = (0x3F400000, 0x3F000000, 0x3F000000) := by decide +kernel
theorem test_outer_nesterov : outerRule .nesterov (.fin false 1 (-1)) (.fin false 1 (-1)) (fp32 fone) (.fin false 1 (-1)) (fp32 fone) (fp32 0) =
    (fp32 0x3FC00000, fp32 fone, fp32 0x3F000000) := by decide +kernel
/-- Core 0 keeps rule SGD at the kernel that its segment names; its argument block gives the table at 0x7000 and P and g of four elements. -/
def suppliedDesc : UDesc := (seg0 .waitPrev 0).udesc
def suppliedSt : State :=
  ((((withImg (fun i => { i with cores := [{ core := 0, supplied := [(suppliedDesc.kernel, .sgd)] }] }) base).poke (sramAddr 0 suppliedDesc.args)
    (leBytes 256 (word [(0, 0x7000), (64, 1), (1536, 0x5000), (1600, 0x6000)]))).poke (sramAddr 0 0x7000) (leBytes 4 0x3E800000)).poke (sramAddr 0 0x5000)
    (leBytes 4 0x3F800000)).poke (sramAddr 0 0x6000) (leBytes 4 0x3F000000)
theorem test_supplied_rule : (suppliedSt.runSupplied 0 suppliedDesc 4).map (·.2) = some (.ok [(0x5000, [0x3F600000, 0, 0, 0])]) ∧
    (suppliedSt.runSupplied 0 suppliedDesc 4).map (fun r => (r.1.core 0).rd.applied) = some 2 := by decide +kernel

end Sys2Proof.Tests
end

section
/-! PROOFS. Memory's canonical form is kept: the rules by which a proof follows a definition's chain of state changes. -/

namespace Sys2Proof

open Sys2Proof.Machine

theorem Machine.State.Canon.inv {s t : State} (c : s.Canon t) (h : Safety.Inv s) : Safety.Inv t := by
  unfold State.Canon at c; exact c h

/-- A change of anything but memory: by `rfl` where the change is a record update. -/
theorem Safety.Inv.upd {s t : State} (h : Safety.Inv s) (e : t.mem = s.mem := by rfl) : Safety.Inv t := by
  unfold Safety.Inv at *; rw [e]; exact h

/-- A record update that leaves memory as it is. -/
theorem Safety.Inv.set {s : State} {pending bus free cores clusters governors time gate commit tiers torus wan sites round ck fuses sec engines
    flash power host recorder image copyGood} (h : Safety.Inv s) :
    Safety.Inv ⟨pending, bus, free, s.mem, cores, clusters, governors, time, gate, commit, tiers, torus, wan, sites, round, ck, fuses, sec,
      engines, flash, power, host, recorder, image, copyGood⟩ := h

/-- A state that is given canonical memory. -/
theorem Safety.Inv.ofMem {pending bus free mem cores clusters governors time gate commit tiers torus wan sites round ck fuses sec engines
    flash power host recorder image copyGood} (h : Memory.wf mem) :
    Safety.Inv ⟨pending, bus, free, mem, cores, clusters, governors, time, gate, commit, tiers, torus, wan, sites, round, ck, fuses, sec,
      engines, flash, power, host, recorder, image, copyGood⟩ := h

/-- The state that a match takes out of an operation's answer. -/
theorem Safety.Inv.of {α : Type} {p : State × α} {t : State} {x : α} (e : p = (t, x)) (h : Safety.Inv p.1) : Safety.Inv t := by
  rw [e] at h; exact h

theorem Safety.Inv.of' {α : Type} {p : α × State} {t : State} {x : α} (e : p = (x, t)) (h : Safety.Inv p.2) : Safety.Inv t := by
  rw [e] at h; exact h

theorem Safety.Inv.ite {c : Prop} [Decidable c] {s t : State} (h : Safety.Inv s) (k : Safety.Inv t) : Safety.Inv (if c then s else t) := by
  split
  · exact h
  · exact k

theorem Safety.Inv.iteFst {c : Prop} [Decidable c] {α : Type} {p q : State × α} (h : Safety.Inv p.1) (k : Safety.Inv q.1) :
    Safety.Inv (if c then p else q).1 := by
  split
  · exact h
  · exact k

theorem Safety.Inv.iteSnd {c : Prop} [Decidable c] {α : Type} {p q : α × State} (h : Safety.Inv p.2) (k : Safety.Inv q.2) :
    Safety.Inv (if c then p else q).2 := by
  split
  · exact h
  · exact k

theorem Safety.Inv.when {s : State} {p : Bool} {f : State → State} (h : Safety.Inv s) (hf : ∀ s, Safety.Inv s → Safety.Inv (f s)) :
    Safety.Inv (s.when p f) := by
  unfold State.when; split
  · exact hf s h
  · exact h

theorem Safety.Inv.foldl {α : Type} {s : State} {xs : List α} {f : State → α → State} (h : Safety.Inv s)
    (hf : ∀ s x, Safety.Inv s → Safety.Inv (f s x)) : Safety.Inv (xs.foldl f s) := by
  induction xs generalizing s with
  | nil => exact h
  | cons x xs ih => exact ih (hf s x h)

theorem Safety.Inv.each {α : Type} {s : State} {xs : List α} {f : State → α → State} (h : Safety.Inv s)
    (hf : ∀ s x, Safety.Inv s → Safety.Inv (f s x)) : Safety.Inv (s.each xs f) := h.foldl hf

/-- A fold over states with a second result. -/
theorem Safety.Inv.foldlPair {α β : Type} {r : State × β} {xs : List α} {f : State × β → α → State × β} (h : Safety.Inv r.1)
    (hf : ∀ r x, Safety.Inv r.1 → Safety.Inv (f r x).1) : Safety.Inv (xs.foldl f r).1 := by
  induction xs generalizing r with
  | nil => exact h
  | cons x xs ih => exact ih (hf r x h)

/-- Every next state that an answer holds has canonical memory. -/
def Safety.OutInv (o : Out) : Prop := ∀ t, o = .next t → Safety.Inv t

theorem Safety.Inv.next {s : State} (h : Safety.Inv s) : Safety.OutInv (.next s) := by
  intro t e; cases e; exact h

/-! ## Ops -/

theorem Safety.Inv.poke {s : State} {a : Nat} {bs : List Byte} (h : Safety.Inv s) : Safety.Inv (s.poke a bs) :=
  (State.canon_poke ..).inv h
theorem Safety.Inv.draw {s : State} (h : Safety.Inv s) : Safety.Inv s.draw := h.set
theorem Safety.Inv.report {s : State} {type : Nat} {payload : List Byte} (h : Safety.Inv s) : Safety.Inv (s.report type payload) := h.set
theorem Safety.Inv.reportDetail {s : State} {type : Nat} {cause : Cause} {detail : Byte} {index arg addr : Nat} (h : Safety.Inv s) :
    Safety.Inv (s.reportDetail type cause detail index arg addr) := h.set
theorem Safety.Inv.event {s : State} {type : Nat} {cause : Cause} {index arg addr : Nat} (h : Safety.Inv s) :
    Safety.Inv (s.event type cause index arg addr) := h.set
theorem Safety.Inv.setCore {s : State} {c : Nat} {x : CoreSt} (h : Safety.Inv s) : Safety.Inv (s.setCore c x) := h.set
theorem Safety.Inv.modCore {s : State} {c : Nat} {f : CoreSt → CoreSt} (h : Safety.Inv s) : Safety.Inv (s.modCore c f) := h.set
theorem Safety.Inv.modQueue {s : State} {c q : Nat} {f : Queue → Queue} (h : Safety.Inv s) : Safety.Inv (s.modQueue c q f) := h.set
theorem Safety.Inv.advance {s : State} {c n inc : Nat} (h : Safety.Inv s) : Safety.Inv (s.advance c n inc) := h.set
theorem Safety.Inv.latch {s : State} {c n : Nat} {cause : Cause} (h : Safety.Inv s) : Safety.Inv (s.latch c n cause) := h.set
theorem Safety.Inv.endItem {s : State} {c n inc : Nat} {cause : Cause} (h : Safety.Inv s) : Safety.Inv (s.endItem c n inc cause) :=
  (State.canon_endItem ..).inv h
theorem Safety.Inv.hsWrite {s : State} {a : Nat} {bs : List Byte} (h : Safety.Inv s) : Safety.Inv (s.hsWrite a bs) :=
  (State.canon_hsWrite ..).inv h
theorem Safety.Inv.jobStatus {s : State} (h : Safety.Inv s) : Safety.Inv s.jobStatus :=
  (State.canon_jobStatus ..).inv h
theorem Safety.Inv.msix {s : State} {v : Nat} (h : Safety.Inv s) : Safety.Inv (s.msix v) :=
  (State.canon_msix ..).inv h
theorem Safety.Inv.msixDue {s : State} (h : Safety.Inv s) : Safety.Inv s.msixDue :=
  (State.canon_msixDue ..).inv h
theorem Safety.Inv.setRing {s : State} {ring : Nat} {r : ResultRing} (h : Safety.Inv s) : Safety.Inv (s.setRing ring r) := h.set
theorem Safety.Inv.issueRec {s : State} {ring tag : Nat} (h : Safety.Inv s) : Safety.Inv (s.issueRec ring tag) :=
  (State.canon_issueRec ..).inv h
theorem Safety.Inv.closeRec {s : State} {ring index st : Nat} {cause : Cause} {payload : List Byte} (h : Safety.Inv s) :
    Safety.Inv (s.closeRec ring index st cause payload) :=
  (State.canon_closeRec ..).inv h
theorem Safety.Inv.finishRec {s : State} {ring tag : Nat} {cause : Cause} {payload : List Byte} (h : Safety.Inv s) :
    Safety.Inv (s.finishRec ring tag cause payload) :=
  (State.canon_finishRec ..).inv h
theorem Safety.Inv.jobRecord {s : State} {ev : Nat} {cause : Cause} (h : Safety.Inv s) : Safety.Inv (s.jobRecord ev cause) :=
  (State.canon_jobRecord ..).inv h
theorem Safety.Inv.setJob {s : State} {j : JobState} {cause : Cause} (h : Safety.Inv s) : Safety.Inv (s.setJob j cause) :=
  (State.canon_setJob ..).inv h
theorem Safety.Inv.settle {s : State} (h : Safety.Inv s) : Safety.Inv s.settle := h.set
theorem Safety.Inv.setPwr {s : State} {p : PwrState} {cause : Cause} (h : Safety.Inv s) : Safety.Inv (s.setPwr p cause) :=
  h.upd (State.setPwr_mem ..)

/-! ## Packets -/

theorem Safety.Inv.modPort {s : State} {p : Nat} {f : Port → Port} (h : Safety.Inv s) : Safety.Inv (s.modPort p f) := h.set
theorem Safety.Inv.runPort {s : State} {port : Nat} (h : Safety.Inv s) : Safety.Inv (s.runPort port) := h.set
theorem Safety.Inv.badPacket {s : State} {port : Nat} (h : Safety.Inv s) : Safety.Inv (s.badPacket port) := h.set
theorem Safety.Inv.txPacket {s : State} {port : Nat} {p : Packet} (h : Safety.Inv s) : Safety.Inv (s.txPacket port p) := h.set
theorem Safety.Inv.forward {s : State} {arrived : Option Nat} {p : Packet} (h : Safety.Inv s) : Safety.Inv (s.forward arrived p) := by
  unfold State.forward
  split
  · exact h
  · exact h.txPacket
theorem Safety.Inv.portState {s : State} {port st : Nat} (h : Safety.Inv s) : Safety.Inv (s.portState port st) := h.set
theorem Safety.Inv.retryPort {s : State} {port : Nat} (h : Safety.Inv s) : Safety.Inv (s.retryPort port) := by
  unfold State.retryPort; exact .ite h.portState h
theorem Safety.Inv.retryPorts {s : State} (h : Safety.Inv s) : Safety.Inv s.retryPorts := by
  unfold State.retryPorts; exact h.each fun _ _ k => k.retryPort
theorem Safety.Inv.sendMsg {s : State} {port : Nat} {m : Message} (h : Safety.Inv s) : Safety.Inv (s.sendMsg port m) := h.set
theorem Safety.Inv.flood {s : State} {but : Option Nat} {m : Message} (h : Safety.Inv s) : Safety.Inv (s.flood but m) :=
  (State.canon_flood ..).inv h

/-! ## Halt -/

theorem Safety.Inv.haltPolicy {s : State} {cause : Cause} (h : Safety.Inv s) : Safety.Inv (s.haltPolicy cause) :=
  (State.canon_haltPolicy ..).inv h
theorem Safety.Inv.haltSite {s : State} {cause : Cause} (h : Safety.Inv s) : Safety.Inv (s.haltSite cause) :=
  (State.canon_haltSite ..).inv h
theorem Safety.Inv.haltOnly {s : State} {c q : Nat} {cause : Cause} (h : Safety.Inv s) : Safety.Inv (s.haltOnly c q cause) := h.set
theorem Safety.Inv.haltQueue {s : State} {c q : Nat} {cause : Cause} (h : Safety.Inv s) : Safety.Inv (s.haltQueue c q cause) :=
  (State.canon_haltQueue ..).inv h

/-! ## Access -/

theorem Safety.Inv.modTiers {s : State} {f : MemUnit → MemUnit} (h : Safety.Inv s) : Safety.Inv (s.modTiers f) := h.set
theorem Safety.Inv.countCe {s : State} {n : Nat} (h : Safety.Inv s) : Safety.Inv (s.countCe n) := h.set
theorem Safety.Inv.tierUe {s : State} {line : Nat} (h : Safety.Inv s) : Safety.Inv (s.tierUe line) := h.set
theorem Safety.Inv.countWords {s : State} {a ce ue bad : Nat} (h : Safety.Inv s) : Safety.Inv (s.countWords a ce ue bad) :=
  h.upd (State.countWords_mem ..)
theorem Safety.Inv.storeLine {s : State} {line : Nat} {e c : ErrPattern} (h : Safety.Inv s) : Safety.Inv (s.storeLine line e c) :=
  (State.canon_storeLine ..).inv h
theorem Safety.Inv.readMem {s : State} {a len : Nat} (h : Safety.Inv s) : Safety.Inv (s.readMem a len).1 :=
  (State.canon_readMem ..).inv h
theorem Safety.Inv.writeMem {s : State} {a : Nat} {bs : List Byte} (h : Safety.Inv s) : Safety.Inv (s.writeMem a bs).1 :=
  (State.canon_writeMem ..).inv h
theorem Safety.Inv.writeAll {s : State} {l : List (Nat × List Byte)} (h : Safety.Inv s) : Safety.Inv (s.writeAll l).1 :=
  (State.canon_writeAll ..).inv h
theorem Safety.Inv.writeWhole {s : State} {ws : List (Nat × List Byte)} (h : Safety.Inv s) : Safety.Inv (s.writeWhole ws).1 := by
  unfold State.writeWhole
  split
  · rename_i he
    exact h.writeAll.of he
  · exact h.set
theorem Safety.Inv.readOwn {s : State} {core a len align : Nat} (h : Safety.Inv s) : Safety.Inv (s.readOwn core a len align).1 :=
  (State.canon_readOwn ..).inv h

/-! ## Sequencer -/

theorem Safety.Inv.atHead {s : State} {c q : Nat} {f : State → Entry → State} (h : Safety.Inv s)
    (hf : ∀ (s : State) (b : Entry), Safety.Inv s → Safety.Inv (f s b)) : Safety.Inv (s.atHead c q f) :=
  (State.canon_atHead (fun s b => State.canon_of (hf s b)) ..).inv h
theorem Safety.Inv.goTo {s : State} {c q pos : Nat} (h : Safety.Inv s) : Safety.Inv (s.goTo c q pos) := h.set
theorem Safety.Inv.goNext {s : State} {c q : Nat} (h : Safety.Inv s) : Safety.Inv (s.goNext c q) := h.set
theorem Safety.Inv.issue {s : State} {c q kind : Nat} {act : State → Entry → State} (h : Safety.Inv s)
    (hact : ∀ (s : State) (b : Entry), Safety.Inv s → Safety.Inv (act s b)) : Safety.Inv (s.issue c q kind act) :=
  (State.canon_issue (fun s b => State.canon_of (hact s b)) ..).inv h
theorem Safety.Inv.actWait {s : State} {c q : Nat} (h : Safety.Inv s) : Safety.Inv (s.actWait c q) := h.set
theorem Safety.Inv.actAdd {s : State} {c q : Nat} {e : Entry} (h : Safety.Inv s) : Safety.Inv (s.actAdd c q e) := h.set
theorem Safety.Inv.actJump {s : State} {c q : Nat} {e : Entry} (h : Safety.Inv s) : Safety.Inv (s.actJump c q e) := by
  unfold State.actJump
  split
  · dsimp only
    split
    · exact h.modQueue.goNext
    · exact h.modQueue.goTo
    · exact h.goNext
  · dsimp only
    split
    · exact h.modQueue.goNext
    · exact h.modQueue.goTo
    · exact h.modQueue.goTo
theorem Safety.Inv.actEnd {s : State} {c q : Nat} (h : Safety.Inv s) : Safety.Inv (s.actEnd c q) := h.set
@[simp] theorem Safety.Inv.execWait {core q : Nat} {s : State} (h : Safety.Inv s) : Safety.OutInv (execWait core q s) := by
  unfold Machine.execWait; exact (h.issue (fun _ _ k => k.actWait)).next
@[simp] theorem Safety.Inv.execAddEntry {core q : Nat} {s : State} (h : Safety.Inv s) : Safety.OutInv (execAddEntry core q s) := by
  unfold Machine.execAddEntry; exact (h.issue (fun _ _ k => k.actAdd)).next
@[simp] theorem Safety.Inv.execJump {core q : Nat} {s : State} (h : Safety.Inv s) : Safety.OutInv (execJump core q s) := by
  unfold Machine.execJump; exact (h.issue (fun _ _ k => k.actJump)).next
@[simp] theorem Safety.Inv.execEndEntry {core q : Nat} {s : State} (h : Safety.Inv s) : Safety.OutInv (execEndEntry core q s) := by
  unfold Machine.execEndEntry; exact (h.issue (fun _ _ k => k.actEnd)).next
@[simp] theorem Safety.Inv.execQueueTimeout {core q : Nat} {s : State} (h : Safety.Inv s) : Safety.OutInv (execQueueTimeout core q s) := by
  unfold Machine.execQueueTimeout; exact .next (.ite h.haltQueue h)

/-! ## LaunchUnit -/

theorem Safety.Inv.setSlotSt {s : State} {n : Nat} {x : LaunchSlot} (h : Safety.Inv s) : Safety.Inv (s.setSlotSt n x) := h.set
@[simp] theorem Safety.Inv.execLaunchArrival {core q : Nat} {s : State} (h : Safety.Inv s) : Safety.OutInv (execLaunchArrival core q s) := by
  unfold Machine.execLaunchArrival; exact (h.atHead (fun _ _ k => .ite k.modQueue.setSlotSt k)).next
@[simp] theorem Safety.Inv.execSetLaunchInstant {slot : Nat} {s : State} (h : Safety.Inv s) : Safety.OutInv (execSetLaunchInstant slot s) := by
  unfold Machine.execSetLaunchInstant
  split
  · exact h.next
  · exact .next (.ite h.setSlotSt h)
@[simp] theorem Safety.Inv.execLaunchBroadcastReceive {slot die : Nat} {s : State} (h : Safety.Inv s) :
    Safety.OutInv (execLaunchBroadcastReceive slot die s) := by
  unfold Machine.execLaunchBroadcastReceive
  split
  · exact .next (.ite h.setSlotSt.set h)
  · exact h.next
@[simp] theorem Safety.Inv.execRampEnd {slot : Nat} {s : State} (h : Safety.Inv s) : Safety.OutInv (execRampEnd slot s) := by
  unfold Machine.execRampEnd
  split
  · exact .next (.ite (h.each (fun _ _ k => k.modQueue)).setSlotSt h)
  · exact h.next
theorem Safety.Inv.dropHolds {s : State} {slot L : Nat} (h : Safety.Inv s) : Safety.Inv (s.dropHolds slot L) := h.set
theorem Safety.Inv.cancelPending {s : State} {cause : Cause} {slot : Nat} (h : Safety.Inv s) : Safety.Inv (s.cancelPending cause slot) := by
  unfold State.cancelPending; exact .ite h (h.setSlotSt.each (fun _ _ k => k.haltOnly))
theorem Safety.Inv.cancelLaunch {cause : Cause} {dies : List Nat} {s : State} {l : LaunchCfg} (h : Safety.Inv s) :
    Safety.Inv (State.cancelLaunch cause dies s l) := by
  unfold State.cancelLaunch
  refine .ite h ?_
  split
  · exact .ite (h.setSlotSt.dropHolds.each (fun _ _ k => k.haltOnly)) h.cancelPending
  · exact h.cancelPending
theorem Safety.Inv.cancelLaunches {s : State} {cause : Cause} {dies : List Nat} (h : Safety.Inv s) :
    Safety.Inv (s.cancelLaunches cause dies) := by
  unfold State.cancelLaunches; exact h.each fun _ _ k => k.cancelLaunch

/-! ## Governor -/

theorem Safety.Inv.modGov {s : State} {die : Nat} {f : Governor → Governor} (h : Safety.Inv s) : Safety.Inv (s.modGov die f) := h.set
@[simp] theorem Safety.Inv.execGovernorCompare {die rate : Nat} {s : State} (h : Safety.Inv s) :
    Safety.OutInv (execGovernorCompare die rate s) := by
  unfold Machine.execGovernorCompare; exact .next (.ite h.modGov h)
theorem Safety.Inv.coolDram {s : State} {die : Nat} (h : Safety.Inv s) : Safety.Inv (s.coolDram die) := h.set
theorem Safety.Inv.refreshCapped {s : State} (h : Safety.Inv s) : Safety.Inv s.refreshCapped := h.set
@[simp] theorem Safety.Inv.execPowerAverage {die watts : Nat} {junction : Int} {s : State} (h : Safety.Inv s) :
    Safety.OutInv (execPowerAverage die watts junction s) := by
  unfold Machine.execPowerAverage; exact .next (.ite h.set.draw.modGov.coolDram.refreshCapped h)
@[simp] theorem Safety.Inv.execWorkingTargetRaise {die : Nat} {s : State} (h : Safety.Inv s) : Safety.OutInv (execWorkingTargetRaise die s) := by
  unfold Machine.execWorkingTargetRaise; exact .next (.ite h.modGov h)
@[simp] theorem Safety.Inv.execSetpointHoldEnd {die : Nat} {s : State} (h : Safety.Inv s) : Safety.OutInv (execSetpointHoldEnd die s) := by
  unfold Machine.execSetpointHoldEnd; exact h.modGov.next
@[simp] theorem Safety.Inv.execOscFault {s : State} (h : Safety.Inv s) : Safety.OutInv (execOscFault s) := by
  unfold Machine.execOscFault; exact .next (.ite h (h.set.event.each (fun _ _ k => k.haltQueue)))
@[simp] theorem Safety.Inv.execTimeNowLoRead {s : State} (h : Safety.Inv s) : Safety.OutInv (execTimeNowLoRead s) := by
  unfold Machine.execTimeNowLoRead; exact h.set.next
theorem Safety.Inv.tick {s : State} (h : Safety.Inv s) : Safety.Inv s.tick := by
  unfold State.tick; exact .ite h.set.msixDue.retryPorts h

/-! ## XferBase -/

theorem Safety.Inv.modXf {s : State} {c : Nat} {f : TransferEngine → TransferEngine} (h : Safety.Inv s) : Safety.Inv (s.modXf c f) := h.set
theorem Safety.Inv.xferFailed {s : State} {c : Nat} {cause : Cause} (h : Safety.Inv s) : Safety.Inv (s.xferFailed c cause) := h.set
theorem Safety.Inv.endXfer {s : State} {c ctr inc : Nat} {cause : Cause} (h : Safety.Inv s) : Safety.Inv (s.endXfer c ctr inc cause) :=
  (State.canon_endXfer ..).inv h
theorem Safety.Inv.actXfer {s : State} {c q op : Nat} {act : State → Nat → State} {e : Entry}
    (h : Safety.Inv s) (hact : ∀ (s : State) (b : Nat), Safety.Inv s → Safety.Inv (act s b)) :
    Safety.Inv (s.actXfer c q op act e) := by
  unfold State.actXfer
  split
  · rename_i he
    exact (h.readOwn.of he).xferFailed.haltQueue
  · rename_i he
    have ht := h.readOwn.of he
    exact .ite (hact _ _ ht.goNext) (.ite ht ht.goNext.endXfer)
theorem Safety.Inv.issueXfer {s : State} {c q op : Nat} {act : State → Nat → State} (h : Safety.Inv s)
    (hact : ∀ (s : State) (b : Nat), Safety.Inv s → Safety.Inv (act s b)) : Safety.Inv (s.issueXfer c q op act) :=
  (State.canon_issueXfer (fun s b => State.canon_of (hact s b)) ..).inv h

/-! ## Output -/

theorem Safety.Inv.readRegions {s : State} {core : Nat} {rs : Regions} (h : Safety.Inv s) : Safety.Inv (s.readRegions core rs).1 := by
  unfold State.readRegions
  refine .iteFst h ?_
  refine h.foldlPair ?_
  intro _ _ k
  split
  split
  · rename_i he
    exact k.readMem.of he
  · rename_i he
    exact k.readMem.of he

/-! ## Tables -/

theorem Safety.Inv.modCluster {s : State} {core : Nat} {f : Compressor → Compressor} (h : Safety.Inv s) : Safety.Inv (s.modCluster core f) :=
    h.set
theorem Safety.Inv.modSlots {s : State} {core : Nat} {d : TDesc} {f : Slot → Slot} (h : Safety.Inv s) : Safety.Inv (s.modSlots core d f) := by
  unfold State.modSlots; exact .ite h.modCore.modCluster h.modCore
theorem Safety.Inv.readTable {s : State} {core : Nat} {d : TDesc} (h : Safety.Inv s) : Safety.Inv (s.readTable core d).1 := by
  unfold State.readTable
  split
  · rename_i he
    exact h.readOwn.of he
  · rename_i he
    have ht := h.readOwn.of he
    split
    · rename_i he
      exact ht.readOwn.of he
    · rename_i he
      exact ht.readOwn.of he
theorem Safety.Inv.tableBusy {s : State} {core : Nat} {d : TDesc} (h : Safety.Inv s) : Safety.Inv (s.tableBusy core d) := h.set
theorem Safety.Inv.loadNow {s : State} {core : Nat} {d : TDesc} (h : Safety.Inv s) : Safety.Inv (s.loadNow core d) := by
  unfold State.loadNow
  split
  · rename_i he
    exact (h.readTable.of he).endXfer
  · rename_i he
    exact (h.readTable.of he).modSlots.endXfer
theorem Safety.Inv.actLoad {core q : Nat} {s : State} {w : Nat} (h : Safety.Inv s) : Safety.Inv (State.actLoad core q s w) := by
  unfold State.actLoad
  refine .ite h.endXfer ?_
  refine .ite h.loadNow ?_
  refine .ite h.tableBusy ?_
  split
  · rename_i he
    exact (h.readTable.of he).endXfer
  · rename_i he
    exact (h.readTable.of he).modCore
theorem Safety.Inv.inTurn {s : State} {core q : Nat} {f : State → State}
    (h : Safety.Inv s) (hf : ∀ (s : State), Safety.Inv s → Safety.Inv (f s)) :
    Safety.Inv (s.inTurn core q f) := by
  unfold State.inTurn; exact h.when fun _ k => hf _ k
@[simp] theorem Safety.Inv.execLoad {core q : Nat} {s : State} (h : Safety.Inv s) : Safety.OutInv (execLoad core q s) := by
  unfold Machine.execLoad; exact (h.inTurn (fun _ k => k.issueXfer (fun _ _ k1 => k1.actLoad))).next
theorem Safety.Inv.dropWaiting {s : State} {core : Nat} {w : WaitingLoad} (h : Safety.Inv s) : Safety.Inv (s.dropWaiting core w) := h.set
@[simp] theorem Safety.Inv.execLoadWaitWake {core : Nat} {s : State} (h : Safety.Inv s) : Safety.OutInv (execLoadWaitWake core s) := by
  unfold Machine.execLoadWaitWake
  split
  · exact h.next
  · exact h.dropWaiting.loadNow.next
@[simp] theorem Safety.Inv.execTableWaitLimit {core : Nat} {s : State} (h : Safety.Inv s) : Safety.OutInv (execTableWaitLimit core s) := by
  unfold Machine.execTableWaitLimit
  split
  · exact h.next
  · exact h.dropWaiting.tableBusy.next
theorem Safety.Inv.changeHolds {s : State} {core : Nat} {d : TDesc} {up : Bool} (h : Safety.Inv s) : Safety.Inv (s.changeHolds core d up) := by
  unfold State.changeHolds; exact .ite h.endXfer h.modSlots.endXfer
@[simp] theorem Safety.Inv.execHold {core q : Nat} {s : State} (h : Safety.Inv s) : Safety.OutInv (execHold core q s) := by
  unfold Machine.execHold; exact (h.issueXfer (fun _ _ k => k.changeHolds)).next
@[simp] theorem Safety.Inv.execRelease {core q : Nat} {s : State} (h : Safety.Inv s) : Safety.OutInv (execRelease core q s) := by
  unfold Machine.execRelease; exact (h.inTurn (fun _ k => k.issueXfer (fun _ _ k1 => k1.changeHolds))).next

/-! ## Matrix -/

theorem Safety.Inv.queueMatrix {s : State} {core : Nat} {d : MDesc} {op : MatOp} (h : Safety.Inv s) : Safety.Inv (s.queueMatrix core d op) := by
  unfold State.queueMatrix; split <;> exact h.modCore
theorem Safety.Inv.actMatrix {s : State} {core q kind : Nat} {e : Entry} (h : Safety.Inv s) : Safety.Inv (s.actMatrix core q kind e) := by
  unfold State.actMatrix
  split
  · rename_i he
    exact (h.readOwn.of he).modCore.haltQueue
  · rename_i he
    have ht := h.readOwn.of he
    refine .ite ht ?_
    split
    · split
      · dsimp only
        split
        · rename_i he
          exact (ht.goNext.readRegions.of he).queueMatrix
        · rename_i he
          exact (ht.goNext.readRegions.of he).modCore
      · dsimp only
        split
        · rename_i he
          exact (ht.goNext.readRegions.of he).queueMatrix
        · rename_i he
          exact (ht.goNext.readRegions.of he).modCore
    · split
      · dsimp only
        split
        · rename_i he
          exact (ht.goNext.readRegions.of he).queueMatrix
        · rename_i he
          exact (ht.goNext.readRegions.of he).modCore
      · dsimp only
        split
        · rename_i he
          exact (ht.goNext.readRegions.of he).queueMatrix
        · rename_i he
          exact (ht.goNext.readRegions.of he).modCore
theorem Safety.Inv.issueMatrix {s : State} {core q kind : Nat} (h : Safety.Inv s) : Safety.Inv (s.issueMatrix core q kind) := by
  unfold State.issueMatrix; exact h.issue fun _ _ k => k.actMatrix
@[simp] theorem Safety.Inv.execMm {core q : Nat} {s : State} (h : Safety.Inv s) : Safety.OutInv (execMm core q s) := by
  unfold Machine.execMm; exact h.issueMatrix.next
@[simp] theorem Safety.Inv.execMmTa {core q : Nat} {s : State} (h : Safety.Inv s) : Safety.OutInv (execMmTa core q s) := by
  unfold Machine.execMmTa; exact h.issueMatrix.next
@[simp] theorem Safety.Inv.execMmTb {core q : Nat} {s : State} (h : Safety.Inv s) : Safety.OutInv (execMmTb core q s) := by
  unfold Machine.execMmTb; exact h.issueMatrix.next
@[simp] theorem Safety.Inv.execGradW {core q : Nat} {s : State} (h : Safety.Inv s) : Safety.OutInv (execGradW core q s) := by
  unfold Machine.execGradW; exact h.issueMatrix.next
@[simp] theorem Safety.Inv.execGradX {core q : Nat} {s : State} (h : Safety.Inv s) : Safety.OutInv (execGradX core q s) := by
  unfold Machine.execGradX; exact h.issueMatrix.next
theorem Safety.Inv.failTile {s : State} {core : Nat} {op : MatOp} {cause : Cause} (h : Safety.Inv s) : Safety.Inv (s.failTile core op cause) :=
    h.set
theorem Safety.Inv.runTile {s : State} {core : Nat} {op : MatOp} (h : Safety.Inv s) : Safety.Inv (s.runTile core op) := by
  unfold State.runTile
  dsimp only
  split
  · exact h.failTile
  · split
    · rename_i he
      have ht := h.readRegions.of he
      split
      · rename_i he
        have ht1 := ht.writeAll.of he
        split
        · rename_i he
          exact (ht1.writeMem.of he).modCore
        · rename_i he
          exact (ht1.writeMem.of he).failTile
      · rename_i he
        exact (ht.writeAll.of he).failTile
    · rename_i he
      exact (h.readRegions.of he).failTile
@[simp] theorem Safety.Inv.execTileComplete {core : Nat} {s : State} (h : Safety.Inv s) : Safety.OutInv (execTileComplete core s) := by
  unfold Machine.execTileComplete
  split
  · exact h.next
  · exact h.runTile.next
@[simp] theorem Safety.Inv.execExpanderStall {core port : Nat} {s : State} (h : Safety.Inv s) :
    Safety.OutInv (execExpanderStall core port s) := by
  unfold Machine.execExpanderStall
  split
  · exact h.next
  · split
    · dsimp only
      split
      · exact h.next
      · exact h.modCore.next
    · dsimp only
      split
      · exact h.next
      · exact h.modCore.next
@[simp] theorem Safety.Inv.execMxTokensLoRead {core : Nat} {s : State} (h : Safety.Inv s) : Safety.OutInv (execMxTokensLoRead core s) := by
  unfold Machine.execMxTokensLoRead; exact h.modCore.set.next
@[simp] theorem Safety.Inv.execCauseOrClear {core : Nat} {value : Word} {s : State} (h : Safety.Inv s) :
    Safety.OutInv (execCauseOrClear core value s) := by
  unfold Machine.execCauseOrClear; exact (h.when (fun _ k => k.modCore)).next

/-! ## VectorBase -/

theorem Safety.Inv.failKernel {s : State} {core : Nat} {r : Running} {cause : Cause} (h : Safety.Inv s) : Safety.Inv (s.failKernel core r cause)
    :=
  h.set
theorem Safety.Inv.retire {s : State} {core : Nat} {r : Running} {i : VInstr} {o : VOut} (h : Safety.Inv s) :
    Safety.Inv (s.retire core r i o) := by
  unfold State.retire; exact .ite h.modCore.modCore (.ite h.modCore.failKernel h.modCore)
theorem Safety.Inv.vector {s : State} {core op : Nat} {act : State → Running → VInstr → VectorEngine → Res VOut}
    (h : Safety.Inv s) (hact : ∀ (s : State) (b : Running) (c : VInstr) (d : VectorEngine), Safety.Inv s → Safety.Inv (act s b c d).1) :
    Safety.Inv (s.vector core op act) := by
  unfold State.vector
  split
  · exact h
  · refine .ite (.ite h.failKernel h) ?_
    refine .ite h.failKernel ?_
    split
    · rename_i he
      exact ((hact _ _ _ _ h).of he).failKernel
    · rename_i he
      have ht := (hact _ _ _ _ h).of he
      split
      · rename_i he
        exact (ht.writeWhole.of he).retire
      · rename_i he
        exact (ht.writeWhole.of he).failKernel
theorem Safety.Inv.vectorPure {s : State} {core op : Nat} {act : VInstr → VectorEngine → VOut} (h : Safety.Inv s) :
    Safety.Inv (s.vectorPure core op act) := by
  unfold State.vectorPure; exact h.vector fun _ _ _ _ k => k
theorem Safety.Inv.vectorLanes {s : State} {core op : Nat} {lanes : VInstr → VectorEngine → List (Flagged Word)} (h : Safety.Inv s) :
    Safety.Inv (s.vectorLanes core op lanes) := by
  unfold State.vectorLanes; exact h.vectorPure
theorem Safety.Inv.readArgs {s : State} {core a : Nat} (h : Safety.Inv s) : Safety.Inv (s.readArgs core a).1 := by
  unfold State.readArgs; exact h.readOwn
theorem Safety.Inv.actVector {s : State} {core q : Nat} {e : Entry} (h : Safety.Inv s) : Safety.Inv (s.actVector core q e) := by
  unfold State.actVector
  split
  · rename_i he
    exact (h.readArgs.of he).modCore.haltQueue
  · rename_i he
    have ht := h.readArgs.of he
    exact .ite ht.goNext.modCore ht.goNext.modCore
theorem Safety.Inv.startKernel {s : State} {core : Nat} {k : Kernel} (h : Safety.Inv s) : Safety.Inv (s.startKernel core k) := by
  unfold State.startKernel
  split
  · dsimp only
    split
    · rename_i he
      exact (h.modCore.readArgs.of he).failKernel
    · rename_i he
      have ht := h.modCore.readArgs.of he
      exact .ite ht.failKernel ht.modCore.draw
  · dsimp only
    split
    · rename_i he
      exact (h.modCore.readArgs.of he).modCore.haltQueue
    · rename_i he
      have ht := h.modCore.readArgs.of he
      exact .ite ht.failKernel ht.modCore.draw
@[simp] theorem Safety.Inv.execVector {core q : Nat} {s : State} (h : Safety.Inv s) : Safety.OutInv (execVector core q s) := by
  unfold Machine.execVector; exact (h.issue (fun _ _ k => k.actVector)).next
@[simp] theorem Safety.Inv.execKernelStart {core : Nat} {s : State} (h : Safety.Inv s) : Safety.OutInv (execKernelStart core s) := by
  unfold Machine.execKernelStart
  split
  · exact .next (.ite h.startKernel h)
  · exact h.next
@[simp] theorem Safety.Inv.execKernelTimeout {core : Nat} {s : State} (h : Safety.Inv s) : Safety.OutInv (execKernelTimeout core s) := by
  unfold Machine.execKernelTimeout
  split
  · exact .next (.ite h.failKernel h)
  · exact h.next
@[simp] theorem Safety.Inv.execVxTokensLoRead {core : Nat} {s : State} (h : Safety.Inv s) : Safety.OutInv (execVxTokensLoRead core s) := by
  unfold Machine.execVxTokensLoRead; exact h.modCore.set.next
@[simp] theorem Safety.Inv.execFlagsOrClear {core : Nat} {value : Word} {s : State} (h : Safety.Inv s) :
    Safety.OutInv (execFlagsOrClear core value s) := by
  unfold Machine.execFlagsOrClear; exact (h.when (fun _ k => k.modCore)).next

/-! ## Vector -/

theorem Safety.Inv.vector2 {s : State} {core op : Nat} {g : Nat → Word → Word → Flagged Word} (h : Safety.Inv s) :
    Safety.Inv (s.vector2 core op g) := by
  unfold State.vector2; exact h.vectorLanes
theorem Safety.Inv.vector1 {s : State} {core op : Nat} {g : Nat → Word → Flagged Word} (h : Safety.Inv s) : Safety.Inv (s.vector1 core op g) := by
  unfold State.vector1; exact h.vectorLanes
theorem Safety.Inv.vectorMove {s : State} {core op : Nat} {place : VInstr → Nat → Nat} (h : Safety.Inv s) :
    Safety.Inv (s.vectorMove core op place) := by
  unfold State.vectorMove; exact h.vectorLanes
@[simp] theorem Safety.Inv.execVAdd {core : Nat} {s : State} (h : Safety.Inv s) : Safety.OutInv (execVAdd core s) := by
  unfold Machine.execVAdd; exact h.vector2.next
@[simp] theorem Safety.Inv.execVSub {core : Nat} {s : State} (h : Safety.Inv s) : Safety.OutInv (execVSub core s) := by
  unfold Machine.execVSub; exact h.vector2.next
@[simp] theorem Safety.Inv.execVMul {core : Nat} {s : State} (h : Safety.Inv s) : Safety.OutInv (execVMul core s) := by
  unfold Machine.execVMul; exact h.vector2.next
@[simp] theorem Safety.Inv.execVFma {core : Nat} {s : State} (h : Safety.Inv s) : Safety.OutInv (execVFma core s) := by
  unfold Machine.execVFma; exact h.vectorLanes.next
@[simp] theorem Safety.Inv.execVMax {core : Nat} {s : State} (h : Safety.Inv s) : Safety.OutInv (execVMax core s) := by
  unfold Machine.execVMax; exact h.vector2.next
@[simp] theorem Safety.Inv.execVMin {core : Nat} {s : State} (h : Safety.Inv s) : Safety.OutInv (execVMin core s) := by
  unfold Machine.execVMin; exact h.vector2.next
@[simp] theorem Safety.Inv.execVAbs {core : Nat} {s : State} (h : Safety.Inv s) : Safety.OutInv (execVAbs core s) := by
  unfold Machine.execVAbs; exact h.vector1.next
@[simp] theorem Safety.Inv.execVNeg {core : Nat} {s : State} (h : Safety.Inv s) : Safety.OutInv (execVNeg core s) := by
  unfold Machine.execVNeg; exact h.vector1.next
@[simp] theorem Safety.Inv.execVRcp {core : Nat} {s : State} (h : Safety.Inv s) : Safety.OutInv (execVRcp core s) := by
  unfold Machine.execVRcp; exact h.vector1.next
@[simp] theorem Safety.Inv.execVRsqrt {core : Nat} {s : State} (h : Safety.Inv s) : Safety.OutInv (execVRsqrt core s) := by
  unfold Machine.execVRsqrt; exact h.vector1.next
@[simp] theorem Safety.Inv.execVExp2 {core : Nat} {s : State} (h : Safety.Inv s) : Safety.OutInv (execVExp2 core s) := by
  unfold Machine.execVExp2; exact h.vector1.next
@[simp] theorem Safety.Inv.execVLog2 {core : Nat} {s : State} (h : Safety.Inv s) : Safety.OutInv (execVLog2 core s) := by
  unfold Machine.execVLog2; exact h.vector1.next
@[simp] theorem Safety.Inv.execVCvt {core : Nat} {s : State} (h : Safety.Inv s) : Safety.OutInv (execVCvt core s) := by
  unfold Machine.execVCvt; exact (h.vector (fun _ _ _ _ k => .iteFst k k)).next
@[simp] theorem Safety.Inv.execVCmp {core : Nat} {s : State} (h : Safety.Inv s) : Safety.OutInv (execVCmp core s) := by
  unfold Machine.execVCmp; exact h.vectorPure.next
@[simp] theorem Safety.Inv.execVSel {core : Nat} {s : State} (h : Safety.Inv s) : Safety.OutInv (execVSel core s) := by
  unfold Machine.execVSel; exact h.vectorLanes.next
@[simp] theorem Safety.Inv.execVAnd {core : Nat} {s : State} (h : Safety.Inv s) : Safety.OutInv (execVAnd core s) := by
  unfold Machine.execVAnd; exact h.vector2.next
@[simp] theorem Safety.Inv.execVOr {core : Nat} {s : State} (h : Safety.Inv s) : Safety.OutInv (execVOr core s) := by
  unfold Machine.execVOr; exact h.vector2.next
@[simp] theorem Safety.Inv.execVXor {core : Nat} {s : State} (h : Safety.Inv s) : Safety.OutInv (execVXor core s) := by
  unfold Machine.execVXor; exact h.vector2.next
@[simp] theorem Safety.Inv.execVShl {core : Nat} {s : State} (h : Safety.Inv s) : Safety.OutInv (execVShl core s) := by
  unfold Machine.execVShl; exact h.vector2.next
@[simp] theorem Safety.Inv.execVShr {core : Nat} {s : State} (h : Safety.Inv s) : Safety.OutInv (execVShr core s) := by
  unfold Machine.execVShr; exact h.vector2.next
@[simp] theorem Safety.Inv.execVSar {core : Nat} {s : State} (h : Safety.Inv s) : Safety.OutInv (execVSar core s) := by
  unfold Machine.execVSar; exact h.vector2.next
@[simp] theorem Safety.Inv.execVPlog {core : Nat} {s : State} (h : Safety.Inv s) : Safety.OutInv (execVPlog core s) := by
  unfold Machine.execVPlog; exact h.vectorPure.next
@[simp] theorem Safety.Inv.execVPset {core : Nat} {s : State} (h : Safety.Inv s) : Safety.OutInv (execVPset core s) := by
  unfold Machine.execVPset; exact h.vectorPure.next
@[simp] theorem Safety.Inv.execVTrn {core : Nat} {s : State} (h : Safety.Inv s) : Safety.OutInv (execVTrn core s) := by
  unfold Machine.execVTrn; exact h.vectorMove.next
@[simp] theorem Safety.Inv.execVBrow {core : Nat} {s : State} (h : Safety.Inv s) : Safety.OutInv (execVBrow core s) := by
  unfold Machine.execVBrow; exact h.vectorMove.next
@[simp] theorem Safety.Inv.execVBcol {core : Nat} {s : State} (h : Safety.Inv s) : Safety.OutInv (execVBcol core s) := by
  unfold Machine.execVBcol; exact h.vectorMove.next
@[simp] theorem Safety.Inv.execVIota {core : Nat} {s : State} (h : Safety.Inv s) : Safety.OutInv (execVIota core s) := by
  unfold Machine.execVIota; exact h.vectorLanes.next
theorem Safety.Inv.kernelRead {s : State} {core off len : Nat} (h : Safety.Inv s) : Safety.Inv (s.kernelRead core off len).1 := by
  unfold State.kernelRead; exact .iteFst h.readMem h
theorem Safety.Inv.kernelReads {s : State} {core : Nat} {l : List (Nat × Nat)} (h : Safety.Inv s) : Safety.Inv (s.kernelReads core l).1 := by
  induction l generalizing s with
  | nil => unfold State.kernelReads; exact h
  | cons x xs ih =>
    unfold State.kernelReads
    split
    · rename_i he
      exact h.kernelRead.of he
    · rename_i he
      have ht := h.kernelRead.of he
      split
      · rename_i he
        exact (ih ht).of he
      · rename_i he
        exact (ih ht).of he
theorem Safety.Inv.laneReads {s : State} {core : Nat} {act : List Bool} {off : Nat → Nat} (h : Safety.Inv s) :
    Safety.Inv (s.laneReads core act off).1 := by
  unfold State.laneReads
  split
  · rename_i he
    exact h.kernelReads.of he
  · rename_i he
    exact h.kernelReads.of he
theorem Safety.Inv.rowReads {s : State} {core : Nat} {act : List Bool} {off : Nat → Nat} (h : Safety.Inv s) :
    Safety.Inv (s.rowReads core act off).1 := by
  unfold State.rowReads
  split
  · rename_i he
    exact h.kernelReads.of he
  · rename_i he
    exact h.kernelReads.of he
@[simp] theorem Safety.Inv.execVLd {core : Nat} {s : State} (h : Safety.Inv s) : Safety.OutInv (execVLd core s) := by
  unfold Machine.execVLd
  refine (h.vector ?_).next
  intro _ _ _ _ k
  refine .iteFst k ?_
  split
  · rename_i he
    exact k.rowReads.of he
  · rename_i he
    exact k.rowReads.of he
@[simp] theorem Safety.Inv.execVSt {core : Nat} {s : State} (h : Safety.Inv s) : Safety.OutInv (execVSt core s) := by
  unfold Machine.execVSt; exact (h.vector (fun _ _ _ _ k => .iteFst k k)).next
@[simp] theorem Safety.Inv.execVLdg {core : Nat} {s : State} (h : Safety.Inv s) : Safety.OutInv (execVLdg core s) := by
  unfold Machine.execVLdg
  refine (h.vector ?_).next
  intro _ _ _ _ k
  refine .iteFst k ?_
  split
  · rename_i he
    exact k.laneReads.of he
  · rename_i he
    exact k.laneReads.of he
@[simp] theorem Safety.Inv.execVStg {core : Nat} {s : State} (h : Safety.Inv s) : Safety.OutInv (execVStg core s) := by
  unfold Machine.execVStg; exact (h.vector (fun _ _ _ _ k => .iteFst k k)).next
@[simp] theorem Safety.Inv.execVLdp {core : Nat} {s : State} (h : Safety.Inv s) : Safety.OutInv (execVLdp core s) := by
  unfold Machine.execVLdp
  refine (h.vector ?_).next
  intro _ _ _ _ k
  refine .iteFst k ?_
  split
  · rename_i he
    exact k.kernelRead.of he
  · rename_i he
    exact k.kernelRead.of he
@[simp] theorem Safety.Inv.execVStp {core : Nat} {s : State} (h : Safety.Inv s) : Safety.OutInv (execVStp core s) := by
  unfold Machine.execVStp; exact (h.vector (fun _ _ _ _ k => .iteFst k k)).next
@[simp] theorem Safety.Inv.execVLdx {core : Nat} {s : State} (h : Safety.Inv s) : Safety.OutInv (execVLdx core s) := by
  unfold Machine.execVLdx
  refine (h.vector ?_).next
  intro _ _ _ _ k
  dsimp only
  split
  · rename_i he
    exact k.kernelReads.of he
  · rename_i he
    exact k.kernelReads.of he
@[simp] theorem Safety.Inv.execVStx {core : Nat} {s : State} (h : Safety.Inv s) : Safety.OutInv (execVStx core s) := by
  unfold Machine.execVStx; exact (h.vector (fun _ _ _ _ k => .iteFst k k)).next
theorem Safety.Inv.vectorScalar {s : State} {core op : Nat} {g : VInstr → VectorEngine → Word64} (h : Safety.Inv s) :
    Safety.Inv (s.vectorScalar core op g) := by
  unfold State.vectorScalar; exact h.vectorPure
@[simp] theorem Safety.Inv.execVSset {core : Nat} {s : State} (h : Safety.Inv s) : Safety.OutInv (execVSset core s) := by
  unfold Machine.execVSset; exact h.vectorScalar.next
@[simp] theorem Safety.Inv.execVSseth {core : Nat} {s : State} (h : Safety.Inv s) : Safety.OutInv (execVSseth core s) := by
  unfold Machine.execVSseth; exact h.vectorScalar.next
@[simp] theorem Safety.Inv.execVSadd {core : Nat} {s : State} (h : Safety.Inv s) : Safety.OutInv (execVSadd core s) := by
  unfold Machine.execVSadd; exact h.vectorScalar.next
@[simp] theorem Safety.Inv.execVSaddr {core : Nat} {s : State} (h : Safety.Inv s) : Safety.OutInv (execVSaddr core s) := by
  unfold Machine.execVSaddr; exact h.vectorScalar.next
@[simp] theorem Safety.Inv.execVSmul {core : Nat} {s : State} (h : Safety.Inv s) : Safety.OutInv (execVSmul core s) := by
  unfold Machine.execVSmul; exact h.vectorScalar.next
@[simp] theorem Safety.Inv.execVSget {core : Nat} {s : State} (h : Safety.Inv s) : Safety.OutInv (execVSget core s) := by
  unfold Machine.execVSget; exact h.vectorScalar.next
@[simp] theorem Safety.Inv.execVSld {core : Nat} {s : State} (h : Safety.Inv s) : Safety.OutInv (execVSld core s) := by
  unfold Machine.execVSld
  refine (h.vector ?_).next
  intro _ _ _ _ k
  refine .iteFst k ?_
  split
  · rename_i he
    exact k.kernelRead.of he
  · rename_i he
    exact k.kernelRead.of he
@[simp] theorem Safety.Inv.execVSst {core : Nat} {s : State} (h : Safety.Inv s) : Safety.OutInv (execVSst core s) := by
  unfold Machine.execVSst; exact (h.vector (fun _ _ _ _ k => .iteFst k k)).next
@[simp] theorem Safety.Inv.execVJmp {core : Nat} {s : State} (h : Safety.Inv s) : Safety.OutInv (execVJmp core s) := by
  unfold Machine.execVJmp; exact h.vectorPure.next
@[simp] theorem Safety.Inv.execVBnz {core : Nat} {s : State} (h : Safety.Inv s) : Safety.OutInv (execVBnz core s) := by
  unfold Machine.execVBnz; exact h.vectorPure.next
@[simp] theorem Safety.Inv.execVLoop {core : Nat} {s : State} (h : Safety.Inv s) : Safety.OutInv (execVLoop core s) := by
  unfold Machine.execVLoop; exact h.vectorPure.next
@[simp] theorem Safety.Inv.execVEnd {core : Nat} {s : State} (h : Safety.Inv s) : Safety.OutInv (execVEnd core s) := by
  unfold Machine.execVEnd; exact (h.vector (fun _ _ _ _ k => k)).next
@[simp] theorem Safety.Inv.execVRclr {core : Nat} {s : State} (h : Safety.Inv s) : Safety.OutInv (execVRclr core s) := by
  unfold Machine.execVRclr; exact h.vectorPure.next
@[simp] theorem Safety.Inv.execVRfeed {core : Nat} {s : State} (h : Safety.Inv s) : Safety.OutInv (execVRfeed core s) := by
  unfold Machine.execVRfeed; exact (h.vector (fun _ _ _ _ k => .iteFst k k)).next
@[simp] theorem Safety.Inv.execVRget {core : Nat} {s : State} (h : Safety.Inv s) : Safety.OutInv (execVRget core s) := by
  unfold Machine.execVRget; exact (h.vector (fun _ _ _ _ k => .iteFst k.draw k)).next
@[simp] theorem Safety.Inv.execVRtap {core : Nat} {s : State} (h : Safety.Inv s) : Safety.OutInv (execVRtap core s) := by
  unfold Machine.execVRtap; exact h.vectorPure.next

/-! ## Reduce -/

theorem Safety.Inv.endReduce {s : State} {core : Nat} {d : RDesc} {cause : Cause} (h : Safety.Inv s) : Safety.Inv (s.endReduce core d cause) := by
  unfold State.endReduce; exact h.modCore.endItem
theorem Safety.Inv.actReduce {s : State} {core q op : Nat} {act : State → RDesc → State} {e : Entry}
    (h : Safety.Inv s) (hact : ∀ (s : State) (b : RDesc), Safety.Inv s → Safety.Inv (act s b)) :
    Safety.Inv (s.actReduce core q op act e) := by
  unfold State.actReduce
  split
  · rename_i he
    exact (h.readOwn.of he).modCore.haltQueue
  · rename_i he
    have ht := h.readOwn.of he
    exact .ite ht (.ite (hact _ _ ht.goNext) ht.goNext.endReduce)
theorem Safety.Inv.issueReduce {s : State} {core q op : Nat} {act : State → RDesc → State}
    (h : Safety.Inv s) (hact : ∀ (s : State) (b : RDesc), Safety.Inv s → Safety.Inv (act s b)) :
    Safety.Inv (s.issueReduce core q op act) := by
  unfold State.issueReduce; exact h.issue (fun _ _ k => k.actReduce (fun _ _ k1 => hact _ _ k1))
theorem Safety.Inv.finishReduce {s : State} {core : Nat} {d : RDesc} {values : List Val} {vanished : Nat} (h : Safety.Inv s) :
    Safety.Inv (s.finishReduce core d values vanished) := h.set
theorem Safety.Inv.treeStep {core : Nat} {d : RDesc} {st : State × Cause × List TileOut} {t : Nat} (h : Safety.Inv st.1) :
    Safety.Inv (State.treeStep core d st t).1 := by
  unfold State.treeStep
  split
  refine .iteFst h ?_
  split
  · rename_i he
    exact (h.readRegions.of he).writeAll.modCore
  · rename_i he
    exact h.readRegions.of he
theorem Safety.Inv.runTree {core : Nat} {s : State} {d : RDesc} (h : Safety.Inv s) : Safety.Inv (State.runTree core s d) := by
  unfold State.runTree
  split
  · rename_i he
    exact (Safety.Inv.of he (h.foldlPair (fun _ _ k => k.treeStep))).finishReduce
  · rename_i he
    exact (Safety.Inv.of he (h.foldlPair (fun _ _ k => k.treeStep))).endReduce
@[simp] theorem Safety.Inv.execTree {core q : Nat} {s : State} (h : Safety.Inv s) : Safety.OutInv (execTree core q s) := by
  unfold Machine.execTree; exact (h.issueReduce (fun _ _ k => k.runTree)).next
theorem Safety.Inv.runSum {core : Nat} {s : State} {d : RDesc} (h : Safety.Inv s) : Safety.Inv (State.runSum core s d) := by
  unfold State.runSum
  split
  · rename_i he
    have ht := h.readRegions.of he
    dsimp only
    split
    · rename_i he
      exact (ht.writeMem.of he).finishReduce
    · rename_i he
      exact (ht.writeMem.of he).endReduce
  · rename_i he
    exact (h.readRegions.of he).endReduce
@[simp] theorem Safety.Inv.execSum {core q : Nat} {s : State} (h : Safety.Inv s) : Safety.OutInv (execSum core q s) := by
  unfold Machine.execSum; exact (h.issueReduce (fun _ _ k => k.runSum)).next
theorem Safety.Inv.runRows {core : Nat} {s : State} {d : RDesc} (h : Safety.Inv s) : Safety.Inv (State.runRows core s d) := by
  unfold State.runRows
  split
  · rename_i he
    exact (h.readRegions.of he).writeAll.endReduce
  · rename_i he
    exact (h.readRegions.of he).endReduce
@[simp] theorem Safety.Inv.execRows {core q : Nat} {s : State} (h : Safety.Inv s) : Safety.OutInv (execRows core q s) := by
  unfold Machine.execRows; exact (h.issueReduce (fun _ _ k => k.runRows)).next
theorem Safety.Inv.runTapread {core : Nat} {s : State} {d : RDesc} (h : Safety.Inv s) : Safety.Inv (State.runTapread core s d) := by
  unfold State.runTapread
  dsimp only
  split
  · rename_i he
    exact ((h.writeAll.of he).when (fun _ k => k.modCore)).endReduce
  · rename_i he
    exact (h.writeAll.of he).endReduce
@[simp] theorem Safety.Inv.execTapread {core q : Nat} {s : State} (h : Safety.Inv s) : Safety.OutInv (execTapread core q s) := by
  unfold Machine.execTapread; exact (h.issueReduce (fun _ _ k => k.runTapread)).next

/-! ## Fabric -/

theorem Safety.Inv.modTorus {s : State} {f : Torus → Torus} (h : Safety.Inv s) : Safety.Inv (s.modTorus f) := h.set
theorem Safety.Inv.openXfer {s : State} {core : Nat} {x : Xfer} (h : Safety.Inv s) : Safety.Inv (s.openXfer core x).1 := h.set
theorem Safety.Inv.addXferBytes {s : State} {core id n : Nat} (h : Safety.Inv s) : Safety.Inv (s.addXferBytes core id n) := h.set
theorem Safety.Inv.unqueue {s : State} {tags : List Nat} (h : Safety.Inv s) : Safety.Inv (s.unqueue tags) := by
  unfold State.unqueue; exact .ite h h.modTorus
theorem Safety.Inv.endOpen {s : State} {core id : Nat} {cause : Cause} (h : Safety.Inv s) : Safety.Inv (s.endOpen core id cause) := by
  unfold State.endOpen
  split
  · exact h
  · exact ((h.when (fun _ k => k.unqueue)).modTorus.modXf.when (fun _ k => k.modCore)).endXfer
theorem Safety.Inv.sourceDone {s : State} {core id tag : Nat} (h : Safety.Inv s) : Safety.Inv (s.sourceDone core id tag) := by
  unfold State.sourceDone
  dsimp only
  split
  · exact .ite (h.modTorus.when (fun _ k => k.modXf)).endOpen (h.modTorus.when (fun _ k => k.modXf))
  · exact h.modTorus.when fun _ k => k.modXf
theorem Safety.Inv.sourceFail {s : State} {y : Source} {cause : Cause} (h : Safety.Inv s) : Safety.Inv (s.sourceFail y cause) := by
  unfold State.sourceFail; exact (h.when (fun _ k => k.set)).unqueue.modTorus.endOpen
theorem Safety.Inv.modPath {s : State} {dst : Nat} {f : Machine.Path → Machine.Path} (h : Safety.Inv s) : Safety.Inv (s.modPath dst f) := h.set
theorem Safety.Inv.knowPath {s : State} {dst : Nat} (h : Safety.Inv s) : Safety.Inv (s.knowPath dst) := by
  unfold State.knowPath; exact .ite h h.modPath
theorem Safety.Inv.sendProtocol {s : State} {p : Packet} (h : Safety.Inv s) : Safety.Inv (s.sendProtocol p) := by
  unfold State.sendProtocol; exact .ite h.knowPath (.ite h.knowPath.modPath h.knowPath.forward)
theorem Safety.Inv.sendSource {s : State} {tag : Nat} (h : Safety.Inv s) : Safety.Inv (s.sendSource tag) := by
  unfold State.sendSource
  split
  · exact h
  · exact .ite h.sourceFail (.ite h (h.modTorus.each (fun _ _ k => k.forward)))
theorem Safety.Inv.openSource {s : State} {core item : Nat} {p : Packet} {parts : List (Nat × List Byte)} (h : Safety.Inv s) :
    Safety.Inv (s.openSource core item p parts).1 := by
  unfold State.openSource; exact h.knowPath.modTorus
theorem Safety.Inv.startSource {s : State} {core item : Nat} {p : Packet} {parts : List (Nat × List Byte)} (h : Safety.Inv s) :
    Safety.Inv (s.startSource core item p parts) := by
  unfold State.startSource; exact .ite h.knowPath.modTorus (h.knowPath.modTorus.each (fun _ _ k => k.forward))
theorem Safety.Inv.releasePath {s : State} {dst : Nat} (h : Safety.Inv s) : Safety.Inv (s.releasePath dst) := by
  unfold State.releasePath; exact (h.modPath.each (fun _ _ k => k.sendProtocol)).each fun _ _ k => k.sendSource
theorem Safety.Inv.knowPaths {s : State} (h : Safety.Inv s) : Safety.Inv s.knowPaths := by
  unfold State.knowPaths; exact h.each fun _ _ k => .ite k k.knowPath
theorem Safety.Inv.reroute {s : State} {dst : Nat} (h : Safety.Inv s) : Safety.Inv (s.reroute dst) := by
  unfold State.reroute
  refine .ite h ?_
  refine .ite h.modPath ?_
  exact .ite (h.modPath.each (fun _ _ k => k.forward)).releasePath (h.modPath.each (fun _ _ k => k.forward))
theorem Safety.Inv.rerouteAll {s : State} (h : Safety.Inv s) : Safety.Inv s.rerouteAll := by
  unfold State.rerouteAll; exact (h.each (fun _ _ k => k.reroute)).knowPaths
theorem Safety.Inv.portServiceChanged {s : State} {port : Nat} (h : Safety.Inv s) : Safety.Inv (s.portServiceChanged port) := by
  unfold State.portServiceChanged; exact h.modTorus.flood.rerouteAll
theorem Safety.Inv.popPacket {s : State} {port : Nat} {p : Packet} (h : Safety.Inv s) : Safety.Inv (s.popPacket port p) := h.set
theorem Safety.Inv.noteEpoch {s : State} {p : Packet} (h : Safety.Inv s) : Safety.Inv (s.noteEpoch p) := by
  unfold State.noteEpoch; exact .ite h h.modTorus
theorem Safety.Inv.takePacket {s : State} {port kind : Nat} {f : State → Packet → State}
    (h : Safety.Inv s) (hf : ∀ (s : State) (b : Packet), Safety.Inv s → Safety.Inv (f s b)) :
    Safety.Inv (s.takePacket port kind f) := by
  unfold State.takePacket
  split
  · exact h
  · exact .ite h.popPacket.badPacket (hf _ _ h.popPacket.noteEpoch)
theorem Safety.Inv.reply {s : State} {p : Packet} {kind : Nat} {cause : Cause} (h : Safety.Inv s) : Safety.Inv (s.reply p kind cause) := by
  unfold State.reply; exact h.sendProtocol
theorem Safety.Inv.bundleIn {s : State} {core : Nat} (h : Safety.Inv s) : Safety.Inv (s.bundleIn core) := h.set
theorem Safety.Inv.dropEntry {s : State} {o : OpenIn} (h : Safety.Inv s) : Safety.Inv (s.dropEntry o) := h.set
theorem Safety.Inv.putEntry {s : State} {o : OpenIn} (h : Safety.Inv s) : Safety.Inv (s.putEntry o) := h.set
theorem Safety.Inv.completeIn {s : State} {o : OpenIn} {p : Packet} (h : Safety.Inv s) : Safety.Inv (s.completeIn o p) := by
  unfold State.completeIn
  exact ((h.when (fun _ k => k.each (fun _ _ k1 => k1.advance))).when (fun _ k => k.each (fun _ _ k1 => k1.bundleIn))).dropEntry.reply
theorem Safety.Inv.failIn {s : State} {o : OpenIn} {p : Packet} {cause : Cause} (h : Safety.Inv s) : Safety.Inv (s.failIn o p cause) := by
  unfold State.failIn; exact .reply (.ite h.dropEntry h.putEntry)
theorem Safety.Inv.takeWrite {s : State} {edge : Nat} {p : Packet} (h : Safety.Inv s) : Safety.Inv (s.takeWrite edge p) := by
  unfold State.takeWrite
  refine .ite (.ite h.dropEntry h.putEntry) ?_
  refine .ite h.failIn ?_
  refine .ite h.dropEntry.modTorus.reply ?_
  split
  · rename_i he
    have ht := h.writeAll.of he
    exact .ite ht.completeIn ht.putEntry
  · rename_i he
    exact (h.writeAll.of he).failIn
@[simp] theorem Safety.Inv.execWrite {port : Nat} {s : State} (h : Safety.Inv s) : Safety.OutInv (execWrite port s) := by
  unfold Machine.execWrite
  split
  · exact .next (.ite (h.takePacket (fun _ _ k => k.takeWrite)) h)
  · exact h.next
@[simp] theorem Safety.Inv.execCompletion {port : Nat} {s : State} (h : Safety.Inv s) : Safety.OutInv (execCompletion port s) := by
  unfold Machine.execCompletion
  refine (h.takePacket ?_).next
  intro _ _ k
  split
  · exact k
  · exact .ite k.sourceDone k.sourceFail
@[simp] theorem Safety.Inv.execRefused {port : Nat} {s : State} (h : Safety.Inv s) : Safety.OutInv (execRefused port s) := by
  unfold Machine.execRefused
  refine (h.takePacket ?_).next
  intro _ _ k
  split
  · exact k
  · exact .ite k.modTorus k.sourceFail
@[simp] theorem Safety.Inv.execRefusedRetry {tag : Nat} {s : State} (h : Safety.Inv s) : Safety.OutInv (execRefusedRetry tag s) := by
  unfold Machine.execRefusedRetry
  split
  · split
    · exact .next (.ite h.modTorus.sendSource h)
    · exact h.next
  · exact h.next
@[simp] theorem Safety.Inv.execRetryWindowEnd {tag : Nat} {s : State} (h : Safety.Inv s) : Safety.OutInv (execRetryWindowEnd tag s) := by
  unfold Machine.execRetryWindowEnd
  split
  · exact .next (.ite h.sourceFail h)
  · exact h.next
@[simp] theorem Safety.Inv.execSourceTransferTimeout {tag : Nat} {s : State} (h : Safety.Inv s) :
    Safety.OutInv (execSourceTransferTimeout tag s) := by
  unfold Machine.execSourceTransferTimeout
  split
  · exact .next (.ite h.sourceFail h)
  · exact h.next
@[simp] theorem Safety.Inv.execOpenTransferTimeout {edge src tag : Nat} {s : State} (h : Safety.Inv s) :
    Safety.OutInv (execOpenTransferTimeout edge src tag s) := by
  unfold Machine.execOpenTransferTimeout
  split
  · exact .next (.ite h.dropEntry h)
  · exact h.next
@[simp] theorem Safety.Inv.execEpochEnd {port : Nat} {s : State} (h : Safety.Inv s) : Safety.OutInv (execEpochEnd port s) := by
  unfold Machine.execEpochEnd; exact (h.takePacket (fun _ _ k => k.knowPath.forward)).next
@[simp] theorem Safety.Inv.execEpochAck {port : Nat} {s : State} (h : Safety.Inv s) : Safety.OutInv (execEpochAck port s) := by
  unfold Machine.execEpochAck; exact (h.takePacket (fun _ _ k => .ite (.ite k.modPath.releasePath k.modPath) k)).next
@[simp] theorem Safety.Inv.execEpochClose {port : Nat} {s : State} (h : Safety.Inv s) : Safety.OutInv (execEpochClose port s) := by
  unfold Machine.execEpochClose; exact (h.takePacket (fun _ _ k => k.modTorus)).next
@[simp] theorem Safety.Inv.execDrainLimit {node : Nat} {s : State} (h : Safety.Inv s) : Safety.OutInv (execDrainLimit node s) := by
  unfold Machine.execDrainLimit; exact .next (.ite ((h.each (fun _ _ k => k.sourceFail)).modTorus.each (fun _ _ k => k.forward)).releasePath h)
@[simp] theorem Safety.Inv.execLinkState {arrived node port : Nat} {up : Bool} {seq : Nat} {s : State} (h : Safety.Inv s) :
    Safety.OutInv (execLinkState arrived node port up seq s) := by
  unfold Machine.execLinkState; exact .next (.ite h h.flood.modTorus.rerouteAll)

/-! ## Copy -/

theorem Safety.Inv.expand {s : State} {core port fmt rate : Nat} {blocks : List (List Byte)} (h : Safety.Inv s) :
    Safety.Inv (s.expand core port fmt rate blocks).1 := h.set
theorem Safety.Inv.poolRequest {s : State} {core id : Nat} {lines : List Nat} {writes : List (Nat × List Byte)} {writing : Bool}
    (h : Safety.Inv s) :
    Safety.Inv (s.poolRequest core id lines writes writing) := h.set
theorem Safety.Inv.finishLocal {s : State} {core id : Nat} {d : XDesc} (h : Safety.Inv s) : Safety.Inv (s.finishLocal core id d) := by
  unfold State.finishLocal; exact ((h.when (fun _ k => k.advance)).when (fun _ k => k.set)).endOpen
theorem Safety.Inv.writeErrors {s : State} {core : Nat} {d : XDesc} {bs : List Byte} (h : Safety.Inv s) :
    Safety.Inv (s.writeErrors core d bs).1 := by
  unfold State.writeErrors; exact .iteFst h.writeMem h
theorem Safety.Inv.encodeCopy {s : State} {core : Nat} {d : XDesc} {t : Table} {xs : List Val} (h : Safety.Inv s) :
    Safety.Inv (s.encodeCopy core d t xs).state := h.set

theorem Safety.Inv.decodeCopy {s : State} {core rate : Nat} {d : XDesc} {bs : List Byte} (h : Safety.Inv s) :
    Safety.Inv (s.decodeCopy core d rate bs).state := h.set

theorem Safety.Inv.produce {s : State} {core : Nat} {d : XDesc} {bs : List Byte} (h : Safety.Inv s) : Safety.Inv (s.produce core d bs).state := by
  unfold State.produce
  split
  · exact h
  · split
    · split
      · exact h.encodeCopy
      · exact h
    · split
      · split
        · exact h.decodeCopy
        · exact h
      · exact h
theorem Safety.Inv.copyOut {s : State} {core id : Nat} {d : XDesc} {bs : List Byte} (h : Safety.Inv s) : Safety.Inv (s.copyOut core id d bs) := by
  unfold State.copyOut
  split
  · dsimp only
    split
    · rename_i he
      have ht := h.produce.addXferBytes.writeErrors.of he
      exact .ite ht.openSource.modXf.sendSource (.ite ht.endOpen ht.poolRequest)
    · rename_i he
      exact (h.produce.addXferBytes.writeErrors.of he).endOpen
  · dsimp only
    split
    · rename_i he
      have ht := h.produce.addXferBytes.writeErrors.of he
      refine .ite ht.openSource.modXf.sendSource ?_
      refine .ite ht.endOpen ?_
      split
      · rename_i he
        have ht1 := ht.writeAll.of he
        exact .ite ht1.finishLocal ht1.endOpen
      · rename_i he
        exact (ht.writeAll.of he).endOpen
    · rename_i he
      exact (h.produce.addXferBytes.writeErrors.of he).endOpen
theorem Safety.Inv.actCopy {s : State} {core q w : Nat} (h : Safety.Inv s) : Safety.Inv (s.actCopy core q w) := by
  unfold State.actCopy
  refine .ite h.endXfer ?_
  split
  rename_i he
  have ht := h.openXfer.of he
  refine .ite ht.endOpen ?_
  refine .ite ht.endOpen ?_
  refine .ite ht.endOpen ?_
  refine .ite ht.poolRequest ?_
  split
  · rename_i he
    exact (ht.readMem.of he).endOpen
  · rename_i he
    exact (ht.readMem.of he).copyOut
@[simp] theorem Safety.Inv.execCopy {core q : Nat} {s : State} (h : Safety.Inv s) : Safety.OutInv (execCopy core q s) := by
  unfold Machine.execCopy; exact (h.issueXfer (fun _ _ k => k.actCopy)).next

/-! ## Shards -/

theorem Safety.Inv.modCommit {s : State} {f : CommitUnit → CommitUnit} (h : Safety.Inv s) : Safety.Inv (s.modCommit f) := h.set
theorem Safety.Inv.modShard {s : State} {n : Nat} {f : ShardSt → ShardSt} (h : Safety.Inv s) : Safety.Inv (s.modShard n f) := h.set
theorem Safety.Inv.readCommit {s : State} {d : ShardCfg} (h : Safety.Inv s) : Safety.Inv (s.readCommit d).1 := by
  unfold State.readCommit
  dsimp only
  split
  · rename_i t _ he
    have ht : Safety.Inv t := by
      refine .of he ?_
      refine .readMem ?_
      split
      · rename_i he
        exact h.readMem.of he
      · rename_i he
        exact h.readMem.of he
    exact ht
  · rename_i t _ he
    have ht : Safety.Inv t := by
      refine .of he ?_
      refine .readMem ?_
      split
      · rename_i he
        exact h.readMem.of he
      · rename_i he
        exact h.readMem.of he
    exact ht
theorem Safety.Inv.loadShard {s : State} {n : Nat} (h : Safety.Inv s) : Safety.Inv (s.loadShard n) := by
  unfold State.loadShard
  split
  · exact h
  · split
    · rename_i he
      exact (h.readCommit.of he).modShard
    · rename_i he
      exact (h.readCommit.of he).modShard
theorem Safety.Inv.writeCommit {s : State} {n : Nat} {d : ShardCfg} {r : CommitRec} (h : Safety.Inv s) : Safety.Inv (s.writeCommit n d r).1 := by
  unfold State.writeCommit
  split
  · rename_i he
    exact (h.writeMem.of he).modShard
  · rename_i he
    exact h.writeMem.of he
theorem Safety.Inv.addHold {s : State} {n slot holder : Nat} {mark : optParam Nat 0} (h : Safety.Inv s) :
    Safety.Inv (s.addHold n slot holder mark) := h.set
theorem Safety.Inv.raiseHold {s : State} {n holder mark : Nat} (h : Safety.Inv s) : Safety.Inv (s.raiseHold n holder mark) := h.set
theorem Safety.Inv.dropHold {s : State} {n holder : Nat} (h : Safety.Inv s) : Safety.Inv (s.dropHold n holder) := h.set

/-! ## Memory -/

theorem Safety.Inv.openShardXfer {s : State} {core q w : Nat} {d : XDesc} {kind : XferKind} {bytes : Nat} (h : Safety.Inv s) :
    Safety.Inv (s.openShardXfer core q w d kind bytes).1 := h.set
theorem Safety.Inv.actStage {s : State} {core q w : Nat} (h : Safety.Inv s) : Safety.Inv (s.actStage core q w) := by
  unfold State.actStage
  dsimp only
  split
  · exact .ite (.ite h.openShardXfer.endOpen h.openShardXfer.addHold.poolRequest) h.endXfer
  · exact h.endXfer
theorem Safety.Inv.holdStageEntry {s : State} {core q : Nat} {t : State} {w : Nat} (h : Safety.Inv s) (h1 : Safety.Inv t) :
    Safety.Inv (s.holdStageEntry core q t w) := by
  unfold State.holdStageEntry; exact .ite h1.actStage h
@[simp] theorem Safety.Inv.execStage {core q : Nat} {s : State} (h : Safety.Inv s) : Safety.OutInv (execStage core q s) := by
  unfold Machine.execStage; exact (h.issueXfer (fun _ _ k => h.holdStageEntry k)).next
theorem Safety.Inv.actWriteback {s : State} {core q w : Nat} (h : Safety.Inv s) : Safety.Inv (s.actWriteback core q w) := by
  unfold State.actWriteback
  dsimp only
  split
  · split
    · refine .ite ?_ h.endXfer
      refine .ite h.openShardXfer.endOpen ?_
      split
      · rename_i he
        exact (h.openShardXfer.readMem.of he).endOpen
      · rename_i he
        exact (h.openShardXfer.readMem.of he).poolRequest
    · exact h.endXfer
  · exact h.endXfer
@[simp] theorem Safety.Inv.execWriteback {core q : Nat} {s : State} (h : Safety.Inv s) : Safety.OutInv (execWriteback core q s) := by
  unfold Machine.execWriteback; exact (h.issueXfer (fun _ _ k => k.actWriteback)).next
theorem Safety.Inv.endPool {s : State} {core : Nat} {x : Xfer} {cause : Cause} (h : Safety.Inv s) : Safety.Inv (s.endPool core x cause) := by
  unfold State.endPool; exact (h.when (fun _ k => k.dropHold)).endOpen
theorem Safety.Inv.decodeWhole {s : State} {core : Nat} {x : Xfer} {d : XDesc} (h : Safety.Inv s) : Safety.Inv (s.decodeWhole core x d) := by
  unfold State.decodeWhole
  split
  · exact h.endOpen
  · exact .ite h.endOpen (.ite h.copyOut (.ite h.endOpen h.poolRequest))
theorem Safety.Inv.poolWhole {s : State} {core : Nat} {x : Xfer} (h : Safety.Inv s) : Safety.Inv (s.poolWhole core x) := by
  unfold State.poolWhole
  split
  · split
    · exact h.endPool
    · split
      · rename_i he
        exact (h.writeMem.of he).modShard.endPool
      · rename_i he
        exact (h.writeMem.of he).endPool
  · exact h.modShard.endPool
  · exact .ite h.finishLocal (.ite h.decodeWhole h.copyOut)
theorem Safety.Inv.markUnbound {s : State} {entry : Nat} (h : Safety.Inv s) : Safety.Inv (s.markUnbound entry) := h.set
@[simp] theorem Safety.Inv.execPoolCompletion {tag line : Nat} {status : PoolStatus} {bytes : List Byte} {s : State} (h : Safety.Inv s) :
    Safety.OutInv (execPoolCompletion tag line status bytes s) := by
  unfold Machine.execPoolCompletion
  split
  · exact h.next
  · refine .next (.ite h ?_)
    split
    · exact h.endPool
    · refine .endPool ?_
      split
      · exact h.markUnbound
      · exact h
    · refine .ite ?_ ?_
      · refine .poolWhole ?_
        split
        · exact h.modXf.raiseHold
        · exact h.modXf
      · split
        · exact h.modXf.raiseHold
        · exact h.modXf
@[simp] theorem Safety.Inv.execPoolTimeout {tag : Nat} {s : State} (h : Safety.Inv s) : Safety.OutInv (execPoolTimeout tag s) := by
  unfold Machine.execPoolTimeout
  split
  · exact .next (.ite h.modTiers.endPool h)
  · exact h.next
theorem Safety.Inv.endPools {s : State} {cause : Cause} (h : Safety.Inv s) : Safety.Inv (s.endPools cause) := by
  unfold State.endPools; exact h.each fun _ _ k => k.endPool
@[simp] theorem Safety.Inv.execSramScrub {addr : Nat} {s : State} (h : Safety.Inv s) : Safety.OutInv (execSramScrub addr s) := by
  unfold Machine.execSramScrub
  dsimp only
  split
  · exact h.next
  · exact h.countWords.modTiers.next
  · exact h.countWords.event.next
@[simp] theorem Safety.Inv.execPatrolScrub {addr : Nat} {s : State} (h : Safety.Inv s) : Safety.OutInv (execPatrolScrub addr s) := by
  unfold Machine.execPatrolScrub
  refine .next (.ite (.modTiers (.ite h ?_)) (.ite h ?_))
  · split
    · exact h.tierUe
    · exact (h.when (fun _ k => k.countCe)).storeLine
  · split
    · exact h.tierUe
    · exact (h.when (fun _ k => k.countCe)).storeLine
theorem Safety.Inv.modChannel {s : State} {n : Nat} {f : Channel → Channel} (h : Safety.Inv s) : Safety.Inv (s.modChannel n f) := by
  unfold State.modChannel; exact .ite h.modTiers h
@[simp] theorem Safety.Inv.execStrobeStep {channel : Nat} {s : State} (h : Safety.Inv s) : Safety.OutInv (execStrobeStep channel s) := by
  unfold Machine.execStrobeStep; exact h.modChannel.next
@[simp] theorem Safety.Inv.execChannelRetrain {channel : Nat} {ok : Bool} {s : State} (h : Safety.Inv s) :
    Safety.OutInv (execChannelRetrain channel ok s) := by
  unfold Machine.execChannelRetrain; exact .next (.ite h (.ite h.modChannel h.modChannel.event))
@[simp] theorem Safety.Inv.execRefresh {channel _bank : Nat} {s : State} (h : Safety.Inv s) : Safety.OutInv (execRefresh channel _bank s) := by
  unfold Machine.execRefresh; exact h.modChannel.next
@[simp] theorem Safety.Inv.execUeAddrLoRead {s : State} (h : Safety.Inv s) : Safety.OutInv (execUeAddrLoRead s) := by
  unfold Machine.execUeAddrLoRead; exact h.modTiers.set.next

/-! ## Experts -/

theorem Safety.Inv.rowOut {s : State} {core : Nat} {d : XDesc} {n : Nat} {bs : List Byte} (h : Safety.Inv s) :
    Safety.Inv (s.rowOut core d n bs).1 := by
  unfold State.rowOut; exact h.produce
theorem Safety.Inv.localBundle {s : State} {cores : List Nat} {counter : Nat} {parts : List (Nat × List Byte)} (h : Safety.Inv s) :
    Safety.Inv (s.localBundle cores counter parts).1 := by
  unfold State.localBundle
  refine .iteFst h ?_
  refine .iteFst h ?_
  split
  · rename_i he
    exact (h.writeWhole.of he).each fun _ _ k => k.advance.bundleIn
  · rename_i he
    exact h.writeWhole.of he
theorem Safety.Inv.sendBundle {s : State} {core id : Nat} {own : Bool} {x first n counter : Nat} {parts : List (Nat × List Byte)}
    (h : Safety.Inv s) :
    Safety.Inv (s.sendBundle core id own x first n counter parts) := by
  unfold State.sendBundle
  refine .ite h.addXferBytes ?_
  refine .ite ?_ h.addXferBytes.openSource.modXf.sendSource
  split
  · rename_i he
    exact h.addXferBytes.localBundle.of he
  · rename_i he
    exact (h.addXferBytes.localBundle.of he).endOpen
theorem Safety.Inv.readParts {s : State} {core : Nat} {l : List (Nat × Nat)} (h : Safety.Inv s) : Safety.Inv (s.readParts core l).1 := by
  induction l generalizing s with
  | nil => unfold State.readParts; exact h
  | cons x xs ih =>
    unfold State.readParts
    split
    · rename_i he
      exact h.readMem.of he
    · rename_i he
      have ht := h.readMem.of he
      split
      · rename_i he
        exact (ih ht).of he
      · rename_i he
        exact (ih ht).of he
theorem Safety.Inv.gatherRows {s : State} {core : Nat} {d : XDesc} {n rowBytes : Nat} {l : List Nat} (h : Safety.Inv s) :
    Safety.Inv (s.gatherRows core d n rowBytes l).1 := by
  induction l generalizing s with
  | nil => unfold State.gatherRows; exact h
  | cons x xs ih =>
    unfold State.gatherRows
    split
    · rename_i he
      exact h.readMem.of he
    · rename_i he
      have ht := h.readMem.of he
      split
      rename_i he
      have ht1 := ht.rowOut.of he
      split
      · rename_i he
        exact (ih ht1).of he
      · rename_i he
        exact (ih ht1).of he
theorem Safety.Inv.dispatchOne {core id : Nat} {d : XDesc} {b : DBlock} {s : State} {e : Home × List Nat × Nat} (h : Safety.Inv s) :
    Safety.Inv (State.dispatchOne core id d b s e) := by
  unfold State.dispatchOne
  split
  refine .ite h ?_
  split
  · rename_i he
    exact (h.gatherRows.of he).endOpen
  · rename_i he
    have ht := h.gatherRows.of he
    split
    · dsimp only
      split
      · rename_i he
        exact (ht.readParts.of he).endOpen
      · rename_i he
        exact (ht.readParts.of he).sendBundle
    · split
      · rename_i he
        exact (ht.readParts.of he).endOpen
      · rename_i he
        exact (ht.readParts.of he).sendBundle
theorem Safety.Inv.dispatchGo {s : State} {core id : Nat} {d : XDesc} {b : DBlock} {homes : List Home} {es : List REntry} (h : Safety.Inv s) :
    Safety.Inv (s.dispatchGo core id d b homes es) := by
  unfold State.dispatchGo
  split
  split
  · split
    · dsimp only
      split
      · rename_i he
        exact (h.writeAll.of he).foldl fun _ _ k => k.dispatchOne
      · rename_i he
        exact (h.writeAll.of he).endOpen
    · dsimp only
      split
      · rename_i he
        exact (h.writeAll.of he).foldl fun _ _ k => k.dispatchOne
      · rename_i he
        exact (h.writeAll.of he).endOpen
  · split
    · dsimp only
      split
      · rename_i he
        exact (h.writeAll.of he).modCore.foldl fun _ _ k => k.dispatchOne
      · rename_i he
        exact (h.writeAll.of he).endOpen
    · dsimp only
      split
      · rename_i he
        exact (h.writeAll.of he).modCore.foldl fun _ _ k => k.dispatchOne
      · rename_i he
        exact (h.writeAll.of he).endOpen
theorem Safety.Inv.expertFail {s : State} {core : Nat} {d : XDesc} {cause : Cause} (h : Safety.Inv s) :
    Safety.Inv (s.expertFail core d cause) := by
  unfold State.expertFail; exact h.modCore.endXfer
theorem Safety.Inv.withBlock {s : State} {core q : Nat} {d : XDesc} {act : State → Nat → State}
    (h : Safety.Inv s) (hact : ∀ (s : State) (b : Nat), Safety.Inv s → Safety.Inv (act s b)) :
    Safety.Inv (s.withBlock core q d act) := by
  unfold State.withBlock
  split
  · rename_i he
    exact (h.readOwn.of he).modCore.xferFailed.haltQueue
  · rename_i he
    exact hact _ _ (h.readOwn.of he)
theorem Safety.Inv.openExpert {s : State} {core q w : Nat} {d : XDesc} {kind : XferKind} (h : Safety.Inv s) :
    Safety.Inv (s.openExpert core q w d kind).1 := h.set
theorem Safety.Inv.actDispatch {s : State} {core q w : Nat} (h : Safety.Inv s) : Safety.Inv (s.actDispatch core q w) := by
  unfold State.actDispatch
  refine h.withBlock ?_
  intro _ _ k
  refine .ite k.expertFail ?_
  split
  · rename_i he
    exact (k.readMem.of he).expertFail
  · rename_i he
    have ht := k.readMem.of he
    split
    · rename_i he
      exact (ht.readMem.of he).expertFail
    · rename_i he
      have ht1 := ht.readMem.of he
      exact .ite ht1.expertFail ht1.openExpert.dispatchGo
@[simp] theorem Safety.Inv.execDispatch {core q : Nat} {s : State} (h : Safety.Inv s) : Safety.OutInv (execDispatch core q s) := by
  unfold Machine.execDispatch; exact (h.issueXfer (fun _ _ k => k.actDispatch)).next
theorem Safety.Inv.expertDone {s : State} {core item : Nat} {kind : XferKind} (h : Safety.Inv s) : Safety.Inv (s.expertDone core item kind) := by
  unfold State.expertDone
  split
  · exact .ite h.endOpen h
  · exact h
@[simp] theorem Safety.Inv.execDispatchDone {core item : Nat} {s : State} (h : Safety.Inv s) : Safety.OutInv (execDispatchDone core item s) := by
  unfold Machine.execDispatchDone; exact h.expertDone.next
theorem Safety.Inv.combineOne {core id : Nat} {d : XDesc} {b : CBlock} {n : Nat} {s : State} {e : Nat × Nat × Nat × List Nat} (h : Safety.Inv s) :
    Safety.Inv (State.combineOne core id d b n s e) := by
  unfold State.combineOne
  split
  refine .ite h ?_
  split
  · rename_i he
    exact (h.gatherRows.of he).endOpen
  · rename_i he
    exact (h.gatherRows.of he).sendBundle
theorem Safety.Inv.combineGo {s : State} {core q w : Nat} {d : XDesc} {b : CBlock} {n : Nat} {counts : List Nat} {tags : List (List Nat)} {rets :
    List Nat}
    (h : Safety.Inv s) :
    Safety.Inv (s.combineGo core q w d b n counts tags rets) := by
  unfold State.combineGo; exact h.openExpert.foldl fun _ _ k => k.combineOne
theorem Safety.Inv.actCombine {s : State} {core q w : Nat} (h : Safety.Inv s) : Safety.Inv (s.actCombine core q w) := by
  unfold State.actCombine
  refine h.withBlock ?_
  intro _ _ k
  refine .ite k.expertFail ?_
  split
  · rename_i he
    exact (k.readParts.of he).expertFail
  · rename_i he
    have ht := k.readParts.of he
    refine .ite ht.expertFail ?_
    split
    · rename_i he
      exact (ht.readParts.of he).expertFail
    · rename_i he
      exact (ht.readParts.of he).combineGo
@[simp] theorem Safety.Inv.execCombine {core q : Nat} {s : State} (h : Safety.Inv s) : Safety.OutInv (execCombine core q s) := by
  unfold Machine.execCombine; exact (h.issueXfer (fun _ _ k => k.actCombine)).next
@[simp] theorem Safety.Inv.execCombineDone {core item : Nat} {s : State} (h : Safety.Inv s) : Safety.OutInv (execCombineDone core item s) := by
  unfold Machine.execCombineDone; exact h.expertDone.next

/-! ## Steps -/

theorem Safety.Inv.modCk {s : State} {f : CheckpointUnit → CheckpointUnit} (h : Safety.Inv s) : Safety.Inv (s.modCk f) := h.set
theorem Safety.Inv.modTarget {s : State} {t : Nat} {f : Target → Target} (h : Safety.Inv s) : Safety.Inv (s.modTarget t f) := h.set
theorem Safety.Inv.targetDue {step : Nat} {s : State} {e : TargetCfg × Nat} (h : Safety.Inv s) : Safety.Inv (State.targetDue step s e) := by
  unfold State.targetDue; exact .ite h (.ite h.modCk.event h.modTarget)
theorem Safety.Inv.ckCut {s : State} {step : Nat} (h : Safety.Inv s) : Safety.Inv (s.ckCut step) := by
  unfold State.ckCut; exact .ite h (h.each (fun _ _ k => k.targetDue)).modCk
theorem Safety.Inv.retireQueues {s : State} {keep7 : Bool} (h : Safety.Inv s) : Safety.Inv (s.retireQueues keep7) := h.set
theorem Safety.Inv.tryEnd {s : State} (h : Safety.Inv s) : Safety.Inv s.tryEnd := by
  unfold State.tryEnd; exact .ite (.ite h.retireQueues h.retireQueues.jobRecord.setJob) h
theorem Safety.Inv.modRound {s : State} {f : RoundUnit → RoundUnit} (h : Safety.Inv s) : Safety.Inv (s.modRound f) := h.set
theorem Safety.Inv.freynEvent {s : State} {cause : Cause} {site round : Nat} (h : Safety.Inv s) : Safety.Inv (s.freynEvent cause site round) :=
    h.set
theorem Safety.Inv.holdSlots {s : State} (h : Safety.Inv s) : Safety.Inv s.holdSlots := by
  unfold State.holdSlots
  refine h.each ?_
  intro _ _ k
  split
  · exact k
  · exact .ite k k.addHold.modRound
theorem Safety.Inv.holdForm {s : State} (h : Safety.Inv s) : Safety.Inv s.holdForm := by
  unfold State.holdForm; exact .ite h.holdSlots h
theorem Safety.Inv.dropRoundHold {s : State} {n : Nat} (h : Safety.Inv s) : Safety.Inv (s.dropRoundHold n) := by
  unfold State.dropRoundHold; exact .ite h.dropHold.modRound h
theorem Safety.Inv.dropRoundHolds {s : State} (h : Safety.Inv s) : Safety.Inv s.dropRoundHolds := by
  unfold State.dropRoundHolds; exact h.each fun _ _ k => k.dropRoundHold
theorem Safety.Inv.roundBoundary {s : State} {step : Nat} (h : Safety.Inv s) : Safety.Inv (s.roundBoundary step) := by
  unfold State.roundBoundary
  split
  · exact h
  · exact .ite h.modRound.holdForm h
theorem Safety.Inv.commitCounters {s : State} (h : Safety.Inv s) : Safety.Inv s.commitCounters := by
  unfold State.commitCounters; exact h.each fun _ _ k => k.advance
theorem Safety.Inv.stepsDone {fuel : Nat} {s : State} (h : Safety.Inv s) : Safety.Inv (State.stepsDone fuel s) := by
  induction fuel generalizing s with
  | zero => unfold State.stepsDone; exact h
  | succ n ih => unfold State.stepsDone; exact .ite (ih h.ckCut.commitCounters.finishRec.set.roundBoundary) h
theorem Safety.Inv.tryStepDone {s : State} (h : Safety.Inv s) : Safety.Inv s.tryStepDone := by
  unfold State.tryStepDone; exact h.stepsDone.tryEnd
theorem Safety.Inv.ownDigest {s : State} {n : Nat} {d : ShardCfg} (h : Safety.Inv s) : Safety.Inv (s.ownDigest n d).1 := by
  unfold State.ownDigest
  dsimp only
  split
  · rename_i he
    exact h.readMem.of he
  · rename_i he
    exact h.readMem.of he
theorem Safety.Inv.compareDigests {s : State} {n : Nat} (h : Safety.Inv s) : Safety.Inv (s.compareDigests n) := by
  unfold State.compareDigests
  split
  · split
    · refine .ite (.ite (h.modCommit.when (fun _ k => k.modCk)) (h.modCommit.when (fun _ k => k.modCk)).modShard.modCommit.event) ?_
      exact h
    · exact h
  · exact h
theorem Safety.Inv.ringSend {s : State} {origin : Nat} {m : Message} (h : Safety.Inv s) : Safety.Inv (s.ringSend origin m) := by
  unfold State.ringSend; exact h.each fun _ _ k => k.sendMsg
theorem Safety.Inv.digestNow {s : State} {n step : Nat} {d : ShardCfg} (h : Safety.Inv s) : Safety.Inv (s.digestNow n step d) := by
  unfold State.digestNow
  refine .ite h.modShard ?_
  split
  · rename_i he
    exact h.ownDigest.of he
  · rename_i he
    exact (h.ownDigest.of he).modCommit.ringSend.compareDigests
theorem Safety.Inv.digestShard {s : State} {n step : Nat} {d : ShardCfg} (h : Safety.Inv s) : Safety.Inv (s.digestShard n step d) := by
  unfold State.digestShard; exact .ite h h.digestNow
theorem Safety.Inv.pickNext {s : State} {n : Nat} (h : Safety.Inv s) : Safety.Inv (s.pickNext n) := by
  unfold State.pickNext
  split
  · exact h
  · exact .ite h h.modShard
theorem Safety.Inv.shardProcessed {s : State} {n step : Nat} (h : Safety.Inv s) : Safety.Inv (s.shardProcessed n step) := by
  unfold State.shardProcessed; exact h.ckCut.modShard.pickNext.tryStepDone
theorem Safety.Inv.processSkips {n segs fuel : Nat} {s : State} (h : Safety.Inv s) : Safety.Inv (State.processSkips n segs fuel s) := by
  induction fuel generalizing s with
  | zero => unfold State.processSkips; exact h
  | succ n ih => unfold State.processSkips; exact .ite (ih h.shardProcessed) h

/-! ## Gate -/

theorem Safety.Inv.modGate {s : State} {f : GateUnit → GateUnit} (h : Safety.Inv s) : Safety.Inv (s.modGate f) := h.set
theorem Safety.Inv.modLayer {s : State} {layer : Nat} {f : LayerSt → LayerSt} (h : Safety.Inv s) : Safety.Inv (s.modLayer layer f) := h.set
theorem Safety.Inv.layerGate {step : Nat} {site : List LayerTotals} {s : State} {l : LayerCfg} (h : Safety.Inv s) :
    Safety.Inv (State.layerGate step site s l) := by
  unfold State.layerGate
  dsimp only
  split
  · refine .ite ((h.modLayer.when (fun _ k => k.event)).when (fun _ k => k.event)).modLayer ?_
    exact (h.modLayer.when (fun _ k => k.event)).when fun _ k => k.event
  · exact (h.modLayer.when (fun _ k => k.event)).when fun _ k => k.event
theorem Safety.Inv.patchCore {s : State} {c : CoreCfg} {wanted : Nat → Option Nat} (h : Safety.Inv s) : Safety.Inv (s.patchCore c wanted) := by
  unfold State.patchCore
  refine h.each ?_
  intro _ _ k
  split
  · exact k.writeMem
  · exact k
theorem Safety.Inv.patchStep {s : State} {c : CoreCfg} {t : Nat} (h : Safety.Inv s) : Safety.Inv (s.patchStep c t) := by
  unfold State.patchStep; exact .ite h h.patchCore.modGate
theorem Safety.Inv.patchCores {s : State} {t : Nat} (h : Safety.Inv s) : Safety.Inv (s.patchCores t) := by
  unfold State.patchCores; exact h.each fun _ _ k => k.patchStep
theorem Safety.Inv.gateCounters {s : State} {step : Nat} {d : Decision} {bs : List Byte} (h : Safety.Inv s) :
    Safety.Inv (s.gateCounters step d bs) := by
  unfold State.gateCounters
  refine .ite ((h.each (fun _ _ k => k.writeMem)).each (fun _ _ k => k.latch.latch)) ?_
  exact (h.each (fun _ _ k => k.writeMem)).each fun _ _ k => k.advance
theorem Safety.Inv.recipeRecords {s : State} (h : Safety.Inv s) : Safety.Inv s.recipeRecords := by
  unfold State.recipeRecords; exact h.each fun _ _ k => k.event.modCore
theorem Safety.Inv.layerRecords {s : State} {step : Nat} {d : Decision} {site : List LayerTotals} (h : Safety.Inv s) :
    Safety.Inv (s.layerRecords step d site) := by
  unfold State.layerRecords; exact .ite h.modGate (h.modGate.each (fun _ _ k => k.report))
theorem Safety.Inv.closeGate {s : State} (h : Safety.Inv s) : Safety.Inv s.closeGate := by
  unfold State.closeGate
  exact .tryStepDone (.jobStatus (.layerRecords (.recipeRecords (.each (.when (.modGate (.gateCounters (.ite h (h.each
      (fun _ _ k => k.layerGate)).patchCores))) (fun _ k => k.finishRec)) (fun _ _ k => k.pickNext)))))
theorem Safety.Inv.sendTotals {s : State} (h : Safety.Inv s) : Safety.Inv s.sendTotals := by
  unfold State.sendTotals; exact .ite h.sendMsg h
theorem Safety.Inv.runStages {fuel : Nat} {s : State} (h : Safety.Inv s) : Safety.Inv (State.runStages fuel s) := by
  induction fuel generalizing s with
  | zero => unfold State.runStages; exact h
  | succ n ih =>
    unfold State.runStages
    refine .ite h ?_
    refine .ite h.closeGate ?_
    split
    · exact h
    · exact ih h.modGate.sendTotals
@[simp] theorem Safety.Inv.execGateContribution {core : Nat} {s : State} (h : Safety.Inv s) : Safety.OutInv (execGateContribution core s) := by
  unfold Machine.execGateContribution
  refine .next ?_
  dsimp only
  split
  · exact h
  · split
    · exact h
    · split
      · rename_i he
        exact h.readMem.of he
      · rename_i he
        have ht := h.readMem.of he
        split
        · exact (ht.when fun _ k => k.issueRec).modGate.modGate.sendTotals.runStages
        · exact (ht.when fun _ k => k.issueRec).modGate
@[simp] theorem Safety.Inv.execGateTotalsMessage {axis coord : Nat} {totals : GateTotals} {s : State} (h : Safety.Inv s) :
    Safety.OutInv (execGateTotalsMessage axis coord totals s) := by
  unfold Machine.execGateTotalsMessage; exact .next (.ite h (h.when (fun _ k => k.sendMsg)).modGate.runStages)
theorem Safety.Inv.advanceSelector {s : State} {core : Nat} (h : Safety.Inv s) : Safety.Inv (s.advanceSelector core) := by
  unfold State.advanceSelector; exact h.patchStep.advance.modGate
@[simp] theorem Safety.Inv.execSelectorAdvance {core : Nat} {s : State} (h : Safety.Inv s) : Safety.OutInv (execSelectorAdvance core s) := by
  unfold Machine.execSelectorAdvance; exact .next (.ite h.advanceSelector h)
theorem Safety.Inv.failGate {s : State} {cause : Cause} (h : Safety.Inv s) : Safety.Inv (s.failGate cause) := h.set
@[simp] theorem Safety.Inv.execGateTimeout {s : State} (h : Safety.Inv s) : Safety.OutInv (execGateTimeout s) := by
  unfold Machine.execGateTimeout; exact .next (.ite (h.each (fun _ _ k => k.latch.latch)).failGate h)
@[simp] theorem Safety.Inv.execStepLoRead {s : State} (h : Safety.Inv s) : Safety.OutInv (execStepLoRead s) := by
  unfold Machine.execStepLoRead; exact h.modGate.set.next

/-! ## Param -/

theorem Safety.Inv.readStored {s : State} {c : ShardCfg} {base a n : Nat} (h : Safety.Inv s) : Safety.Inv (s.readStored c base a n).1 := by
  unfold State.readStored
  split
  · rename_i he
    exact h.readMem.of he
  · rename_i he
    have ht := h.readMem.of he
    split
    · rename_i he
      exact ht.readMem.of he
    · rename_i he
      exact ht.readMem.of he
theorem Safety.Inv.readMoment {s : State} {c : ShardCfg} {base k a n : Nat} (h : Safety.Inv s) : Safety.Inv (s.readMoment c base k a n).1 := by
  unfold State.readMoment; exact h.readMem
theorem Safety.Inv.readMoments {s : State} {c : ShardCfg} {base a n : Nat} {l : List Nat} (h : Safety.Inv s) :
    Safety.Inv (s.readMoments c base a n l).1 := by
  induction l generalizing s with
  | nil => unfold State.readMoments; exact h
  | cons x xs ih =>
    unfold State.readMoments
    split
    · rename_i he
      exact h.readMoment.of he
    · rename_i he
      have ht := h.readMoment.of he
      split
      · rename_i he
        exact (ih ht).of he
      · rename_i he
        exact (ih ht).of he
theorem Safety.Inv.readGradient {s : State} {core : Nat} {d : UDesc} {rel n ls : Nat} (h : Safety.Inv s) :
    Safety.Inv (s.readGradient core d rel n ls).1 := by
  unfold State.readGradient
  dsimp only
  split
  · rename_i he
    exact h.readMem.of he
  · rename_i he
    have ht := h.readMem.of he
    split
    · rename_i he
      exact Safety.Inv.of he (.iteFst ht.readMem ht)
    · rename_i he
      exact Safety.Inv.of he (.iteFst ht.readMem ht)

/-! ## Outer -/

theorem Safety.Inv.readStream {s : State} {core base off n : Nat} (h : Safety.Inv s) : Safety.Inv (s.readStream core base off n).1 := by
  unfold State.readStream
  dsimp only
  split
  · rename_i he
    exact h.readMem.of he
  · rename_i he
    have ht := h.readMem.of he
    exact .iteFst ht.expand ht.expand
theorem Safety.Inv.readOffcut {s : State} {one : Bool} {off n : Nat} (h : Safety.Inv s) : Safety.Inv (s.readOffcut one off n).1 := by
  unfold State.readOffcut
  split
  · rename_i he
    exact h.readMem.of he
  · rename_i he
    exact h.readMem.of he
theorem Safety.Inv.readAnchor {s : State} {c : ShardCfg} {a n : Nat} (h : Safety.Inv s) : Safety.Inv (s.readAnchor c a n).1 := by
  unfold State.readAnchor
  split
  · rename_i he
    exact h.readMem.of he
  · rename_i he
    exact h.readMem.of he
theorem Safety.Inv.expandMomentum {s : State} {core : Nat} {blocks : List (List Byte)} (h : Safety.Inv s) :
    Safety.Inv (s.expandMomentum core blocks).1 := by
  unfold State.expandMomentum; exact .iteFst h.expand h.expand
theorem Safety.Inv.readMomentum {s : State} {core : Nat} {c : ShardCfg} {a n : Nat} (h : Safety.Inv s) :
    Safety.Inv (s.readMomentum core c a n).1 := by
  unfold State.readMomentum
  split
  · split
    · rename_i he
      exact h.readMem.of he
    · rename_i he
      exact h.readMem.of he
  · split
    · rename_i he
      exact h.readMem.of he
    · rename_i he
      exact h.readMem.of he
  · dsimp only
    split
    · rename_i he
      exact h.readMem.of he
    · rename_i he
      have ht := h.readMem.of he
      split
      · rename_i he
        exact ht.expandMomentum.of he
      · rename_i he
        exact ht.expandMomentum.of he
  · exact h
theorem Safety.Inv.countEncoded {s : State} {core : Nat} {encs : List KfrEnc} (h : Safety.Inv s) : Safety.Inv (s.countEncoded core encs) := h.set
theorem Safety.Inv.momentumOut {s : State} {core : Nat} {c : ShardCfg} {xs : List Val} (h : Safety.Inv s) :
    Safety.Inv (s.momentumOut core c xs).1 := by
  unfold State.momentumOut
  split
  · exact h
  · exact h
  · split
    · exact h.countEncoded
    · exact h
  · exact h
theorem Safety.Inv.refMomentumOf {s : State} {c : ShardCfg} {core shard a n : Nat} (h : Safety.Inv s) :
    Safety.Inv (s.refMomentumOf c core shard a n).1 := by
  unfold State.refMomentumOf
  split
  · exact h
  · exact h
  · dsimp only
    split
    · rename_i he
      exact h.expandMomentum.of he
    · rename_i he
      exact h.expandMomentum.of he
  · exact h
theorem Safety.Inv.ownDelta {s : State} {core off n base : Nat} (h : Safety.Inv s) : Safety.Inv (s.ownDelta core off n base).1 := by
  unfold State.ownDelta
  split
  · rename_i he
    exact h.readStream.of he
  · rename_i he
    have ht := h.readStream.of he
    split
    · rename_i he
      exact ht.readOffcut.of he
    · rename_i he
      have ht1 := ht.readOffcut.of he
      split
      · rename_i he
        exact ht1.readOffcut.of he
      · rename_i he
        exact ht1.readOffcut.of he
theorem Safety.Inv.includedDeltas {s : State} {core off n : Nat} {l : List Included} (h : Safety.Inv s) :
    Safety.Inv (s.includedDeltas core off n l).1 := by
  induction l generalizing s with
  | nil => unfold State.includedDeltas; exact h
  | cons x xs ih =>
    unfold State.includedDeltas
    split
    · rename_i he
      exact h.readStream.of he
    · rename_i he
      have ht := h.readStream.of he
      split
      · rename_i he
        exact (ih ht).of he
      · rename_i he
        exact (ih ht).of he
theorem Safety.Inv.outerArrays {s : State} {core shard : Nat} {c : ShardCfg} {p : List Val} {a n : Nat} (h : Safety.Inv s) :
    Safety.Inv (s.outerArrays core shard c p a n).1 := by
  unfold State.outerArrays
  split
  · rename_i he
    exact h.readAnchor.of he
  · rename_i he
    have ht := h.readAnchor.of he
    split
    · rename_i he
      exact ht.readMomentum.of he
    · rename_i he
      have ht1 := ht.readMomentum.of he
      split
      · dsimp only
        split
        · rename_i he
          exact Safety.Inv.of he (.iteFst ht1.ownDelta ht1)
        · rename_i he
          have ht2 := Safety.Inv.of he (.iteFst ht1.ownDelta ht1)
          refine .iteFst ht2 ?_
          split
          · rename_i he
            exact ht2.includedDeltas.of he
          · rename_i he
            exact ht2.includedDeltas.of he
      · dsimp only
        split
        · rename_i he
          exact Safety.Inv.of he (.iteFst ht1.ownDelta ht1)
        · rename_i he
          have ht2 := Safety.Inv.of he (.iteFst ht1.ownDelta ht1)
          refine .iteFst ht2 ?_
          split
          · rename_i he
            exact ht2.includedDeltas.of he
          · rename_i he
            exact ht2.includedDeltas.of he
theorem Safety.Inv.outerWrites {s : State} {core shard : Nat} {c : ShardCfg} {d : UDesc} {chunk a : Nat} {om an : List Val} (h : Safety.Inv s) :
    Safety.Inv (s.outerWrites core shard c d chunk a om an).1 := by
  unfold State.outerWrites
  split
  rename_i he
  exact Safety.Inv.of he (.iteFst h h.momentumOut)
/-- The definition is unfolded in place: compared with its call, the kernel would evaluate the journal's address. -/
theorem Safety.Inv.outerResume {s : State} {core shard : Nat} {c : ShardCfg} {d : UDesc} (h : Safety.Inv s) :
    Safety.Inv (s.outerResume core shard c d).1 := by
  conv in State.outerResume => delta State.outerResume
  split
  · rename_i he
    exact h.readMem.of he
  · rename_i he
    have ht := h.readMem.of he
    refine .iteFst ?_ ht
    split
    split
    · rename_i he
      exact ht.readMem.of he
    · rename_i he
      have ht1 := ht.readMem.of he
      split
      · rename_i he
        exact ht1.readMem.of he
      · rename_i he
        have ht2 := ht1.readMem.of he
        split <;> rename_i he <;> exact ht2.writeAll.of he
theorem Safety.Inv.roundApplied {s : State} (h : Safety.Inv s) : Safety.Inv s.roundApplied := by
  unfold State.roundApplied
  split
  · exact h.dropRoundHolds.modRound.holdForm
  · exact .ite h.dropRoundHolds.modRound.holdForm h
theorem Safety.Inv.outerCommitted {s : State} {shard : Nat} (h : Safety.Inv s) : Safety.Inv (s.outerCommitted shard) := by
  unfold State.outerCommitted; exact .ite h.modRound.roundApplied h.modRound

/-! ## Export -/

theorem Safety.Inv.arrivedExport {s : State} {n : Nat} {c : ShardCfg} (h : Safety.Inv s) : Safety.Inv (s.arrivedExport n c).1 := by
  unfold State.arrivedExport
  split
  · rename_i he
    exact h.readMem.of he
  · rename_i he
    exact h.readMem.of he
theorem Safety.Inv.takeRepair {s : State} {n : Nat} {c : ShardCfg} (h : Safety.Inv s) : Safety.Inv (s.takeRepair n c) := by
  unfold State.takeRepair
  refine .ite h ?_
  split
  · rename_i he
    have ht := h.arrivedExport.of he
    split
    · rename_i he
      have ht1 := ht.writeMem.of he
      split
      · rename_i he
        exact (ht1.writeCommit.of he).modShard
      · rename_i he
        exact ht1.writeCommit.of he
    · rename_i he
      exact ht.writeMem.of he
  · rename_i he
    exact h.arrivedExport.of he

/-! ## Rules -/

theorem Safety.Inv.ruleArgs {s : State} {core args : Nat} (h : Safety.Inv s) : Safety.Inv (s.ruleArgs core args).1 := by
  unfold State.ruleArgs
  split
  · rename_i he
    exact h.readMem.of he
  · rename_i he
    exact h.readMem.of he
theorem Safety.Inv.readFp32s {s : State} {core m : Nat} {l : List Nat} (h : Safety.Inv s) : Safety.Inv (s.readFp32s core m l).1 := by
  induction l generalizing s with
  | nil => unfold State.readFp32s; exact h
  | cons x xs ih =>
    unfold State.readFp32s
    split
    · rename_i he
      exact h.readMem.of he
    · rename_i he
      have ht := h.readMem.of he
      split
      · rename_i he
        exact (ih ht).of he
      · rename_i he
        exact (ih ht).of he
theorem Safety.Inv.runInner {s : State} {core : Nat} {d : UDesc} {r : InnerRule} {m : Nat} (h : Safety.Inv s) :
    Safety.Inv (s.runInner core d r m).1 := by
  unfold State.runInner
  split
  · rename_i he
    exact h.readMem.of he
  · rename_i he
    have ht := h.readMem.of he
    dsimp only
    split
    · rename_i he
      exact ht.ruleArgs.of he
    · rename_i he
      have ht1 := ht.ruleArgs.of he
      split
      · rename_i he
        exact ht1.readFp32s.of he
      · rename_i he
        exact (ht1.readFp32s.of he).modCore
theorem Safety.Inv.runOuter {s : State} {core : Nat} {d : UDesc} {m : Nat} (h : Safety.Inv s) : Safety.Inv (s.runOuter core d m).1 := by
  unfold State.runOuter
  split
  · rename_i he
    exact h.readMem.of he
  · rename_i he
    have ht := h.readMem.of he
    dsimp only
    split
    · rename_i he
      exact ht.readFp32s.of he
    · rename_i he
      exact ht.readFp32s.of he

/-! ## Update -/

theorem Safety.Inv.modUp {s : State} {core : Nat} {f : UpdateEngine → UpdateEngine} (h : Safety.Inv s) : Safety.Inv (s.modUp core f) := h.set
theorem Safety.Inv.modHead {s : State} {core : Nat} {f : Segment → Segment} (h : Safety.Inv s) : Safety.Inv (s.modHead core f) := h.set
theorem Safety.Inv.segPhase {s : State} {core : Nat} {p : SegPhase} (h : Safety.Inv s) : Safety.Inv (s.segPhase core p) := h.set
theorem Safety.Inv.segFail {s : State} {core : Nat} {cause : Cause} (h : Safety.Inv s) : Safety.Inv (s.segFail core cause) := h.set
theorem Safety.Inv.gradient {s : State} {core : Nat} {g : Segment} {d : UDesc} {c : ShardCfg} {a n : Nat} (h : Safety.Inv s) :
    Safety.Inv (s.gradient core g d c a n).1 := by
  unfold State.gradient
  split
  · rename_i he
    exact h.readGradient.of he
  · rename_i he
    have ht := h.readGradient.of he
    refine .iteFst ht ?_
    split
    · rename_i he
      exact ht.readMem.of he
    · rename_i he
      exact ht.readMem.of he
theorem Safety.Inv.innerArrays {s : State} {core : Nat} {g : Segment} {d : UDesc} {c : ShardCfg} {a n : Nat} (h : Safety.Inv s) :
    Safety.Inv (s.innerArrays core g d c a n).1 := by
  unfold State.innerArrays
  dsimp only
  split
  · rename_i he
    exact h.readStored.of he
  · rename_i he
    have ht := h.readStored.of he
    split
    · rename_i he
      exact ht.gradient.of he
    · rename_i he
      have ht1 := ht.gradient.of he
      split
      · rename_i he
        exact ht1.readMoments.of he
      · rename_i he
        exact ht1.readMoments.of he
theorem Safety.Inv.stagedArrays {s : State} {core : Nat} {g : Segment} {d : UDesc} {c : ShardCfg} {a n : Nat} (h : Safety.Inv s) :
    Safety.Inv (s.stagedArrays core g d c a n).1 := by
  unfold State.stagedArrays
  refine .iteFst ?_ h.innerArrays
  split
  · rename_i he
    exact h.readStored.of he
  · rename_i he
    have ht := h.readStored.of he
    split
    · rename_i he
      exact ht.outerArrays.of he
    · rename_i he
      exact ht.outerArrays.of he
theorem Safety.Inv.takeTarget {s : State} {shard step : Nat} {c : ShardCfg} (h : Safety.Inv s) : Safety.Inv (s.takeTarget shard step c) := h.set
theorem Safety.Inv.kernelArray {s : State} {core : Nat} {d : UDesc} {n k : Nat} (h : Safety.Inv s) : Safety.Inv (s.kernelArray core d n k).1 := by
  unfold State.kernelArray
  split
  · rename_i he
    exact h.readMem.of he
  · rename_i he
    exact h.readMem.of he
theorem Safety.Inv.kernelArrays {s : State} {core : Nat} {d : UDesc} {n : Nat} {l : List Nat} (h : Safety.Inv s) :
    Safety.Inv (s.kernelArrays core d n l).1 := by
  induction l generalizing s with
  | nil => unfold State.kernelArrays; exact h
  | cons x xs ih =>
    unfold State.kernelArrays
    split
    · rename_i he
      exact h.kernelArray.of he
    · rename_i he
      have ht := h.kernelArray.of he
      split
      · rename_i he
        exact (ih ht).of he
      · rename_i he
        exact (ih ht).of he
theorem Safety.Inv.runSupplied {s t : State} {core m : Nat} {d : UDesc} {r : Except Cause (List (Nat × List Word))} (h : Safety.Inv s)
    (e : s.runSupplied core d m = some (t, r)) : Safety.Inv t := by
  unfold State.runSupplied at e
  split at e
  · split at e
    · cases e
    · exact h.runOuter.of (Option.some.inj e)
  · obtain ⟨k, -, e⟩ := Option.map_eq_some_iff.1 e
    exact h.runInner.of e
theorem Safety.Inv.startChunkKernel {s : State} {core m : Nat} {g : Segment} {d : UDesc} (h : Safety.Inv s) :
    Safety.Inv (s.startChunkKernel core g d m) := by
  unfold State.startChunkKernel
  dsimp only
  split
  · rename_i he
    have ht := h.segPhase.runSupplied he
    refine .modCore ?_
    split
    · exact ht
    · exact ht.writeWhole
  · exact h.segPhase.modCore
theorem Safety.Inv.stageChunk {s : State} {core : Nat} {g : Segment} {c : ShardCfg} (h : Safety.Inv s) : Safety.Inv (s.stageChunk core g c) := by
  unfold State.stageChunk
  dsimp only
  split
  · rename_i he
    exact (h.takeTarget.stagedArrays.of he).segFail
  · rename_i he
    have ht := h.takeTarget.stagedArrays.of he
    split
    · rename_i he
      exact (ht.writeWhole.of he).startChunkKernel
    · rename_i he
      exact (ht.writeWhole.of he).segFail
theorem Safety.Inv.parkRange {s : State} {core : Nat} {g : Segment} {c : ShardCfg} (h : Safety.Inv s) : Safety.Inv (s.parkRange core g c).1 := by
  unfold State.parkRange
  dsimp only
  split
  · rename_i he
    exact h.gradient.of he
  · rename_i he
    exact (h.gradient.of he).writeWhole
theorem Safety.Inv.noteReport {s : State} {shard step : Nat} {c : ShardCfg} {outer : Bool} {x5 : SegReport} (h : Safety.Inv s) :
    Safety.Inv (s.noteReport shard step c outer x5) := by
  unfold State.noteReport
  split
  · exact .ite h.modShard h.modShard
  · exact h.modShard.processSkips
  · exact .ite h.modShard.modShard.shardProcessed.processSkips h.modShard
theorem Safety.Inv.segDone {s : State} {core : Nat} {g : Segment} {c : ShardCfg} {r : SegReport} (h : Safety.Inv s) :
    Safety.Inv (s.segDone core g c r) := by
  unfold State.segDone; exact .ite h.modUp.noteReport h.modUp.noteReport.advance
theorem Safety.Inv.segBegin {s : State} {core : Nat} {g : Segment} (h : Safety.Inv s) : Safety.Inv (s.segBegin core g) := by
  unfold State.segBegin
  extract_lets d
  split
  · exact h.segFail
  · refine .ite (.ite h.segFail (.ite (.ite h h.segPhase) ?_)) ?_
    · split
      · rename_i he
        exact (Safety.Inv.of he (.iteFst h h.outerResume)).segFail
      · rename_i he
        have ht := Safety.Inv.of he (.iteFst h h.outerResume)
        exact .ite ht.modHead.stageChunk ht.segDone
    · split
      · rename_i he
        exact (h.readMem.of he).segFail
      · rename_i he
        have ht := h.readMem.of he
        refine .ite ht.segFail (.ite ht.segDone (.ite ht.segFail (.ite ht.segFail (.ite ht.segPhase ?_))))
        refine .ite ht.takeRepair.segPhase (.ite ht.takeRepair.segFail (.ite ?_ ht.takeRepair.stageChunk))
        refine .ite ?_ (.ite ht.takeRepair ht.takeRepair.segPhase)
        split
        · rename_i he
          exact (ht.takeRepair.parkRange.of he).segDone
        · rename_i he
          exact (ht.takeRepair.parkRange.of he).segFail
theorem Safety.Inv.runSegs {fuel x1 : Nat} {s : State} (h : Safety.Inv s) : Safety.Inv (State.runSegs fuel x1 s) := by
  induction fuel generalizing x1 s with
  | zero => unfold State.runSegs; exact h
  | succ n ih =>
    unfold State.runSegs
    split
    · exact .ite (ih h.modHead.segBegin) h
    · exact h
theorem Safety.Inv.actUpdate {s : State} {core q : Nat} {e : Entry} (h : Safety.Inv s) : Safety.Inv (s.actUpdate core q e) := by
  unfold State.actUpdate
  split
  · rename_i he
    exact (h.readOwn.of he).modUp.haltQueue
  · rename_i he
    exact (h.readOwn.of he).goNext.modUp.runSegs
@[simp] theorem Safety.Inv.execInnerSegment {core q : Nat} {s : State} (h : Safety.Inv s) : Safety.OutInv (execInnerSegment core q s) := by
  unfold Machine.execInnerSegment; exact (h.issue (fun _ _ k => k.actUpdate)).next
@[simp] theorem Safety.Inv.execPreviousStepResume {core : Nat} {s : State} (h : Safety.Inv s) :
    Safety.OutInv (execPreviousStepResume core s) := by
  unfold Machine.execPreviousStepResume
  split
  · exact .next (.ite (.ite h h.segBegin.runSegs) h)
  · exact h.next
@[simp] theorem Safety.Inv.execStagedResume {core : Nat} {s : State} (h : Safety.Inv s) : Safety.OutInv (execStagedResume core s) := by
  unfold Machine.execStagedResume
  split
  · exact .next (.ite h.segBegin.runSegs h)
  · exact h.next
@[simp] theorem Safety.Inv.execDeferralLimit {core : Nat} {s : State} (h : Safety.Inv s) : Safety.OutInv (execDeferralLimit core s) := by
  unfold Machine.execDeferralLimit
  split
  · exact .next (.ite h.segFail h)
  · exact h.next
theorem Safety.Inv.chunkCopy {s : State} {core : Nat} {g : Segment} {d : UDesc} {c : ShardCfg} {base a : Nat} {p : List Val} (h : Safety.Inv s) :
    Safety.Inv (s.chunkCopy core g d c base a p).1 := by
  unfold State.chunkCopy
  refine .iteFst h ?_
  refine .iteFst ?_ h
  refine .iteFst h ?_
  split
  · rename_i he
    exact h.readStored.of he
  · rename_i he
    exact h.readStored.of he
theorem Safety.Inv.chunkMoments {s : State} {d : UDesc} {c : ShardCfg} {a n : Nat} {xs : List (List Val)} (h : Safety.Inv s) :
    Safety.Inv (s.chunkMoments d c a n xs).1 := by
  unfold State.chunkMoments; exact .iteFst h.readMoments h
theorem Safety.Inv.nextChunk {s : State} {core : Nat} {g : Segment} {c : ShardCfg} (h : Safety.Inv s) : Safety.Inv (s.nextChunk core g c) := by
  unfold State.nextChunk; exact .ite h.modHead.stageChunk h.segDone.runSegs
theorem Safety.Inv.writeChunk {s : State} {core : Nat} {g : Segment} {c : ShardCfg} (h : Safety.Inv s) : Safety.Inv (s.writeChunk core g c) := by
  unfold State.writeChunk
  split
  · dsimp only
    split
    · rename_i he
      exact (h.kernelArrays.of he).segFail
    · rename_i he
      have ht := h.kernelArrays.of he
      split
      · rename_i he
        exact (Safety.Inv.of he (.iteFst ht.refMomentumOf ht)).segFail
      · rename_i he
        have ht1 := Safety.Inv.of he (.iteFst ht.refMomentumOf ht)
        refine .ite ht1.segFail ?_
        split
        · rename_i he
          exact (ht1.chunkMoments.of he).segFail
        · rename_i he
          have ht2 := ht1.chunkMoments.of he
          refine .ite ht2.chunkCopy.segFail ?_
          split
          · rename_i he
            exact (Safety.Inv.of he (.writeWhole (.iteFst ht2.chunkCopy.outerWrites ht2.chunkCopy))).modCore.nextChunk
          · rename_i he
            exact (Safety.Inv.of he (.writeWhole (.iteFst ht2.chunkCopy.outerWrites ht2.chunkCopy))).segFail
  · dsimp only
    split
    · rename_i he
      exact (h.kernelArrays.of he).segFail
    · rename_i he
      have ht := h.kernelArrays.of he
      split
      · rename_i he
        exact (Safety.Inv.of he (.iteFst ht.refMomentumOf ht)).segFail
      · rename_i he
        have ht1 := Safety.Inv.of he (.iteFst ht.refMomentumOf ht)
        refine .ite ht1.segFail ?_
        split
        · rename_i he
          exact (ht1.chunkMoments.of he).segFail
        · rename_i he
          have ht2 := ht1.chunkMoments.of he
          refine .ite ht2.chunkCopy.segFail ?_
          split
          · rename_i he
            exact (Safety.Inv.of he (.writeWhole (.iteFst ht2.chunkCopy.outerWrites ht2.chunkCopy))).modCore.nextChunk
          · rename_i he
            exact (Safety.Inv.of he (.writeWhole (.iteFst ht2.chunkCopy.outerWrites ht2.chunkCopy))).segFail
@[simp] theorem Safety.Inv.execChunkWriteback {core : Nat} {s : State} (h : Safety.Inv s) : Safety.OutInv (execChunkWriteback core s) := by
  unfold Machine.execChunkWriteback
  split
  · split
    · exact h.next
    · exact .next (.ite h (.ite h.modCore.segFail (.ite h.modCore.writeChunk h.modCore.segPhase)))
  · exact h.next
@[simp] theorem Safety.Inv.execSlotReleaseResume {core : Nat} {s : State} (h : Safety.Inv s) : Safety.OutInv (execSlotReleaseResume core s) := by
  unfold Machine.execSlotReleaseResume
  split
  · exact h.next
  · split
    · exact h.next
    · exact .next (.ite h (.ite h.modUp.writeChunk (.ite h.modUp.segFail h)))
theorem Safety.Inv.reissue {s : State} {shard step : Nat} (h : Safety.Inv s) : Safety.Inv (s.reissue shard step) := by
  unfold State.reissue; exact h.modShard.each fun _ _ k => k.modUp.runSegs
theorem Safety.Inv.giveUp {s : State} {shard step : Nat} {cause : Cause} (h : Safety.Inv s) : Safety.Inv (s.giveUp shard step cause) := by
  unfold State.giveUp; exact h.modShard.each fun _ _ k => k.latch.haltQueue
theorem Safety.Inv.startRebase {s : State} {site : Nat} (h : Safety.Inv s) : Safety.Inv (s.startRebase site) := by
  unfold State.startRebase; exact .ite h h.dropRoundHolds.modRound
theorem Safety.Inv.outerFailed {s : State} {core : Nat} {g : Segment} (h : Safety.Inv s) : Safety.Inv (s.outerFailed core g) := by
  unfold State.outerFailed; exact .ite h.modUp.runSegs (h.set.each (fun _ _ k => k.modShard)).startRebase
@[simp] theorem Safety.Inv.execSegmentFailReport {core : Nat} {s : State} (h : Safety.Inv s) : Safety.OutInv (execSegmentFailReport core s) := by
  unfold Machine.execSegmentFailReport
  split
  · exact h.next
  · refine .next (.ite h ?_)
    split
    · dsimp only
      split
      · exact h.modUp.latch.runSegs
      · exact h.modUp.modCommit.event.outerFailed
    · dsimp only
      split
      · exact h.modUp.latch.runSegs
      · exact .runSegs (.ite h.modUp.modCommit.event.modUp.modShard.giveUp (.ite h.modUp.modCommit.event.modUp.modShard.reissue
            h.modUp.modCommit.event.modUp.modShard))
theorem Safety.Inv.replicaRepair {s : State} {n : Nat} (h : Safety.Inv s) : Safety.Inv (s.replicaRepair n) := by
  unfold State.replicaRepair
  split
  · exact .ite h.flood.modShard h
  · exact h
theorem Safety.Inv.commitInner {s : State} {n : Nat} {c : ShardCfg} (h : Safety.Inv s) : Safety.Inv (s.commitInner n c) := by
  unfold State.commitInner
  dsimp only
  split
  · exact h
  · split
    · rename_i he
      exact (h.writeCommit.of he).modCommit.modShard.replicaRepair.digestShard.shardProcessed.processSkips
    · rename_i he
      exact (h.writeCommit.of he).modShard.modCommit
theorem Safety.Inv.commitOuter {s : State} {n : Nat} {c : ShardCfg} (h : Safety.Inv s) : Safety.Inv (s.commitOuter n c) := by
  unfold State.commitOuter
  dsimp only
  split
  · exact h
  · split
    · rename_i he
      exact (h.writeCommit.of he).modCommit.modShard.pickNext.outerCommitted
    · rename_i he
      exact (h.writeCommit.of he).modShard.modCommit
@[simp] theorem Safety.Inv.execShardCommit {shard : Nat} {s : State} (h : Safety.Inv s) : Safety.OutInv (execShardCommit shard s) := by
  unfold Machine.execShardCommit
  split
  · exact h.next
  · exact .next (.ite h.commitInner (.ite h.commitOuter h))
@[simp] theorem Safety.Inv.execDigestExchange {shard coord : Nat} {digest : Word64} {s : State} (h : Safety.Inv s) :
    Safety.OutInv (execDigestExchange shard coord digest s) := by
  unfold Machine.execDigestExchange
  split
  · exact (h.when (fun _ k => k.ringSend)).next
  · exact .next (.ite (h.when (fun _ k => k.ringSend)) (h.when (fun _ k => k.ringSend)).modCommit.compareDigests)
@[simp] theorem Safety.Inv.execOuterSegment {shard core : Nat} {s : State} (h : Safety.Inv s) :
    Safety.OutInv (execOuterSegment shard core s) := by
  unfold Machine.execOuterSegment; exact .next (.ite h h.modRound.modUp.runSegs)
@[simp] theorem Safety.Inv.execUpdStepLoRead {core : Nat} {s : State} (h : Safety.Inv s) : Safety.OutInv (execUpdStepLoRead core s) := by
  unfold Machine.execUpdStepLoRead; exact h.modUp.set.next
@[simp] theorem Safety.Inv.execShardStepLoRead {s : State} (h : Safety.Inv s) : Safety.OutInv (execShardStepLoRead s) := by
  unfold Machine.execShardStepLoRead; exact h.modCommit.set.next

/-! ## Job -/

theorem Safety.Inv.modHost {s : State} {f : HostIf → HostIf} (h : Safety.Inv s) : Safety.Inv (s.modHost f) := h.set
theorem Safety.Inv.modSite {s : State} {i : Nat} {f : SiteSt → SiteSt} (h : Safety.Inv s) : Safety.Inv (s.modSite i f) := h.set
theorem Safety.Inv.addStream {s : State} {i : Nat} {es : List FrnOut} (h : Safety.Inv s) : Safety.Inv (s.addStream i es) := by
  unfold State.addStream; exact .ite h.modSite h.modSite.modRound
theorem Safety.Inv.modPower {s : State} {f : Power → Power} (h : Safety.Inv s) : Safety.Inv (s.modPower f) := h.set
theorem Safety.Inv.mbox {s : State} {rc : Rc} {out : List Byte} (h : Safety.Inv s) : Safety.Inv (s.mbox rc out) := by
  unfold State.mbox; exact h.modHost.msix
theorem Safety.Inv.vendorOk {s : State} {out : List Byte} (h : Safety.Inv s) : Safety.Inv (s.vendorOk out) := by
  unfold State.vendorOk; exact h.mbox
theorem Safety.Inv.vendorFail {s : State} {rc : Rc} {cause : Cause} (h : Safety.Inv s) : Safety.Inv (s.vendorFail rc cause) := by
  unfold State.vendorFail; exact h.modHost.mbox
theorem Safety.Inv.vendorBusy {s : State} (h : Safety.Inv s) : Safety.Inv s.vendorBusy := by
  unfold State.vendorBusy; exact h.vendorFail
theorem Safety.Inv.wakeUp {s : State} (h : Safety.Inv s) : Safety.Inv s.wakeUp := by
  unfold State.wakeUp; exact .ite h.modPower h
theorem Safety.Inv.loadCore {s : State} {core : Nat} (h : Safety.Inv s) : Safety.Inv (s.loadCore core) := by
  unfold State.loadCore
  exact .each (.modTiers (.ofMem (Memory.wf_clear _ _ h))) fun _ _ k => k.poke
theorem Safety.Inv.intakeStatus {s : State} {ring : Nat} (h : Safety.Inv s) : Safety.Inv (s.intakeStatus ring) := by
  unfold State.intakeStatus; exact h.modHost.hsWrite
theorem Safety.Inv.startRing {mbBase : Nat} {s : State} {e : RingCfg × Nat} (h : Safety.Inv s) : Safety.Inv (State.startRing mbBase s e) := by
  unfold State.startRing; exact h.modHost.intakeStatus
theorem Safety.Inv.freePlan {s : State} {p : PlanRingCfg} (h : Safety.Inv s) : Safety.Inv (s.freePlan p) := h.set
theorem Safety.Inv.issuePlan {p : PlanRingCfg} {fuel : Nat} {s : State} (h : Safety.Inv s) : Safety.Inv (State.issuePlan p fuel s) := by
  induction fuel generalizing s with
  | zero => unfold State.issuePlan; exact h
  | succ n ih => unfold State.issuePlan; exact .ite (ih h.issueRec.setRing) h
theorem Safety.Inv.startPlan {mbBase : Nat} {s : State} {p : PlanRingCfg} (h : Safety.Inv s) : Safety.Inv (State.startPlan mbBase s p) := by
  unfold State.startPlan; exact h.setRing.issuePlan
theorem Safety.Inv.startCore {step : Nat} {s : State} {c : CoreCfg} (h : Safety.Inv s) : Safety.Inv (State.startCore step s c) := h.set
theorem Safety.Inv.startGate {s : State} {n : Nat} (h : Safety.Inv s) : Safety.Inv (s.startGate n) := h.set
theorem Safety.Inv.startCommit {s : State} {n : Nat} (h : Safety.Inv s) : Safety.Inv (s.startCommit n) := by
  unfold State.startCommit; exact h.modCommit.each fun _ _ k => k.modShard.loadShard
theorem Safety.Inv.startSites {s : State} (h : Safety.Inv s) : Safety.Inv s.startSites := by
  unfold State.startSites; exact h.each fun _ _ k => k.modSite
theorem Safety.Inv.firstAnchor {s : State} {n : Nat} (h : Safety.Inv s) : Safety.Inv (s.firstAnchor n) := by
  unfold State.firstAnchor
  split
  · exact h
  · split
    rename_i he
    have ht := h.writeMem.of he
    refine .ite ?_ (ht.when (fun _ k => k.freynEvent))
    split
    · rename_i he
      exact (Safety.Inv.of he ((ht.when (fun _ k => k.freynEvent)).readMem)).freynEvent
    · rename_i he
      exact (Safety.Inv.of he ((ht.when (fun _ k => k.freynEvent)).readMem)).writeMem.when fun _ k => k.freynEvent
theorem Safety.Inv.firstRound {s : State} (h : Safety.Inv s) : Safety.Inv s.firstRound := by
  unfold State.firstRound; exact .ite h (h.writeMem.writeMem.each (fun _ _ k => k.firstAnchor)).startSites.modRound
theorem Safety.Inv.startFailed {s : State} {cause : Cause} (h : Safety.Inv s) : Safety.Inv (s.startFailed cause) := by
  unfold State.startFailed; exact h.modHost.jobRecord
theorem Safety.Inv.beginJob {s : State} (h : Safety.Inv s) : Safety.Inv s.beginJob := by
  unfold State.beginJob
  exact (((h.modHost.startGate.startCommit.each (fun _ _ k => k.startCore)).modCk.firstRound.each (fun _ _ k => k.startRing)).each
      (fun _ _ k => k.freePlan.startPlan)).modPower.jobRecord.setJob
theorem Safety.Inv.claimFrom {s : State} {i : Nat} (h : Safety.Inv s) : Safety.Inv (s.claimFrom i).1 := by
  unfold State.claimFrom
  dsimp only
  split
  · exact h.modCk.sendMsg
  · split
    · exact h.modCk.modCk.event
    · exact h.modCk
theorem Safety.Inv.selectPartner {s : State} (h : Safety.Inv s) : Safety.Inv s.selectPartner.1 := by
  unfold State.selectPartner; exact .iteFst h.modCk.claimFrom h.modCk
theorem Safety.Inv.continueStart {s : State} (h : Safety.Inv s) : Safety.Inv s.continueStart := by
  unfold State.continueStart
  refine .ite h ?_
  refine .ite h.modHost.modCk.setJob ?_
  split
  · rename_i he
    exact h.selectPartner.of he
  · rename_i he
    exact (h.selectPartner.of he).beginJob
  · rename_i he
    exact (h.selectPartner.of he).startFailed
theorem Safety.Inv.askStart {s : State} (h : Safety.Inv s) : Safety.Inv s.askStart := by
  unfold State.askStart; exact h.modHost.wakeUp.continueStart
@[simp] theorem Safety.Inv.execLinkWaitExpiry {s : State} (h : Safety.Inv s) : Safety.OutInv (execLinkWaitExpiry s) := by
  unfold Machine.execLinkWaitExpiry; exact .next (.ite h.startFailed h)

/-! ## Checkpoint -/

theorem Safety.Inv.readArrays {s : State} {a n : Nat} {l : List ExportPart} (h : Safety.Inv s) : Safety.Inv (s.readArrays a n l).1 := by
  induction l generalizing s with
  | nil => unfold State.readArrays; exact h
  | cons x xs ih =>
    unfold State.readArrays
    split
    · rename_i he
      exact h.readMem.of he
    · rename_i he
      have ht := h.readMem.of he
      split
      · rename_i he
        exact (ih ht).of he
      · rename_i he
        exact (ih ht).of he
theorem Safety.Inv.exportBytes {s : State} {n : Nat} {c : ShardCfg} (h : Safety.Inv s) : Safety.Inv (s.exportBytes n c).1 := by
  unfold State.exportBytes
  split
  · rename_i he
    exact h.ownDigest.of he
  · rename_i he
    have ht := h.ownDigest.of he
    dsimp only
    split
    · rename_i he
      exact ht.readArrays.of he
    · rename_i he
      exact ht.readArrays.of he
theorem Safety.Inv.carry {s : State} {t : Nat} {k : TargetCfg} {w : Nat × Nat} {ps : List (Nat × List Byte)} (h : Safety.Inv s) :
    Safety.Inv (s.carry t k w ps) := by
  unfold State.carry
  split
  · split
    · exact .ite h.knowPath.modTarget h.knowPath.startSource
    · exact h.modTarget
  · exact h.modSite.addStream
  · exact .ite h.modTarget h.modTarget
theorem Safety.Inv.sendPiece {s : State} {t : Nat} {k : TargetCfg} {n buffer core id : Nat} {ps : List (Nat × List Byte)} (h : Safety.Inv s) :
    Safety.Inv (s.sendPiece t k n buffer core id ps) := by
  unfold State.sendPiece; exact h.carry
theorem Safety.Inv.actCkShard {s : State} {core q w : Nat} (h : Safety.Inv s) : Safety.Inv (s.actCkShard core q w) := by
  unfold State.actCkShard
  split
  dsimp only
  split
  · exact h.endXfer
  · refine .ite h.endXfer ?_
    refine .ite h.modShard.endXfer ?_
    split
    · rename_i he
      exact (h.modShard.ownDigest.of he).endXfer
    · rename_i he
      have ht := h.modShard.ownDigest.of he
      split
      · rename_i he
        exact (ht.readArrays.of he).endXfer
      · rename_i he
        refine ((ht.readArrays.of he).openXfer.addHold.each (fun _ _ k => k.modTarget)).each ?_
        intro _ _ k
        split
        · exact k.sendPiece
        · exact k
theorem Safety.Inv.holdCkEntry {s : State} {core q : Nat} {t : State} {w : Nat} (h : Safety.Inv s) (h1 : Safety.Inv t) :
    Safety.Inv (s.holdCkEntry core q t w) := by
  unfold State.holdCkEntry; exact .ite h1.actCkShard h
@[simp] theorem Safety.Inv.execCkShard {core q : Nat} {s : State} (h : Safety.Inv s) : Safety.OutInv (execCkShard core q s) := by
  unfold Machine.execCkShard; exact (h.issueXfer (fun _ _ k => h.holdCkEntry k)).next
theorem Safety.Inv.actCkState {s : State} {core q w : Nat} (h : Safety.Inv s) : Safety.Inv (s.actCkState core q w) := by
  unfold State.actCkState
  refine .ite h.endXfer ?_
  split
  · exact h.endXfer
  · exact (h.each (fun _ _ k => k.modTarget)).endXfer
@[simp] theorem Safety.Inv.execCkState {core q : Nat} {s : State} (h : Safety.Inv s) : Safety.OutInv (execCkState core q s) := by
  unfold Machine.execCkState; exact (h.issueXfer (fun _ _ k => k.actCkState)).next
theorem Safety.Inv.pieceOver {target : Nat} {s : State} {w : Nat × Nat} (h : Safety.Inv s) : Safety.Inv (State.pieceOver target s w) := by
  unfold State.pieceOver
  refine .ite h ?_
  dsimp only
  split
  · exact .ite h.modXf.dropHold.endOpen h.modXf
  · exact h.modXf
theorem Safety.Inv.roundCopy {s : State} {target : Nat} (h : Safety.Inv s) : Safety.Inv (s.roundCopy target).1 := by
  unfold State.roundCopy
  refine h.foldlPair ?_
  intro _ _ k
  split
  · dsimp only
    split
    · rename_i he
      exact k.readArrays.of he
    · rename_i he
      exact k.readArrays.of he
  · exact k
theorem Safety.Inv.writeManifest {s : State} {target : Nat} (h : Safety.Inv s) : Safety.Inv (s.writeManifest target) := by
  unfold State.writeManifest
  dsimp only
  split
  · refine .ite h ?_
    split
    · rename_i he
      exact (Safety.Inv.of he (.iteFst h.roundCopy h)).modTarget
    · rename_i he
      exact (Safety.Inv.of he (.iteFst h.roundCopy h)).modTarget.draw.carry
  · exact h
@[simp] theorem Safety.Inv.execTargetWriteDone {target : Nat} {s : State} (h : Safety.Inv s) : Safety.OutInv (execTargetWriteDone target s) := by
  unfold Machine.execTargetWriteDone
  split
  · exact h.next
  · exact .next (.ite h h.modTarget.pieceOver.writeManifest)
theorem Safety.Inv.dropPieces {s : State} {target : Nat} (h : Safety.Inv s) : Safety.Inv (s.dropPieces target) := by
  unfold State.dropPieces; exact h.unqueue.modTorus.each fun _ _ k => k.modSite.modRound
theorem Safety.Inv.abandonTarget {s : State} {target : Nat} {cause : Cause} (h : Safety.Inv s) : Safety.Inv (s.abandonTarget target cause) := by
  unfold State.abandonTarget; exact (h.dropPieces.modTarget.each (fun _ _ k => k.pieceOver)).modCk.event.tryEnd
@[simp] theorem Safety.Inv.execTargetWriteFail {target : Nat} {cause : Cause} {s : State} (h : Safety.Inv s) :
    Safety.OutInv (execTargetWriteFail target cause s) := by
  unfold Machine.execTargetWriteFail; exact .next (.ite h h.abandonTarget)
@[simp] theorem Safety.Inv.execCheckpointSeal {target : Nat} {s : State} (h : Safety.Inv s) : Safety.OutInv (execCheckpointSeal target s) := by
  unfold Machine.execCheckpointSeal
  dsimp only
  split
  · exact .next (.ite h.modTarget.draw.modCk.jobStatus.tryEnd h)
  · exact h.next
@[simp] theorem Safety.Inv.execCkSealedLoRead {s : State} (h : Safety.Inv s) : Safety.OutInv (execCkSealedLoRead s) := by
  unfold Machine.execCkSealedLoRead; exact h.modCk.set.next

/-! ## Launch -/

theorem Safety.Inv.actAny {s : State} {core q : Nat} {e : Entry} (h : Safety.Inv s) : Safety.Inv (s.actAny core q e) := by
  unfold State.actAny
  split
  · exact h.actWait
  · exact h.actMatrix
  · exact h.actVector
  · split
    · exact h.actReduce fun _ _ k => k.runSum
    · exact h.actReduce fun _ _ k => k.runRows
    · exact h.actReduce fun _ _ k => k.runTapread
    · exact h.actReduce fun _ _ k => k.runTree
  · split
    · exact h.actXfer fun _ _ k => h.holdStageEntry k
    · exact h.actXfer fun _ _ k => k.actWriteback
    · exact h.actXfer fun _ _ k => k.actDispatch
    · exact h.actXfer fun _ _ k => k.actCombine
    · exact h.actXfer fun _ _ k => k.actLoad
    · exact h.actXfer fun _ _ k => k.changeHolds
    · exact h.actXfer fun _ _ k => k.changeHolds
    · exact h.actXfer fun _ _ k => h.holdCkEntry k
    · exact h.actXfer fun _ _ k => k.actCkState
    · exact h.actXfer fun _ _ k => k.actCopy
  · exact h.actUpdate
  · exact h.actAdd
  · exact h.actJump
  · exact h.actEnd
theorem Safety.Inv.issueLaunch {s : State} {core q : Nat} {may : State → Entry → Bool} {act : State → Entry → State}
    (h : Safety.Inv s) (hact : ∀ (s : State) (b : Entry), Safety.Inv s → Safety.Inv (act s b)) :
    Safety.Inv (s.issueLaunch core q may act) := by
  unfold State.issueLaunch; exact h.atHead (fun _ _ k => .ite (hact _ _ k) k)
@[simp] theorem Safety.Inv.execLaunchIssue {core q : Nat} {s : State} (h : Safety.Inv s) : Safety.OutInv (execLaunchIssue core q s) := by
  unfold Machine.execLaunchIssue; exact (h.issueLaunch (fun _ _ k => k.actAny)).next
@[simp] theorem Safety.Inv.execLateLaunchIssue {core q : Nat} {s : State} (h : Safety.Inv s) : Safety.OutInv (execLateLaunchIssue core q s) := by
  unfold Machine.execLateLaunchIssue; exact (h.issueLaunch (fun _ _ k => k.set.actAny)).next

/-! ## Restore -/

theorem Safety.Inv.restoreFail {s : State} {cause : Cause} (h : Safety.Inv s) : Safety.Inv (s.restoreFail cause) := by
  unfold State.restoreFail; exact h.modCk.modPower.jobRecord.setJob
theorem Safety.Inv.restoreReady {s : State} (h : Safety.Inv s) : Safety.Inv s.restoreReady := by
  unfold State.restoreReady
  dsimp only
  split
  · exact .ite h.modCk.sendMsg h.modCk
  · exact h.modCk
@[simp] theorem Safety.Inv.execRestore {s : State} (h : Safety.Inv s) : Safety.OutInv (execRestore s) := by
  unfold Machine.execRestore
  refine .next (.ite h (.ite h.vendorBusy ?_))
  split
  · exact h.modCk.modPower.modCk.setJob.vendorOk
  · exact h.modCk.modPower.modCk.setJob.vendorOk
  · exact h.modCk.wakeUp.restoreReady.setJob.vendorOk
  · exact h.modCk.wakeUp.restoreReady.setJob.vendorOk
  · exact h.vendorFail
theorem Safety.Inv.tryChoose {s : State} (h : Safety.Inv s) : Safety.Inv s.tryChoose := by
  unfold State.tryChoose
  refine .ite ?_ h
  split
  · exact h.restoreFail
  · exact h.modCk
@[simp] theorem Safety.Inv.execRestoreManifestsRead {found : List ManifestCopy} {s : State} (h : Safety.Inv s) :
    Safety.OutInv (execRestoreManifestsRead found s) := by
  unfold Machine.execRestoreManifestsRead; exact .next (.ite h h.modCk.ringSend.tryChoose)
@[simp] theorem Safety.Inv.execSealedStepExchange {coord : Nat} {steps : List Nat} {s : State} (h : Safety.Inv s) :
    Safety.OutInv (execSealedStepExchange coord steps s) := by
  unfold Machine.execSealedStepExchange; exact .next (.ite h (.ite h.ringSend h.ringSend.modCk.tryChoose))
theorem Safety.Inv.restoreChecks {s : State} (h : Safety.Inv s) : Safety.Inv s.restoreChecks := by
  unfold State.restoreChecks
  split
  · exact h.restoreFail
  · exact .ite h.restoreFail (.ite h.modCk (.ite h.event.modCk.restoreFail h.event.modCk.modCk))
@[simp] theorem Safety.Inv.execRestoreLoaded {pieces : List PieceLoad} {moduleRec : ModuleRecord} {s : State} (h : Safety.Inv s) :
    Safety.OutInv (execRestoreLoaded pieces moduleRec s) := by
  unfold Machine.execRestoreLoaded
  refine .next (.ite h ?_)
  split
  · exact h.restoreFail
  · split
    · rename_i he
      exact h.modCk.selectPartner.of he
    · rename_i he
      exact (h.modCk.selectPartner.of he).restoreChecks
    · rename_i he
      exact (h.modCk.selectPartner.of he).restoreFail
theorem Safety.Inv.formCopy {s : State} {c : ShardCfg} {base step : Nat} {e : Nat × UDesc} (h : Safety.Inv s) :
    Safety.Inv (s.formCopy c base step e).1 := by
  unfold State.formCopy
  split
  · rename_i he
    exact h.readStored.of he
  · rename_i he
    exact (h.readStored.of he).writeWhole
theorem Safety.Inv.roundArrays {s : State} {n : Nat} {c : ShardCfg} {p : ShardLoad} (h : Safety.Inv s) : Safety.Inv (s.roundArrays n c p).1 := by
  unfold State.roundArrays; exact h.writeAll
theorem Safety.Inv.restoreShard {st : State × Cause} {n : Nat} (h : Safety.Inv st.1) : Safety.Inv (State.restoreShard st n).1 := by
  unfold State.restoreShard
  split
  · split
    · split
      · dsimp only
        split
        · rename_i he
          have ht := h.writeAll.of he
          split
          · rename_i he
            have ht1 := ht.readCommit.writeCommit.of he
            split
            · rename_i he
              refine (ht1.modShard.roundArrays.of he).foldlPair ?_
              intro _ _ k
              split
              · exact k.formCopy
              · exact k
            · exact ht1.modShard.roundArrays
          · exact ht.readCommit.writeCommit
        · exact h.writeAll
      · dsimp only
        split
        · rename_i he
          have ht := h.writeAll.of he
          split
          · rename_i he
            have ht1 := ht.readCommit.writeCommit.of he
            split
            · rename_i he
              refine (ht1.modShard.roundArrays.of he).foldlPair ?_
              intro _ _ k
              split
              · exact k.formCopy
              · exact k
            · exact ht1.modShard.roundArrays
          · exact ht.readCommit.writeCommit
        · exact h.writeAll
    · exact h
  · exact h
@[simp] theorem Safety.Inv.execRestoreCommitted {s : State} (h : Safety.Inv s) : Safety.OutInv (execRestoreCommitted s) := by
  unfold Machine.execRestoreCommitted
  refine .next (.ite h ?_)
  split
  · rename_i he
    have ht := Safety.Inv.of he (h.foldlPair (fun _ _ k => k.restoreShard))
    refine .ite ht.modCk ?_
    refine ht.modCk.each ?_
    intro _ _ k
    split
    · exact .ite k k.digestNow
    · exact k
  · rename_i he
    exact (Safety.Inv.of he (h.foldlPair (fun _ _ k => k.restoreShard))).restoreFail
theorem Safety.Inv.loadModule {s : State} {r : ModuleRecord} (h : Safety.Inv s) : Safety.Inv (s.loadModule r) := by
  unfold State.loadModule; exact h.modGate.startSites.modRound.holdForm.each fun _ _ k => k.patchCore
theorem Safety.Inv.loadRecord {s : State} {r : CoreRecord} (h : Safety.Inv s) : Safety.Inv (s.loadRecord r) := h.set
theorem Safety.Inv.repairShard {s : State} {n : Nat} (h : Safety.Inv s) : Safety.Inv (s.repairShard n) := by
  unfold State.repairShard
  split
  · exact h.replicaRepair.takeRepair
  · exact h
@[simp] theorem Safety.Inv.execRestoreVerified {s : State} (h : Safety.Inv s) : Safety.OutInv (execRestoreVerified s) := by
  unfold Machine.execRestoreVerified
  refine .next (.ite h (.ite h.restoreFail ?_))
  split
  · exact h.restoreFail
  · refine .ite (h.each (fun _ _ k => k.repairShard)) ?_
    exact .setJob (.jobRecord (.modPower (.modCk (.each (.ite (((((h.each (fun _ _ k => k.repairShard)).startGate.startCommit.each
        (fun _ _ k => k.startCore)).loadModule.each (fun _ _ k => k.loadRecord)).each (fun _ _ k => k.startRing)).each (fun _ _ k => k.freePlan))
            ((((h.each (fun _ _ k => k.repairShard)).startGate.startCommit.each (fun _ _ k => k.startCore)).loadModule.each
                (fun _ _ k => k.loadRecord)).each (fun _ _ k => k.startRing))) (fun _ _ k => k.startPlan)))))
theorem Safety.Inv.partnerDecided {s : State} {cause : Cause} (h : Safety.Inv s) : Safety.Inv (s.partnerDecided cause) := by
  unfold State.partnerDecided; exact .ite (.ite h.restoreChecks h.restoreFail) (.ite (.ite h.beginJob h.startFailed) h)
@[simp] theorem Safety.Inv.execPartnerClaim {port node : Nat} {s : State} (h : Safety.Inv s) : Safety.OutInv (execPartnerClaim port node s) := by
  unfold Machine.execPartnerClaim; exact .next (.ite h (.ite h.modCk.sendMsg h.sendMsg))
@[simp] theorem Safety.Inv.execPartnerRefusal {port : Nat} {s : State} (h : Safety.Inv s) : Safety.OutInv (execPartnerRefusal port s) := by
  unfold Machine.execPartnerRefusal
  refine .next (.ite h ?_)
  split
  · rename_i he
    exact h.claimFrom.of he
  · rename_i he
    exact (h.claimFrom.of he).partnerDecided
@[simp] theorem Safety.Inv.execPartnerAcceptance {port : Nat} {s : State} (h : Safety.Inv s) : Safety.OutInv (execPartnerAcceptance port s) := by
  unfold Machine.execPartnerAcceptance; exact .next (.ite h h.modCk.partnerDecided)
theorem Safety.Inv.serve {s : State} {node : Nat} {bytes : List Byte} (h : Safety.Inv s) : Safety.Inv (s.serve node bytes) := by
  unfold State.serve; exact h.openSource.sendSource.draw
@[simp] theorem Safety.Inv.execCopyRegionRequest {port : Nat} {s : State} (h : Safety.Inv s) : Safety.OutInv (execCopyRegionRequest port s) := by
  unfold Machine.execCopyRegionRequest
  split
  · refine .next (.ite ?_ h)
    split
    · rename_i he
      exact (h.readMem.of he).serve
    · rename_i he
      exact h.readMem.of he
  · exact h.next
theorem Safety.Inv.exportTo {s : State} {node shard : Nat} {c : ShardCfg} (h : Safety.Inv s) : Safety.Inv (s.exportTo node shard c) := by
  unfold State.exportTo
  refine .ite h.modShard ?_
  split
  · rename_i he
    exact (h.exportBytes.of he).serve
  · rename_i he
    exact h.exportBytes.of he
@[simp] theorem Safety.Inv.execShardExportRequest {node shard : Nat} {s : State} (h : Safety.Inv s) :
    Safety.OutInv (execShardExportRequest node shard s) := by
  unfold Machine.execShardExportRequest
  split
  · exact .next (.ite h h.exportTo)
  · exact h.next
theorem Safety.Inv.serveHolds {s : State} (h : Safety.Inv s) : Safety.Inv s.serveHolds := by
  unfold State.serveHolds
  refine h.each ?_
  intro _ _ k
  split
  · refine .ite k ?_
    split
    · exact k.modShard.digestNow
    · exact k.modShard.exportTo
  · exact k
@[simp] theorem Safety.Inv.execHaltMessage {arrived node seq : Nat} {s : State} (h : Safety.Inv s) :
    Safety.OutInv (execHaltMessage arrived node seq s) := by
  unfold Machine.execHaltMessage; exact .next (.ite h (.ite h.modTorus.flood.haltPolicy.draw h.modTorus.flood))
@[simp] theorem Safety.Inv.execWakeMessage {_node : Nat} {s : State} (h : Safety.Inv s) : Safety.OutInv (execWakeMessage _node s) := by
  unfold Machine.execWakeMessage; exact h.wakeUp.next

/-! ## Cipher -/

theorem Safety.Inv.modSec {s : State} {f : Security → Security} (h : Safety.Inv s) : Safety.Inv (s.modSec f) := h.set
theorem Safety.Inv.modEngine {s : State} {p : Nat} {f : Engine → Engine} (h : Safety.Inv s) : Safety.Inv (s.modEngine p f) := h.set
theorem Safety.Inv.modWan {s : State} {p : Nat} {f : WanPort → WanPort} (h : Safety.Inv s) : Safety.Inv (s.modWan p f) := h.set
theorem Safety.Inv.modRecord {s : State} {f : SecurityRecord → SecurityRecord} (h : Safety.Inv s) : Safety.Inv (s.modRecord f) := h.set
theorem Safety.Inv.failFreyn {s : State} {cause : Cause} (h : Safety.Inv s) : Safety.Inv (s.failFreyn cause) := by
  unfold State.failFreyn
  dsimp only
  split
  · refine .ite (h.each (fun _ _ k => k.freynEvent.modSite)).modRound ?_
    exact (h.each (fun _ _ k => k.freynEvent.modSite)).modRound.freynEvent.modRound
  · exact (h.each (fun _ _ k => k.freynEvent.modSite)).modRound
theorem Safety.Inv.eraseKeys {s : State} (h : Safety.Inv s) : Safety.Inv s.eraseKeys := h.set
theorem Safety.Inv.raiseAlarm {s : State} {bit : Nat} (h : Safety.Inv s) : Safety.Inv (s.raiseAlarm bit) := by
  unfold State.raiseAlarm; exact .ite h.eraseKeys.modSec.reportDetail.failFreyn.modSec h.eraseKeys.modSec.reportDetail.failFreyn.modSec
theorem Safety.Inv.alarm {s : State} {bit : Nat} (h : Safety.Inv s) : Safety.Inv (s.alarm bit) := by
  unfold State.alarm; exact .ite h.raiseAlarm h
@[simp] theorem Safety.Inv.execVoltageAlarm {s : State} (h : Safety.Inv s) : Safety.OutInv (execVoltageAlarm s) := by
  unfold Machine.execVoltageAlarm; exact h.alarm.next
@[simp] theorem Safety.Inv.execTemperatureAlarm {s : State} (h : Safety.Inv s) : Safety.OutInv (execTemperatureAlarm s) := by
  unfold Machine.execTemperatureAlarm; exact h.alarm.next
@[simp] theorem Safety.Inv.execGlitchAlarm {s : State} (h : Safety.Inv s) : Safety.OutInv (execGlitchAlarm s) := by
  unfold Machine.execGlitchAlarm; exact h.alarm.next
@[simp] theorem Safety.Inv.execAlarmClear {value : Word} {s : State} (h : Safety.Inv s) : Safety.OutInv (execAlarmClear value s) := by
  unfold Machine.execAlarmClear; exact (h.when (fun _ k => k.modSec)).next
theorem Safety.Inv.authFailed {s : State} (h : Safety.Inv s) : Safety.Inv s.authFailed := by
  unfold State.authFailed; exact .ite h.modSec.raiseAlarm h.modSec
theorem Safety.Inv.setSlot {s : State} {p n : Nat} {k : KeySlot} (h : Safety.Inv s) : Safety.Inv (s.setSlot p n k) := h.set
theorem Safety.Inv.loadSendKeys {s : State} (h : Safety.Inv s) : Safety.Inv s.loadSendKeys := by
  unfold State.loadSendKeys
  split
  · exact h
  · exact h.each fun _ _ k => k.setSlot
theorem Safety.Inv.loadRecvKey {s : State} {i epoch : Nat} (h : Safety.Inv s) : Safety.Inv (s.loadRecvKey i epoch) := by
  unfold State.loadRecvKey
  split
  · exact h
  · exact h.each fun _ _ k => k.setSlot
theorem Safety.Inv.beginEpoch {s : State} {e : Nat} (h : Safety.Inv s) : Safety.Inv (s.beginEpoch e) := by
  unfold State.beginEpoch; exact (h.modRecord.each (fun _ _ k => k.modWan)).modRound.loadSendKeys
theorem Safety.Inv.exhaust {s : State} (h : Safety.Inv s) : Safety.Inv s.exhaust := by
  unfold State.exhaust; exact h.modRound.failFreyn
theorem Safety.Inv.installKm {s : State} {k : MasterKey} (h : Safety.Inv s) : Safety.Inv (s.installKm k) := by
  unfold State.installKm; exact .ite (.ite h.modSec.exhaust h.modSec.beginEpoch) h.modSec.modRecord.set.beginEpoch
theorem Safety.Inv.unwrapBlob {s : State} {blob : List Byte} (h : Safety.Inv s) : Safety.Inv (s.unwrapBlob blob).1 := by
  unfold State.unwrapBlob
  refine .iteFst h ?_
  split
  · exact h.installKm
  · exact h.authFailed
theorem Safety.Inv.unwrapImage {s : State} (h : Safety.Inv s) : Safety.Inv s.unwrapImage.1 := by
  unfold State.unwrapImage; exact .iteFst h (h.foldlPair (fun _ _ k => k.unwrapBlob))
@[simp] theorem Safety.Inv.execAlarmRecovery {s : State} (h : Safety.Inv s) : Safety.OutInv (execAlarmRecovery s) := by
  unfold Machine.execAlarmRecovery; exact .next (.ite h.modSec.unwrapImage h)
@[simp] theorem Safety.Inv.execChangeWindowEnd {s : State} (h : Safety.Inv s) : Safety.OutInv (execChangeWindowEnd s) := by
  unfold Machine.execChangeWindowEnd; exact .next (.ite h.modSec h)
theorem Safety.Inv.jobEnd {s : State} {p : Nat} {cause : Cause} (h : Safety.Inv s) : Safety.Inv (s.jobEnd p cause) := h.set
theorem Safety.Inv.tagFailed {s : State} {p : Nat} {tag : Bool} (h : Safety.Inv s) : Safety.Inv (s.tagFailed p tag) := by
  unfold State.tagFailed; exact .ite h.modEngine (.ite h.modEngine.modEngine.raiseAlarm h.modEngine.modEngine)
theorem Safety.Inv.runJob {s : State} {p : Nat} {j : CipherJob} {k : KeySlot} (h : Safety.Inv s) : Safety.Inv (s.runJob p j k) := by
  unfold State.runJob
  split
  · split
    · split
      · dsimp only
        split
        · exact h.writeMem.jobEnd
        · split
          · rename_i he
            exact (h.writeMem.readMem.of he).jobEnd
          · rename_i he
            have ht := h.writeMem.readMem.of he
            split
            · rename_i he
              exact (ht.readMem.of he).jobEnd
            · rename_i he
              have ht1 := ht.readMem.of he
              split
              · exact ht1.setSlot.jobEnd.tagFailed
              · exact ht1.setSlot.jobEnd.tagFailed
              · exact ht1.setSlot.writeMem.jobEnd
      · dsimp only
        split
        · exact h.writeMem.jobEnd
        · split
          · rename_i he
            exact (h.writeMem.readMem.of he).jobEnd
          · rename_i he
            have ht := h.writeMem.readMem.of he
            split
            · rename_i he
              exact (ht.readMem.of he).jobEnd
            · rename_i he
              have ht1 := ht.readMem.of he
              split
              · exact ht1.setSlot.jobEnd.tagFailed
              · exact ht1.setSlot.jobEnd.tagFailed
              · exact ht1.setSlot.writeMem.jobEnd
    · split
      · dsimp only
        split
        · exact h.writeMem.jobEnd
        · split
          · rename_i he
            exact (h.writeMem.readMem.of he).jobEnd
          · rename_i he
            have ht := h.writeMem.readMem.of he
            split
            · exact ht.setSlot.jobEnd.tagFailed
            · exact ht.setSlot.jobEnd.tagFailed
            · exact ht.setSlot.writeMem.jobEnd
      · dsimp only
        split
        · exact h.writeMem.jobEnd
        · split
          · rename_i he
            exact (h.writeMem.readMem.of he).jobEnd
          · rename_i he
            have ht := h.writeMem.readMem.of he
            split
            · exact ht.setSlot.jobEnd.tagFailed
            · exact ht.setSlot.jobEnd.tagFailed
            · exact ht.setSlot.writeMem.jobEnd
  · split
    rename_i he
    have ht := h.of he
    refine .ite ht.jobEnd ?_
    split
    · rename_i he
      exact (ht.readMem.of he).jobEnd
    · rename_i he
      have ht1 := ht.readMem.of he
      split
      · rename_i he
        exact (Safety.Inv.of he (.iteFst ht1.readMem ht1)).jobEnd
      · rename_i he
        have ht2 := Safety.Inv.of he (.iteFst ht1.readMem ht1)
        split
        · split
          · exact ht2.setSlot.jobEnd.tagFailed
          · exact ht2.setSlot.jobEnd.tagFailed
          · exact ht2.setSlot.writeMem.jobEnd
        · split
          · exact ht2.setSlot.jobEnd.tagFailed
          · exact ht2.setSlot.jobEnd.tagFailed
          · exact ht2.setSlot.writeMem.jobEnd
theorem Safety.Inv.cipherJob {s : State} {p : Nat} {w : BitVec 512} {op : Nat} (h : Safety.Inv s) : Safety.Inv (s.cipherJob p w op) := by
  unfold State.cipherJob; exact .ite h (.ite h.jobEnd (.ite h.jobEnd (.ite h.jobEnd h.runJob)))
@[simp] theorem Safety.Inv.execEncrypt {engine : Nat} {desc : BitVec 512} {s : State} (h : Safety.Inv s) :
    Safety.OutInv (execEncrypt engine desc s) := by
  unfold Machine.execEncrypt; exact h.cipherJob.next
@[simp] theorem Safety.Inv.execDecrypt {engine : Nat} {desc : BitVec 512} {s : State} (h : Safety.Inv s) :
    Safety.OutInv (execDecrypt engine desc s) := by
  unfold Machine.execDecrypt; exact h.cipherJob.next
@[simp] theorem Safety.Inv.execMac {engine : Nat} {desc : BitVec 512} {s : State} (h : Safety.Inv s) : Safety.OutInv (execMac engine desc s) := by
  unfold Machine.execMac; exact h.cipherJob.next
@[simp] theorem Safety.Inv.execKeySlotLoad {engine slot : Nat} {load : SlotLoad} {s : State} (h : Safety.Inv s) :
    Safety.OutInv (execKeySlotLoad engine slot load s) := by
  unfold Machine.execKeySlotLoad; exact .next (.ite h h.setSlot)
@[simp] theorem Safety.Inv.execSlotCtrLoRead {engine : Nat} {s : State} (h : Safety.Inv s) : Safety.OutInv (execSlotCtrLoRead engine s) := by
  unfold Machine.execSlotCtrLoRead
  refine .next ?_
  split
  · exact h.modEngine.set
  · exact h.set

/-! ## Security -/

theorem Safety.Inv.spdmReply {s : State} {bs : List Byte} (h : Safety.Inv s) : Safety.Inv (s.spdmReply bs) := h.set
theorem Safety.Inv.spdmError {s : State} {code data : Nat} (h : Safety.Inv s) : Safety.Inv (s.spdmError code data) := h.set
@[simp] theorem Safety.Inv.spdm {s : State} {f : State → State} (h : Safety.Inv s) (hf : ∀ (s : State), Safety.Inv s → Safety.Inv (f s)) :
    Safety.OutInv (s.spdm f) := by
  unfold State.spdm; exact .next (.ite h (.ite h.spdmError (hf _ h)))
@[simp] theorem Safety.Inv.execGetVersion {s : State} (h : Safety.Inv s) : Safety.OutInv (execGetVersion s) := by
  unfold Machine.execGetVersion; exact .next (.ite h (.ite h.spdmError h.modSec.spdmReply))
@[simp] theorem Safety.Inv.execGetCapabilities {s : State} (h : Safety.Inv s) : Safety.OutInv (execGetCapabilities s) := by
  unfold Machine.execGetCapabilities; exact h.spdm fun _ k => k.spdmReply
@[simp] theorem Safety.Inv.execNegotiateAlgorithms {offersExtAsym : Bool} {s : State} (h : Safety.Inv s) :
    Safety.OutInv (execNegotiateAlgorithms offersExtAsym s) := by
  unfold Machine.execNegotiateAlgorithms; exact h.spdm fun _ k => k.modSec.spdmReply
@[simp] theorem Safety.Inv.execGetDigests {s : State} (h : Safety.Inv s) : Safety.OutInv (execGetDigests s) := by
  unfold Machine.execGetDigests; exact h.spdm fun _ k => k.spdmReply
@[simp] theorem Safety.Inv.execGetCertificate {slot offset length : Nat} {s : State} (h : Safety.Inv s) :
    Safety.OutInv (execGetCertificate slot offset length s) := by
  unfold Machine.execGetCertificate; exact h.spdm fun _ k => .ite k.spdmError k.spdmReply
@[simp] theorem Safety.Inv.execChallenge {slot : Nat} {nonce : List Byte} {s : State} (h : Safety.Inv s) :
    Safety.OutInv (execChallenge slot nonce s) := by
  unfold Machine.execChallenge; exact h.spdm (fun _ k => .ite k.spdmError (.ite k.spdmError k.spdmReply))
@[simp] theorem Safety.Inv.execGetMeasurements {index : Nat} {signed : Bool} {nonce : List Byte} {s : State} (h : Safety.Inv s) :
    Safety.OutInv (execGetMeasurements index signed nonce s) := by
  unfold Machine.execGetMeasurements; exact h.spdm (fun _ k => .ite k.spdmError (.ite k.spdmError k.spdmReply))
@[simp] theorem Safety.Inv.execSpdmUnsupported {code : Nat} {s : State} (h : Safety.Inv s) : Safety.OutInv (execSpdmUnsupported code s) := by
  unfold Machine.execSpdmUnsupported; exact h.spdm fun _ k => k.spdmError
@[simp] theorem Safety.Inv.execNonceGet {s : State} (h : Safety.Inv s) : Safety.OutInv (execNonceGet s) := by
  unfold Machine.execNonceGet; exact .next (.ite h h.modSec.draw.vendorOk)
@[simp] theorem Safety.Inv.execNonceLapse {s : State} (h : Safety.Inv s) : Safety.OutInv (execNonceLapse s) := by
  unfold Machine.execNonceLapse; exact .next (.ite h.modSec h)
theorem Safety.Inv.ownerFail {s : State} {cause : Cause} (h : Safety.Inv s) : Safety.Inv (s.ownerFail cause) := by
  unfold State.ownerFail; exact h.vendorFail
@[simp] theorem Safety.Inv.owner {s : State} {code : Nat} {auth : OwnerAuth} {args : List Byte} {f : State → State}
    (h : Safety.Inv s) (hf : ∀ (s : State), Safety.Inv s → Safety.Inv (f s)) :
    Safety.OutInv (s.owner code auth args f) := by
  unfold State.owner; exact .next (.ite h (.ite h.ownerFail (.ite (hf _ h.modSec) h.modSec.authFailed.ownerFail)))
theorem Safety.Inv.releaseLock {s : State} (h : Safety.Inv s) : Safety.Inv s.releaseLock := by
  unfold State.releaseLock; exact .ite h.modSec.modRecord.vendorOk h
@[simp] theorem Safety.Inv.execLock {auth : OwnerAuth} {s : State} (h : Safety.Inv s) : Safety.OutInv (execLock auth s) := by
  unfold Machine.execLock; exact h.owner fun _ k => k.modSec.releaseLock
@[simp] theorem Safety.Inv.execUnlock {auth : OwnerAuth} {s : State} (h : Safety.Inv s) : Safety.OutInv (execUnlock auth s) := by
  unfold Machine.execUnlock; exact h.owner fun _ k => k.modSec.modRecord.vendorOk
theorem Safety.Inv.modFuses {s : State} {f : Fuses → Fuses} (h : Safety.Inv s) : Safety.Inv (s.modFuses f) := h.set
@[simp] theorem Safety.Inv.execEnrol {auth : OwnerAuth} {entry : Nat} {key : List Byte} {s : State} (h : Safety.Inv s) :
    Safety.OutInv (execEnrol auth entry key s) := by
  unfold Machine.execEnrol; exact h.owner fun _ k => .ite k.ownerFail k.modFuses.vendorOk
@[simp] theorem Safety.Inv.execRevoke {auth : OwnerAuth} {entry : Nat} {s : State} (h : Safety.Inv s) :
    Safety.OutInv (execRevoke auth entry s) := by
  unfold Machine.execRevoke; exact h.owner (fun _ k => .ite k.ownerFail (.ite k.ownerFail k.modFuses.vendorOk))
@[simp] theorem Safety.Inv.execRetire {auth : OwnerAuth} {s : State} (h : Safety.Inv s) : Safety.OutInv (execRetire auth s) := by
  unfold Machine.execRetire; exact h.owner fun _ k => k.modFuses.eraseKeys.modSec.failFreyn.vendorOk
@[simp] theorem Safety.Inv.execProvision {qe ct tag : List Byte} {s : State} (h : Safety.Inv s) : Safety.OutInv (execProvision qe ct tag s) := by
  unfold Machine.execProvision
  refine .next (.ite h (.ite h.ownerFail (.ite h.ownerFail ?_)))
  split
  · exact h.ownerFail
  · exact .ite h.modFuses.vendorOk h.ownerFail
@[simp] theorem Safety.Inv.execKeyInstall {blob : List Byte} {s : State} (h : Safety.Inv s) : Safety.OutInv (execKeyInstall blob s) := by
  unfold Machine.execKeyInstall
  refine .next (.ite h (.ite h.ownerFail ?_))
  split
  · rename_i he
    exact (h.unwrapBlob.of he).vendorOk
  · rename_i he
    exact (h.unwrapBlob.of he).ownerFail
@[simp] theorem Safety.Inv.execKeyWrCommit {value : Word} {s : State} (h : Safety.Inv s) : Safety.OutInv (execKeyWrCommit value s) := by
  unfold Machine.execKeyWrCommit
  exact .next (.ite h (.ite h.modSec.modSec (.ite h.modSec.modSec (.ite h.modSec.installKm.modSec h.modSec.authFailed.modSec))))

/-! ## Wan -/

theorem Safety.Inv.answer {s : State} {port kind : Nat} {bs : List Byte} (h : Safety.Inv s) : Safety.Inv (s.answer port kind bs) := h.set
theorem Safety.Inv.nextHopMac {s : State} {r : RouteCfg} (h : Safety.Inv s) : Safety.Inv (s.nextHopMac r).1 := by
  unfold State.nextHopMac
  refine .iteFst h ?_
  split
  · exact h
  · exact h.answer.modWan
theorem Safety.Inv.nextEpoch {s : State} (h : Safety.Inv s) : Safety.Inv s.nextEpoch := by
  unfold State.nextEpoch; exact .ite h.exhaust h.beginEpoch
@[simp] theorem Safety.Inv.execKeyEpochStart {s : State} (h : Safety.Inv s) : Safety.OutInv (execKeyEpochStart s) := by
  unfold Machine.execKeyEpochStart; exact .next (.ite h (.ite h.modRound.nextEpoch (.ite h.nextEpoch h)))
theorem Safety.Inv.refill {s : State} (h : Safety.Inv s) : Safety.Inv s.refill := h.set
/-- Unfolded in place, as above: the kernel would evaluate the frame. -/
theorem Safety.Inv.sendNow {s : State} {o : WanOut} (h : Safety.Inv s) : Safety.Inv (s.sendNow o) := by
  conv in State.sendNow => delta State.sendNow
  extract_lets t
  have ht : Safety.Inv t := .ite h.nextEpoch h
  split
  · exact ht
  · refine .ite ht ?_
    split
    rename_i he
    exact (ht.nextHopMac.of he).modWan.modEngine.modRound.modSite
theorem Safety.Inv.pump {fuel : Nat} {s : State} (h : Safety.Inv s) : Safety.Inv (State.pump fuel s) := by
  induction fuel generalizing s with
  | zero => unfold State.pump; exact h
  | succ n ih =>
    unfold State.pump
    split
    · exact h
    · exact .ite (ih h.set.sendNow) h
theorem Safety.Inv.drainWan {s : State} (h : Safety.Inv s) : Safety.Inv s.drainWan := by
  unfold State.drainWan; exact .ite h.refill.pump h
theorem Safety.Inv.post {s : State} {o : WanOut} (h : Safety.Inv s) : Safety.Inv (s.post o) := by
  unfold State.post; exact .ite h h.modRound.drainWan
@[simp] theorem Safety.Inv.execRateTokens {s : State} (h : Safety.Inv s) : Safety.OutInv (execRateTokens s) := by
  unfold Machine.execRateTokens; exact h.drainWan.next
theorem Safety.Inv.countMsg {s : State} {i : Nat} (h : Safety.Inv s) : Safety.Inv (s.countMsg i) := h.set
theorem Safety.Inv.control {s : State} {i type : Nat} {payload : List Byte} (h : Safety.Inv s) : Safety.Inv (s.control i type payload) := by
  unfold State.control; exact h.post.countMsg
theorem Safety.Inv.controlAll {s : State} {type : Nat} {payload : List Byte} (h : Safety.Inv s) : Safety.Inv (s.controlAll type payload) := by
  unfold State.controlAll; exact h.each fun _ _ k => k.control
theorem Safety.Inv.stream {s : State} {i : Nat} {es : List FrnOut} (h : Safety.Inv s) : Safety.Inv (s.stream i es) := by
  unfold State.stream; exact h.addStream.drainWan
theorem Safety.Inv.resendAll {s : State} {i : Nat} {p : FrnOut → Bool} (h : Safety.Inv s) : Safety.Inv (s.resendAll i p) := by
  unfold State.resendAll; exact h.each fun _ _ k => .ite k k.post
theorem Safety.Inv.dropWan {s : State} {p : Nat} (h : Safety.Inv s) : Safety.Inv (s.dropWan p) := h.set
theorem Safety.Inv.tagDrop {s : State} {h : FrnHeader} (hs : Safety.Inv s) : Safety.Inv (s.tagDrop h) := by
  unfold State.tagDrop
  dsimp only
  split
  · refine .ite hs.dropWan.modRound.jobEnd.tagFailed ?_
    exact .ite hs.dropWan.modRound.jobEnd.tagFailed.modRound hs.dropWan.modRound.jobEnd.tagFailed.freynEvent.modRound
  · exact hs.dropWan.modRound.jobEnd.tagFailed
theorem Safety.Inv.newEpoch {s : State} {h : FrnHeader} (hs : Safety.Inv s) : Safety.Inv (s.newEpoch h) := by
  unfold State.newEpoch; exact .ite hs hs.modRecord.modSite.loadRecvKey
theorem Safety.Inv.noteCount {s : State} {h : FrnHeader} (hs : Safety.Inv s) : Safety.Inv (s.noteCount h) := hs.set
theorem Safety.Inv.receive {s : State} {h : FrnHeader} {type : Nat} {payload : List Byte} (hs : Safety.Inv s) :
    Safety.Inv (s.receive h type payload).1 := by
  unfold State.receive; exact .iteFst hs (.iteFst hs.dropWan (.iteFst hs.tagDrop hs.modWan.jobEnd.newEpoch.noteCount))
theorem Safety.Inv.noteSeq {s : State} {h : FrnHeader} (hs : Safety.Inv s) : Safety.Inv (s.noteSeq h) := hs.set
@[simp] theorem Safety.Inv.allow {s : State} {h : FrnHeader} {type : Nat} {payload : List Byte} {fits : State → Bool} {f : State → State}
    (hs : Safety.Inv s) (hf : ∀ (s : State), Safety.Inv s → Safety.Inv (f s)) :
    Safety.OutInv (s.allow h type payload fits f) := by
  unfold State.allow
  split
  · rename_i he
    exact (hs.receive.of he).next
  · rename_i he
    have ht := hs.receive.of he
    exact .next (.ite ht.noteSeq (.ite (hf _ ht.noteSeq) ht))
@[simp] theorem Safety.Inv.execAck {hdr : FrnHeader} {ranges : List SeqRange} {s : State} (h : Safety.Inv s) :
    Safety.OutInv (execAck hdr ranges s) := by
  unfold Machine.execAck; exact h.allow fun _ k => k.modRound.modSite
@[simp] theorem Safety.Inv.execAckSend {site : Nat} {s : State} (h : Safety.Inv s) : Safety.OutInv (execAckSend site s) := by
  unfold Machine.execAckSend
  dsimp only
  split <;> exact .next (.ite h h.modSite.control)
@[simp] theorem Safety.Inv.execPacketResend {site seq : Nat} {s : State} (h : Safety.Inv s) : Safety.OutInv (execPacketResend site seq s) := by
  unfold Machine.execPacketResend
  dsimp only
  split
  · exact .next (.ite h h.post)
  · exact h.next
@[simp] theorem Safety.Inv.execStreamPause {site : Nat} {s : State} (h : Safety.Inv s) : Safety.OutInv (execStreamPause site s) := by
  unfold Machine.execStreamPause; exact .next (.ite h.modSite.modRound h)
@[simp] theorem Safety.Inv.execHeartbeatSend {s : State} (h : Safety.Inv s) : Safety.OutInv (execHeartbeatSend s) := by
  unfold Machine.execHeartbeatSend; exact .next (.ite h (h.modRound.each (fun _ _ k => k.post.countMsg)))
@[simp] theorem Safety.Inv.execReachabilityLapse {site : Nat} {s : State} (h : Safety.Inv s) : Safety.OutInv (execReachabilityLapse site s) := by
  unfold Machine.execReachabilityLapse; exact .next (.ite h.modSite h)
theorem Safety.Inv.noteRoutes {s : State} {i : Nat} (h : Safety.Inv s) : Safety.Inv (s.noteRoutes i) := h.set
@[simp] theorem Safety.Inv.execRouteDown {site : Nat} {second : Bool} {s : State} (h : Safety.Inv s) :
    Safety.OutInv (execRouteDown site second s) := by
  unfold Machine.execRouteDown; exact .next (.ite h.modSite.noteRoutes h)
@[simp] theorem Safety.Inv.execGracePeriodEnd {site : Nat} {s : State} (h : Safety.Inv s) : Safety.OutInv (execGracePeriodEnd site s) := by
  unfold Machine.execGracePeriodEnd
  dsimp only
  split
  · exact .next (.ite h (h.modSite.each (fun _ _ k => .ite k.setSlot k)))
  · exact h.next
@[simp] theorem Safety.Inv.execRecoveryFailover {site : Nat} {s : State} (h : Safety.Inv s) : Safety.OutInv (execRecoveryFailover site s) := by
  unfold Machine.execRecoveryFailover; exact .next (.ite h.modSite.modRound.resendAll h)
@[simp] theorem Safety.Inv.execRecoveryRoutesDown {site : Nat} {s : State} (h : Safety.Inv s) :
    Safety.OutInv (execRecoveryRoutesDown site s) := by
  unfold Machine.execRecoveryRoutesDown; exact .next (.ite (.ite h.freynEvent.modSite.modRound h.freynEvent.modSite) h)
@[simp] theorem Safety.Inv.execWanPortDown {port : Nat} {localFault remoteFault : Bool} {s : State} (h : Safety.Inv s) :
    Safety.OutInv (execWanPortDown port localFault remoteFault s) := by
  unfold Machine.execWanPortDown; exact .next (.ite h (h.modWan.each (fun _ _ k => k.noteRoutes)))
@[simp] theorem Safety.Inv.execWanPortUp {port : Nat} {s : State} (h : Safety.Inv s) : Safety.OutInv (execWanPortUp port s) := by
  unfold Machine.execWanPortUp; exact .next (.ite h (h.modWan.each (fun _ _ k => k.noteRoutes)).drainWan)
@[simp] theorem Safety.Inv.execNeighborSolicitation {port : Nat} {target sender : List Byte} {s : State} (h : Safety.Inv s) :
    Safety.OutInv (execNeighborSolicitation port target sender s) := by
  unfold Machine.execNeighborSolicitation; exact .next (.ite h (.ite h.answer h.dropWan))
@[simp] theorem Safety.Inv.execArpRequest {port : Nat} {target sender : List Byte} {s : State} (h : Safety.Inv s) :
    Safety.OutInv (execArpRequest port target sender s) := by
  unfold Machine.execArpRequest; exact .next (.ite h (.ite h.answer h.dropWan))
@[simp] theorem Safety.Inv.execEchoRequest {port : Nat} {sender payload : List Byte} {s : State} (h : Safety.Inv s) :
    Safety.OutInv (execEchoRequest port sender payload s) := by
  unfold Machine.execEchoRequest; exact .next (.ite h (.ite h.modWan.answer h.dropWan))
@[simp] theorem Safety.Inv.execPacketTooBig {port mtu : Nat} {s : State} (h : Safety.Inv s) : Safety.OutInv (execPacketTooBig port mtu s) := by
  unfold Machine.execPacketTooBig; exact .next (.ite h.event h)

/-! ## Freyn -/

theorem Safety.Inv.fallBehind {s : State} (h : Safety.Inv s) : Safety.Inv s.fallBehind := by
  unfold State.fallBehind; exact .ite h (.ite h.dropRoundHolds.modRound h.startRebase.modRound)
theorem Safety.Inv.rebase {s : State} (h : Safety.Inv s) : Safety.Inv s.rebase := by
  unfold State.rebase; exact .ite h h.startRebase.modRound
theorem Safety.Inv.setSiteState {s : State} {i st : Nat} (h : Safety.Inv s) : Safety.Inv (s.setSiteState i st) := h.set
theorem Safety.Inv.endCopies {s : State} {cause : Cause} (h : Safety.Inv s) : Safety.Inv (s.endCopies cause) := by
  unfold State.endCopies; exact h.each (fun _ _ k => .modRound (.modSite (.ite k.freynEvent k)))
theorem Safety.Inv.closeStates {s : State} {next : Nat} (h : Safety.Inv s) : Safety.Inv (s.closeStates next) := by
  unfold State.closeStates; exact h.each (fun _ _ k => .ite k.setSiteState.modSite (.ite k.setSiteState k))
theorem Safety.Inv.checkStreams {s : State} (h : Safety.Inv s) : Safety.Inv s.checkStreams := by
  unfold State.checkStreams
  refine h.each ?_
  intro _ _ k
  refine .ite k ?_
  split
  · rename_i he
    exact (k.readMem.of he).modRound
  · rename_i he
    exact (k.readMem.of he).modRound
theorem Safety.Inv.takeClose {s : State} {src : Nat} {b : CloseBody} (h : Safety.Inv s) : Safety.Inv (s.takeClose src b) := by
  unfold State.takeClose; exact h.dropRoundHolds.endCopies.closeStates.modRound.checkStreams
theorem Safety.Inv.applyClose {s : State} {src : Nat} {b : CloseBody} (h : Safety.Inv s) : Safety.Inv (s.applyClose src b) := by
  unfold State.applyClose; exact .ite h.modRound (.ite h.modRound.takeClose (.ite h.modRound.modRound.fallBehind h.modRound))
theorem Safety.Inv.tryClose {s : State} (h : Safety.Inv s) : Safety.Inv s.tryClose := by
  unfold State.tryClose
  split
  · exact .ite h.controlAll.applyClose h
  · exact h
theorem Safety.Inv.propose {s : State} (h : Safety.Inv s) : Safety.Inv s.propose := by
  unfold State.propose; exact .ite h h.modRound.controlAll.tryClose
theorem Safety.Inv.tryPropose {s : State} (h : Safety.Inv s) : Safety.Inv s.tryPropose := by
  unfold State.tryPropose; exact .ite h.propose h
@[simp] theorem Safety.Inv.execPropose {hdr : FrnHeader} {body : ProposeBody} {s : State} (h : Safety.Inv s) :
    Safety.OutInv (execPropose hdr body s) := by
  unfold Machine.execPropose; exact h.allow fun _ k => .ite k.modRound.control k
@[simp] theorem Safety.Inv.execAccept {hdr : FrnHeader} {round : Nat} {crc : Word64} {s : State} (h : Safety.Inv s) :
    Safety.OutInv (execAccept hdr round crc s) := by
  unfold Machine.execAccept; exact h.allow fun _ k => .ite k.modRound.tryClose k
@[simp] theorem Safety.Inv.execClose {hdr : FrnHeader} {body : CloseBody} {s : State} (h : Safety.Inv s) :
    Safety.OutInv (execClose hdr body s) := by
  unfold Machine.execClose; exact h.allow fun _ k => k.applyClose
@[simp] theorem Safety.Inv.execRoundDeadline {s : State} (h : Safety.Inv s) : Safety.OutInv (execRoundDeadline s) := by
  unfold Machine.execRoundDeadline; exact .next (.ite h.propose h)
@[simp] theorem Safety.Inv.execRoundOrphan {s : State} (h : Safety.Inv s) : Safety.OutInv (execRoundOrphan s) := by
  unfold Machine.execRoundOrphan
  exact .next (.ite (.holdForm (.modRound (.ite h.endCopies.freynEvent h.endCopies.freynEvent.dropRoundHolds.modRound))) h)
theorem Safety.Inv.deltaValues {s : State} {shard : Nat} {c : ShardCfg} (h : Safety.Inv s) : Safety.Inv (s.deltaValues shard c).1 := by
  unfold State.deltaValues
  split
  · rename_i he
    exact h.readStored.of he
  · rename_i he
    have ht := h.readStored.of he
    split
    · rename_i he
      exact ht.readAnchor.of he
    · rename_i he
      have ht1 := ht.readAnchor.of he
      split
      · rename_i he
        exact ht1.readOffcut.of he
      · rename_i he
        exact ht1.readOffcut.of he
theorem Safety.Inv.formedAll {s : State} {rate : Nat} (h : Safety.Inv s) : Safety.Inv (s.formedAll rate) := by
  unfold State.formedAll; exact .ite h (.ite (.ite h.modRound h.modRound.freynEvent.modRound) h.modRound.tryPropose)
@[simp] theorem Safety.Inv.execDeltaForm {shard core : Nat} {s : State} (h : Safety.Inv s) : Safety.OutInv (execDeltaForm shard core s) := by
  unfold Machine.execDeltaForm
  refine .next (.ite h.holdForm ?_)
  split
  · split
    · rename_i he
      exact (h.holdForm.deltaValues.of he).freynEvent
    · rename_i he
      have ht := h.holdForm.deltaValues.of he
      refine .ite ht.countEncoded.freynEvent.rebase ?_
      dsimp only
      split
      · rename_i he
        exact (ht.countEncoded.writeAll.of he).dropRoundHold.modRound.formedAll
      · rename_i he
        exact (ht.countEncoded.writeAll.of he).freynEvent
  · exact h.holdForm.freynEvent
@[simp] theorem Safety.Inv.execWanSend {site : Nat} {s : State} (h : Safety.Inv s) : Safety.OutInv (execWanSend site s) := by
  unfold Machine.execWanSend
  refine .next (.ite h (.ite h.freynEvent (.ite h.freynEvent ?_)))
  split
  · dsimp only
    split
    · rename_i he
      exact (h.readMem.of he).freynEvent
    · rename_i he
      exact (h.readMem.of he).modRound.stream
  · dsimp only
    split
    · rename_i he
      exact (h.readMem.of he).freynEvent
    · rename_i he
      exact (h.readMem.of he).modSite.stream
@[simp] theorem Safety.Inv.execDelta {hdr : FrnHeader} {frag : DeltaFragment} {blocks : List Byte} {s : State} (h : Safety.Inv s) :
    Safety.OutInv (execDelta hdr frag blocks s) := by
  unfold Machine.execDelta
  refine h.allow ?_
  intro _ k
  split
  · rename_i he
    have ht := k.writeMem.of he
    exact .ite ht.freynEvent.modRound ht.modRound.tryPropose
  · rename_i he
    exact k.writeMem.of he
theorem Safety.Inv.readAll {s : State} {l : List (Nat × Nat)} (h : Safety.Inv s) : Safety.Inv (s.readAll l).1 := by
  induction l generalizing s with
  | nil => unfold State.readAll; exact h
  | cons x xs ih =>
    unfold State.readAll
    split
    · rename_i he
      exact h.readMem.of he
    · rename_i he
      have ht := h.readMem.of he
      split
      · rename_i he
        exact (ih ht).of he
      · rename_i he
        exact (ih ht).of he
theorem Safety.Inv.objectBytes {s t : State} {o : FetchObject} {r : Except Cause (List Byte)} (h : Safety.Inv s)
    (e : s.objectBytes o = some (t, r)) : Safety.Inv t := by
  unfold State.objectBytes at e
  split at e
  · cases e; exact h
  · obtain ⟨rs, -, e⟩ := Option.map_eq_some_iff.1 e
    exact h.readAll.of e
@[simp] theorem Safety.Inv.execFetch {hdr : FrnHeader} {req : FetchBody} {s : State} (h : Safety.Inv s) :
    Safety.OutInv (execFetch hdr req s) := by
  unfold Machine.execFetch
  refine h.allow fun s k => ?_
  split
  · exact k
  · rename_i he
    exact (k.objectBytes he).freynEvent
  · rename_i he
    exact (k.objectBytes he).modSite.stream
theorem Safety.Inv.beginFetch {s : State} {f : FetchSt} (h : Safety.Inv s) : Safety.Inv (s.beginFetch f) := by
  unfold State.beginFetch; exact h.modRound.countMsg.stream
theorem Safety.Inv.joinShard {slots : List Byte} {s : State} {n : Nat} (h : Safety.Inv s) : Safety.Inv (State.joinShard slots s n) := by
  unfold State.joinShard
  split
  · exact h
  · split
    · dsimp only
      split
      · rename_i he
        have ht := h.writeAll.of he
        split
        · rename_i he
          exact (ht.writeCommit.of he).foldl fun _ _ k => k.formCopy
        · rename_i he
          exact (ht.writeCommit.of he).freynEvent
      · rename_i he
        exact (h.writeAll.of he).freynEvent
    · dsimp only
      split
      · rename_i he
        have ht := h.writeAll.of he
        split
        · rename_i he
          exact (ht.writeCommit.of he).foldl fun _ _ k => k.formCopy
        · rename_i he
          exact (ht.writeCommit.of he).freynEvent
      · rename_i he
        exact (h.writeAll.of he).freynEvent
theorem Safety.Inv.joinCommit {s : State} {slots : List Byte} (h : Safety.Inv s) : Safety.Inv (s.joinCommit slots) := by
  unfold State.joinCommit; exact (h.each (fun _ _ k => k.joinShard)).modRound.control
theorem Safety.Inv.deltaFetched {s : State} {f : FetchSt} {i : Nat} {bs : List Byte} (h : Safety.Inv s) : Safety.Inv (s.deltaFetched f i bs) := by
  unfold State.deltaFetched
  refine .ite ?_ (.ite h.beginFetch h.freynEvent.modRound.rebase)
  split
  · rename_i he
    exact (h.writeMem.of he).modRound
  · rename_i he
    exact (h.writeMem.of he).freynEvent.modRound
theorem Safety.Inv.fetchDone {s : State} {f : FetchSt} (h : Safety.Inv s) : Safety.Inv (s.fetchDone f) := by
  unfold State.fetchDone
  split
  · exact h.deltaFetched
  · exact h.modRound.modRound
  · exact h.modRound.modRound
  · exact .ite h.modRound.modRound.holdForm (.ite h.modRound.modRound h.modRound.joinCommit)
  · exact h.joinCommit
  · exact h.modRound
@[simp] theorem Safety.Inv.execWanFetch {site : Nat} {s : State} (h : Safety.Inv s) : Safety.OutInv (execWanFetch site s) := by
  unfold Machine.execWanFetch
  split
  · exact h.next
  · exact .next (.ite h.freynEvent.rebase (.ite h (.ite h.freynEvent (.ite h.freynEvent (.ite (.fetchDone (.ite h.control.modRound h))
        (.beginFetch (.ite h.control.modRound h)))))))
@[simp] theorem Safety.Inv.execData {hdr : FrnHeader} {body : DataBody} {s : State} (h : Safety.Inv s) : Safety.OutInv (execData hdr body s) := by
  unfold Machine.execData
  refine h.allow ?_
  intro _ k
  split
  · exact k.writeMem
  · exact .ite k (.ite k.modRound.fetchDone k.modRound)
  · exact k
@[simp] theorem Safety.Inv.execFetchLimit {s : State} (h : Safety.Inv s) : Safety.OutInv (execFetchLimit s) := by
  unfold Machine.execFetchLimit
  split
  · exact .next (.ite h.freynEvent.modRound h)
  · exact h.next
theorem Safety.Inv.siteReport {s : State} {i : Nat} {b : HeartbeatBody} (h : Safety.Inv s) : Safety.Inv (s.siteReport i b) := by
  unfold State.siteReport
  split
  · split
    · split
      · exact .ite h.modSite.modRound.fallBehind h.modSite
      · exact h.modSite
    · split
      · exact .ite h.modSite.modRound.fallBehind h.modSite
      · exact h.modSite
  · split
    · split
      · split
        · exact .ite h.modSite.modRound.fallBehind h.modSite
        · exact h.modSite
      · split
        · exact .ite h.modSite.modRound.fallBehind h.modSite
        · exact h.modSite
    · split
      · split
        · exact .ite h.modSite.modRound.fallBehind h.modSite
        · exact h.modSite
      · split
        · exact .ite h.modSite.modRound.fallBehind h.modSite
        · exact h.modSite
@[simp] theorem Safety.Inv.execHeartbeat {hdr : FrnHeader} {body : HeartbeatBody} {s : State} (h : Safety.Inv s) :
    Safety.OutInv (execHeartbeat hdr body s) := by
  unfold Machine.execHeartbeat
  exact h.allow (fun _ k => .drainWan (.tryPropose (.siteReport (.ite k.modSite.noteRoutes.modRound.resendAll k.modSite.noteRoutes.modRound))))
@[simp] theorem Safety.Inv.execJoin {hdr : FrnHeader} {body : JoinBody} {s : State} (h : Safety.Inv s) : Safety.OutInv (execJoin hdr body s) := by
  unfold Machine.execJoin
  refine h.allow ?_
  intro _ k
  split
  · exact k.setSiteState
  · exact k.setSiteState
  · exact k.setSiteState.modSite
theorem Safety.Inv.anchorInput {s : State} {r : Nat} {l : List Nat} (h : Safety.Inv s) : Safety.Inv (s.anchorInput r l).1 := by
  induction l generalizing s with
  | nil => unfold State.anchorInput; exact h
  | cons x xs ih =>
    unfold State.anchorInput
    split
    · exact ih h
    · split
      · rename_i he
        exact h.readMem.of he
      · rename_i he
        have ht := h.readMem.of he
        split
        · rename_i he
          exact (ih ht).of he
        · rename_i he
          exact (ih ht).of he
theorem Safety.Inv.compareAnchors {s : State} {r : Nat} (h : Safety.Inv s) : Safety.Inv (s.compareAnchors r) := by
  unfold State.compareAnchors
  split
  · exact h
  · refine .ite h ?_
    split
    · exact .ite h.modRound (.ite h.modRound.freynEvent h.modRound.freynEvent.rebase)
    · exact h.modRound
@[simp] theorem Safety.Inv.execAnchorDigest {s : State} (h : Safety.Inv s) : Safety.OutInv (execAnchorDigest s) := by
  unfold Machine.execAnchorDigest
  split
  · refine .next (.ite h ?_)
    split
    · rename_i he
      exact (h.anchorInput.of he).freynEvent
    · rename_i he
      exact (h.anchorInput.of he).modRound.controlAll.compareAnchors
  · exact h.next
@[simp] theorem Safety.Inv.execDigest {hdr : FrnHeader} {round : Nat} {digest : Word64} {s : State} (h : Safety.Inv s) :
    Safety.OutInv (execDigest hdr round digest s) := by
  unfold Machine.execDigest; exact h.allow fun _ k => k.modRound.compareAnchors
@[simp] theorem Safety.Inv.execRoundLoRead {s : State} (h : Safety.Inv s) : Safety.OutInv (execRoundLoRead s) := by
  unfold Machine.execRoundLoRead; exact h.modRound.set.next

/-! ## Recorder -/

theorem Safety.Inv.modRec {s : State} {f : Recorder → Recorder} (h : Safety.Inv s) : Safety.Inv (s.modRec f) := h.set
theorem Safety.Inv.ringWrite {s : State} {off : Nat} {bs : List Byte} (h : Safety.Inv s) : Safety.Inv (s.ringWrite off bs) := by
  unfold State.ringWrite; exact h.hsWrite.hsWrite
theorem Safety.Inv.writeRecord {s : State} {e : EventRecord} (h : Safety.Inv s) : Safety.Inv (s.writeRecord e) := by
  unfold State.writeRecord; exact h.ringWrite.modRec
theorem Safety.Inv.acceptOne {s : State} (h : Safety.Inv s) : Safety.Inv s.acceptOne := by
  unfold State.acceptOne
  refine .ite h.writeRecord ?_
  refine .ite h ?_
  split
  · exact h
  · exact h.modRec.writeRecord
@[simp] theorem Safety.Inv.execEventReport {s : State} (h : Safety.Inv s) : Safety.OutInv (execEventReport s) := by
  unfold Machine.execEventReport; exact .next (.ite h.acceptOne h)
@[simp] theorem Safety.Inv.execLost {s : State} (h : Safety.Inv s) : Safety.OutInv (execLost s) := by
  unfold Machine.execLost; exact .next (.ite h.modRec.writeRecord h)
theorem Safety.Inv.modFlash {s : State} {f : Flash → Flash} (h : Safety.Inv s) : Safety.Inv (s.modFlash f) := h.set
theorem Safety.Inv.mirrorOne {s : State} {f0 f1 : Bool} (h : Safety.Inv s) : Safety.Inv (s.mirrorOne f0 f1) := by
  unfold State.mirrorOne
  split
  · exact h
  · exact h.modFlash.modRec
@[simp] theorem Safety.Inv.execMirrorAppend {f0Ok f1Ok : Bool} {s : State} (h : Safety.Inv s) : Safety.OutInv (execMirrorAppend f0Ok f1Ok s) := by
  unfold Machine.execMirrorAppend; exact .next (.ite h.mirrorOne h)
theorem Safety.Inv.flushRecorder {fuel : Nat} {s : State} (h : Safety.Inv s) : Safety.Inv (State.flushRecorder fuel s) := by
  induction fuel generalizing s with
  | zero => unfold State.flushRecorder; exact h
  | succ n ih => unfold State.flushRecorder; exact .ite h.acceptOne.mirrorOne (ih h.acceptOne.mirrorOne)
theorem Safety.Inv.flushAll {s : State} (h : Safety.Inv s) : Safety.Inv s.flushAll := by
  unfold State.flushAll; exact .ite h.flushRecorder h
theorem Safety.Inv.flushHoldup {fuel x1 : Nat} {s : State} (h : Safety.Inv s) : Safety.Inv (State.flushHoldup fuel x1 s) := by
  induction fuel generalizing x1 s with
  | zero => unfold State.flushHoldup; exact h
  | succ n ih =>
    unfold State.flushHoldup
    dsimp only
    split
    · exact .ite h.acceptOne (ih h.acceptOne)
    · exact .ite h.acceptOne (ih h.acceptOne.mirrorOne)
theorem Safety.Inv.startRecorder {s : State} (h : Safety.Inv s) : Safety.Inv s.startRecorder := h.set
theorem Safety.Inv.syncMirror {s : State} (h : Safety.Inv s) : Safety.Inv s.syncMirror := h.set
@[simp] theorem Safety.Inv.execRecRead {source : Nat} {fromSeq : Word} {maxBytes : Nat} {s : State} (h : Safety.Inv s) :
    Safety.OutInv (execRecRead source fromSeq maxBytes s) := by
  unfold Machine.execRecRead; exact .next (.ite h (.ite h.vendorFail h.mbox))
@[simp] theorem Safety.Inv.execRecorderClear {auth : OwnerAuth} {scope : Nat} {s : State} (h : Safety.Inv s) :
    Safety.OutInv (execRecorderClear auth scope s) := by
  unfold Machine.execRecorderClear
  refine h.owner fun s k => ?_
  split
  · exact k.ownerFail
  · have ring : Memory.wf (s.mem.clear (hsAddr 0) ringSize) := Memory.wf_clear _ _ k
    dsimp only
    split
    · exact .vendorOk (.writeRecord (.modRec (.ofMem ring)))
    · exact .vendorOk (.modRec (.modFlash (.writeRecord (.modRec (.ofMem ring)))))

/-! ## Ports -/

theorem Safety.Inv.setLanes {s : State} {port mask : Nat} (h : Safety.Inv s) : Safety.Inv (s.setLanes port mask) := by
  unfold State.setLanes
  refine .ite (h.modPort.when (fun _ k => k.event)).portServiceChanged.continueStart ?_
  exact h.modPort.when fun _ k => k.event
theorem Safety.Inv.attemptFails {s : State} {port reason : Nat} (h : Safety.Inv s) : Safety.Inv (s.attemptFails port reason) := h.set
theorem Safety.Inv.inState {s : State} {port st : Nat} {f : State → State}
    (h : Safety.Inv s) (hf : ∀ (s : State), Safety.Inv s → Safety.Inv (f s)) :
    Safety.Inv (s.inState port st f) := by
  unfold State.inState; exact .ite (hf _ h) h
@[simp] theorem Safety.Inv.execDetect {port lanes : Nat} {s : State} (h : Safety.Inv s) : Safety.OutInv (execDetect port lanes s) := by
  unfold Machine.execDetect; exact (h.retryPort.inState (fun _ k => .ite k.portState k.attemptFails)).next
@[simp] theorem Safety.Inv.execEqualize {port : Nat} {ok : Bool} {s : State} (h : Safety.Inv s) : Safety.OutInv (execEqualize port ok s) := by
  unfold Machine.execEqualize; exact (h.inState (fun _ k => .ite k.portState k.attemptFails)).next
@[simp] theorem Safety.Inv.execLaneMap {port : Nat} {tests : List LaneTest} {goodOut : Nat} {s : State} (h : Safety.Inv s) :
    Safety.OutInv (execLaneMap port tests goodOut s) := by
  unfold Machine.execLaneMap; exact (h.inState (fun _ k => .ite k.setLanes.portState k.attemptFails)).next
@[simp] theorem Safety.Inv.execAttemptTimeout {port : Nat} {s : State} (h : Safety.Inv s) : Safety.OutInv (execAttemptTimeout port s) := by
  unfold Machine.execAttemptTimeout; exact .next (.ite h.attemptFails h)
theorem Safety.Inv.portUp {s : State} {port : Nat} {id : PortIdentity} (h : Safety.Inv s) : Safety.Inv (s.portUp port id) := by
  unfold State.portUp; exact .continueStart (.ite h.portState.modPort.portServiceChanged h.portState.modPort)
theorem Safety.Inv.checkIdentity {s : State} {port : Nat} (h : Safety.Inv s) : Safety.Inv (s.checkIdentity port) := by
  unfold State.checkIdentity
  split
  · exact h
  · exact .ite h (.ite h.modPort.portUp h.modPort.portState.modPort.event)
theorem Safety.Inv.sendIdentity {s : State} {port : Nat} (h : Safety.Inv s) : Safety.Inv (s.sendIdentity port) := by
  unfold State.sendIdentity; exact h.sendMsg.modPort.checkIdentity
@[simp] theorem Safety.Inv.execAlign {port : Nat} {ok : Bool} {s : State} (h : Safety.Inv s) : Safety.OutInv (execAlign port ok s) := by
  unfold Machine.execAlign; exact (h.inState (fun _ k => .ite k.portState.modPort.sendIdentity k.attemptFails)).next
@[simp] theorem Safety.Inv.execExchange {port : Nat} {id : PortIdentity} {s : State} (h : Safety.Inv s) :
    Safety.OutInv (execExchange port id s) := by
  unfold Machine.execExchange; exact (h.inState (fun _ k => k.modPort.checkIdentity)).next
@[simp] theorem Safety.Inv.execIdentitySend {port : Nat} {s : State} (h : Safety.Inv s) : Safety.OutInv (execIdentitySend port s) := by
  unfold Machine.execIdentitySend; exact (h.inState (fun _ k => .ite k.sendIdentity k)).next
@[simp] theorem Safety.Inv.execConfiguredWaitLimit {port : Nat} {s : State} (h : Safety.Inv s) :
    Safety.OutInv (execConfiguredWaitLimit port s) := by
  unfold Machine.execConfiguredWaitLimit; exact (h.inState (fun _ k => .ite k.portState.event k)).next
@[simp] theorem Safety.Inv.execMiscabledRetry {port : Nat} {s : State} (h : Safety.Inv s) : Safety.OutInv (execMiscabledRetry port s) := by
  unfold Machine.execMiscabledRetry; exact .next (.ite h.portState h)
theorem Safety.Inv.portDown {s : State} {port reason : Nat} (h : Safety.Inv s) : Safety.Inv (s.portDown port reason) := by
  unfold State.portDown; exact .ite h (.ite h.portState.modPort.event.portServiceChanged h.portState.modPort.event)
@[simp] theorem Safety.Inv.execNoValidFrame {port : Nat} {s : State} (h : Safety.Inv s) : Safety.OutInv (execNoValidFrame port s) := by
  unfold Machine.execNoValidFrame; exact .next (.ite h.portDown h)
theorem Safety.Inv.sendLaneCmd {s : State} {port cmd mask seq : Nat} (h : Safety.Inv s) : Safety.Inv (s.sendLaneCmd port cmd mask seq) := h.set
theorem Safety.Inv.proposeMask {s : State} {port mask : Nat} (h : Safety.Inv s) : Safety.Inv (s.proposeMask port mask) := by
  unfold State.proposeMask; exact .ite h.portDown h.modPort.sendLaneCmd.draw
@[simp] theorem Safety.Inv.execLaneErrorLimit {port lane corrections symbols : Nat} {s : State} (h : Safety.Inv s) :
    Safety.OutInv (execLaneErrorLimit port lane corrections symbols s) := by
  unfold Machine.execLaneErrorLimit; exact .next (.ite h.proposeMask h)
@[simp] theorem Safety.Inv.execLaneRetest {port : Nat} {results : LaneResults} {s : State} (h : Safety.Inv s) :
    Safety.OutInv (execLaneRetest port results s) := by
  unfold Machine.execLaneRetest; exact .next (.ite (.ite h.modPort h.modPort.proposeMask) h)
theorem Safety.Inv.acceptMask {s : State} {port mask seq : Nat} (h : Safety.Inv s) : Safety.Inv (s.acceptMask port mask seq) := by
  unfold State.acceptMask; exact .ite h.modPort.sendLaneCmd h
theorem Safety.Inv.maskAccepted {s : State} {port mask seq : Nat} (h : Safety.Inv s) : Safety.Inv (s.maskAccepted port mask seq) := by
  unfold State.maskAccepted; exact .ite h.modPort.sendLaneCmd h
theorem Safety.Inv.switchAgreed {s : State} {port mask seq : Nat} (h : Safety.Inv s) : Safety.Inv (s.switchAgreed port mask seq) := by
  unfold State.switchAgreed; exact .ite h.modPort h
@[simp] theorem Safety.Inv.execLanePropose {port mask switchSeq : Nat} {s : State} (h : Safety.Inv s) :
    Safety.OutInv (execLanePropose port mask switchSeq s) := by
  unfold Machine.execLanePropose; exact h.acceptMask.next
@[simp] theorem Safety.Inv.execLaneAccept {port mask switchSeq : Nat} {s : State} (h : Safety.Inv s) :
    Safety.OutInv (execLaneAccept port mask switchSeq s) := by
  unfold Machine.execLaneAccept; exact h.maskAccepted.next
theorem Safety.Inv.replayFrames {s : State} {port : Nat} (h : Safety.Inv s) : Safety.Inv (s.replayFrames port) := h.set
@[simp] theorem Safety.Inv.execLaneSwitch {port : Nat} {s : State} (h : Safety.Inv s) : Safety.OutInv (execLaneSwitch port s) := by
  unfold Machine.execLaneSwitch
  split
  · exact .next (.ite h.modPort.setLanes.replayFrames.set h)
  · exact h.next
@[simp] theorem Safety.Inv.execLaneSwitchTimeout {port : Nat} {s : State} (h : Safety.Inv s) : Safety.OutInv (execLaneSwitchTimeout port s) := by
  unfold Machine.execLaneSwitchTimeout; exact .next (.ite h.portDown h)
theorem Safety.Inv.deliver {s : State} {port : Nat} {p : Packet} (h : Safety.Inv s) : Safety.Inv (s.deliver port p) := by
  unfold State.deliver; exact .ite h.modPort.forward (.ite h.modPort (.ite h.modPort.badPacket h.modPort.noteEpoch.modTorus))
theorem Safety.Inv.parsePackets {port fuel : Nat} {s : State} {l : List Byte} (h : Safety.Inv s) :
    Safety.Inv (State.parsePackets port fuel s l) := by
  induction fuel generalizing s l with
  | zero => unfold State.parsePackets; exact h.modPort
  | succ n ih =>
    unfold State.parsePackets
    exact .ite h.modPort (.ite (ih h) (.ite (ih h.badPacket) (.ite h.modPort (.ite (ih h.badPacket) (ih h.deliver)))))
theorem Safety.Inv.linkSlotIn {s : State} {port slot : Nat} (h : Safety.Inv s) : Safety.Inv (s.linkSlotIn port slot) := by
  unfold State.linkSlotIn
  split
  · split
    · exact h.modPort.acceptMask
    · exact h.modPort.maskAccepted
    · exact h.modPort.switchAgreed
    · exact h.modPort
  · split
    · exact .acceptMask (.ite h.modPort.modPort h.modPort.replayFrames)
    · exact .maskAccepted (.ite h.modPort.modPort h.modPort.replayFrames)
    · exact .switchAgreed (.ite h.modPort.modPort h.modPort.replayFrames)
    · exact .ite h.modPort.modPort h.modPort.replayFrames
theorem Safety.Inv.frameIn {s : State} {port : Nat} {bytes : List Byte} (h : Safety.Inv s) : Safety.Inv (s.frameIn port bytes) := by
  unfold State.frameIn
  refine .ite (.ite h.modPort h.modPort.modPort) ?_
  exact .ite h.modPort.modPort.linkSlotIn h.modPort.modPort.linkSlotIn.parsePackets
@[simp] theorem Safety.Inv.execFrame {port count : Nat} {sent : List Byte} {errors : List Nat} {s : State} (h : Safety.Inv s) :
    Safety.OutInv (execFrame port count sent errors s) := by
  unfold Machine.execFrame; exact .next (.ite h (.runPort (.ite h.modPort.modPort h.modPort.frameIn)))
@[simp] theorem Safety.Inv.execInServiceRetrain {port : Nat} {ok : Bool} {s : State} (h : Safety.Inv s) :
    Safety.OutInv (execInServiceRetrain port ok s) := by
  unfold Machine.execInServiceRetrain; exact .next (.ite h (.ite h.modPort.replayFrames.runPort h.portDown))
@[simp] theorem Safety.Inv.execTc0Window {port tc0Bytes : Nat} {s : State} (h : Safety.Inv s) :
    Safety.OutInv (execTc0Window port tc0Bytes s) := by
  unfold Machine.execTc0Window; exact .next (.ite h.modPort h)

/-! ## Boot -/

theorem Safety.Inv.enterFault {s : State} {type : Nat} {cause : Cause} {arg : Nat} (h : Safety.Inv s) :
    Safety.Inv (s.enterFault type cause arg) := by
  unfold State.enterFault; exact h.event.setPwr
theorem Safety.Inv.resetRecord {s : State} {kind : Nat} {src : ResetSource} {die : Nat} (h : Safety.Inv s) :
    Safety.Inv (s.resetRecord kind src die) := h.set
theorem Safety.Inv.lastReset {s : State} {kind : Nat} {src : ResetSource} {die : Nat} (h : Safety.Inv s) : Safety.Inv (s.lastReset kind src die)
    :=
  h.set
theorem Safety.Inv.coldBase {s : State} (_ : Safety.Inv s) : Safety.Inv s.coldBase := by
  unfold State.coldBase; exact .settle (.ofMem Memory.wf_nil)
theorem Safety.Inv.fullBase {s : State} (h : Safety.Inv s) : Safety.Inv s.fullBase := by
  unfold State.fullBase; exact .ofMem (Memory.wf_filter _ h)
theorem Safety.Inv.writeBoot {s : State} {r : BootRecord} (h : Safety.Inv s) : Safety.Inv (s.writeBoot r) := h.set
theorem Safety.Inv.chooseFirmware {s : State} (h : Safety.Inv s) : Safety.Inv s.chooseFirmware := by
  unfold State.chooseFirmware
  dsimp only
  split
  · exact .ite h.writeBoot.modHost (.ite h.writeBoot.modHost.event h.writeBoot.modHost.enterFault)
  · refine .ite (.modHost (.iteFst h.writeBoot.event h)) ?_
    exact .ite (.event (.modHost (.iteFst h.writeBoot.event h))) (.enterFault (.modHost (.iteFst h.writeBoot.event h)))
theorem Safety.Inv.readCfg {l : List Bool} {s : State} (h : Safety.Inv s) : Safety.Inv (State.readCfg l s) := by
  induction l generalizing s with
  | nil => unfold State.readCfg; exact h.enterFault
  | cons x xs ih =>
    unfold State.readCfg
    dsimp only
    split
    · exact h.modHost.set
    · exact ih h.modHost.event
@[simp] theorem Safety.Inv.execInputStart {mv : Nat} {s : State} (h : Safety.Inv s) : Safety.OutInv (execInputStart mv s) := by
  unfold Machine.execInputStart; exact .next (.ite h (.ite h.coldBase.modPower.lastReset h.coldBase.modPower.lastReset.resetRecord))
@[simp] theorem Safety.Inv.execBulkCharged {capUf : Nat} {straps straps2 : List StrapPin} {s : State} (h : Safety.Inv s) :
    Safety.OutInv (execBulkCharged capUf straps straps2 s) := by
  unfold Machine.execBulkCharged; exact .next (.ite h (.ite h.modPower.set h.modPower.set.startRecorder.enterFault))
@[simp] theorem Safety.Inv.execHeadstockRailsGood {s : State} (h : Safety.Inv s) : Safety.OutInv (execHeadstockRailsGood s) := by
  unfold Machine.execHeadstockRailsGood
  exact .next (.ite h (.ite (((h.modPower.startRecorder.when (fun _ k => k.raiseAlarm)).when (fun _ k => k.modSec)).when
      (fun _ k => k.raiseAlarm)).enterFault (.ite (((h.modPower.startRecorder.when (fun _ k => k.raiseAlarm)).when (fun _ k => k.modSec)).when
          (fun _ k => k.raiseAlarm)).enterFault (.ite (((h.modPower.startRecorder.when (fun _ k => k.raiseAlarm)).when
              (fun _ k => k.modSec)).when (fun _ k => k.raiseAlarm)).enterFault (((h.modPower.startRecorder.when (fun _ k => k.raiseAlarm)).when
                  (fun _ k => k.modSec)).when (fun _ k => k.raiseAlarm)).chooseFirmware))))
@[simp] theorem Safety.Inv.execFirmwareRunning {s : State} (h : Safety.Inv s) : Safety.OutInv (execFirmwareRunning s) := by
  unfold Machine.execFirmwareRunning
  exact .next (.ite h ((h.modPower.modHost.modTiers.each (fun _ _ k => k.portState)).each (fun _ _ k => k.modWan)))
theorem Safety.Inv.zeroTiers {s : State} (h : Safety.Inv s) : Safety.Inv s.zeroTiers := by
  unfold State.zeroTiers; exact .ofMem (Memory.wf_filter _ h)
theorem Safety.Inv.configurePorts {s : State} (h : Safety.Inv s) : Safety.Inv s.configurePorts := by
  unfold State.configurePorts; exact h.each (fun _ _ k => .ite k.portState (k.modPort.inState (fun _ k1 => k1.sendIdentity)))
@[simp] theorem Safety.Inv.execChannelsTrained {failed : List Nat} {s : State} (h : Safety.Inv s) :
    Safety.OutInv (execChannelsTrained failed s) := by
  unfold Machine.execChannelsTrained
  refine .next (.ite h ?_)
  split
  · exact (h.each (fun _ _ k => k.modChannel.event)).enterFault
  · refine .ite ((h.each (fun _ _ k => k.modChannel)).modPower.when (fun _ k => k.zeroTiers)).readCfg.configurePorts ?_
    exact ((h.each (fun _ _ k => k.modChannel)).modPower.when (fun _ k => k.zeroTiers)).readCfg
theorem Safety.Inv.startGovernor {s : State} {die : Nat} (h : Safety.Inv s) : Safety.Inv (s.startGovernor die) := h.set
theorem Safety.Inv.writeDirectory {s : State} (h : Safety.Inv s) : Safety.Inv s.writeDirectory := by
  unfold State.writeDirectory; exact h.hsWrite
@[simp] theorem Safety.Inv.execImageVerified {s : State} (h : Safety.Inv s) : Safety.OutInv (execImageVerified s) := by
  unfold Machine.execImageVerified
  refine .next (.ite h ?_)
  dsimp only
  split
  · rename_i he
    exact Safety.Inv.of he ((h.modPower.writeDirectory.each (fun _ _ k => k.startGovernor)).unwrapImage)
  · rename_i he
    exact (Safety.Inv.of he ((h.modPower.writeDirectory.each (fun _ _ k => k.startGovernor)).unwrapImage)).enterFault
theorem Safety.Inv.waveOn {s : State} {w : Nat} {dies : List Nat} (h : Safety.Inv s) : Safety.Inv (s.waveOn w dies) := by
  unfold State.waveOn; exact h.set.each fun _ _ k => k.loadCore
@[simp] theorem Safety.Inv.execWave {s : State} (h : Safety.Inv s) : Safety.OutInv (execWave s) := by
  unfold Machine.execWave; exact .next (.ite h.waveOn.modPower (h.each (fun _ _ k => k.waveOn)).modPower)
theorem Safety.Inv.measureSkew {s : State} (h : Safety.Inv s) : Safety.Inv s.measureSkew := h.set
theorem Safety.Inv.becomeReady {s : State} (h : Safety.Inv s) : Safety.Inv s.becomeReady := by
  unfold State.becomeReady; exact .ite h.syncMirror.modPower.setPwr.setJob h.syncMirror.modPower.setPwr.setJob.askStart
@[simp] theorem Safety.Inv.execLastWaveDone {unbound : List Nat} {s : State} (h : Safety.Inv s) : Safety.OutInv (execLastWaveDone unbound s) := by
  unfold Machine.execLastWaveDone
  exact .next (.ite h (.ite (h.modTiers.each (fun _ _ k => k.markUnbound.event)).modPower.measureSkew (h.modTiers.each
      (fun _ _ k => k.markUnbound.event)).modPower.measureSkew.becomeReady))
@[simp] theorem Safety.Inv.execZeroingComplete {s : State} (h : Safety.Inv s) : Safety.OutInv (execZeroingComplete s) := by
  unfold Machine.execZeroingComplete; exact .next (.ite h (.ite h.modPower.becomeReady h.modPower))

/-! ## Power -/

theorem Safety.Inv.failMatrices {s : State} {core : Nat} {cause : Cause} (h : Safety.Inv s) : Safety.Inv (s.failMatrices core cause) := by
  unfold State.failMatrices; exact h.each fun _ _ k => k.modCore
theorem Safety.Inv.failKernels {s : State} {core : Nat} {cause : Cause} (h : Safety.Inv s) : Safety.Inv (s.failKernels core cause) := by
  unfold State.failKernels
  refine .modCore (.each ?_ (fun _ _ k => k.modCore.latch))
  split
  · exact h.failKernel
  · exact h
theorem Safety.Inv.failXfers {s : State} {core : Nat} {cause : Cause} (h : Safety.Inv s) : Safety.Inv (s.failXfers core cause) := by
  unfold State.failXfers; exact (h.each (fun _ _ k => k.endPool)).each fun _ _ k => k.dropWaiting.endXfer
theorem Safety.Inv.failSegs {s : State} {core : Nat} {cause : Cause} (h : Safety.Inv s) : Safety.Inv (s.failSegs core cause) := by
  unfold State.failSegs; exact ((h.each (fun _ _ k => k.latch.modShard)).each (fun _ _ k => k.freynEvent)).modUp
theorem Safety.Inv.failCore {s : State} {cause : Cause} {core : Nat} (h : Safety.Inv s) : Safety.Inv (s.failCore cause core) := by
  unfold State.failCore; exact h.failMatrices.failKernels.failXfers.failSegs
theorem Safety.Inv.stopDies {s : State} {cause : Cause} {dies : List Nat} (h : Safety.Inv s) : Safety.Inv (s.stopDies cause dies) := by
  unfold State.stopDies; exact (h.cancelLaunches.each (fun _ _ k => k.failCore)).each fun _ _ k => k.haltOnly
theorem Safety.Inv.failAll {s : State} {cause : Cause} (h : Safety.Inv s) : Safety.Inv (s.failAll cause) := by
  unfold State.failAll; exact (h.each (fun _ _ k => k.failCore)).modTorus.failFreyn.each fun _ _ k => k.abandonTarget
theorem Safety.Inv.clearKeyWr {s : State} (h : Safety.Inv s) : Safety.Inv s.clearKeyWr := h.set
theorem Safety.Inv.resetJob {s : State} {src : ResetSource} {cause : Cause} {halted : Bool} (h : Safety.Inv s) :
    Safety.Inv (s.resetJob src cause halted) := by
  unfold State.resetJob
  split
  · exact .ite h.setJob h
  · exact h
  · exact .ite h.haltSite h
theorem Safety.Inv.computeReset {s : State} {src : ResetSource} (h : Safety.Inv s) : Safety.Inv (s.computeReset src) := by
  unfold State.computeReset
  refine .resetJob (.setPwr (.modPower ?_))
  split
  · split
    · exact h.lastReset.modPower.resetRecord.stopDies.clearKeyWr.failGate.set
    · exact h.lastReset.modPower.resetRecord.stopDies.clearKeyWr.modGate.set
  · split
    · exact h.lastReset.modPower.resetRecord.stopDies.clearKeyWr.failGate.set
    · exact h.lastReset.modPower.resetRecord.stopDies.clearKeyWr.modGate.set
theorem Safety.Inv.requestCompute {s : State} {src : ResetSource} (h : Safety.Inv s) : Safety.Inv (s.requestCompute src) := by
  unfold State.requestCompute; exact .ite h h.computeReset
theorem Safety.Inv.requestDie {s : State} {die : Nat} {src : ResetSource} (h : Safety.Inv s) : Safety.Inv (s.requestDie die src) := by
  unfold State.requestDie; exact .ite h h.lastReset.modPower.resetRecord.wakeUp.stopDies.clearKeyWr.set.modPower.resetJob
theorem Safety.Inv.requestFull {s : State} {src : ResetSource} (h : Safety.Inv s) : Safety.Inv (s.requestFull src) := by
  unfold State.requestFull; exact .ite h h.modHost.releaseLock.failAll.resetRecord.flushAll.fullBase.lastReset.modPower.startRecorder.setPwr
theorem Safety.Inv.requestCold {s : State} {src : ResetSource} {boot : Boot} (h : Safety.Inv s) : Safety.Inv (s.requestCold src boot) := by
  unfold State.requestCold; exact .ite h h.modHost.releaseLock.failAll.resetRecord.flushAll.coldBase.lastReset.modPower
theorem Safety.Inv.mailboxReset {s : State} {ok : Bool} {f : State → State}
    (h : Safety.Inv s) (hf : ∀ (s : State), Safety.Inv s → Safety.Inv (f s)) :
    Safety.Inv (s.mailboxReset ok f) := by
  unfold State.mailboxReset; exact .ite h (.ite h.vendorBusy (.ite (hf _ h.vendorOk) h.vendorFail))
@[simp] theorem Safety.Inv.execFullReset {source : ResetSource} {s : State} (h : Safety.Inv s) : Safety.OutInv (execFullReset source s) := by
  unfold Machine.execFullReset
  split
  · exact (h.mailboxReset (fun _ k => k.requestFull)).next
  · exact h.requestFull.next
  · exact h.requestFull.next
  · exact h.requestFull.next
  · exact h.next
theorem Safety.Inv.thermalTrip {s : State} (h : Safety.Inv s) : Safety.Inv s.thermalTrip := by
  unfold State.thermalTrip
  dsimp only
  split
  · exact .ite (.ite h.modPower.resetRecord.modPower.setPwr h.modPower.resetRecord.modPower) h.modPower.requestCompute
  · exact h.modPower.resetRecord.modPower.setPwr
  · exact h.modPower.resetRecord.modPower.setPwr
  · exact h.modPower.resetRecord.modPower.setPwr
  · exact h.modPower
@[simp] theorem Safety.Inv.execComputeReset {source : ResetSource} {s : State} (h : Safety.Inv s) :
    Safety.OutInv (execComputeReset source s) := by
  unfold Machine.execComputeReset
  split
  · exact (h.mailboxReset (fun _ k => k.requestCompute)).next
  · exact .next (.ite h.requestCompute h)
  · exact .next (.ite h.thermalTrip h)
  · exact h.next
@[simp] theorem Safety.Inv.execDieReset {die : Nat} {source : ResetSource} {s : State} (h : Safety.Inv s) :
    Safety.OutInv (execDieReset die source s) := by
  unfold Machine.execDieReset
  split
  · exact (h.mailboxReset (fun _ k => k.requestDie)).next
  · exact h.requestDie.next
  · exact h.next
theorem Safety.Inv.checkCopy {s : State} (h : Safety.Inv s) : Safety.Inv s.checkCopy := by
  unfold State.checkCopy; exact .ite h h.set.event
@[simp] theorem Safety.Inv.execComputeRailsOff {s : State} (h : Safety.Inv s) : Safety.OutInv (execComputeRailsOff s) := by
  unfold Machine.execComputeRailsOff; exact .next (.ite h (.ite h.checkCopy.modPower.setPwr h.checkCopy.modPower))
@[simp] theorem Safety.Inv.execThermalHoldExit {hottest : Int} {s : State} (h : Safety.Inv s) :
    Safety.OutInv (execThermalHoldExit hottest s) := by
  unfold Machine.execThermalHoldExit; exact .next (.ite h (h.each (fun _ _ k => k.modGov)).refreshCapped.modPower.setPwr)
theorem Safety.Inv.dieBack {s : State} {d : Nat} (h : Safety.Inv s) : Safety.Inv (s.dieBack d) := h.set
@[simp] theorem Safety.Inv.execResetWavesDone {s : State} (h : Safety.Inv s) : Safety.OutInv (execResetWavesDone s) := by
  unfold Machine.execResetWavesDone
  exact .next (.ite h (.ite (.ite (h.modPower.each (fun _ _ k => k.dieBack)).setPwr.restoreReady (h.modPower.each
      (fun _ _ k => k.dieBack)).setPwr.continueStart) (h.modPower.each (fun _ _ k => k.dieBack))))
@[simp] theorem Safety.Inv.execOvercurrent {ma : Nat} {s : State} (h : Safety.Inv s) : Safety.OutInv (execOvercurrent ma s) := by
  unfold Machine.execOvercurrent; exact .next (.ite h.modPower.settle h)
theorem Safety.Inv.inputLoss {s : State} {mv : Nat} (h : Safety.Inv s) : Safety.Inv (s.inputLoss mv) := by
  unfold State.inputLoss
  dsimp only
  split
  · exact h.modPower.settle
  · exact h.modPower.modPower.settle
  · exact .ite h.modPower.settle (h.modPower.failAll.modPower.each (fun _ _ k => k.modGov)).modCk.modRec.setPwr.settle
@[simp] theorem Safety.Inv.execInputLoss {mv : Nat} {s : State} (h : Safety.Inv s) : Safety.OutInv (execInputLoss mv s) := by
  unfold Machine.execInputLoss; exact .next (.ite h.inputLoss h)
@[simp] theorem Safety.Inv.execOvervoltage {mv : Nat} {s : State} (h : Safety.Inv s) : Safety.OutInv (execOvervoltage mv s) := by
  unfold Machine.execOvervoltage; exact .next (.ite h.modPower.inputLoss h)
@[simp] theorem Safety.Inv.execFaultLatchClear {mv : Nat} {s : State} (h : Safety.Inv s) : Safety.OutInv (execFaultLatchClear mv s) := by
  unfold Machine.execFaultLatchClear; exact .next (.ite h.modPower.settle h)
@[simp] theorem Safety.Inv.execInputLow {mv : Nat} {s : State} (h : Safety.Inv s) : Safety.OutInv (execInputLow mv s) := by
  unfold Machine.execInputLow; exact .next (.ite (h.modPower.when (fun _ k => k.event)).settle h)
@[simp] theorem Safety.Inv.execInputLowClear {mv : Nat} {s : State} (h : Safety.Inv s) : Safety.OutInv (execInputLowClear mv s) := by
  unfold Machine.execInputLowClear; exact .next (.ite h.modPower.settle h)
@[simp] theorem Safety.Inv.execHoldupThrottled {s : State} (h : Safety.Inv s) : Safety.OutInv (execHoldupThrottled s) := by
  unfold Machine.execHoldupThrottled; exact .next (.ite h.modPower.event.flushHoldup h)
theorem Safety.Inv.dropRails {s : State} (_ : Safety.Inv s) : Safety.Inv s.dropRails := by
  unfold State.dropRails; exact .ofMem Memory.wf_nil
@[simp] theorem Safety.Inv.execHoldupFlushDone {s : State} (h : Safety.Inv s) : Safety.OutInv (execHoldupFlushDone s) := by
  unfold Machine.execHoldupFlushDone; exact .next (.ite h.modPower.dropRails.settle h)
@[simp] theorem Safety.Inv.execHoldupRailsOff {s : State} (h : Safety.Inv s) : Safety.OutInv (execHoldupRailsOff s) := by
  unfold Machine.execHoldupRailsOff; exact .next (.ite h.modPower.draw h)
@[simp] theorem Safety.Inv.execEdgeThermalShutdown {die : Nat} {junction : Int} {s : State} (h : Safety.Inv s) :
    Safety.OutInv (execEdgeThermalShutdown die junction s) := by
  unfold Machine.execEdgeThermalShutdown; exact .next (.ite h.modPower.failAll.event.setPwr.flushAll.dropRails.settle h)
@[simp] theorem Safety.Inv.execThermalTrip {die : Nat} {junction : Int} {s : State} (h : Safety.Inv s) :
    Safety.OutInv (execThermalTrip die junction s) := by
  unfold Machine.execThermalTrip; exact .next (.ite h.modGov.refreshCapped.thermalTrip h)
@[simp] theorem Safety.Inv.execThermalThrottle {die : Nat} {junction : Int} {s : State} (h : Safety.Inv s) :
    Safety.OutInv (execThermalThrottle die junction s) := by
  unfold Machine.execThermalThrottle; exact .next (.ite h.modGov.refreshCapped.event h)
@[simp] theorem Safety.Inv.execDramTemperatureReport {channel : Nat} {aboveOperating : Bool} {s : State} (h : Safety.Inv s) :
    Safety.OutInv (execDramTemperatureReport channel aboveOperating s) := by
  unfold Machine.execDramTemperatureReport; exact .next (.ite h (.ite h.thermalTrip h.modChannel))
theorem Safety.Inv.enterRest {s : State} (h : Safety.Inv s) : Safety.Inv s.enterRest := by
  unfold State.enterRest; exact ((h.each (fun _ _ k => k.setCore)).each (fun _ _ k => k.startGovernor)).set.modPower.setPwr
@[simp] theorem Safety.Inv.execRest {s : State} (h : Safety.Inv s) : Safety.OutInv (execRest s) := by
  unfold Machine.execRest; exact .next (.ite h (.ite h.vendorBusy (.ite h.vendorFail h.enterRest.vendorOk)))
@[simp] theorem Safety.Inv.execWake {s : State} (h : Safety.Inv s) : Safety.OutInv (execWake s) := by
  unfold Machine.execWake; exact .next (.ite h (.ite h.vendorBusy h.wakeUp.vendorOk))
@[simp] theorem Safety.Inv.execWakeWave {s : State} (h : Safety.Inv s) : Safety.OutInv (execWakeWave s) := by
  unfold Machine.execWakeWave
  exact .next (.ite h (.ite h.modPower (h.modPower.modPower.each (fun _ _ k => k.modPower.startGovernor)).setPwr.continueStart))

/-! ## Firmware -/

theorem Safety.Inv.fwFail {s : State} {rc : Rc} {cause : Cause} (h : Safety.Inv s) : Safety.Inv (s.fwFail rc cause) := by
  unfold State.fwFail; exact h.modHost.mbox
theorem Safety.Inv.xferFail {s : State} {fw : Bool} {rc : Rc} {cause : Cause} (h : Safety.Inv s) : Safety.Inv (s.xferFail fw rc cause) := by
  unfold State.xferFail; exact .ite h.fwFail h.vendorFail
theorem Safety.Inv.xferOk {s : State} {fw : Bool} (h : Safety.Inv s) : Safety.Inv (s.xferOk fw) := by
  unfold State.xferOk; exact .ite h.mbox h.vendorOk
theorem Safety.Inv.slotWrite {s : State} {fw : Bool} {slot at0 : Nat} {bs : List Byte} (h : Safety.Inv s) :
    Safety.Inv (s.slotWrite fw slot at0 bs) := h.set
theorem Safety.Inv.slotErase {s : State} {fw : Bool} {slot : Nat} (h : Safety.Inv s) : Safety.Inv (s.slotErase fw slot) := h.set
theorem Safety.Inv.slotSeal {s : State} {fw : Bool} {slot : Nat} {head : List Byte} {content : Option Image} (h : Safety.Inv s) :
    Safety.Inv (s.slotSeal fw slot head content) := h.set
theorem Safety.Inv.closeXfer {s : State} (h : Safety.Inv s) : Safety.Inv s.closeXfer := by
  unfold State.closeXfer; exact h.modHost.releaseLock
theorem Safety.Inv.openTransfer {s : State} {fw : Bool} {slot : Nat} {bytes : List Byte} (h : Safety.Inv s) :
    Safety.Inv (s.openTransfer fw slot bytes) := by
  unfold State.openTransfer; exact h.slotErase.slotWrite.modHost.releaseLock
theorem Safety.Inv.transferFirst {s : State} {fw : Bool} {slot offset : Nat} {bytes : List Byte} (h : Safety.Inv s) :
    Safety.Inv (s.transferFirst fw slot offset bytes) := by
  unfold State.transferFirst
  refine .ite h ?_
  split
  · exact h.xferFail
  · exact h.openTransfer.xferOk
theorem Safety.Inv.addPart {s : State} {fw : Bool} {x : OpenXfer} {bytes : List Byte} (h : Safety.Inv s) : Safety.Inv (s.addPart fw x bytes) :=
    h.set
theorem Safety.Inv.transferNext {s : State} {fw : Bool} {slot offset : Nat} {bytes : List Byte} (h : Safety.Inv s) :
    Safety.Inv (s.transferNext fw slot offset bytes) := by
  unfold State.transferNext
  refine .ite h ?_
  split
  · exact h.xferFail
  · exact .ite h.xferFail h.addPart.xferOk
theorem Safety.Inv.finishTransfer {s : State} {fw : Bool} {content : Option Image} (h : Safety.Inv s) :
    Safety.Inv (s.finishTransfer fw content) := by
  unfold State.finishTransfer
  split
  · exact h
  · split
    · exact h.slotSeal.modHost.releaseLock.xferOk
    · exact h.closeXfer.xferFail
theorem Safety.Inv.transferEnd {s : State} {fw : Bool} {slot offset : Nat} {bytes : List Byte} {content : Option Image} (h : Safety.Inv s) :
    Safety.Inv (s.transferEnd fw slot offset bytes content) := by
  unfold State.transferEnd
  refine .ite h ?_
  split
  · exact h.xferFail
  · exact h.xferFail
  · exact .ite h.xferFail h.addPart.finishTransfer
theorem Safety.Inv.transferFull {s : State} {fw : Bool} {slot offset : Nat} {bytes : List Byte} {content : Option Image} (h : Safety.Inv s) :
    Safety.Inv (s.transferFull fw slot offset bytes content) := by
  unfold State.transferFull
  refine .ite h ?_
  split
  · exact h.xferFail
  · exact h.openTransfer.finishTransfer
theorem Safety.Inv.transferAbort {s : State} {fw : Bool} (h : Safety.Inv s) : Safety.Inv (s.transferAbort fw) := by
  unfold State.transferAbort; exact .ite h (.ite h.closeXfer.xferOk h.xferOk)
@[simp] theorem Safety.Inv.execTransferFwFull {slot offset : Nat} {bytes : List Byte} {s : State} (h : Safety.Inv s) :
    Safety.OutInv (execTransferFwFull slot offset bytes s) := by
  unfold Machine.execTransferFwFull; exact h.transferFull.next
@[simp] theorem Safety.Inv.execTransferFwInitiate {slot offset : Nat} {bytes : List Byte} {s : State} (h : Safety.Inv s) :
    Safety.OutInv (execTransferFwInitiate slot offset bytes s) := by
  unfold Machine.execTransferFwInitiate; exact h.transferFirst.next
@[simp] theorem Safety.Inv.execTransferFwContinue {slot offset : Nat} {bytes : List Byte} {s : State} (h : Safety.Inv s) :
    Safety.OutInv (execTransferFwContinue slot offset bytes s) := by
  unfold Machine.execTransferFwContinue; exact h.transferNext.next
@[simp] theorem Safety.Inv.execTransferFwEnd {slot offset : Nat} {bytes : List Byte} {s : State} (h : Safety.Inv s) :
    Safety.OutInv (execTransferFwEnd slot offset bytes s) := by
  unfold Machine.execTransferFwEnd; exact h.transferEnd.next
@[simp] theorem Safety.Inv.execTransferFwAbort {s : State} (h : Safety.Inv s) : Safety.OutInv (execTransferFwAbort s) := by
  unfold Machine.execTransferFwAbort; exact h.transferAbort.next
@[simp] theorem Safety.Inv.execCfgTransferFull {slot offset : Nat} {bytes : List Byte} {content : Image} {s : State} (h : Safety.Inv s) :
    Safety.OutInv (execCfgTransferFull slot offset bytes content s) := by
  unfold Machine.execCfgTransferFull; exact h.transferFull.next
@[simp] theorem Safety.Inv.execCfgTransferInitiate {slot offset : Nat} {bytes : List Byte} {s : State} (h : Safety.Inv s) :
    Safety.OutInv (execCfgTransferInitiate slot offset bytes s) := by
  unfold Machine.execCfgTransferInitiate; exact h.transferFirst.next
@[simp] theorem Safety.Inv.execCfgTransferContinue {slot offset : Nat} {bytes : List Byte} {s : State} (h : Safety.Inv s) :
    Safety.OutInv (execCfgTransferContinue slot offset bytes s) := by
  unfold Machine.execCfgTransferContinue; exact h.transferNext.next
@[simp] theorem Safety.Inv.execCfgTransferEnd {slot offset : Nat} {bytes : List Byte} {content : Image} {s : State} (h : Safety.Inv s) :
    Safety.OutInv (execCfgTransferEnd slot offset bytes content s) := by
  unfold Machine.execCfgTransferEnd; exact h.transferEnd.next
@[simp] theorem Safety.Inv.execCfgTransferAbort {s : State} (h : Safety.Inv s) : Safety.OutInv (execCfgTransferAbort s) := by
  unfold Machine.execCfgTransferAbort; exact h.transferAbort.next
@[simp] theorem Safety.Inv.execTransferIdleTimeout {s : State} (h : Safety.Inv s) : Safety.OutInv (execTransferIdleTimeout s) := by
  unfold Machine.execTransferIdleTimeout; exact .next (.ite h.closeXfer h)
@[simp] theorem Safety.Inv.execActivateFw {slot : Nat} {online : Bool} {s : State} (h : Safety.Inv s) :
    Safety.OutInv (execActivateFw slot online s) := by
  unfold Machine.execActivateFw
  refine .next (.ite h (.ite h.fwFail ?_))
  split
  · exact h.fwFail
  · exact .ite h.fwFail (.ite h.modHost.writeBoot.releaseLock.mbox h.modHost.releaseLock.fwFail)
@[simp] theorem Safety.Inv.execFwConfirm {s : State} (h : Safety.Inv s) : Safety.OutInv (execFwConfirm s) := by
  unfold Machine.execFwConfirm; exact .next (.ite h (.ite h.vendorFail (.ite h.vendorFail h.writeBoot.modHost.modFuses.vendorOk)))
@[simp] theorem Safety.Inv.execTrialTimeout {s : State} (h : Safety.Inv s) : Safety.OutInv (execTrialTimeout s) := by
  unfold Machine.execTrialTimeout; exact .next (.ite h.event.requestFull h)
@[simp] theorem Safety.Inv.execGetFwInfo {s : State} (h : Safety.Inv s) : Safety.OutInv (execGetFwInfo s) := by
  unfold Machine.execGetFwInfo; exact .next (.ite h h.mbox)
@[simp] theorem Safety.Inv.execGetTimestamp {s : State} (h : Safety.Inv s) : Safety.OutInv (execGetTimestamp s) := by
  unfold Machine.execGetTimestamp; exact .next (.ite h.mbox h)
@[simp] theorem Safety.Inv.execSetTimestamp {value : Word64} {s : State} (h : Safety.Inv s) : Safety.OutInv (execSetTimestamp value s) := by
  unfold Machine.execSetTimestamp; exact .next (.ite h.modHost.report.mbox h)
@[simp] theorem Safety.Inv.execGetSupportedLogs {s : State} (h : Safety.Inv s) : Safety.OutInv (execGetSupportedLogs s) := by
  unfold Machine.execGetSupportedLogs; exact .next (.ite h.mbox h)
@[simp] theorem Safety.Inv.execGetLog {s : State} (h : Safety.Inv s) : Safety.OutInv (execGetLog s) := by
  unfold Machine.execGetLog; exact .next (.ite h.mbox.draw h)
@[simp] theorem Safety.Inv.execUnsupportedOpcode {opcode : Nat} {s : State} (h : Safety.Inv s) :
    Safety.OutInv (execUnsupportedOpcode opcode s) := by
  unfold Machine.execUnsupportedOpcode; exact .next (.ite h.fwFail h)

/-! ## Host -/

@[simp] theorem Safety.Inv.execJobStart {s : State} (h : Safety.Inv s) : Safety.OutInv (execJobStart s) := by
  unfold Machine.execJobStart; exact .next (.ite h (.ite h.vendorBusy (.ite h.vendorFail h.vendorOk.askStart)))
theorem Safety.Inv.endJob {s : State} (h : Safety.Inv s) : Safety.Inv s.endJob := by
  unfold State.endJob; exact h.retireQueues.jobRecord.setJob
@[simp] theorem Safety.Inv.execJobStop {s : State} (h : Safety.Inv s) : Safety.OutInv (execJobStop s) := by
  unfold Machine.execJobStop
  refine .next (.ite h (.ite h.vendorBusy ?_))
  split
  · exact h.endJob.vendorOk
  · exact h.modHost.tryEnd.vendorOk
  · exact h.vendorFail
@[simp] theorem Safety.Inv.execCfgInfo {s : State} (h : Safety.Inv s) : Safety.OutInv (execCfgInfo s) := by
  unfold Machine.execCfgInfo; exact .next (.ite h.vendorOk h)
theorem Safety.Inv.modIntake {s : State} {ring : Nat} {f : IntakeRing → IntakeRing} (h : Safety.Inv s) : Safety.Inv (s.modIntake ring f) := h.set
theorem Safety.Inv.intakeEvent {s : State} (h : Safety.Inv s) : Safety.Inv s.intakeEvent := h.set
theorem Safety.Inv.intakeAct {s : State} {ring : Nat} {c : RingCfg} {x3 : Intake} (h : Safety.Inv s) : Safety.Inv (s.intakeAct ring c x3) := by
  unfold State.intakeAct
  split
  · exact .ite h h.modIntake.intakeStatus
  · exact .ite h h.modIntake.intakeEvent.intakeStatus
  · exact .ite h h.modIntake.intakeEvent.intakeStatus
  · exact (h.modIntake.each (fun _ _ k => k.advance)).intakeStatus
@[simp] theorem Safety.Inv.execIntakePoll {ring : Nat} {s : State} (h : Safety.Inv s) : Safety.OutInv (execIntakePoll ring s) := by
  unfold Machine.execIntakePoll
  split
  · exact h.next
  · refine .next (.ite h ?_)
    dsimp only
    split
    · rename_i he
      exact (h.readMem.of he).intakeAct
    · rename_i he
      exact (h.readMem.of he).intakeAct
@[simp] theorem Safety.Inv.execIntakeRelease {ring : Nat} {s : State} (h : Safety.Inv s) : Safety.OutInv (execIntakeRelease ring s) := by
  unfold Machine.execIntakeRelease
  split
  · exact h.next
  · exact .next (.ite h h.modIntake.intakeStatus.msix)
@[simp] theorem Safety.Inv.execPlanRecordReady {ring : Nat} {s : State} (h : Safety.Inv s) : Safety.OutInv (execPlanRecordReady ring s) := by
  unfold Machine.execPlanRecordReady
  split
  · exact h.next
  · dsimp only
    split
    · exact h.next
    · refine .next (.ite h ?_)
      split
      · rename_i he
        exact (h.setRing.readMem.of he).closeRec
      · rename_i he
        exact (h.setRing.readMem.of he).closeRec
theorem Safety.Inv.consume {s : State} {ring : Nat} {value : Word} (h : Safety.Inv s) : Safety.Inv (s.consume ring value) := by
  unfold State.consume
  refine .ite h.modHost ?_
  dsimp only
  split
  · exact h.setRing
  · exact h.setRing.advance.when fun _ k => k.issuePlan
@[simp] theorem Safety.Inv.execResConsumedWrite {ring : Nat} {value : Word} {s : State} (h : Safety.Inv s) :
    Safety.OutInv (execResConsumedWrite ring value s) := by
  unfold Machine.execResConsumedWrite; exact .next (.ite h.consume h)
@[simp] theorem Safety.Inv.execHostErrClear {s : State} (h : Safety.Inv s) : Safety.OutInv (execHostErrClear s) := by
  unfold Machine.execHostErrClear; exact (h.when (fun _ k => k.modHost)).next
theorem Safety.Inv.doeReply {s : State} {bs : List Byte} (h : Safety.Inv s) : Safety.Inv (s.doeReply bs) := h.set
@[simp] theorem Safety.Inv.execDoeDiscovery {index : Nat} {s : State} (h : Safety.Inv s) : Safety.OutInv (execDoeDiscovery index s) := by
  unfold Machine.execDoeDiscovery
  refine .next (.ite h ?_)
  split <;> exact h.doeReply
@[simp] theorem Safety.Inv.execTableAccess {handle : Nat} {s : State} (h : Safety.Inv s) : Safety.OutInv (execTableAccess handle s) := by
  unfold Machine.execTableAccess
  refine .next (.ite h ?_)
  split <;> exact h.doeReply

/-! ## Pins -/

@[simp] theorem Safety.Inv.execResetNLow {s : State} (h : Safety.Inv s) : Safety.OutInv (execResetNLow s) := by
  unfold Machine.execResetNLow; exact .next (.ite h h.modPower.requestFull)
@[simp] theorem Safety.Inv.execResetNHeld {s : State} (h : Safety.Inv s) : Safety.OutInv (execResetNHeld s) := by
  unfold Machine.execResetNHeld; exact .next (.ite h h.modPower.requestCold)
@[simp] theorem Safety.Inv.execResetNRelease {s : State} (h : Safety.Inv s) : Safety.OutInv (execResetNRelease s) := by
  unfold Machine.execResetNRelease; exact h.modPower.next
@[simp] theorem Safety.Inv.execTamper {mv : Nat} {s : State} (h : Safety.Inv s) : Safety.OutInv (execTamper mv s) := by
  unfold Machine.execTamper; exact .next (.ite h.modPower.alarm h.modPower)
theorem Safety.Inv.cxlDown {s : State} (h : Safety.Inv s) : Safety.Inv s.cxlDown := by
  unfold State.cxlDown; exact h.modHost.endPools.modCk
@[simp] theorem Safety.Inv.execPerstN {s : State} (h : Safety.Inv s) : Safety.OutInv (execPerstN s) := by
  unfold Machine.execPerstN; exact h.modPower.cxlDown.next
@[simp] theorem Safety.Inv.execPerstNDeassert {s : State} (h : Safety.Inv s) : Safety.OutInv (execPerstNDeassert s) := by
  unfold Machine.execPerstNDeassert; exact h.modPower.next
@[simp] theorem Safety.Inv.execRefclkChange {present : Bool} {ppm : Int} {s : State} (h : Safety.Inv s) :
    Safety.OutInv (execRefclkChange present ppm s) := by
  unfold Machine.execRefclkChange; exact h.modPower.next
@[simp] theorem Safety.Inv.execCxlLinkDown {s : State} (h : Safety.Inv s) : Safety.OutInv (execCxlLinkDown s) := by
  unfold Machine.execCxlLinkDown; exact h.cxlDown.next
@[simp] theorem Safety.Inv.execCxlLinkUp {s : State} (h : Safety.Inv s) : Safety.OutInv (execCxlLinkUp s) := by
  unfold Machine.execCxlLinkUp; exact .next (.ite h.modHost h)

/-! ## Registers -/

theorem Safety.Inv.after {s : State} {f : State → Out} (h : Safety.Inv s) (hf : ∀ (s : State), Safety.Inv s → Safety.OutInv (f s)) :
    Safety.Inv (s.after f) := by
  unfold State.after
  split
  · rename_i he
    exact hf s h _ he
  · exact h
theorem Safety.Inv.latchRead {s : State} {o : Nat} (h : Safety.Inv s) : Safety.Inv (s.latchRead o) := by
  unfold State.latchRead
  split
  · exact h.after fun _ k => k.execStepLoRead
  · exact h.after fun _ k => k.execShardStepLoRead
  · exact h.after fun _ k => k.execCkSealedLoRead
  · exact h.after fun _ k => k.execTimeNowLoRead
  · exact h.after fun _ k => k.execRoundLoRead
  · exact h.after fun _ k => k.execUeAddrLoRead
  · refine .ite (h.after (fun _ k => k.execSlotCtrLoRead)) ?_
    refine .ite ?_ h
    refine .ite h ?_
    split
    · exact h.after fun _ k => k.execMxTokensLoRead
    · exact h.after fun _ k => k.execVxTokensLoRead
    · exact h.after fun _ k => k.execUpdStepLoRead
    · exact h
theorem Safety.Inv.readRegs {l : List Nat} {s : State} (h : Safety.Inv s) : Safety.Inv (State.readRegs l s).2 := by
  induction l generalizing s with
  | nil => unfold State.readRegs; exact h
  | cons x xs ih => unfold State.readRegs; exact ih h.latchRead
theorem Safety.Inv.writeCip {s : State} {o : Nat} {value : Word} (h : Safety.Inv s) : Safety.Inv (s.writeCip o value) := by
  unfold State.writeCip
  refine .ite (.ite h.modEngine h) ?_
  exact .ite h (.ite h.modSec (.ite h.modSec (.ite (h.after (fun _ k => k.execKeyWrCommit)) h)))
theorem Safety.Inv.writeCore {s : State} {core o : Nat} {value : Word} (h : Safety.Inv s) : Safety.Inv (s.writeCore core o value) := by
  unfold State.writeCore
  refine .ite h ?_
  split
  · exact h.after fun _ k => k.execCauseOrClear
  · exact h.after fun _ k => k.execFlagsOrClear
  · exact h
theorem Safety.Inv.regWrite {s : State} {o : Nat} {value : Word} (h : Safety.Inv s) : Safety.Inv (s.regWrite o value) := by
  unfold State.regWrite
  refine .ite h.modCommit ?_
  refine .ite h.modTorus ?_
  refine .ite h.writeCip ?_
  refine .ite h.writeCore ?_
  refine .ite (.ite (h.after (fun _ k => k.execHostErrClear)) h) ?_
  exact .ite h.consume (.ite (h.after (fun _ k => k.execAlarmClear)) h)
@[simp] theorem Safety.Inv.execRegisterWrite {offset : Nat} {value : Word} {s : State} (h : Safety.Inv s) :
    Safety.OutInv (execRegisterWrite offset value s) := by
  unfold Machine.execRegisterWrite; exact .next (.ite h.regWrite h)
@[simp] theorem Safety.Inv.execTelemetry {s : State} (h : Safety.Inv s) : Safety.OutInv (execTelemetry s) := by
  unfold Machine.execTelemetry
  refine .next ?_
  split
  · exact h
  · split
    rename_i he
    exact (h.readRegs.of' he).report.modRec
@[simp] theorem Safety.Inv.i3c {s : State} {f : State → State} (h : Safety.Inv s) (hf : ∀ (s : State), Safety.Inv s → Safety.Inv (f s)) :
    Safety.OutInv (s.i3c f) := by
  unfold State.i3c; exact .next (.ite (hf _ h) h)
theorem Safety.Inv.i3cReply {s : State} {bs : List Byte} (h : Safety.Inv s) : Safety.Inv (s.i3cReply bs) := h.set
theorem Safety.Inv.i3cWord {s : State} {o : Nat} (h : Safety.Inv s) : Safety.Inv (s.i3cWord o).2 := by
  unfold State.i3cWord; exact .iteSnd h.latchRead h
theorem Safety.Inv.i3cWords {fuel x1 : Nat} {s : State} (h : Safety.Inv s) : Safety.Inv (State.i3cWords fuel x1 s).2 := by
  induction fuel generalizing x1 s with
  | zero => unfold State.i3cWords; exact h
  | succ n ih => unfold State.i3cWords; exact ih h.i3cWord
@[simp] theorem Safety.Inv.execI3cRead {offset : Nat} {s : State} (h : Safety.Inv s) : Safety.OutInv (execI3cRead offset s) := by
  unfold Machine.execI3cRead
  refine h.i3c fun s k => ?_
  split
  rename_i he
  exact (k.i3cWords.of' he).modHost.i3cReply
@[simp] theorem Safety.Inv.execI3cArm {key : Nat} {s : State} (h : Safety.Inv s) : Safety.OutInv (execI3cArm key s) := by
  unfold Machine.execI3cArm; exact h.i3c fun _ k => .ite k.modHost k
@[simp] theorem Safety.Inv.i3cArmed {s : State} {f : State → State} (h : Safety.Inv s) (hf : ∀ (s : State), Safety.Inv s → Safety.Inv (f s)) :
    Safety.OutInv (s.i3cArmed f) := by
  unfold State.i3cArmed; exact h.i3c (fun _ k => .ite (hf _ k.modHost) k)
@[simp] theorem Safety.Inv.execI3cCold {s : State} (h : Safety.Inv s) : Safety.OutInv (execI3cCold s) := by
  unfold Machine.execI3cCold; exact h.i3cArmed fun _ k => k.requestCold
@[simp] theorem Safety.Inv.execI3cFull {s : State} (h : Safety.Inv s) : Safety.OutInv (execI3cFull s) := by
  unfold Machine.execI3cFull; exact h.i3cArmed fun _ k => k.requestFull
@[simp] theorem Safety.Inv.execI3cWake {s : State} (h : Safety.Inv s) : Safety.OutInv (execI3cWake s) := by
  unfold Machine.execI3cWake; exact h.i3cArmed fun _ k => k.wakeUp
@[simp] theorem Safety.Inv.execRstdaa {s : State} (h : Safety.Inv s) : Safety.OutInv (execRstdaa s) := by
  unfold Machine.execRstdaa; exact h.i3c fun _ k => k.modHost
@[simp] theorem Safety.Inv.execSetdasa {static addr : Nat} {s : State} (h : Safety.Inv s) : Safety.OutInv (execSetdasa static addr s) := by
  unfold Machine.execSetdasa; exact h.i3c fun _ k => .ite k.modHost k
@[simp] theorem Safety.Inv.execEntdaa {addr : Nat} {s : State} (h : Safety.Inv s) : Safety.OutInv (execEntdaa addr s) := by
  unfold Machine.execEntdaa; exact h.i3c fun _ k => .ite k.modHost k
theorem Safety.Inv.ccc {n : Nat} {s : State} (h : Safety.Inv s) : Safety.Inv (State.ccc n s) := by
  unfold State.ccc; exact .ite h h.i3cReply.draw
@[simp] theorem Safety.Inv.execGetpid {s : State} (h : Safety.Inv s) : Safety.OutInv (execGetpid s) := by
  unfold Machine.execGetpid; exact h.i3c fun _ k => k.ccc
@[simp] theorem Safety.Inv.execGetbcr {s : State} (h : Safety.Inv s) : Safety.OutInv (execGetbcr s) := by
  unfold Machine.execGetbcr; exact h.i3c fun _ k => k.ccc
@[simp] theorem Safety.Inv.execGetdcr {s : State} (h : Safety.Inv s) : Safety.OutInv (execGetdcr s) := by
  unfold Machine.execGetdcr; exact h.i3c fun _ k => k.ccc
@[simp] theorem Safety.Inv.execGetstatus {s : State} (h : Safety.Inv s) : Safety.OutInv (execGetstatus s) := by
  unfold Machine.execGetstatus; exact h.i3c fun _ k => k.ccc
@[simp] theorem Safety.Inv.execGetmxds {s : State} (h : Safety.Inv s) : Safety.OutInv (execGetmxds s) := by
  unfold Machine.execGetmxds; exact h.i3c fun _ k => k.ccc

/-! ## Idle -/

theorem Safety.Inv.idle {s : State} (h : Safety.Inv s) : Safety.Inv s.idle := by
  unfold State.idle; exact h.tick.serveHolds

/-! ## The step -/

/-- Whatever the command, the state it answers has canonical memory: the meaning of each has its lemma above. -/
theorem exec_outInv {s : State} (i : Instr) (h : Safety.Inv s) : Safety.OutInv (exec i s) := by
  unfold exec
  split <;> simp [h]

/-- Settles O60: an empty queue lets a nanosecond pass, and a command keeps the form from the state without it in the queue. -/
theorem memoryStaysCanonical : Obligations.MemoryStaysCanonical := by
  intro s t h e
  unfold step at e
  split at e
  · cases e; exact h.idle
  · exact exec_outInv _ h.set t e

end Sys2Proof
end

section
/-! PROOFS. The intake unit, result records and register writes (O53): what a write of headstock SRAM, a status line and a result
record leave unchanged, then each command. -/

namespace Sys2Proof.Machine

open Sys2Proof

/-! ## Writes of headstock SRAM and messages to the host -/

@[simp] theorem State.hsWord_host (s : State) (w : Nat × List Byte) : (s.hsWord w).host = s.host := by
  unfold State.hsWord; dsimp only; split
  · rfl
  · split <;> rfl
  · split <;> rfl

@[simp] theorem State.hsWrite_host (s : State) (a : Nat) (bs : List Byte) : (s.hsWrite a bs).host = s.host := by
  unfold State.hsWrite; split
  · rfl
  · exact foldl_keeps State.host _ State.hsWord_host _ _

theorem State.Reports.cores {s t : State} (h : s.Reports t) : t.cores = s.cores := by rw [h]

@[simp] theorem State.hsWrite_cores (s : State) (a : Nat) (bs : List Byte) : (s.hsWrite a bs).cores = s.cores :=
  (s.reports_hsWrite a bs).cores

/-- A message changes only the host's list of messages. -/
theorem State.msix_host (s : State) (v : Nat) : ∃ m at_ wait,
    (s.msix v).host = { s.host with msix := m, msixAt := at_, msixWait := wait } := by
  unfold State.msix; dsimp only; split
  · exact ⟨_, _, _, rfl⟩
  · split <;> exact ⟨_, _, _, rfl⟩

@[simp] theorem State.msix_intake (s : State) (v : Nat) : (s.msix v).host.intake = s.host.intake := by
  obtain ⟨_, _, _, h⟩ := s.msix_host v; rw [h]
@[simp] theorem State.msix_rings (s : State) (v : Nat) : (s.msix v).host.rings = s.host.rings := by
  obtain ⟨_, _, _, h⟩ := s.msix_host v; rw [h]
@[simp] theorem State.msix_cores (s : State) (v : Nat) : (s.msix v).cores = s.cores := (s.reports_msix v).cores

/-! ## Reads with no word or line in error -/

theorem State.channelFailed_of_clean {s : State} (h : Safety.Clean s) (a n : Nat) : s.channelFailed a n = false := by
  have hc : s.tiers.channels.any (fun c => c.2.state == 3) = false := by
    simpa using h.2.2
  simp [State.channelFailed, hc]

/-- With no error in any store a read gives the stored bytes and changes nothing. -/
theorem State.readMem_of_clean {s : State} (h : Safety.Clean s) (a n : Nat) : s.readMem a n = (s, .ok (s.peek a n)) := by
  by_cases hn : n = 0
  · subst hn; simp [State.readMem, State.peek, Memory.read, cellRun]
  · unfold State.readMem
    rw [if_neg hn]
    split
    · simp [State.readLines, State.channelFailed_of_clean h, h.2.1, Tab.range]
    · exact s.readWords_cores a n h.1

/-! ## Counters -/

theorem CoreSt.advance_value (x : CoreSt) (n inc m : Nat) :
    ((x.advance n inc).counters.at m).value = (x.counters.at m).value + (if m = n then BitVec.ofNat 32 inc else 0) := by
  unfold CoreSt.advance
  by_cases h : m = n
  · subst h; simp
  · simp [Tab.at_upd_ne _ _ h, h]

theorem State.advance_value (s : State) (c n inc k m : Nat) :
    (((s.advance c n inc).core k).counters.at m).value =
      ((s.core k).counters.at m).value + (if (k, m) = (c, n) then BitVec.ofNat 32 inc else 0) := by
  unfold State.advance
  by_cases h : k = c
  · subst h; simp [CoreSt.advance_value]
  · simp [State.core_modCore_ne _ _ h, h]

/-- Consumers advance by 1 each, every other counter by 0. -/
theorem State.each_advance_value (cs : List (Nat × Nat)) (hd : cs.Nodup) (s : State) (k m : Nat) :
    (((s.each cs (fun s c => s.advance c.1 c.2 1)).core k).counters.at m).value =
      ((s.core k).counters.at m).value + (if (k, m) ∈ cs then 1 else 0) := by
  induction cs generalizing s with
  | nil => simp [State.each]
  | cons c cs ih =>
    obtain ⟨hc, hd⟩ := List.nodup_cons.1 hd
    have step : s.each (c :: cs) (fun s c => s.advance c.1 c.2 1) = (s.advance c.1 c.2 1).each cs (fun s c => s.advance c.1 c.2 1) := rfl
    rw [step, ih hd, State.advance_value]
    by_cases h : (k, m) = c
    · subst h; simp [hc]
    · simp [h]

/-- Advances of counters leave everything but the cores. -/
theorem State.each_advance_host (cs : List (Nat × Nat)) (s : State) : (s.each cs (fun s c => s.advance c.1 c.2 1)).host = s.host :=
  foldl_keeps State.host (fun s (c : Nat × Nat) => s.advance c.1 c.2 1) (fun _ _ => rfl) _ _

/-! ## The intake unit (R639, R641) -/

@[simp] theorem State.modIntake_intake (s : State) (ring : Nat) (f : IntakeRing → IntakeRing) :
    (s.modIntake ring f).host.intake.at ring = f (s.host.intake.at ring) := by
  simp [State.modIntake, State.modHost]
@[simp] theorem State.modIntake_cores (s : State) (ring : Nat) (f : IntakeRing → IntakeRing) : (s.modIntake ring f).cores = s.cores := rfl
@[simp] theorem State.intakeEvent_host (s : State) : s.intakeEvent.host = s.host := rfl
@[simp] theorem State.intakeEvent_cores (s : State) : s.intakeEvent.cores = s.cores := rfl

/-- The status line shows the ring's fields and counts its own update. -/
@[simp] theorem State.intakeStatus_intake (s : State) (ring : Nat) :
    (s.intakeStatus ring).host.intake.at ring = { s.host.intake.at ring with seq := (s.host.intake.at ring).seq + 2 } := by
  simp [State.intakeStatus, State.modHost]
@[simp] theorem State.intakeStatus_cores (s : State) (ring : Nat) : (s.intakeStatus ring).cores = s.cores := by
  simp [State.intakeStatus]

/-- While the job runs, a poll acts on what it reads. -/
theorem exec_intakePoll {s : State} {ring : Nat} {c : RingCfg} (hc : s.img.rings[ring]? = some c) (hj : s.host.job = .running)
    (hp : s.power.holdup = 0) (hs : Safety.Clean s) :
    exec (.intakePoll ring) s =
      .next (s.intakeAct ring c (RingCfg.judge c (s.host.intake.at ring) (s.peek (s.bufAddr ring c (s.host.intake.at ring).next) 64))) := by
  change execIntakePoll ring s = _
  unfold execIntakePoll
  rw [hc]
  simp [hj, hp, State.readMem_of_clean hs]

theorem exec_intakePoll_notRunning {s : State} (ring : Nat) (hj : s.host.job ≠ .running) : exec (.intakePoll ring) s = .next s := by
  change execIntakePoll ring s = _
  unfold execIntakePoll
  split <;> simp [hj]

theorem exec_intakeRelease_notRunning {s : State} (ring : Nat) (hj : s.host.job ≠ .running) : exec (.intakeRelease ring) s = .next s := by
  change execIntakeRelease ring s = _
  unfold execIntakeRelease
  split <;> simp [hj]

/-- Buffers by which the consumers are ahead of the released count. -/
def State.releasable (s : State) (ring : Nat) (c : RingCfg) : Nat :=
  (((s.core c.releaseCore).counters.at c.releaseCtr).value - (s.host.intake.at ring).relBase -
    BitVec.ofNat 32 (s.host.intake.at ring).released).toNat

theorem exec_intakeRelease {s : State} {ring : Nat} {c : RingCfg} (hc : s.img.rings[ring]? = some c) (hj : s.host.job = .running) :
    exec (.intakeRelease ring) s = .next (if s.releasable ring c = 0 ∨ 2 ^ 31 ≤ s.releasable ring c then s
      else ((s.modIntake ring (fun r => { r with released := r.released + s.releasable ring c })).intakeStatus ring).msix 2) := by
  change execIntakeRelease ring s = _
  unfold execIntakeRelease
  rw [hc]
  simp [hj, State.releasable]

/-- Nothing yet: the ring shows WAITING, once. -/
theorem State.intakeAct_waiting (s : State) (ring : Nat) (c : RingCfg) :
    ((s.host.intake.at ring).waiting = true → s.intakeAct ring c .waiting = s) ∧
    ((s.host.intake.at ring).waiting = false → ((s.intakeAct ring c .waiting).host.intake.at ring).waiting = true ∧
      ((s.intakeAct ring c .waiting).host.intake.at ring).next = (s.host.intake.at ring).next ∧ (s.intakeAct ring c .waiting).cores = s.cores) := by
  constructor <;> intro h <;> simp [State.intakeAct, h]

/-- A buffer of another micro-batch: the ring shows SKEW, once. -/
theorem State.intakeAct_skew (s : State) (ring : Nat) (c : RingCfg) :
    ((s.host.intake.at ring).skew = true → s.intakeAct ring c .skew = s) ∧
    ((s.host.intake.at ring).skew = false → ((s.intakeAct ring c .skew).host.intake.at ring).skew = true ∧
      ((s.intakeAct ring c .skew).host.intake.at ring).next = (s.host.intake.at ring).next ∧ (s.intakeAct ring c .skew).cores = s.cores) := by
  constructor <;> intro h <;> simp [State.intakeAct, h]

/-- A header that does not fit: the ring shows BAD_HEADER, once. -/
theorem State.intakeAct_badHeader (s : State) (ring : Nat) (c : RingCfg) :
    ((s.host.intake.at ring).badHeader = true → s.intakeAct ring c .badHeader = s) ∧
    ((s.host.intake.at ring).badHeader = false → ((s.intakeAct ring c .badHeader).host.intake.at ring).badHeader = true ∧
      ((s.intakeAct ring c .badHeader).host.intake.at ring).next = (s.host.intake.at ring).next ∧
      (s.intakeAct ring c .badHeader).cores = s.cores) := by
  constructor <;> intro h <;> simp [State.intakeAct, h]

/-- A buffer that fits is taken, and each consumer's counter advances. -/
theorem State.intakeAct_taken (s : State) (ring : Nat) (c : RingCfg) (gen : Nat) (hd : c.consumers.Nodup) :
    let u := s.intakeAct ring c (.taken gen)
    let r := s.host.intake.at ring
    (u.host.intake.at ring).next = r.next + 1 ∧ (u.host.intake.at ring).skew = false ∧ (u.host.intake.at ring).badHeader = false ∧
      (u.host.intake.at ring).lastGen = max r.lastGen gen ∧
      (∀ k n, ((u.core k).counters.at n).value = ((s.core k).counters.at n).value + (if (k, n) ∈ c.consumers then 1 else 0)) := by
  have hcore (t : State) (k : Nat) : (t.intakeStatus ring).core k = t.core k := by simp [State.core]
  simp only [State.intakeAct, State.intakeStatus_intake, State.each_advance_host, State.modIntake_intake, true_and, hcore]
  intro k n
  rw [State.each_advance_value _ hd]
  rfl

/-! ## Result records (R643 to R646) -/

/-- A record that is open is closed in place. -/
theorem State.closeRec_rings (s : State) (ring index st : Nat) (cause : Cause) (payload : List Byte)
    (h : ∃ x ∈ (s.host.rings.at ring).recs, x.index = index ∧ x.state = 1) :
    (s.closeRec ring index st cause payload).host.rings = s.host.rings.set ring { s.host.rings.at ring with
      recs := (s.host.rings.at ring).recs.map (fun x => if x.index = index then { x with state := st } else x) } := by
  unfold State.closeRec
  dsimp only
  split
  · rename_i hn
    obtain ⟨x, hx, hi, hs⟩ := h
    exact absurd (List.find?_eq_none.1 hn x hx) (by simp [hi, hs])
  · simp [State.setRing]

theorem State.closeRec_cores (s : State) (ring index st : Nat) (cause : Cause) (payload : List Byte) :
    (s.closeRec ring index st cause payload).cores = s.cores := (s.reports_closeRec ring index st cause payload).cores

theorem ResultRing.oldestPending_mem {r : ResultRing} {e : ResultRec} (h : r.oldestPending = some e) : e ∈ r.recs ∧ e.state = 1 :=
  ⟨List.mem_of_find?_eq_some h, by simpa using List.find?_some h⟩

/-- WRITTEN has passed no record, or none is open: nothing completes. -/
theorem exec_planRecordReady_idle {s : State} {ring : Nat} {p : PlanRingCfg} (hp : s.img.planRings.find? (fun p => p.ring == ring) = some p)
    (h : (s.host.rings.at ring).oldestPending = none ∨ ((s.core p.core).counters.at p.written).value = (s.host.rings.at ring).ready) :
    exec (.planRecordReady ring) s = .next s := by
  change execPlanRecordReady ring s = _
  unfold execPlanRecordReady
  rw [hp]
  rcases h with h | h
  · simp [h]
  · simp only [h, BitVec.sub_self]
    split <;> simp

/-- WRITTEN has passed the oldest open record: it completes with the payload that lies in it. -/
theorem exec_planRecordReady {s : State} {ring : Nat} {p : PlanRingCfg} {e : ResultRec}
    (hp : s.img.planRings.find? (fun p => p.ring == ring) = some p) (he : (s.host.rings.at ring).oldestPending = some e)
    (hne : ((s.core p.core).counters.at p.written).value ≠ (s.host.rings.at ring).ready)
    (hlt : (((s.core p.core).counters.at p.written).value - (s.host.rings.at ring).ready).toNat < 2 ^ 31) (hs : Safety.Clean s) :
    let t := s.setRing ring { s.host.rings.at ring with ready := (s.host.rings.at ring).ready + 1 }
    exec (.planRecordReady ring) s = .next (t.closeRec ring e.index 2 0 (t.peek (t.recAddr ring e.index + 64) (p.recSize - 64))) := by
  intro t
  change execPlanRecordReady ring s = _
  have h0 : (((s.core p.core).counters.at p.written).value - (s.host.rings.at ring).ready).toNat ≠ 0 := by
    intro h
    exact hne (by bv_omega)
  have ht : Safety.Clean t := hs
  unfold execPlanRecordReady
  rw [hp]
  dsimp only
  rw [he]
  dsimp only
  rw [if_neg, State.readMem_of_clean ht]
  simp only [Bool.or_eq_true, decide_eq_true_eq, not_or]
  exact ⟨h0, Nat.not_le.2 hlt⟩

/-! ## RES_CONSUMED (R644, R646) -/

/-- Between two states the cores, HOST_ERR, the other rings and what the ring has consumed are the same. -/
structure State.KeepsConsumed (ring : Nat) (s t : State) : Prop where
  cores : t.cores = s.cores
  hostErr : t.host.hostErr = s.host.hostErr
  consumed : (t.host.rings.at ring).consumed = (s.host.rings.at ring).consumed
  others : ∀ k, k ≠ ring → t.host.rings.at k = s.host.rings.at k

theorem State.KeepsConsumed.trans {ring : Nat} {s t u : State} (h : State.KeepsConsumed ring s t) (g : State.KeepsConsumed ring t u) :
    State.KeepsConsumed ring s u :=
  ⟨g.cores.trans h.cores, g.hostErr.trans h.hostErr, g.consumed.trans h.consumed, fun k hk => (g.others k hk).trans (h.others k hk)⟩

theorem State.keepsConsumed_setRing (s : State) (ring : Nat) (r : ResultRing) (h : r.consumed = (s.host.rings.at ring).consumed) :
    State.KeepsConsumed ring s (s.setRing ring r) :=
  ⟨rfl, rfl, by simp [State.setRing, h], fun k hk => by simp [State.setRing, Tab.at_set_ne _ _ hk]⟩

theorem State.keepsConsumed_hsWrite (s : State) (ring a : Nat) (bs : List Byte) : State.KeepsConsumed ring s (s.hsWrite a bs) :=
  ⟨by simp, by simp, by simp, by simp⟩

theorem State.keepsConsumed_issueRec (s : State) (ring tag : Nat) : State.KeepsConsumed ring s (s.issueRec ring tag) := by
  unfold State.issueRec
  dsimp only
  split
  · exact (s.keepsConsumed_setRing ring _ (by rfl)).trans (State.keepsConsumed_hsWrite _ _ _ _)
  · exact ⟨rfl, rfl, rfl, fun _ _ => rfl⟩

theorem State.keepsConsumed_issuePlan (p : PlanRingCfg) (n : Nat) (s : State) : State.KeepsConsumed p.ring s (State.issuePlan p n s) := by
  induction n generalizing s with
  | zero => exact ⟨rfl, rfl, rfl, fun _ _ => rfl⟩
  | succ n ih =>
    unfold State.issuePlan
    dsimp only
    split
    · refine State.KeepsConsumed.trans ?_ (ih _)
      exact (s.keepsConsumed_issueRec p.ring _).trans (State.keepsConsumed_setRing _ _ _ rfl)
    · exact ⟨rfl, rfl, rfl, fun _ _ => rfl⟩

theorem exec_resConsumedWrite {s : State} {ring : Nat} (hb : s.barUp = true) (hr : ring < 16) (value : Word) :
    exec (.resConsumedWrite ring value) s = .next (s.consume ring value) := by
  change execResConsumedWrite ring value s = _
  simp [execResConsumedWrite, hb, hr]

/-- An index that passes an open record, or lies behind, sets HOST_ERR and nothing else. -/
theorem State.consume_refused {s : State} {ring : Nat} {value : Word}
    (h : 2 ^ 31 ≤ (value - (s.host.rings.at ring).consumed).toNat ∨
      (s.host.rings.at ring).passesOpen (value - (s.host.rings.at ring).consumed).toNat = true) :
    s.consume ring value = { s with host := { s.host with hostErr := true } } := by
  unfold State.consume
  dsimp only
  rw [if_pos (by simpa using h)]
  rfl

/-- The ring once the records before an index are freed. -/
def ResultRing.freed (r : ResultRing) (value : Word) : ResultRing :=
  { r with consumed := value,
           recs := r.recs.filter (fun e => (value - r.consumed).toNat ≤ (BitVec.ofNat 32 e.index - r.consumed).toNat) }

/-- An index that passes no open record frees the records before it, and the slots of a PLAN ring. -/
theorem State.consume_accepted {s : State} {ring : Nat} {value : Word} {n : Nat} (hv : n = (value - (s.host.rings.at ring).consumed).toNat)
    (hn : n < 2 ^ 31) (hp : (s.host.rings.at ring).passesOpen n = false) :
    (s.img.planRings.find? (fun p => p.ring == ring) = none →
      s.consume ring value = s.setRing ring ((s.host.rings.at ring).freed value)) ∧
    (∀ p, s.img.planRings.find? (fun p => p.ring == ring) = some p →
      s.consume ring value = ((s.setRing ring ((s.host.rings.at ring).freed value)).advance p.core p.free n).when
        (s.host.job == .running) (State.issuePlan p n)) := by
  subst hv
  have hc : ¬ (decide (2 ^ 31 ≤ (value - (s.host.rings.at ring).consumed).toNat) ||
      (s.host.rings.at ring).passesOpen (value - (s.host.rings.at ring).consumed).toNat) = true := by
    simp only [Bool.or_eq_true, decide_eq_true_eq, hp, Bool.false_eq_true, or_false]
    exact Nat.not_le.2 hn
  have himg (r : ResultRing) : (s.setRing ring r).img = s.img := rfl
  constructor
  · intro hf
    unfold State.consume
    rw [if_neg hc]
    dsimp only
    rw [himg, hf]
    rfl
  · intro p hf
    unfold State.consume
    rw [if_neg hc]
    dsimp only
    rw [himg, hf]
    rfl

/-! ## REGISTER_WRITE: a write acts as the row of its register -/

theorem exec_registerWrite {s : State} (hb : s.barUp = true) (o : Nat) (value : Word) :
    exec (.registerWrite o value) s = .next (s.regWrite o value) := by
  change execRegisterWrite o value s = _
  simp [execRegisterWrite, hb]

theorem exec_registerWrite_barDown {s : State} (hb : s.barUp = false) (o : Nat) (value : Word) :
    exec (.registerWrite o value) s = .next s := by
  change execRegisterWrite o value s = _
  simp [execRegisterWrite, hb]

/-- RES_CONSUMED of each ring stands 8 bytes after that of the ring before. -/
theorem State.regWrite_resConsumed (s : State) {ring : Nat} (hr : ring < 16) (value : Word) :
    s.regWrite (0x1000104 + 8 * ring) value = s.consume ring value := by
  unfold State.regWrite
  iterate 5 rw [if_neg (by omega)]
  rw [if_pos (by omega)]
  congr 1
  omega

theorem State.regWrite_hostErr (s : State) {value : Word} (h : value.getLsbD 15 = true) :
    s.regWrite 0x1000000 value = s.after execHostErrClear := by
  unfold State.regWrite
  iterate 4 rw [if_neg (by omega)]
  rw [if_pos rfl, if_pos h]

theorem State.regWrite_alarm (s : State) (value : Word) : s.regWrite 0x1100014 value = s.after (execAlarmClear value) := by
  unfold State.regWrite
  iterate 6 rw [if_neg (by omega)]
  rw [if_pos rfl]

/-- A die's window of core registers selects the core by its 4 KiB page. -/
theorem State.regWrite_core (s : State) {die off : Nat} (hd : die < 8) (ho : off < 0x80000) (value : Word) :
    s.regWrite (0x800000 + 0x100000 * die + off) value = s.writeCore (cdCore die off) (off % 0x1000) value := by
  have hdie : (0x800000 + 0x100000 * die + off - 0x800000) / 0x100000 = die := by omega
  have hoff : (0x800000 + 0x100000 * die + off) % 0x100000 = off := by omega
  have hreg : (0x800000 + 0x100000 * die + off) % 0x1000 = off % 0x1000 := by omega
  unfold State.regWrite
  iterate 3 rw [if_neg (by omega)]
  rw [if_pos (by omega), hdie, hoff, hreg]

/-- The regions from 0x100000 to 0x300000 hold no writable register. -/
theorem State.regWrite_readOnly (s : State) {o : Nat} (h₁ : 0x100000 ≤ o) (h₂ : o < 0x300000) (value : Word) : s.regWrite o value = s := by
  unfold State.regWrite
  iterate 7 rw [if_neg (by omega)]

theorem State.writeCore_causeOr {s : State} {core : Nat} (h : s.coreExists core = true) (value : Word) :
    s.writeCore core 0x404 value = s.after (execCauseOrClear core value) := by
  simp [State.writeCore, h]

theorem State.writeCore_flagsOr {s : State} {core : Nat} (h : s.coreExists core = true) (value : Word) :
    s.writeCore core 0x804 value = s.after (execFlagsOrClear core value) := by
  simp [State.writeCore, h]

/-! ## The clauses of O53 -/

/-- An event shown once: nothing while it stands, else the state in which it stands. -/
theorem next_or_exists {i : Instr} {s t : State} {shown : Bool} {P : State → Prop} (he : exec i s = .next t)
    (h : (shown = true → t = s) ∧ (shown = false → P t)) :
    (shown = true → exec i s = .next s) ∧ (shown = false → ∃ u, exec i s = .next u ∧ P u) :=
  ⟨fun hb => by rw [he, h.1 hb], fun hb => ⟨t, he, h.2 hb⟩⟩

/-- The released count follows its counter. -/
theorem intakeRelease_spec {s : State} {ring : Nat} {c : RingCfg} (hc : s.img.rings[ring]? = some c) (hj : s.host.job = .running) :
    (s.releasable ring c = 0 → exec (.intakeRelease ring) s = .next s) ∧
    (1 ≤ s.releasable ring c → s.releasable ring c < 2 ^ 31 → ∃ u, exec (.intakeRelease ring) s = .next u ∧
      (u.host.intake.at ring).released = (s.host.intake.at ring).released + s.releasable ring c ∧
      (u.host.intake.at ring).next = (s.host.intake.at ring).next ∧ u.cores = s.cores) := by
  rw [exec_intakeRelease hc hj]
  constructor
  · intro h
    rw [if_pos (Or.inl h)]
  · intro h₁ h₂
    rw [if_neg (by omega)]
    exact ⟨_, rfl, by simp, by simp, by simp⟩

/-- The oldest open record of a PLAN ring completes; the other rings and the counters stay. -/
theorem planRecordReady_spec {s : State} {ring : Nat} {p : PlanRingCfg} {e : ResultRec}
    (hp : s.img.planRings.find? (fun p => p.ring == ring) = some p) (he : (s.host.rings.at ring).oldestPending = some e)
    (hne : ((s.core p.core).counters.at p.written).value ≠ (s.host.rings.at ring).ready)
    (hlt : (((s.core p.core).counters.at p.written).value - (s.host.rings.at ring).ready).toNat < 2 ^ 31) (hs : Safety.Clean s) :
    ∃ u, exec (.planRecordReady ring) s = .next u ∧ (u.host.rings.at ring).ready = (s.host.rings.at ring).ready + 1 ∧
      (u.host.rings.at ring).recs = (s.host.rings.at ring).recs.map (fun x => if x.index = e.index then { x with state := 2 } else x) ∧
      (u.host.rings.at ring).issued = (s.host.rings.at ring).issued ∧ (u.host.rings.at ring).consumed = (s.host.rings.at ring).consumed ∧
      (∀ k, k ≠ ring → u.host.rings.at k = s.host.rings.at k) ∧ u.cores = s.cores := by
  have hring (r : ResultRing) : (s.setRing ring r).host.rings.at ring = r := by simp [State.setRing]
  obtain ⟨hmem, hst⟩ := ResultRing.oldestPending_mem he
  have hrings := fun st cause payload => State.closeRec_rings (s.setRing ring { s.host.rings.at ring with ready := (s.host.rings.at ring).ready + 1 })
    ring e.index st cause payload (by rw [hring]; exact ⟨e, hmem, rfl, hst⟩)
  refine ⟨_, exec_planRecordReady hp he hne hlt hs, ?_, ?_, ?_, ?_, ?_, State.closeRec_cores ..⟩
  iterate 4 rw [hrings, hring, Tab.at_set_self]
  · intro k hk
    rw [hrings, Tab.at_set_ne _ _ hk]
    simp [State.setRing, Tab.at_set_ne _ _ hk]

/-- A consume that passes no open record. -/
theorem consume_spec {s : State} {ring : Nat} {value : Word} {n : Nat} (hv : n = (value - (s.host.rings.at ring).consumed).toNat)
    (hn : n < 2 ^ 31) (ho : (s.host.rings.at ring).passesOpen n = false) :
    ((s.consume ring value).host.rings.at ring).consumed = value ∧ (s.consume ring value).host.hostErr = s.host.hostErr ∧
    (∀ k, k ≠ ring → (s.consume ring value).host.rings.at k = s.host.rings.at k) ∧
    (∀ p, s.img.planRings.find? (fun p => p.ring == ring) = some p →
      (((s.consume ring value).core p.core).counters.at p.free).value = ((s.core p.core).counters.at p.free).value + BitVec.ofNat 32 n) ∧
    (s.img.planRings.find? (fun p => p.ring == ring) = none → (s.consume ring value).cores = s.cores ∧ (s.consume ring value).mem = s.mem ∧
      ((s.consume ring value).host.rings.at ring).issued = (s.host.rings.at ring).issued) := by
  obtain ⟨hnone, hsome⟩ := State.consume_accepted hv hn ho
  have hring : ((s.setRing ring ((s.host.rings.at ring).freed value)).host.rings.at ring) = (s.host.rings.at ring).freed value := by
    simp [State.setRing]
  have hother (k : Nat) (hk : k ≠ ring) : (s.setRing ring ((s.host.rings.at ring).freed value)).host.rings.at k = s.host.rings.at k := by
    simp [State.setRing, Tab.at_set_ne _ _ hk]
  rcases hf : s.img.planRings.find? (fun p => p.ring == ring) with _ | p
  · rw [hnone hf, hring]
    exact ⟨rfl, rfl, hother, fun p hp => absurd (hf.symm.trans hp) (by simp), fun _ => ⟨rfl, rfl, rfl⟩⟩
  · obtain rfl : p.ring = ring := by simpa using List.find?_some hf
    rw [hsome p hf]
    have keep : State.KeepsConsumed p.ring ((s.setRing p.ring ((s.host.rings.at p.ring).freed value)).advance p.core p.free n)
        (((s.setRing p.ring ((s.host.rings.at p.ring).freed value)).advance p.core p.free n).when (s.host.job == .running)
          (State.issuePlan p n)) := by
      unfold State.when
      split
      · exact State.keepsConsumed_issuePlan p n _
      · exact ⟨rfl, rfl, rfl, fun _ _ => rfl⟩
    obtain ⟨hcores, herr, hcons, hoth⟩ := keep
    refine ⟨hcons.trans (congrArg ResultRing.consumed hring), herr, fun k hk => (hoth k hk).trans (hother k hk), ?_,
      fun hq => absurd (hf.symm.trans hq) (by simp)⟩
    intro q hq
    obtain rfl : p = q := Option.some.inj (hf.symm.trans hq)
    rw [State.core, hcores]
    have h := State.advance_value (s.setRing p.ring ((s.host.rings.at p.ring).freed value)) p.core p.free n p.core p.free
    rw [if_pos rfl] at h
    exact h

/-- Settles O53: what each command answers, ring by ring and register by register. -/
theorem intakeAndResults : Obligations.IntakeAndResults := by
  unfold Obligations.IntakeAndResults
  refine ⟨fun s ring c hc => ⟨fun hj => ⟨exec_intakePoll_notRunning ring hj, exec_intakeRelease_notRunning ring hj⟩, ?_, ?_⟩, ?_, ?_, ?_⟩
  · intro hj hp hs r v hr hv
    subst hr
    have he := exec_intakePoll hc hj hp hs
    rw [← hv] at he
    clear hv
    refine ⟨?_, ?_, ?_, ?_⟩
    · rintro rfl
      exact next_or_exists he (s.intakeAct_waiting ring c)
    · rintro rfl
      exact next_or_exists he (s.intakeAct_skew ring c)
    · rintro rfl
      exact next_or_exists he (s.intakeAct_badHeader ring c)
    · rintro gen rfl hd
      exact ⟨_, he, s.intakeAct_taken ring c gen hd⟩
  · rintro hj r more rfl rfl
    exact intakeRelease_spec hc hj
  · rintro s ring p r hp rfl
    exact ⟨exec_planRecordReady_idle hp, fun e he hne hlt hs => planRecordReady_spec hp he hne hlt hs⟩
  · intro s ring value r n hb hr hrr hn
    subst hrr
    rw [exec_resConsumedWrite hb hr]
    refine ⟨fun h => ?_, fun hlt ho => ⟨_, rfl, consume_spec hn hlt ho⟩⟩
    subst hn
    rw [State.consume_refused h]
  · refine fun s value => ⟨fun offset hb => exec_registerWrite_barDown hb offset value, fun hb => ?_⟩
    simp only [exec_registerWrite hb]
    refine ⟨⟨_, rfl, rfl, rfl, rfl⟩, ⟨_, rfl, rfl, rfl⟩, ?_, ?_, ?_, ?_, ?_⟩
    · intro ring hr
      rw [s.regWrite_resConsumed hr, exec_resConsumedWrite hb hr]
    · intro h
      rw [s.regWrite_hostErr h]
      rfl
    · rw [s.regWrite_alarm]
      rfl
    · intro die off hd ho hx
      simp only [s.regWrite_core hd ho]
      constructor
      · intro h
        rw [h, State.writeCore_causeOr hx]
        rfl
      · intro h
        rw [h, State.writeCore_flagsOr hx]
        rfl
    · intro offset h₁ h₂
      rw [s.regWrite_readOnly h₁ h₂]

end Sys2Proof.Machine
end

section
/-! PROOFS. The step (O1), counters (O55) and the step sequencer (O2): what each control entry does when it issues, and the halt of a
queue that has waited past its limit. -/

namespace Sys2Proof.Machine

open Sys2Proof

/-! ## The step -/

theorem step_cons {s : State} {c : Instr} {rest : List Instr} (h : s.pending = c :: rest) : step s = exec c { s with pending := rest } := by
  unfold step; rw [h]

theorem step_nil {s : State} (h : s.pending = []) : step s = .next s.idle := by
  unfold step; rw [h]

/-- Settles O1. -/
theorem stepRunsFrontCommand : Obligations.StepRunsFrontCommand := ⟨fun _ _ _ => step_cons, fun _ => step_nil⟩

/-! ## Arrival counters (R64, R65) -/

theorem CoreSt.advance_counter_ne (x : CoreSt) {n m : Nat} (inc : Nat) (h : m ≠ n) :
    (x.advance n inc).counters.at m = x.counters.at m := by
  simp [CoreSt.advance, Tab.at_upd_ne _ _ h]

theorem CoreSt.foldl_advance_value (incs : List Nat) (n : Nat) (x : CoreSt) :
    ((incs.foldl (fun x k => x.advance n k) x).counters.at n).value = (x.counters.at n).value + BitVec.ofNat 32 incs.sum := by
  induction incs generalizing x with
  | nil => simp
  | cons k incs ih => rw [List.foldl_cons, ih, CoreSt.advance_value, if_pos rfl, List.sum_cons, BitVec.ofNat_add, BitVec.add_assoc]

/-- Settles O55: by induction on the increments. -/
theorem countersAddUp : Obligations.CountersAddUp := by
  intro x n incs
  exact ⟨x.foldl_advance_value incs n,
    fun m hm => foldl_keeps (fun x : CoreSt => x.counters.at m) _ (fun x k => x.advance_counter_ne k hm) _ _⟩

/-! ## The next entry at the head -/

theorem OnlyCore.goTo (core q pos : Nat) (s : State) : Safety.OnlyCore core s (s.goTo core q pos) := OnlyCore.modQueue core q s _
theorem OnlyCore.goNext (core q : Nat) (s : State) : Safety.OnlyCore core s (s.goNext core q) := OnlyCore.goTo core q _ s
theorem OnlyCore.advance (core n inc : Nat) (s : State) : Safety.OnlyCore core s (s.advance core n inc) := OnlyCore.modCore core s _

@[simp] theorem State.goTo_pos (s : State) (core q pos : Nat) : ((s.goTo core q pos).queue core q).pos = pos := by
  simp [State.goTo]
@[simp] theorem State.goTo_counters (s : State) (core q pos : Nat) : ((s.goTo core q pos).core core).counters = (s.core core).counters := by
  simp [State.goTo, CoreSt.modQueue]
@[simp] theorem State.goNext_pos (s : State) (core q : Nat) : ((s.goNext core q).queue core q).pos = (s.queue core q).pos + 1 := by
  simp [State.goNext]
@[simp] theorem State.goNext_counters (s : State) (core q : Nat) : ((s.goNext core q).core core).counters = (s.core core).counters := by
  simp [State.goNext]
@[simp] theorem State.advance_queue (s : State) (core n inc k j : Nat) : (s.advance core n inc).queue k j = s.queue k j := by
  by_cases h : k = core
  · subst h; simp [State.queue, State.advance, CoreSt.advance]
  · simp [State.queue, State.advance, State.core_modCore_ne _ _ h]

/-! ## Actions of the control entries (R70, R71) -/

theorem OnlyCore.actAdd (core q : Nat) (e : Entry) (s : State) : Safety.OnlyCore core s (s.actAdd core q e) :=
  OnlyCore.trans (OnlyCore.advance core _ _ s) (OnlyCore.goNext core q _)

theorem State.actAdd_pos (s : State) (core q : Nat) (e : Entry) :
    ((s.actAdd core q e).queue core q).pos = (s.queue core q).pos + 1 := by
  simp [State.actAdd]

/-- ADD advances its own counter by its increment and no other. -/
theorem State.actAdd_counters (s : State) (core q : Nat) (e : Entry) :
    ((s.actAdd core q e).core core).counters = ((s.core core).advance e.addCtr e.addInc).counters := by
  simp [State.actAdd, State.advance]

theorem OnlyCore.actJump (core q : Nat) (e : Entry) (s : State) : Safety.OnlyCore core s (s.actJump core q e) := by
  unfold State.actJump
  dsimp only
  split
  · exact OnlyCore.trans (OnlyCore.modQueue core q s _) (OnlyCore.goNext core q _)
  · exact OnlyCore.trans (OnlyCore.modQueue core q s _) (OnlyCore.goTo core q _ _)
  · split
    · exact OnlyCore.goNext core q s
    · exact OnlyCore.trans (OnlyCore.modQueue core q s _) (OnlyCore.goTo core q _ _)

/-- The remaining count that a queue keeps for the JUMP at its head, with the entry it belongs to. -/
def Queue.jumpCount (k : Queue) : Option (Nat × Nat) := k.loops.find? (fun l => l.1 == k.pos)

/-- A JUMP inside its loop jumps again. -/
theorem State.actJump_pos_again {s : State} {core q n : Nat} (e : Entry)
    (h : (s.queue core q).jumpCount = some ((s.queue core q).pos, n + 1)) : ((s.actJump core q e).queue core q).pos = e.target := by
  unfold Queue.jumpCount at h
  simp [State.actJump, h]

/-- A JUMP whose count has run out goes on. -/
theorem State.actJump_pos_last {s : State} {core q : Nat} (e : Entry)
    (h : (s.queue core q).jumpCount = some ((s.queue core q).pos, 0)) :
    ((s.actJump core q e).queue core q).pos = (s.queue core q).pos + 1 := by
  unfold Queue.jumpCount at h
  simp [State.actJump, h]

/-- A JUMP that is not inside its loop enters it, unless LOOP is 1. -/
theorem State.actJump_pos_first {s : State} {core q : Nat} (e : Entry) (h : (s.queue core q).jumpCount = none) :
    ((s.actJump core q e).queue core q).pos = if e.loop ≤ 1 then (s.queue core q).pos + 1 else e.target := by
  unfold Queue.jumpCount at h
  simp only [State.actJump, h]
  split <;> simp

theorem OnlyCore.actEnd (core q : Nat) (s : State) : Safety.OnlyCore core s (s.actEnd core q) := OnlyCore.modQueue core q s _

theorem State.actEnd_queue (s : State) (core q : Nat) :
    ((s.actEnd core q).queue core q).retired = true ∧ ((s.actEnd core q).queue core q).active = false := by
  simp [State.actEnd]

/-! ## The control entries issue (R72, R74) -/

section
variable {s t : State} {core q : Nat} {e : Entry}

theorem exec_wait_ready (h : Safety.Ready s core q t e) (hk : e.kind = 0) : exec (.wait core q) s = .next (t.goNext core q) :=
  congrArg _ (State.issue_ready h hk (fun s _ => s.actWait core q))

theorem exec_addEntry_ready (h : Safety.Ready s core q t e) (hk : e.kind = 6) : exec (.addEntry core q) s = .next (t.actAdd core q e) :=
  congrArg _ (State.issue_ready h hk (fun s e => s.actAdd core q e))

theorem exec_jump_ready (h : Safety.Ready s core q t e) (hk : e.kind = 7) : exec (.jump core q) s = .next (t.actJump core q e) :=
  congrArg _ (State.issue_ready h hk (fun s e => s.actJump core q e))

theorem exec_endEntry_ready (h : Safety.Ready s core q t e) (hk : e.kind = 8) : exec (.endEntry core q) s = .next (t.actEnd core q) :=
  congrArg _ (State.issue_ready h hk (fun s _ => s.actEnd core q))

/-- While a lower-numbered queue is ready, the head is read and nothing issues. -/
theorem exec_control_later (h : Safety.HeadIs s core q t e) (hf : s.firstReady core q = false) :
    ∀ c ∈ [Instr.wait core q, .addEntry core q, .jump core q, .endEntry core q], exec c s = .next t := by
  simp only [List.forall_mem_cons, List.not_mem_nil, false_imp_iff, implies_true, and_true]
  exact ⟨congrArg _ (State.issue_later h hf _ _), congrArg _ (State.issue_later h hf _ _), congrArg _ (State.issue_later h hf _ _),
    congrArg _ (State.issue_later h hf _ _)⟩

end

/-! ## The halt of a queue (R76, R77) -/

theorem State.haltQueue_queue_self (s : State) (c q : Nat) (cause : Cause) :
    (s.haltQueue c q cause).queue c q = { s.queue c q with halted := true, active := false } := by
  rw [(s.halts_haltQueue c q cause).queue]
  simp [State.queue, CoreSt.modQueue]

theorem State.haltQueue_queue_ne (s : State) {c q k j : Nat} (cause : Cause) (h : (k, j) ≠ (c, q)) :
    (s.haltQueue c q cause).queue k j = s.queue k j := by
  rw [(s.halts_haltQueue c q cause).queue]
  unfold State.queue
  by_cases hk : k = c
  · subst hk
    have hj : j ≠ q := by rintro rfl; exact h rfl
    simp [CoreSt.modQueue, Tab.at_upd_ne _ _ hj]
  · rw [State.core_modCore_ne _ _ hk]

theorem State.haltQueue_haltCause (s : State) (c q : Nat) (cause : Cause) : ((s.haltQueue c q cause).core c).haltCause = cause := by
  rw [(s.halts_haltQueue c q cause).core]
  simp

theorem State.haltQueue_time (s : State) (c q : Nat) (cause : Cause) : (s.haltQueue c q cause).time = s.time := by
  rw [s.halts_haltQueue c q cause]
  rfl

theorem exec_queueTimeout {s : State} {core q : Nat} (hl : s.queueLive core q = true) :
    exec (.queueTimeout core q) s = .next
      (if (s.queue core q).waitFrom + s.waitLimit core q < s.now ∨ s.heldSince core q (s.now - s.waitLimit core q) = true
        then s.haltQueue core q Cause.timeout else s) := by
  change execQueueTimeout core q s = _
  simp [execQueueTimeout, hl]

/-- Settles O2: each kind of entry by its action, and the timeout by the halt of its queue. -/
theorem controlEntriesIssue : Obligations.ControlEntriesIssue := by
  refine ⟨⟨fun s t core q e h => ⟨fun hk => ?_, fun hk => ?_, fun hk => ?_, fun hk => ?_⟩, fun s t core q e => exec_control_later⟩,
    fun s core q hl => ?_⟩
  · exact ⟨_, exec_wait_ready h hk, by simp, by simp, OnlyCore.trans (OnlyCore.ready h) (OnlyCore.goNext core q t)⟩
  · refine ⟨_, exec_addEntry_ready h hk, t.actAdd_pos core q e, ?_, fun n hn => ?_, OnlyCore.trans (OnlyCore.ready h) (OnlyCore.actAdd core q e t)⟩
    · rw [State.actAdd_counters, CoreSt.advance_value, if_pos rfl]
    · rw [State.actAdd_counters, CoreSt.advance_counter_ne _ _ hn]
  · exact ⟨_, exec_jump_ready h hk, OnlyCore.trans (OnlyCore.ready h) (OnlyCore.actJump core q e t), fun n => State.actJump_pos_again e,
      State.actJump_pos_last e, State.actJump_pos_first e⟩
  · obtain ⟨hr, ha⟩ := t.actEnd_queue core q
    exact ⟨_, exec_endEntry_ready h hk, hr, ha, OnlyCore.trans (OnlyCore.ready h) (OnlyCore.actEnd core q t)⟩
  · rw [exec_queueTimeout hl]
    refine ⟨fun hn => by rw [if_neg hn], fun hw => ?_⟩
    rw [if_pos hw]
    exact ⟨_, rfl, by rw [State.haltQueue_queue_self], s.haltQueue_haltCause core q _, fun c k => s.haltQueue_queue_ne _⟩

end Sys2Proof.Machine
end

section
/-! PROOFS. Launches (O3): arrivals, the setting of L, the broadcast to a die, the end of the ramp and the issue of LAUNCH entries. -/

namespace Sys2Proof.Machine

open Sys2Proof

/-! ## Launch slots -/

@[simp] theorem State.slotSt_setSlotSt_self (s : State) (n : Nat) (x : LaunchSlot) : (s.setSlotSt n x).slotSt n = x := by
  simp [State.slotSt, State.setSlotSt]

theorem State.slotSt_setSlotSt_ne (s : State) {n m : Nat} (x : LaunchSlot) (h : m ≠ n) : (s.setSlotSt n x).slotSt m = s.slotSt m := by
  simp [State.slotSt, State.setSlotSt, Tab.at_set_ne _ _ h]

@[simp] theorem State.setSlotSt_queue (s : State) (n : Nat) (x : LaunchSlot) (c q : Nat) : (s.setSlotSt n x).queue c q = s.queue c q := rfl

/-! ## LAUNCH_ARRIVAL (R82) -/

/-- A launch slot with one more arrival. -/
def LaunchSlot.arrive (x : LaunchSlot) (core q now : Nat) : LaunchSlot := { x with arrived := x.arrived ++ [(core, q)], lastAt := now }

theorem exec_launchArrival {s t : State} {core q : Nat} {e : Entry} (h : Safety.HeadIs s core q t e) (hl : e.launch = true)
    (ha : (t.queue core q).arrived = false) (hc : t.conditions core q e = true) :
    exec (.launchArrival core q) s = .next ((t.modQueue core q (fun k => { k with arrived := true })).setSlotSt e.slot
      ((t.slotSt e.slot).arrive core q t.now)) := by
  change execLaunchArrival core q s = _
  simp [execLaunchArrival, State.atHead_head h, hl, ha, hc, LaunchSlot.arrive]

/-! ## SET_LAUNCH_INSTANT (R83) -/

/-- L: the lead after the last arrival, and at least the spacing after the launch before. -/
def LaunchSlot.nextInstant (x : LaunchSlot) (l : LaunchCfg) : Nat := max (x.lastAt + l.lead) ((x.previous.map (· + l.spacing)).getD 0)

/-- A launch slot whose L is set: the arrivals so far count toward it. -/
def LaunchSlot.setInstant (x : LaunchSlot) (l : LaunchCfg) : LaunchSlot :=
  { x with instant := some (x.nextInstant l), older := x.previous, previous := some (x.nextInstant l), counted := x.arrived, arrived := [],
           generation := (x.generation + 1) % 65536, cancelled := false, received := [] }

/-- Every participant has arrived, and there is one. -/
def LaunchSlot.complete (x : LaunchSlot) (l : LaunchCfg) : Bool :=
  l.participants.all (fun c => x.arrived.any (fun a => a.1 == c)) && !x.arrived.isEmpty

theorem LaunchSlot.complete_of {x : LaunchSlot} {l : LaunchCfg} (hp : l.participants ≠ []) (h : ∀ c ∈ l.participants, ∃ a ∈ x.arrived, a.1 = c) :
    x.complete l = true := by
  obtain ⟨c, hc⟩ := List.exists_mem_of_ne_nil _ hp
  obtain ⟨a, ha, -⟩ := h c hc
  have hne : x.arrived ≠ [] := List.ne_nil_of_mem ha
  simpa [LaunchSlot.complete, hne] using h

theorem exec_setLaunchInstant {s : State} {slot : Nat} {l : LaunchCfg} (hl : s.launchCfg slot = some l) :
    exec (.setLaunchInstant slot) s = .next (if (s.slotSt slot).complete l && !s.time.oscFault
      then s.setSlotSt slot ((s.slotSt slot).setInstant l) else s) := by
  change execSetLaunchInstant slot s = _
  unfold execSetLaunchInstant
  rw [hl]
  rfl

theorem exec_setLaunchInstant_undefined {s : State} {slot : Nat} (hl : s.launchCfg slot = none) :
    exec (.setLaunchInstant slot) s = .next s := by
  change execSetLaunchInstant slot s = _
  unfold execSetLaunchInstant
  rw [hl]

/-! ## LAUNCH_BROADCAST_RECEIVE (R84, R52) -/

/-- A die's participants hold L, and its governor the setpoint until 2 µs after the die's last group. -/
def State.receiveLaunch (s : State) (slot die L : Nat) (l : LaunchCfg) : State :=
  (s.setSlotSt slot { s.slotSt slot with received := (s.slotSt slot).received ++ [die] }).modGov die
    (fun g => { g with holds := g.holds ++ [(slot, L, L + LaunchCfg.lastOffset l s (· == die) + 2000)] })

theorem exec_launchBroadcastReceive {s : State} {slot die L : Nat} {l : LaunchCfg} (hl : s.launchCfg slot = some l)
    (hL : (s.slotSt slot).instant = some L) (hp : ∃ c ∈ l.participants, coreDie c = die) (hr : die ∉ (s.slotSt slot).received) :
    exec (.launchBroadcastReceive slot die) s = .next (s.receiveLaunch slot die L l) := by
  have hp' : l.participants.any (fun c => coreDie c == die) = true := by simpa using hp
  have hr' : (s.slotSt slot).received.contains die = false := by simpa using hr
  change execLaunchBroadcastReceive slot die s = _
  unfold execLaunchBroadcastReceive
  rw [hl, hL]
  dsimp only
  rw [hp', hr']
  rfl

theorem State.receiveLaunch_received (s : State) (slot die L : Nat) (l : LaunchCfg) :
    die ∈ ((s.receiveLaunch slot die L l).slotSt slot).received := by
  simp [State.receiveLaunch, State.slotSt, State.setSlotSt]

theorem State.receiveLaunch_holds (s : State) (slot die L : Nat) (l : LaunchCfg) :
    (slot, L, L + LaunchCfg.lastOffset l s (· == die) + 2000) ∈ ((s.receiveLaunch slot die L l).governors.at die).holds := by
  simp [State.receiveLaunch, State.modGov]

theorem State.modGov_governors_ne (s : State) {die d : Nat} (f : Governor → Governor) (h : d ≠ die) :
    (s.modGov die f).governors.at d = s.governors.at d := Tab.at_upd_ne _ _ h

/-! ## RAMP_END (R86) -/

/-- Arrivals of the slot that counted and whose entries have neither issued nor been on time. -/
def State.behindLaunch (s : State) (slot : Nat) : List (Nat × Nat) :=
  (s.slotSt slot).counted.filter (fun a => (s.queue a.1 a.2).arrived && !(s.queue a.1 a.2).onTime && !s.waitsElsewhere slot a)

/-- The entries of the queues are late. -/
def State.markLate (s : State) (qs : List (Nat × Nat)) : State :=
  s.each qs (fun s a => s.modQueue a.1 a.2 (fun k => { k with late := true }))

theorem State.markLate_mem (s : State) (qs : List (Nat × Nat)) : (s.markLate qs).mem = s.mem :=
  foldl_keeps State.mem (fun s (a : Nat × Nat) => s.modQueue a.1 a.2 (fun k => { k with late := true })) (fun _ _ => rfl) _ _

theorem exec_rampEnd {s : State} {slot L : Nat} {l : LaunchCfg} (hl : s.launchCfg slot = some l) (hL : (s.slotSt slot).instant = some L)
    (h : L + LaunchCfg.lastOffset l s (fun _ => true) < s.now) :
    exec (.rampEnd slot) s = .next ((s.markLate (s.behindLaunch slot)).setSlotSt slot
      { s.slotSt slot with instant := none, counted := [], received := [] }) := by
  change execRampEnd slot s = _
  unfold execRampEnd
  rw [hl, hL]
  dsimp only
  rw [if_pos h]
  rfl

/-! ## LAUNCH entries issue (R72, R74, R90) -/

section
variable {s t : State} {core q : Nat} {e : Entry}

theorem State.issueLaunch_head (h : Safety.HeadIs s core q t e) (hl : e.launch = true) (ha : (t.queue core q).arrived = true)
    (hc : t.conditions core q e = true) (hf : s.firstReady core q = true) {may : State → Entry → Bool} (hm : may t e = true)
    (act : State → Entry → State) : s.issueLaunch core q may act = act t e := by
  unfold State.issueLaunch
  simp only [State.atHead_head h]
  simp [hl, ha, hc, hf, hm]

/-- An entry is on time when it was judged so or its instant has been reached. -/
theorem exec_launchIssue {at_ : Nat} (h : Safety.HeadIs s core q t e) (hl : e.launch = true) (ha : (t.queue core q).arrived = true)
    (hn : (t.queue core q).late = false)
    (ht : (t.queue core q).onTime = true ∨ (t.launchTime core q e.slot = some at_ ∧ at_ ≤ t.dieTime (coreDie core)))
    (hc : t.conditions core q e = true) (hf : s.firstReady core q = true) :
    exec (.launchIssue core q) s = .next (t.actAny core q e) := by
  refine congrArg _ (State.issueLaunch_head h hl ha hc hf ?_ _)
  rcases ht with ht | ⟨ht, hle⟩
  · simp [hn, ht]
  · simp [hn, ht, hle]

theorem exec_lateLaunchIssue (h : Safety.HeadIs s core q t e) (hl : e.launch = true) (ha : (t.queue core q).arrived = true)
    (hn : (t.queue core q).late = true) (hc : t.conditions core q e = true) (hf : s.firstReady core q = true) :
    exec (.lateLaunchIssue core q) s =
      .next (({ t with time := { t.time with launchLate := t.time.launchLate + 1 } } : State).actAny core q e) :=
  congrArg _ (State.issueLaunch_head h hl ha hc hf hn _)

end

/-- Settles O3: each command of the launch unit by its own lemma. -/
theorem launchesIssue : Obligations.LaunchesIssue := by
  refine ⟨⟨?_, ?_, ?_, ?_⟩, ?_, ?_⟩
  · intro s t core q e h hl ha hc
    exact ⟨_, exec_launchArrival h hl ha hc, by simp, by simp [LaunchSlot.arrive], by simp [LaunchSlot.arrive]⟩
  · intro s slot l hl hp ho hall
    refine ⟨s.setSlotSt slot ((s.slotSt slot).setInstant l), ?_, by rw [State.slotSt_setSlotSt_self]; rfl,
      by rw [State.slotSt_setSlotSt_self]; rfl, by rw [State.slotSt_setSlotSt_self]; rfl, fun n => s.slotSt_setSlotSt_ne _, rfl, rfl⟩
    rw [exec_setLaunchInstant hl, LaunchSlot.complete_of hp hall, ho]
    rfl
  · intro s slot die L l hl hL hp hr
    exact ⟨_, exec_launchBroadcastReceive hl hL hp hr, s.receiveLaunch_received slot die L l, s.receiveLaunch_holds slot die L l,
      fun d => State.modGov_governors_ne _ _, rfl, rfl⟩
  · intro s slot L l hl hL h
    refine ⟨_, exec_rampEnd hl hL h, ?_, ?_, s.markLate_mem _⟩
    · rw [State.slotSt_setSlotSt_self]
    · rw [State.slotSt_setSlotSt_self]
  · intro s t core q at_ e h hl ha hn ht hc hf
    exact exec_launchIssue h hl ha hn ht hc hf
  · intro s t core q e h hl ha hn hc hf
    exact ⟨_, exec_lateLaunchIssue h hl ha hn hc hf, rfl, rfl⟩

end Sys2Proof.Machine
end

section
/-! PROOFS. The rate governor and the oscillator fault (O4). -/

namespace Sys2Proof.Machine

open Sys2Proof

/-! ## The governor of a die (R48 to R52) -/

@[simp] theorem State.modGov_governors_self (s : State) (die : Nat) (f : Governor → Governor) :
    (s.modGov die f).governors.at die = f (s.governors.at die) := Tab.at_upd_self _ _ _

theorem Governor.compare_vset (g : Governor) (rate now : Nat) : (g.compare rate now).vset =
    if g.held now then g.vset
    else if rate * 10000 < g.working * 99 then min (g.vset + 5) 850
    else if g.working * 101 < rate * 10000 then max (g.vset - 5) 550
    else g.vset := rfl

/-- A comparison outside a hold moves the setpoint 5 mV toward the working target, and never out of its range. -/
theorem Governor.compare_spec {g : Governor} {now : Nat} (rate : Nat) (hh : g.held now = false) (hlo : 550 ≤ g.vset) (hhi : g.vset ≤ 850) :
    (rate * 10000 < g.working * 99 → (g.compare rate now).vset = min (g.vset + 5) 850) ∧
    (g.working * 101 < rate * 10000 → (g.compare rate now).vset = max (g.vset - 5) 550) ∧
    550 ≤ (g.compare rate now).vset ∧ (g.compare rate now).vset ≤ 850 := by
  rw [Governor.compare_vset, hh, if_neg Bool.false_ne_true]
  refine ⟨fun h => if_pos h, fun h => ?_, ?_, ?_⟩
  · rw [if_neg (by omega), if_pos h]
  all_goals split
  · omega
  · split <;> omega
  · omega
  · split <;> omega

theorem Governor.compare_vset_held {g : Governor} {now : Nat} (rate : Nat) (hh : g.held now = true) : (g.compare rate now).vset = g.vset := by
  rw [Governor.compare_vset, if_pos hh]

/-- Over the power cap the working target falls by 1 % of the configured target, whatever the junction. -/
theorem Governor.average_hungry (g : Governor) (hot : Bool) (junction : Int) :
    (g.average true hot junction).working = g.working - g.target ∧ (g.average true hot junction).powerLimited = true := by
  simp [Governor.average]

theorem Governor.raise_working {g : Governor} (hp : g.powerOver = false) (ht : g.thermalOver = false) :
    g.raise.working = min (g.working + g.target) (100 * g.target) := by
  simp [Governor.raise, hp, ht]

/-! ## The commands of the governor -/

section
variable {s : State} {die : Nat}

theorem exec_governorCompare (hd : die < 8) (hp : s.diePowered die = true) (rate : Nat) :
    exec (.governorCompare die rate) s = .next (s.modGov die (·.compare rate s.now)) := by
  change execGovernorCompare die rate s = _
  simp [execGovernorCompare, hd, hp]

theorem exec_workingTargetRaise (hd : die < 8) (hp : s.diePowered die = true) :
    exec (.workingTargetRaise die) s = .next (s.modGov die (·.raise)) := by
  change execWorkingTargetRaise die s = _
  simp [execWorkingTargetRaise, hd, hp]

/-- An average above 290 W: the die's governor takes it as over the power cap, and no other governor, core or byte changes. -/
theorem exec_powerAverage_hungry {watts : Nat} (hd : die < 8) (hp : s.diePowered die = true) (hw : 290 < watts) (junction : Int) :
    ∃ u hot, exec (.powerAverage die watts junction) s = .next u ∧
      u.governors = (s.modGov die (fun g => g.average true (decide (g.junctionTarget < junction) || hot) junction)).governors ∧
      u.cores = s.cores ∧ u.mem = s.mem := by
  refine ⟨_, s.dramHot die, congrArg Host.Outcome.next (if_pos (by simp [hd, hp])), ?_, rfl, rfl⟩
  have hungry (b : Bool) : (decide (290 < watts) || b) = true := by simp [hw]
  dsimp only
  rw [hungry]
  rfl

end

/-! ## The oscillator fault (R59) -/

/-- Queues halt one after another. -/
def State.haltAll (s : State) (qs : List (Nat × Nat)) (cause : Cause) : State := s.each qs (fun s a => s.haltQueue a.1 a.2 cause)

theorem State.haltAll_cons (s : State) (a : Nat × Nat) (qs : List (Nat × Nat)) (cause : Cause) :
    s.haltAll (a :: qs) cause = (s.haltQueue a.1 a.2 cause).haltAll qs cause := rfl

theorem State.haltAll_time (s : State) (qs : List (Nat × Nat)) (cause : Cause) : (s.haltAll qs cause).time = s.time :=
  foldl_keeps State.time (fun s (a : Nat × Nat) => s.haltQueue a.1 a.2 cause) (fun s a => s.haltQueue_time a.1 a.2 cause) _ _

/-- A halt of any queue leaves a halted queue halted. -/
theorem State.haltQueue_keeps_halted {s : State} {c q : Nat} (h : (s.queue c q).halted = true) (k j : Nat) (cause : Cause) :
    ((s.haltQueue k j cause).queue c q).halted = true := by
  by_cases he : (c, q) = (k, j)
  · cases he; rw [State.haltQueue_queue_self]
  · rw [State.haltQueue_queue_ne _ _ he]; exact h

theorem State.haltAll_keeps_halted {s : State} {c q : Nat} (h : (s.queue c q).halted = true) (qs : List (Nat × Nat)) (cause : Cause) :
    ((s.haltAll qs cause).queue c q).halted = true := by
  induction qs generalizing s with
  | nil => exact h
  | cons b qs ih => exact ih (State.haltQueue_keeps_halted h b.1 b.2 cause)

theorem State.haltAll_halted (s : State) (cause : Cause) {qs : List (Nat × Nat)} {a : Nat × Nat} (ha : a ∈ qs) :
    ((s.haltAll qs cause).queue a.1 a.2).halted = true := by
  induction qs generalizing s with
  | nil => cases ha
  | cons b qs ih =>
    rw [State.haltAll_cons]
    rcases List.mem_cons.1 ha with rfl | ha
    · exact State.haltAll_keeps_halted (by rw [State.haltQueue_queue_self]) qs cause
    · exact ih _ ha

/-- The fault is set and reported. -/
def State.oscReported (s : State) : State := ({ s with time := { s.time with oscFault := true } }).event 0x8070 Cause.timeout 0 0 0

theorem exec_oscFault {s : State} (ho : s.time.oscFault = false) (hr : s.time.released = true) :
    exec .oscFault s = .next (s.oscReported.haltAll s.runningQueues Cause.timeout) := by
  change execOscFault s = _
  unfold execOscFault
  rw [ho, hr]
  rfl

theorem State.tick_oscFault {s : State} (h : s.time.oscFault = true) : s.tick = s := by
  simp [State.tick, h]

theorem exec_setLaunchInstant_oscFault {s : State} (slot : Nat) (h : s.time.oscFault = true) : exec (.setLaunchInstant slot) s = .next s := by
  rcases hl : s.launchCfg slot with _ | l
  · exact exec_setLaunchInstant_undefined hl
  · rw [exec_setLaunchInstant hl, h]
    simp

/-- Settles O4: the governor's commands act on one governor, and the fault halts the running queues one after another. -/
theorem governorAndOscillator : Obligations.GovernorAndOscillator := by
  refine ⟨⟨?_, ?_, ?_, ?_, ?_⟩, ?_, ?_⟩
  · intro s die rate hd hp hh hlo hhi
    refine ⟨_, exec_governorCompare hd hp rate, by rw [State.modGov_governors_self]; rfl, ?_⟩
    obtain ⟨hup, hdown, hmin, hmax⟩ := Governor.compare_spec rate hh hlo hhi
    rw [State.modGov_governors_self]
    exact ⟨hup, hdown, hmin, hmax, fun d => State.modGov_governors_ne _ _, rfl, rfl⟩
  · intro s die rate hd hp hh
    exact ⟨_, exec_governorCompare hd hp rate, by rw [State.modGov_governors_self]; exact Governor.compare_vset_held rate hh⟩
  · intro s die watts junction hd hp hw
    obtain ⟨u, hot, he, hg, hc, hm⟩ := exec_powerAverage_hungry hd hp hw junction
    obtain ⟨hwork, hlim⟩ := (s.governors.at die).average_hungry (decide ((s.governors.at die).junctionTarget < junction) || hot) junction
    refine ⟨u, he, ?_, ?_, fun d hne => ?_, hc, hm⟩
    · rw [hg, State.modGov_governors_self]; exact hwork
    · rw [hg, State.modGov_governors_self]; exact hlim
    · rw [hg, State.modGov_governors_ne _ _ hne]
  · intro s die hd hp hpo hto
    exact ⟨_, exec_workingTargetRaise hd hp, by rw [State.modGov_governors_self]; exact Governor.raise_working hpo hto,
      fun d => State.modGov_governors_ne _ _, rfl, rfl⟩
  · intro s die
    exact ⟨_, rfl, fun h => by rw [State.modGov_governors_self]; simp, fun d => State.modGov_governors_ne _ _, rfl, rfl⟩
  · intro s ho hr
    refine ⟨_, exec_oscFault ho hr, ?_, ?_, fun a ha => State.haltAll_halted _ _ ha⟩
    · rw [State.haltAll_time]; rfl
    · rw [State.haltAll_time]; rfl
  · intro s slot h
    exact ⟨State.tick_oscFault h, exec_setLaunchInstant_oscFault slot h⟩

end Sys2Proof.Machine
end

section
/-! PROOFS. Reads of low halves and registers whose bits a write of 1 clears (O5). -/

namespace Sys2Proof.Machine

open Sys2Proof

/-! ## Reads of a low half -/

/-- Reading the low half of a 64-bit register with value `v` answers its low 32 bits and leaves its high 32 bits in `hi`; no byte of
memory, no counter of the core and no command that waits changes. -/
def LatchesHigh (s : State) (core : Nat) (i : Instr) (v : Nat) (hi : State → Word) : Prop :=
  ∃ u, exec i s = .next u ∧ u.bus = v % 2 ^ 32 ∧ hi u = BitVec.ofNat 32 (v / 2 ^ 32) ∧ u.mem = s.mem ∧
    (u.core core).counters = (s.core core).counters ∧ u.pending = s.pending

section
variable (s : State) (core : Nat)

theorem timeNowLoRead_latches : LatchesHigh s core .timeNowLoRead s.now (fun u => u.time.hiLatch) :=
  ⟨_, rfl, rfl, rfl, rfl, rfl, rfl⟩

/-- A read whose latch is a field of the core. -/
theorem latches_of_modCore {i : Instr} {v : Nat} {f : CoreSt → CoreSt} (hi : CoreSt → Word)
    (he : exec i s = .next { s.modCore core f with bus := v % 2 ^ 32 }) (hh : hi (f (s.core core)) = BitVec.ofNat 32 (v / 2 ^ 32))
    (hf : (f (s.core core)).counters = (s.core core).counters) : LatchesHigh s core i v (fun u => hi (u.core core)) :=
  ⟨_, he, rfl, (congrArg hi (s.core_modCore_self core f)).trans hh, rfl,
    (congrArg CoreSt.counters (s.core_modCore_self core f)).trans hf, rfl⟩

theorem mxTokensLoRead_latches :
    LatchesHigh s core (.mxTokensLoRead core) (s.core core).mx.tokens.toNat (fun u => (u.core core).mx.tokensHi) :=
  latches_of_modCore s core (·.mx.tokensHi) rfl rfl rfl

theorem vxTokensLoRead_latches :
    LatchesHigh s core (.vxTokensLoRead core) (s.core core).vx.tokens.toNat (fun u => (u.core core).vx.tokensHi) :=
  latches_of_modCore s core (·.vx.tokensHi) rfl rfl rfl

theorem updStepLoRead_latches : LatchesHigh s core (.updStepLoRead core) (s.core core).up.step (fun u => (u.core core).up.stepHi) :=
  latches_of_modCore s core (·.up.stepHi) rfl rfl rfl

theorem stepLoRead_latches : LatchesHigh s core .stepLoRead s.gate.step (fun u => u.gate.stepHi) :=
  ⟨_, rfl, rfl, rfl, rfl, rfl, rfl⟩

theorem shardStepLoRead_latches :
    LatchesHigh s core .shardStepLoRead (((s.shardSt s.commit.sel).processed).getD 0) (fun u => u.commit.stepHi) :=
  ⟨_, rfl, rfl, rfl, rfl, rfl, rfl⟩

theorem ueAddrLoRead_latches : LatchesHigh s core .ueAddrLoRead s.tiers.ueAddr (fun u => BitVec.ofNat 32 u.tiers.ueHi) :=
  ⟨_, rfl, rfl, rfl, rfl, rfl, rfl⟩

theorem roundLoRead_latches : LatchesHigh s core .roundLoRead s.round.openRound (fun u => u.round.roundHi) :=
  ⟨_, rfl, rfl, rfl, rfl, rfl, rfl⟩

theorem ckSealedLoRead_latches : LatchesHigh s core .ckSealedLoRead s.ck.sealedStep (fun u => u.ck.sealedHi) :=
  ⟨_, rfl, rfl, rfl, rfl, rfl, rfl⟩

/-- SLOT_CTR of the slot that the engine's selector names: 0 but for a GENERAL key. -/
def Engine.slotCtr (e : Engine) : Nat := if (e.slots.at e.sel).usage = 0 then (e.slots.at e.sel).nextCtr else 0

theorem exec_slotCtrLoRead {s : State} {engine : Nat} (hw : s.wanExists engine = true) :
    exec (.slotCtrLoRead engine) s = .next { s.modEngine engine (fun e =>
      { e with ctrHi := BitVec.ofNat 32 ((s.engine engine).slotCtr / 2 ^ 32) }) with bus := (s.engine engine).slotCtr % 2 ^ 32 } := by
  change execSlotCtrLoRead engine s = _
  unfold execSlotCtrLoRead
  rw [hw]
  rfl

theorem slotCtrLoRead_latches {engine : Nat} (hw : s.wanExists engine = true) :
    LatchesHigh s core (.slotCtrLoRead engine) (s.engine engine).slotCtr (fun u => (u.engine engine).ctrHi) :=
  ⟨_, exec_slotCtrLoRead hw, rfl, by simp [State.engine, State.modEngine], rfl, rfl, rfl⟩

end

/-! ## Bits that a write of 1 clears -/

theorem getLsbD_clear {w k : Nat} (a : BitVec w) (value : Word) (hk : k < w) :
    (a &&& ~~~(value.setWidth w)).getLsbD k = (a.getLsbD k && !value.getLsbD k) := by
  simp [hk]

section
variable {s : State} (hb : s.barUp = true)
include hb

theorem exec_causeOrClear (core : Nat) (value : Word) : exec (.causeOrClear core value) s =
    .next (s.modCore core (·.modMx (fun m => { m with causeOr := m.causeOr &&& ~~~(value.setWidth 8) }))) := by
  change execCauseOrClear core value s = _
  rw [execCauseOrClear, hb, State.when_true]

theorem exec_flagsOrClear (core : Nat) (value : Word) : exec (.flagsOrClear core value) s =
    .next (s.modCore core (·.modVx (fun v => { v with flagsOr := v.flagsOr &&& ~~~(value.setWidth 7) }))) := by
  change execFlagsOrClear core value s = _
  rw [execFlagsOrClear, hb, State.when_true]

theorem exec_alarmClear (value : Word) : exec (.alarmClear value) s =
    .next (s.modSec (fun c => { c with alarm := c.alarm &&& ~~~(value.setWidth 6) })) := by
  change execAlarmClear value s = _
  rw [execAlarmClear, hb, State.when_true]

theorem exec_hostErrClear : exec .hostErrClear s = .next (s.modHost (fun h => { h with hostErr := false })) := by
  change execHostErrClear s = _
  rw [execHostErrClear, hb, State.when_true]

end

/-- Settles O5: register by register. -/
theorem registerAccessEffects : Obligations.RegisterAccessEffects := by
  refine ⟨fun s core engine hw => ?_, fun s core value hb => ⟨?_, ?_, ?_, ?_⟩⟩
  · simp only [List.forall_mem_cons, List.not_mem_nil, false_imp_iff, implies_true, and_true]
    exact ⟨timeNowLoRead_latches s core, mxTokensLoRead_latches s core, vxTokensLoRead_latches s core, stepLoRead_latches s core,
      updStepLoRead_latches s core, shardStepLoRead_latches s core, ueAddrLoRead_latches s core, roundLoRead_latches s core,
      ckSealedLoRead_latches s core, slotCtrLoRead_latches s core hw⟩
  · refine ⟨_, exec_causeOrClear hb core value, OnlyCore.modCore core s _, fun k hk => ?_⟩
    rw [State.core_modCore_self]
    exact getLsbD_clear _ value hk
  · refine ⟨_, exec_flagsOrClear hb core value, OnlyCore.modCore core s _, fun k hk => ?_⟩
    rw [State.core_modCore_self]
    exact getLsbD_clear _ value hk
  · exact ⟨_, exec_alarmClear hb value, rfl, rfl, fun k hk => getLsbD_clear _ value hk⟩
  · exact ⟨_, exec_hostErrClear hb, rfl, rfl, rfl⟩

end Sys2Proof.Machine
end

section
/-! PROOFS. The elements of two number formats: MXINT8 (O56) and W36 (O57). -/

namespace Sys2Proof.Machine

open Sys2Proof

/-! ## What a conversion of a finite value writes (R113, R149) -/

/-- A finite value becomes its sign and a code: a finite one, or the infinity of a format without block scales. -/
theorem convElem_fin_bits (f : Nat) (keep : Bool) (r : Option Nat) (s : Bool) (m : Nat) (e : Int) :
    ∃ c, (convElem f keep r (.fin s m e)).bits = signed f keep s c ∧ (c ≤ fmtMax f ∨ isBlock f = false ∧ c = fmtMax f + 1) := by
  by_cases hm : m = 0
  · exact ⟨0, by simp [convElem, hm], .inl (Nat.zero_le _)⟩
  · simp only [convElem, hm, if_false]
    generalize (if r.isSome = true then _ else _ : Bool) = past
    cases past with
    | true =>
      refine ⟨_, rfl, ?_⟩
      cases hb : isBlock f <;> simp
    | false => exact ⟨_, rfl, .inl (Nat.min_le_right _ _)⟩

/-! ## MXINT8 elements (R104) -/

theorem decodeElem_mxint8 (v : BitVec 8) : decodeElem 8 v.toNat =
    if v.msb then .fin true (256 - v.toNat % 256) (-6) else .fin false (v.toNat % 128) (-6) := rfl

/-- An MXINT8 element counts its two's-complement code in units of 1/64. -/
theorem decodeElem_mxint8_toInt (v : BitVec 8) :
    ∃ neg m, decodeElem 8 v.toNat = .fin neg m (-6) ∧ (if neg then -(m : Int) else (m : Int)) = v.toInt := by
  have hv := v.isLt
  have hmsb : v.msb = decide (128 ≤ v.toNat) := v.msb_eq_decide
  rw [decodeElem_mxint8, BitVec.toInt_eq_msb_cond]
  cases h : v.msb with
  | true =>
    refine ⟨true, 256 - v.toNat % 256, rfl, ?_⟩
    simp only [if_true]
    omega
  | false =>
    have hlow : v.toNat < 128 := by simpa [h] using hmsb
    exact ⟨false, v.toNat % 128, rfl, by simp [Nat.mod_eq_of_lt hlow]⟩

/-- A sign and a magnitude are written as a two's-complement byte, with one zero. -/
theorem signed_mxint8 (keep s : Bool) (c : Nat) :
    signed 8 keep s c = if s = true ∧ c ≠ 0 then 256 - c else c := by
  by_cases h : c = 0
  · simp [signed, hasNegZero, h]
  · simp [signed, h]

/-- Every conversion to MXINT8 writes a sign and a magnitude of at most 127; an element of a NaN block is written as zero. -/
theorem convElem_mxint8_bits (keep : Bool) (r : Option Nat) (x : Val) :
    ∃ s c, c ≤ 127 ∧ (convElem 8 keep r x).bits = signed 8 keep s c := by
  cases x with
  | nan => exact ⟨false, 0, by decide, by rw [signed_mxint8]; rfl⟩
  | inf s => exact ⟨false, 0, by decide, by rw [signed_mxint8]; rfl⟩
  | fin s m e =>
    obtain ⟨c, hbits, hfinite | ⟨hblock, -⟩⟩ := convElem_fin_bits 8 keep r s m e
    · exact ⟨s, c, hfinite, hbits⟩
    · exact absurd hblock (by decide)

/-- A magnitude of at most 127 gives a byte on either side of code 0x80. -/
theorem signed_mxint8_range (keep s : Bool) {c : Nat} (hc : c ≤ 127) :
    signed 8 keep s c ≤ 127 ∨ 129 ≤ signed 8 keep s c ∧ signed 8 keep s c < 256 := by
  rw [signed_mxint8]
  split <;> omega

/-- The bytes other than 0x80 are the two's-complement codes of −127 to 127. -/
theorem toInt_ofNat_mxint8_range {b : Nat} (hb : b ≤ 127 ∨ 129 ≤ b ∧ b < 256) :
    -127 ≤ (BitVec.ofNat 8 b).toInt ∧ (BitVec.ofNat 8 b).toInt ≤ 127 := by
  rw [BitVec.toInt_eq_toNat_cond, BitVec.toNat_ofNat]
  split <;> omega

/-- Settles O56: a conversion writes a sign and a magnitude of at most 127, and 0x80 is no such code. -/
theorem mxint8Elements : Obligations.Mxint8Elements := by
  refine ⟨decodeElem_mxint8_toInt, rfl, fun keep r x => ?_⟩
  obtain ⟨s, c, hc, hbits⟩ := convElem_mxint8_bits keep r x
  have hrange := signed_mxint8_range keep s hc
  rw [hbits]
  exact ⟨by omega, by omega, toInt_ofNat_mxint8_range hrange⟩

/-! ## W36 values (R108) -/

theorem fmtMax_w36_succ : fmtMax 10 + 1 = 1023 * 2 ^ 25 := rfl

/-- The sign of a W36 word is bit 35, over a code of 35 bits. -/
theorem testBit_w36_sign (s : Bool) {c : Nat} (hc : c < 2 ^ 35) : ((if s then 2 ^ 35 else 0) + c).testBit 35 = s := by
  have hclear := Nat.testBit_lt_two_pow hc
  cases s with
  | false => rw [if_neg Bool.false_ne_true, Nat.zero_add, hclear]
  | true => rw [if_pos rfl, Nat.testBit_two_pow_add_eq, hclear]; rfl

/-- The finite W36 codes come first, then the infinity, then the NaNs. -/
theorem decodeElem_w36 (s : Bool) {c : Nat} (hc : c < 2 ^ 35) : decodeElem 10 ((if s then 2 ^ 35 else 0) + c) =
    if c < 1023 * 2 ^ 25 then .fin s (codeMag 10 c).1 (codeMag 10 c).2 else if c = 1023 * 2 ^ 25 then .inf s else .nan := by
  have hcode : ((if s then 2 ^ 35 else 0) + c) % 2 ^ 35 = c := by split <;> omega
  have hfin : c ≤ fmtMax 10 ↔ c < 1023 * 2 ^ 25 := Nat.lt_succ_iff.symm
  have hbits : fmtBits 10 - 1 = 35 := rfl
  simp only [decodeElem, hbits, hcode, testBit_w36_sign s hc, hfin, fmtMax_w36_succ]

theorem codeMag_w36 (c : Nat) : codeMag 10 c =
    if c < 2 ^ 25 then (c, (-535 : Int)) else (2 ^ 25 + c % 2 ^ 25, -535 + (c / 2 ^ 25 : Nat) - 1) := rfl

/-- A subnormal W36 code is the fraction alone. -/
theorem codeMag_w36_subnormal {F : Nat} (hF : F < 2 ^ 25) : codeMag 10 F = (F, -510 - 25) := by
  rw [codeMag_w36, if_pos hF]
  rfl

/-- A normal W36 code has the hidden bit before its fraction. -/
theorem codeMag_w36_normal {E F : Nat} (hE : E ≠ 0) (hF : F < 2 ^ 25) :
    codeMag 10 (E * 2 ^ 25 + F) = (2 ^ 25 + F, (E : Int) - 511 - 25) := by
  have hfraction : (E * 2 ^ 25 + F) % 2 ^ 25 = F := by omega
  have hexponent : (E * 2 ^ 25 + F) / 2 ^ 25 = E := by omega
  rw [codeMag_w36, if_neg (by omega), hfraction, hexponent, Prod.mk.injEq]
  exact ⟨rfl, by omega⟩

/-- Settles O57: the exponent field says whether the code is subnormal, normal, or past the finite ones. -/
theorem w36Values : Obligations.W36Values := by
  intro s E F hE hF
  rw [Nat.add_assoc, decodeElem_w36 s (by omega)]
  by_cases hzero : E = 0
  · subst hzero
    rw [if_pos (by omega), if_pos rfl, Nat.zero_mul, Nat.zero_add, codeMag_w36_subnormal hF]
  · rw [if_neg hzero]
    by_cases hnormal : E ≤ 1022
    · rw [if_pos (by omega), if_pos hnormal, codeMag_w36_normal hzero hF]
    · have hinf : E * 2 ^ 25 + F = 1023 * 2 ^ 25 ↔ F = 0 := by omega
      rw [if_neg (by omega), if_neg hnormal]
      simp only [hinf]

end Sys2Proof.Machine
end

section
/-! PROOFS. The issue of a MATRIX entry (O6): what the reads of issue can change, then the operation that joins the engine and the one
that ends. -/

namespace Sys2Proof.Machine

open Sys2Proof

/-! ## Reads of a core's own SRAM (R364, R365) -/

theorem addrSpace_sramAddr {core off : Nat} (hc : core < 1024) (ho : off < 2 ^ 42) : addrSpace (sramAddr core off) = 0 := by
  simp only [addrSpace, sramAddr, Nat.shiftLeft_eq, Nat.shiftRight_eq_div_pow]
  omega

theorem addrCore_sramAddr {core off : Nat} (hc : core < 1024) (ho : off < 2 ^ 42) : addrCore (sramAddr core off) = core := by
  simp only [addrCore, bitsOf, sramAddr, Nat.shiftLeft_eq, Nat.shiftRight_eq_div_pow]
  omega

/-- Between two states no other core, no byte of memory and nothing of the core but its counts of SRAM words differs. -/
structure State.CountsOwn (core : Nat) (s t : State) : Prop where
  only : Safety.OnlyCore core s t
  own : ∃ ce ue, t.core core = { s.core core with sramCe := ce, sramUe := ue }

theorem State.CountsOwn.refl (core : Nat) (s : State) : State.CountsOwn core s s := ⟨OnlyCore.refl core s, _, _, rfl⟩

theorem State.CountsOwn.trans {core : Nat} {s t u : State} (h : State.CountsOwn core s t) (g : State.CountsOwn core t u) :
    State.CountsOwn core s u := by
  obtain ⟨_, _, ht⟩ := h.own
  obtain ⟨ce, ue, hu⟩ := g.own
  exact ⟨OnlyCore.trans h.only g.only, ce, ue, by rw [hu, ht]⟩

section
variable {s t : State} {core : Nat} (h : State.CountsOwn core s t)
include h

theorem State.CountsOwn.mx : (t.core core).mx = (s.core core).mx := by
  obtain ⟨_, _, ht⟩ := h.own; rw [ht]
theorem State.CountsOwn.counters : (t.core core).counters = (s.core core).counters := by
  obtain ⟨_, _, ht⟩ := h.own; rw [ht]
theorem State.CountsOwn.queue (q : Nat) : t.queue core q = s.queue core q := by
  obtain ⟨_, _, ht⟩ := h.own; unfold State.queue; rw [ht]

end

theorem State.countsOwn_countWords (s : State) {a : Nat} (ha : addrSpace a = 0) (ce ue bad : Nat) :
    State.CountsOwn (addrCore a) s (s.countWords a ce ue bad) := by
  unfold State.countWords
  rw [if_pos ha]
  exact ⟨OnlyCore.modCore _ s _, _, _, s.core_modCore_self _ _⟩

theorem State.countsOwn_readMem (s : State) {a : Nat} (ha : addrSpace a = 0) (len : Nat) :
    State.CountsOwn (addrCore a) s (s.readMem a len).1 := by
  unfold State.readMem
  split
  · exact .refl _ s
  · rw [if_neg (by simp [ha])]
    unfold State.readWords
    dsimp only
    split
    · exact .refl _ s
    · exact s.countsOwn_countWords ha _ _ _

/-- Regions that begin within the core's part of the address space, each read in turn, count only that core's words. -/
theorem State.countsOwn_readRegions (s : State) {core : Nat} (hc : core < 1024) {rs : Regions} (hrs : ∀ r ∈ rs, r.1 < 2 ^ 42) :
    State.CountsOwn core s (s.readRegions core rs).1 := by
  unfold State.readRegions
  split
  · exact .refl _ s
  · clear * - hc hrs
    generalize (0 : Cause) = c
    induction rs generalizing s c with
    | nil => exact .refl _ s
    | cons r rs ih =>
      obtain ⟨hr, hrest⟩ := List.forall_mem_cons.1 hrs
      have hread := s.countsOwn_readMem (addrSpace_sramAddr hc hr) r.2
      rw [addrCore_sramAddr hc hr] at hread
      simp only [List.foldl_cons]
      refine hread.trans ?_
      rcases s.readMem (sramAddr core r.1) r.2 with ⟨t, _ | _⟩
      · exact ih t hrest _
      · exact ih t hrest _

/-! ## Where issue reads (R162, R676, R677) -/

/-- The fields of a descriptor, and of one of its operands, that place the reads of issue. -/
structure Side.Fits (d : MDesc) (x : Side) : Prop where
  m : d.m < 2 ^ 16
  kblocks : d.kblocks < 2 ^ 27
  mask : d.mask < 2 ^ 25
  list : d.list < 2 ^ 25
  base : x.base < 2 ^ 25
  ld : x.ld < 2 ^ 19

theorem fld_lt (w lo n : Nat) : fld w lo n < 2 ^ n := Nat.mod_lt _ (Nat.two_pow_pos n)

/-- An address field counts units of 64 bytes. -/
theorem fld_units_lt (w lo n : Nat) : fld w lo n * 64 < 2 ^ (n + 6) := by
  have := fld_lt w lo n
  rw [Nat.pow_add]
  omega

theorem MDesc.sideA_fits (w rate : Nat) : Side.Fits (MDesc.ofNat w) ((MDesc.ofNat w).sideA rate) :=
  ⟨fld_lt w 32 16, fld_lt w 64 27, fld_units_lt w 370 19, fld_units_lt w 389 19, fld_units_lt w 160 19, fld_units_lt w 179 13⟩

theorem MDesc.sideB_fits (w rate : Nat) : Side.Fits (MDesc.ofNat w) ((MDesc.ofNat w).sideB rate) :=
  ⟨fld_lt w 32 16, fld_lt w 64 27, fld_units_lt w 370 19, fld_units_lt w 389 19, fld_units_lt w 192 19, fld_units_lt w 211 13⟩

theorem State.firstBlock_lt {s : State} {core tm kb : Nat} {d : MDesc} (h : s.firstBlock core d = some (tm, kb)) :
    tm < d.tileRows ∧ kb < d.kblocks := by
  obtain ⟨i, hi, hf⟩ := List.exists_of_findSome?_eq_some h
  split at hf
  · cases hf
  · rename_i j hj
    split at hf
    · cases hf
    · cases hf
      exact ⟨List.mem_range.1 hi, List.mem_range.1 (List.mem_of_find?_eq_some hj)⟩

section
variable {s : State} {core start kk : Nat} {d : MDesc} {x : Side}

/-- The first KFR block lies in the operand's first stored row, in the row that the list names, or in the first row of a tile. -/
theorem State.kfrFirst_bounds (hx : Side.Fits d x) (h : s.kfrFirst core d x = some (start, kk)) :
    kk < 2 ^ 27 ∧ (x.gathered = true ∨ start < 2 ^ 37) := by
  obtain ⟨⟨tm, kb⟩, hfirst, h⟩ := Option.bind_eq_some_iff.1 h
  obtain ⟨row, hrow, h⟩ := Option.map_eq_some_iff.1 h
  obtain ⟨rfl, rfl⟩ := Prod.mk.inj h
  obtain ⟨htm, hkb⟩ := State.firstBlock_lt hfirst
  have hk := hx.kblocks
  refine ⟨by omega, ?_⟩
  cases hg : x.gathered with
  | true => exact .inl rfl
  | false =>
    right
    have hle : row ≤ 2 ^ 16 := by
      have hm := hx.m
      unfold MDesc.tileRows at htm
      rw [hg] at hrow
      split at hrow <;> cases hrow <;> omega
    have hmul : row * x.ld ≤ 2 ^ 16 * 2 ^ 19 := Nat.mul_le_mul hle hx.ld.le
    have hb := hx.base
    omega

/-- Issue learns a rate, or rejects, only from a header inside the core's SRAM where a list names its row. -/
theorem State.kfrFirst_start_lt (hx : Side.Fits d x) (h : s.kfrFirst core d x = some (start, kk)) (hr : s.kfrRate core d x ≠ some 0) :
    start < 2 ^ 37 := by
  rcases (State.kfrFirst_bounds hx h).2 with hg | hlt
  · by_contra hfar
    refine hr ?_
    unfold State.kfrRate
    split
    · rfl
    · rw [h]
      dsimp only
      rw [if_pos]
      rw [hg, Bool.true_and, decide_eq_true_eq]
      omega
  · exact hlt

theorem State.kfrRate_le {r : Nat} (h : s.kfrRate core d x = some r) : r ≤ 8 := by
  have htry (b : Bool) (n : Nat) (hb : (if b then some n else none) = some r) : r = n := by
    cases b <;> cases hb; rfl
  unfold State.kfrRate at h
  split at h
  · cases h; omega
  · split at h
    · cases h; omega
    · split at h
      · cases h; omega
      · simp only [Option.or_eq_some_iff] at h
        rcases h with h | ⟨-, h | ⟨-, h⟩⟩ <;> have := htry _ _ h <;> omega

/-- Every region that issue reads for an operand begins within its core's part of the address space. -/
theorem State.rateReads_lt (hx : Side.Fits d x) {r : Nat × Nat} (h : r ∈ s.rateReads core d x) : r.1 < 2 ^ 42 := by
  have hfield (b : Bool) {a n : Nat} (ha : a < 2 ^ 25) (hr : r ∈ if b then [(a, n)] else []) : r.1 < 2 ^ 42 := by
    cases b with
    | false => cases hr
    | true =>
      cases List.mem_singleton.1 hr
      exact Nat.lt_of_lt_of_le ha (by decide)
  unfold State.rateReads at h
  split at h
  · cases h
  · split at h
    · exact (List.mem_append.1 h).elim (hfield _ hx.mask) (hfield _ hx.list)
    · rcases List.mem_append.1 h with h | h
      · exact (List.mem_append.1 h).elim (hfield _ hx.mask) (hfield _ hx.list)
      · split at h
        · rename_i start kk rate hfirst hrate
          split at h
          · cases h
          · rename_i hne
            cases List.mem_singleton.1 h
            have hkk := (State.kfrFirst_bounds hx hfirst).1
            have hstart := State.kfrFirst_start_lt hx hfirst (by rw [hrate]; simpa using hne)
            have hmul : kk * 8 * rate ≤ 2 ^ 30 * 8 := Nat.mul_le_mul (by omega) (State.kfrRate_le hrate)
            dsimp only
            omega
        · rename_i start kk hfirst hrate
          cases List.mem_singleton.1 h
          have := State.kfrFirst_start_lt hx hfirst (by rw [hrate]; simp)
          dsimp only
          omega
        · cases h

end

/-- The reads of issue, for both operands, count only the issuing core's words. -/
theorem State.countsOwn_issueReads (s r : State) {core : Nat} (hc : core < 1024) (w : Nat) :
    State.CountsOwn core s (s.readRegions core (r.rateReads core (MDesc.ofNat w) ((MDesc.ofNat w).sideA 0) ++
      r.rateReads core (MDesc.ofNat w) ((MDesc.ofNat w).sideB 0))).1 :=
  s.countsOwn_readRegions hc (fun _ h => (List.mem_append.1 h).elim (State.rateReads_lt (MDesc.sideA_fits w 0))
    (State.rateReads_lt (MDesc.sideB_fits w 0)))

/-! ## The entry issues (R161) -/

theorem core_lt_of_readOwn {s t : State} {core a n align : Nat} {bs : List Byte} (h : s.readOwn core a n align = (t, .ok bs)) :
    core < 1024 := by
  unfold State.readOwn at h
  split at h
  · rename_i hown
    simp only [Bool.and_eq_true, decide_eq_true_eq] at hown
    rw [← hown.1.1.2]
    exact fld_lt a 42 10
  · cases h

/-- The operation that an entry of descriptor `w` brings to the engine; its rates are not learned yet. -/
def State.matrixOp (s : State) (core q w : Nat) : MatOp :=
  { desc := BitVec.ofNat 512 w, queue := q, entry := (s.queue core q).pos, fill := (s.core core).mx.ops.isEmpty,
    holdA := if (MDesc.ofNat w).aKfr then (s.core core).loadedSlots 0 else [],
    holdB := if (MDesc.ofNat w).bKfr then (s.core core).loadedSlots 1 else [] }

/-- Each command of the five kinds acts on a ready MATRIX entry with its own KIND. -/
theorem exec_matrix_ready {s t : State} {core q : Nat} {e : Entry} (h : Safety.Ready s core q t e) (hk : e.kind = 1) :
    ∀ p ∈ [(Instr.mm core q, 1), (.mmTa core q, 2), (.mmTb core q, 3), (.gradW core q, 4), (.gradX core q, 5)],
      exec p.1 s = .next (t.actMatrix core q p.2 e) := by
  have issue (kind : Nat) : s.issueMatrix core q kind = t.actMatrix core q kind e := State.issue_ready h hk _
  simp only [List.forall_mem_cons, List.not_mem_nil, false_imp_iff, implies_true, and_true]
  exact ⟨congrArg _ (issue 1), congrArg _ (issue 2), congrArg _ (issue 3), congrArg _ (issue 4), congrArg _ (issue 5)⟩

section
variable {t u y : State} {core q kind : Nat} {e : Entry} {bs : List Byte} {cause : Cause}
  (hread : t.readOwn core e.addr 64 1 = (u, .ok bs)) (hkind : (MDesc.ofNat (leNat bs)).kind = kind)
  (hreads : (u.goNext core q).readRegions core
    ((u.goNext core q).rateReads core (MDesc.ofNat (leNat bs)) ((MDesc.ofNat (leNat bs)).sideA 0) ++
      (u.goNext core q).rateReads core (MDesc.ofNat (leNat bs)) ((MDesc.ofNat (leNat bs)).sideB 0)) = (y, cause))
include hread hkind hreads

/-- An entry whose reads succeed goes on to the checks. -/
theorem State.actMatrix_read (hc : cause = 0) :
    t.actMatrix core q kind e = y.queueMatrix core (MDesc.ofNat (leNat bs)) (u.matrixOp core q (leNat bs)) := by
  subst hc
  unfold State.actMatrix
  simp only [hread, hkind, ne_eq, not_true_eq_false, decide_false, Bool.false_and, Bool.false_eq_true, if_false, hreads]
  rfl

/-- An entry whose mask, list or first block cannot be read ends. -/
theorem State.actMatrix_unreadable (hc : cause ≠ 0) :
    t.actMatrix core q kind e = y.modCore core (·.endMatrix (u.matrixOp core q (leNat bs)) false cause) := by
  unfold State.actMatrix
  simp only [hread, hkind, ne_eq, not_true_eq_false, decide_false, Bool.false_and, Bool.false_eq_true, if_false, hreads]
  split
  · rename_i hz
    exact absurd (Prod.mk.inj hz).2 hc
  · rename_i hz
    cases hz
    rfl

/-- An entry that passes the checks joins the engine with the rates learned. -/
theorem State.actMatrix_queued {ra rb : Nat} (hc : cause = 0) (hok : y.matrixCheck core (MDesc.ofNat (leNat bs)) = some (ra, rb)) :
    t.actMatrix core q kind e = y.modCore core (·.modMx (fun m =>
      { m with ops := m.ops ++ [{ u.matrixOp core q (leNat bs) with rateA := ra, rateB := rb }] })) := by
  rw [State.actMatrix_read hread hkind hreads hc, State.queueMatrix, hok]

/-- An entry that cannot be read or fails a check ends without a turn in the engine. -/
theorem State.actMatrix_failed (h : cause ≠ 0 ∨ y.matrixCheck core (MDesc.ofNat (leNat bs)) = none) :
    t.actMatrix core q kind e = y.modCore core
      (·.endMatrix (u.matrixOp core q (leNat bs)) false (if cause = 0 then Cause.planReject else cause)) := by
  by_cases hc : cause = 0
  · have hbad := h.resolve_left (not_not_intro hc)
    rw [State.actMatrix_read hread hkind hreads hc, State.queueMatrix, hbad, if_pos hc]
  · rw [State.actMatrix_unreadable hread hkind hreads hc, if_neg hc]

end

/-- What the reads of issue leave of the core that `u` held before the entry's place moved on. -/
theorem State.matrixReads_core {u y : State} {core q w : Nat} {cause : Cause} (hc : core < 1024)
    (h : (u.goNext core q).readRegions core ((u.goNext core q).rateReads core (MDesc.ofNat w) ((MDesc.ofNat w).sideA 0) ++
      (u.goNext core q).rateReads core (MDesc.ofNat w) ((MDesc.ofNat w).sideB 0)) = (y, cause)) :
    (y.core core).mx = (u.core core).mx ∧ (y.core core).counters = (u.core core).counters ∧
      (y.queue core q).pos = (u.queue core q).pos + 1 ∧ Safety.OnlyCore core u y := by
  have hy := (u.goNext core q).countsOwn_issueReads (u.goNext core q) hc w
  rw [h] at hy
  refine ⟨hy.mx.trans ?_, hy.counters.trans (u.goNext_counters core q), (congrArg Queue.pos (hy.queue q)).trans (u.goNext_pos core q),
    OnlyCore.trans (OnlyCore.goNext core q u) hy.only⟩
  simp [State.goNext, State.goTo, CoreSt.modQueue]

/-! ## An operation ends Failed (R67, R187) -/

theorem CoreSt.latch_value (x : CoreSt) (n m : Nat) (cause : Cause) :
    ((x.latch n cause).counters.at m).value = (x.counters.at m).value := by
  by_cases h : m = n
  · subst h; simp [CoreSt.latch]
  · simp [CoreSt.latch, Tab.at_upd_ne _ _ h]

theorem CoreSt.latch_cause {x : CoreSt} {n : Nat} (cause : Cause) (h : (x.counters.at n).cause = 0) :
    ((x.latch n cause).counters.at n).cause = cause := by
  simp [CoreSt.latch, h]

theorem CoreSt.latch_counter_ne (x : CoreSt) {n m : Nat} (cause : Cause) (h : m ≠ n) :
    (x.latch n cause).counters.at m = x.counters.at m := by
  simp [CoreSt.latch, Tab.at_upd_ne _ _ h]

/-- An operation that fails before it joins the engine: counted, its cause shown and latched. -/
theorem CoreSt.endMatrix_failed (x : CoreSt) (op : MatOp) {cause : Cause} (hc : cause ≠ 0) :
    x.endMatrix op false cause =
      (x.modMx (fun m => { m with ended := m.ended + 1, lastFail := cause })).latch (MDesc.ofNat op.desc.toNat).counter cause := by
  simp only [CoreSt.endMatrix, hc, if_false, Bool.false_eq_true]

/-- An operation keeps the descriptor as it was read. -/
theorem State.matrixOp_desc (s : State) (core q : Nat) {bs : List Byte} (h : bs.length = 64) :
    (s.matrixOp core q (leNat bs)).desc.toNat = leNat bs := by
  have hlt := leNat_lt bs
  rw [h, show 256 = 2 ^ 8 from rfl, ← Nat.pow_mul, show 8 * 64 = 512 from rfl] at hlt
  rw [State.matrixOp, BitVec.toNat_ofNat, Nat.mod_eq_of_lt hlt]

/-- Settles O6: an entry that passes the checks adds one operation, and any other ends with its cause. -/
theorem matrixEntryQueues : Obligations.MatrixEntryQueues := by
  intro s t u core q e bs hready hentry hread p hp hkind y cause hreads
  rw [exec_matrix_ready hready hentry p hp]
  obtain ⟨hmx, hctr, hpos, honly⟩ := State.matrixReads_core (core_lt_of_readOwn hread) hreads
  have hframe (f : CoreSt → CoreSt) : Safety.OnlyCore core s (y.modCore core f) :=
    OnlyCore.trans (OnlyCore.ready hready) (OnlyCore.trans (OnlyCore.readOwn hread) (OnlyCore.trans honly (OnlyCore.modCore core y f)))
  constructor
  · intro ra rb hc hok
    rw [State.actMatrix_queued hread hkind hreads hc hok]
    refine ⟨_, { u.matrixOp core q (leNat bs) with rateA := ra, rateB := rb }, rfl, rfl, rfl, rfl, rfl, rfl, ?_, ?_, ?_, hframe _⟩
    · rw [State.core_modCore_self, ← hmx]
      rfl
    · rw [State.core_modCore_self, ← hctr]
      rfl
    · rw [← hpos]
      simp [State.queue, CoreSt.modMx]
  · intro hfail
    have hne : (if cause = 0 then Cause.planReject else cause) ≠ 0 := by
      split
      · decide
      · assumption
    rw [State.actMatrix_failed hread hkind hreads hfail]
    refine ⟨_, rfl, ?_⟩
    rw [State.core_modCore_self, CoreSt.endMatrix_failed _ _ hne, State.matrixOp_desc _ _ _ (State.readOwn_length hread), ← hmx, ← hctr]
    exact ⟨rfl, rfl, rfl, CoreSt.latch_value _ _ _ _, CoreSt.latch_cause _, fun n => CoreSt.latch_counter_ne _ _, hframe _⟩

end Sys2Proof.Machine
end

section
/-! PROOFS. SRAM of a core with no word in error: what a region reads as after the writes of one action, and what reads and writes leave
unchanged. -/

namespace Sys2Proof.Machine

open Sys2Proof

/-! ## A region that memory holds -/

theorem cellRun_skip {m : Memory} {a : Nat} (n : Nat) (h : ∀ c ∈ m, a < c.1) : cellRun m a (n + 1) = 0 :: cellRun m (a + 1) n := by
  cases m with
  | nil => cases n <;> rfl
  | cons c m =>
    have hne : c.1 ≠ a := Nat.ne_of_gt (h c (by simp))
    rw [cellRun, if_neg hne]

/-- Cells read as the bytes they were made of. -/
theorem cellRun_cells (a : Nat) (bs : List Byte) {m : Memory} (h : ∀ c ∈ m, a + bs.length ≤ c.1) :
    cellRun (cells a bs ++ m) a bs.length = bs := by
  induction bs generalizing a with
  | nil => cases m <;> rfl
  | cons b bs ih =>
    have hlater := ih (a + 1) (by simpa [Nat.add_assoc, Nat.add_comm] using h)
    unfold cells
    split
    · rename_i hb
      rw [List.length_cons, cellRun_skip, hlater, hb]
      intro c hc
      rcases List.mem_append.1 hc with hc | hc
      · exact (cells_ge (a + 1) bs c hc).1
      · have := h c hc
        rw [List.length_cons] at this
        omega
    · rw [List.cons_append, List.length_cons, cellRun, if_pos rfl, hlater]

/-- Memory holds bytes at an address: their cells stand between the cells before and the cells after the region. -/
def Memory.Holds (m : Memory) (a : Nat) (bs : List Byte) : Prop :=
  ∃ l r : Memory, m = l ++ cells a bs ++ r ∧ (∀ c ∈ l, c.1 < a) ∧ ∀ c ∈ r, a + bs.length ≤ c.1

theorem Memory.read_of_holds {m : Memory} {a : Nat} {bs : List Byte} (h : m.Holds a bs) : m.read a bs.length = bs := by
  obtain ⟨l, r, rfl, hl, hr⟩ := h
  have hdrop : (l ++ cells a bs ++ r).dropWhile (fun c => c.1 < a) = cells a bs ++ r := by
    have hge : ∀ c ∈ cells a bs ++ r, ¬ c.1 < a := fun c hc => (List.mem_append.1 hc).elim
      (fun hc => Nat.not_lt.2 (cells_ge a bs c hc).1) (fun hc => Nat.not_lt.2 (Nat.le_of_add_right_le (hr c hc)))
    rw [List.append_assoc, List.dropWhile_append_of_pos (by simpa using hl), List.dropWhile_eq_self_iff]
    exact fun hlen => by simpa using hge _ (List.getElem_mem hlen)
  rw [Memory.read, hdrop, cellRun_cells a bs hr]

theorem Memory.holds_write (m : Memory) (a : Nat) (bs : List Byte) : (m.write a bs).Holds a bs :=
  ⟨_, _, rfl, fun c hc => by simpa using (List.mem_filter.1 hc).2, fun c hc => by simpa using (List.mem_filter.1 hc).2⟩

/-- A write beside a region leaves what memory holds there. -/
theorem Memory.Holds.write_apart {m : Memory} {a b : Nat} {bs cs : List Byte} (h : m.Holds a bs)
    (hab : b + cs.length ≤ a ∨ a + bs.length ≤ b) : (m.write b cs).Holds a bs := by
  obtain ⟨l, r, rfl, hl, hr⟩ := h
  have hkeep (p : Host.Cell → Bool) (xs : Memory) (hp : ∀ c ∈ xs, p c = true) : xs.filter p = xs := List.filter_eq_self.2 hp
  have hdrop (p : Host.Cell → Bool) (xs : Memory) (hp : ∀ c ∈ xs, ¬ p c = true) : xs.filter p = [] := List.filter_eq_nil_iff.2 hp
  have hcells := cells_ge a bs
  have hcells' := cells_ge b cs
  rcases hab with hab | hab
  · refine ⟨l.filter (fun c => c.1 < b) ++ cells b cs ++ l.filter (fun c => b + cs.length ≤ c.1), r, ?_, fun c hc => ?_, hr⟩
    · rw [Memory.write]
      simp only [List.filter_append]
      rw [hdrop _ (cells a bs) (fun c hc => ?_), hdrop _ r (fun c hc => ?_), hkeep _ (cells a bs) (fun c hc => ?_), hkeep _ r (fun c hc => ?_)]
      · simp
      · have := hr c hc; simp; omega
      · have := hcells c hc; simp; omega
      · have := hr c hc; simp; omega
      · have := hcells c hc; simp; omega
    · simp only [List.mem_append, List.mem_filter] at hc
      rcases hc with (hc | hc) | hc
      · exact hl c hc.1
      · have := hcells' c hc; omega
      · exact hl c hc.1
  · refine ⟨l, r.filter (fun c => c.1 < b) ++ cells b cs ++ r.filter (fun c => b + cs.length ≤ c.1), ?_, hl, fun c hc => ?_⟩
    · rw [Memory.write]
      simp only [List.filter_append]
      rw [hkeep _ l (fun c hc => ?_), hkeep _ (cells a bs) (fun c hc => ?_), hdrop _ l (fun c hc => ?_), hdrop _ (cells a bs) (fun c hc => ?_)]
      · simp
      · have := hcells c hc; simp; omega
      · have := hl c hc; simp; omega
      · have := hcells c hc; simp; omega
      · have := hl c hc; simp; omega
    · simp only [List.mem_append, List.mem_filter] at hc
      rcases hc with (hc | hc) | hc
      · exact hr c hc.1
      · have := hcells' c hc; omega
      · exact hr c hc.1

/-! ## The writes of one action (R230, R364) -/

/-- A write that has bytes is stored. -/
def State.store (s : State) (w : Nat × List Byte) : State := s.when (!w.2.isEmpty) (·.poke w.1 w.2)

/-- The writes of one action, stored in order. -/
def State.stores (s : State) (ws : List (Nat × List Byte)) : State := s.each ws State.store

/-- A region lies apart from a write. -/
def Apart (a n : Nat) (w : Nat × List Byte) : Prop := w.1 + w.2.length ≤ a ∨ a + n ≤ w.1

section
variable (s : State) (w : Nat × List Byte) (ws : List (Nat × List Byte))

theorem State.store_eq : s.store w = { s with mem := (s.store w).mem } := by
  unfold State.store State.when
  split <;> rfl

theorem State.stores_cons : s.stores (w :: ws) = (s.store w).stores ws := rfl

theorem State.stores_eq : s.stores ws = { s with mem := (s.stores ws).mem } := by
  induction ws generalizing s with
  | nil => rfl
  | cons w ws ih =>
    rw [State.stores_cons, ih (s.store w), s.store_eq w]

@[simp] theorem State.stores_core (k : Nat) : (s.stores ws).core k = s.core k := by rw [s.stores_eq ws]; rfl
@[simp] theorem State.stores_tiers : (s.stores ws).tiers = s.tiers := by rw [s.stores_eq ws]

/-- A byte apart from a write stays. -/
theorem State.store_byte_apart {a : Nat} (h : Apart a 1 w) : (s.store w).mem.byte a = s.mem.byte a := by
  unfold State.store State.when
  split
  · exact Memory.byte_write_out _ _ (h.symm)
  · rfl

theorem State.stores_byte_apart {a : Nat} (h : ∀ w ∈ ws, Apart a 1 w) : (s.stores ws).mem.byte a = s.mem.byte a := by
  induction ws generalizing s with
  | nil => rfl
  | cons w ws ih =>
    obtain ⟨hw, hws⟩ := List.forall_mem_cons.1 h
    rw [State.stores_cons, ih (s.store w) hws, s.store_byte_apart w hw]

/-- The last write of a region that later writes lie apart from is what it reads as. -/
theorem State.stores_holds {a : Nat} {bs : List Byte} (h : s.mem.Holds a bs) (hws : ∀ w ∈ ws, Apart a bs.length w) :
    (s.stores ws).mem.Holds a bs := by
  induction ws generalizing s with
  | nil => exact h
  | cons w ws ih =>
    obtain ⟨hw, hws⟩ := List.forall_mem_cons.1 hws
    rw [State.stores_cons]
    refine ih (s.store w) ?_ hws
    unfold State.store State.when
    split
    · exact h.write_apart hw
    · exact h

end

/-- A region that later writes lie apart from reads as it was written. -/
theorem State.stores_peek (s : State) {ws : List (Nat × List Byte)} (hws : ws.Pairwise (fun w x => Apart w.1 w.2.length x)) {w : Nat × List Byte}
    (hw : w ∈ ws) : (s.stores ws).peek w.1 w.2.length = w.2 := by
  induction ws generalizing s with
  | nil => cases hw
  | cons x ws ih =>
    obtain ⟨hx, hws⟩ := List.pairwise_cons.1 hws
    rw [State.stores_cons]
    rcases List.mem_cons.1 hw with rfl | hw
    · cases hb : w.2.isEmpty with
      | true =>
        rw [List.isEmpty_iff.1 hb]
        exact List.eq_nil_of_length_eq_zero (State.peek_length ..)
      | false =>
        refine Memory.read_of_holds (State.stores_holds _ ws ?_ hx)
        rw [State.store, hb]
        exact Memory.holds_write s.mem w.1 w.2
    · exact ih (s.store x) hws hw

section
variable {s : State} {core : Nat} (hs : s.tiers.wordErrs = []) (hc : core < 1024)
include hs

theorem State.writeMem_store {w : Nat × List Byte} (hw : addrSpace w.1 = 0) : s.writeMem w.1 w.2 = (s.store w, 0) := by
  unfold State.store
  cases hb : w.2.isEmpty with
  | true => simp [State.writeMem, hb]
  | false => exact s.writeMem_clean _ _ hs (by omega) (by omega) (by simpa using hb)

/-- With no SRAM word in error every write of an action is stored. -/
theorem State.writeAll_stores {ws : List (Nat × List Byte)} (hws : ∀ w ∈ ws, addrSpace w.1 = 0) : s.writeAll ws = (s.stores ws, 0) := by
  induction ws generalizing s with
  | nil => rfl
  | cons w ws ih =>
    obtain ⟨hw, hws⟩ := List.forall_mem_cons.1 hws
    have hrest : (s.store w).tiers.wordErrs = [] := by rw [s.store_eq w]; exact hs
    rw [State.writeAll, State.writeMem_store hs hw]
    exact ih hrest hws

theorem State.writeWhole_stores {ws : List (Nat × List Byte)} (hws : ∀ w ∈ ws, addrSpace w.1 = 0) : s.writeWhole ws = (s.stores ws, 0) := by
  rw [State.writeWhole, State.writeAll_stores hs hws]
  rfl

include hc

theorem State.readMem_sram {off : Nat} (ho : off < 2 ^ 42) (n : Nat) :
    s.readMem (sramAddr core off) n = (s, .ok (s.peek (sramAddr core off) n)) := by
  have hspace := addrSpace_sramAddr hc ho
  exact s.readMem_clean _ _ hs (by omega) (by omega)

theorem State.kernelRead_clean {off n : Nat} (ho : off + n ≤ 2 ^ 25) :
    s.kernelRead core off n = (s, .ok (s.peek (sramAddr core off) n)) := by
  rw [State.kernelRead, if_pos ho, State.readMem_sram hs hc (by omega)]

end

end Sys2Proof.Machine
end

section
/-! PROOFS. The instructions of a running kernel (O9 to O11): what completes or fails an instruction, the 256 lanes of a tile as a
function of the lane, and then each instruction as a short use of these rules. -/

namespace Sys2Proof.Machine

open Sys2Proof

/-! ## An instruction completes (R231, R235, R236, R241) -/

/-- The running kernel of a core stands before an instruction that passes the checks of R236. -/
structure State.Runs (s : State) (core : Nat) (r : Running) (i : VInstr) : Prop where
  run : (s.core core).vx.run = some r
  instr : VInstr.ofNat ((s.core core).kernelRegion.at r.pc).toNat = i
  ok : i.ok = true

theorem State.runs_of_fetched {s : State} {core : Nat} {r : Running} {i : VInstr} (h : Safety.Fetched s core r i) : s.Runs core r i :=
  by
  obtain ⟨hrun, hinstr, hok, -⟩ := h
  exact ⟨hrun, hinstr, hok⟩

theorem pc_lt_of_fetched {s : State} {core : Nat} {r : Running} {i : VInstr} (h : Safety.Fetched s core r i) : r.pc < 8191 := by
  obtain ⟨-, -, -, hpc⟩ := h
  exact hpc

/-- The place after an instruction. -/
def VOut.next (o : VOut) (r : Running) : Nat := o.jump.getD (r.pc + 1)

/-- The running kernel after an instruction: its place, whether a token was taken, and its cause bits. -/
def Running.after (r : Running) (i : VInstr) (o : VOut) : Running :=
  { r with pc := o.next r, took := 0 < r.cost i o.more, flags := r.flags ||| BitVec.ofNat 7 o.flags,
           firstInstr := if r.flags = 0 && BitVec.ofNat 7 o.flags ≠ 0 then r.pc else r.firstInstr }

/-- The vector engine after an instruction. -/
def VOut.engine (o : VOut) (r : Running) (i : VInstr) : VectorEngine :=
  { o.v with run := some (r.after i o), tokens := o.v.tokens + BitVec.ofNat 64 (r.cost i o.more),
             flagsOr := o.v.flagsOr ||| BitVec.ofNat 7 o.flags }

/-- A core that takes a tap contribution, if there is one. -/
def CoreSt.takeTap (x : CoreSt) (t : Option (Nat × Nat × List Val)) : CoreSt :=
  match t with | some (set, kind, vs) => x.tap set kind vs 0 | none => x

/-- A core that feeds a scale to a recipe, if there is one. -/
def CoreSt.takeScale (x : CoreSt) (f : Option (Nat × Byte)) : CoreSt :=
  match f with | some (n, sc) => x.feedRecipe n (some sc) | none => x

/-- A core after an instruction. -/
def CoreSt.complete (x : CoreSt) (r : Running) (i : VInstr) (o : VOut) : CoreSt :=
  ({ x with vx := o.engine r i }.takeTap o.tap).takeScale o.recipe

theorem State.retire_eq (s : State) (core : Nat) (r : Running) (i : VInstr) (o : VOut) :
    s.retire core r i o = if o.ends then (s.modCore core (·.complete r i o)).modCore core (·.endKernel { r.after i o with pc := r.pc } 0)
      else if 8191 < o.next r then (s.modCore core (·.complete r i o)).failKernel core { r.after i o with pc := 8191 } Cause.planReject
      else s.modCore core (·.complete r i o) := rfl

section
variable (x : CoreSt) (r : Running) (i : VInstr) (o : VOut)

@[simp] theorem CoreSt.takeTap_vx (t : Option (Nat × Nat × List Val)) : (x.takeTap t).vx = x.vx := by
  unfold CoreSt.takeTap CoreSt.tap
  split
  · split <;> rfl
  · rfl
@[simp] theorem CoreSt.takeTap_counters (t : Option (Nat × Nat × List Val)) : (x.takeTap t).counters = x.counters := by
  unfold CoreSt.takeTap CoreSt.tap
  split
  · split <;> rfl
  · rfl
@[simp] theorem CoreSt.takeScale_vx (f : Option (Nat × Byte)) : (x.takeScale f).vx = x.vx := by
  cases f <;> rfl
@[simp] theorem CoreSt.takeScale_counters (f : Option (Nat × Byte)) : (x.takeScale f).counters = x.counters := by
  cases f <;> rfl

@[simp] theorem CoreSt.complete_vx : (x.complete r i o).vx = o.engine r i := by simp [CoreSt.complete]
@[simp] theorem CoreSt.complete_counters : (x.complete r i o).counters = x.counters := by simp [CoreSt.complete]

@[simp] theorem VOut.engine_run : (o.engine r i).run = some (r.after i o) := rfl
@[simp] theorem VOut.engine_tile (t : Nat) : (o.engine r i).tile t = o.v.tile t := rfl
@[simp] theorem VOut.engine_pred (p : Nat) : (o.engine r i).pred p = o.v.pred p := rfl
@[simp] theorem VOut.engine_scalar (n : Nat) : (o.engine r i).scalar n = o.v.scalar n := rfl
@[simp] theorem VOut.engine_banks : (o.engine r i).banks = o.v.banks := rfl
@[simp] theorem VOut.engine_ended : (o.engine r i).ended = o.v.ended := rfl

end

/-- An instruction whose work and writes succeed retires. -/
theorem State.vector_retires {s t u : State} {core op : Nat} {r : Running} {i : VInstr} {o : VOut}
    {act : State → Running → VInstr → VectorEngine → Res VOut} (h : s.Runs core r i) (ho : i.op = op)
    (ha : act s r i (s.core core).vx = (t, .ok o)) (hw : t.writeWhole o.writes = (u, 0)) :
    s.vector core op act = u.retire core r i o := by
  unfold State.vector
  simp only [h.run, h.instr, h.ok, ho, ha, hw, ne_eq, not_true_eq_false, if_false, Bool.not_true, Bool.false_eq_true]
  rfl

/-- An instruction whose work fails ends its kernel. -/
theorem State.vector_fails {s t : State} {core op : Nat} {r : Running} {i : VInstr} {c : Cause}
    {act : State → Running → VInstr → VectorEngine → Res VOut} (h : s.Runs core r i) (ho : i.op = op)
    (ha : act s r i (s.core core).vx = (t, .error c)) : s.vector core op act = t.failKernel core r c := by
  unfold State.vector
  simp only [h.run, h.instr, h.ok, ho, ha, ne_eq, not_true_eq_false, if_false, Bool.not_true, Bool.false_eq_true]

/-- Before instruction 8 191 an instruction that does not end its kernel leaves the core complete. -/
theorem State.vector_completes {s t u : State} {core op : Nat} {r : Running} {i : VInstr} {o : VOut}
    {act : State → Running → VInstr → VectorEngine → Res VOut} (h : Safety.Fetched s core r i) (ho : i.op = op)
    (ha : act s r i (s.core core).vx = (t, .ok o)) (hw : t.writeWhole o.writes = (u, 0)) (he : o.ends = false) (hj : o.next r ≤ 8191) :
    s.vector core op act = u.modCore core (·.complete r i o) := by
  rw [State.vector_retires (State.runs_of_fetched h) ho ha hw, State.retire_eq, he, if_neg Bool.false_ne_true, if_neg (Nat.not_lt.2 hj)]

theorem State.writeWhole_nil (s : State) : s.writeWhole [] = (s, 0) := rfl

/-- A core complete after an instruction whose tokens are its own has retired it. -/
theorem retired_complete {s : State} (t : State) {core pc : Nat} {r : Running} {i : VInstr} {o : VOut} (ht : Safety.OnlyCore core s t)
    (hv : o.v.tokens = (s.core core).vx.tokens) (hm : o.more = 0) (hj : o.next r = pc) :
    Safety.Retired s (t.modCore core (·.complete r i o)) core r i pc := by
  refine ⟨?_, ?_, OnlyCore.trans ht (OnlyCore.modCore core t _)⟩
  · simp [Running.after, hj]
  · simp [VOut.engine, hv, hm]

/-! ## Lanes: a tile, an operand and a predicate as functions of the lane (R223, R231, R233) -/

theorem zip_map_range {α β : Type} (n : Nat) (f : Nat → α) (g : Nat → β) :
    ((List.range n).map f).zip ((List.range n).map g) = (List.range n).map (fun l => (f l, g l)) := List.zip_map' ..

theorem zipIdx_map_range {α : Type} (n : Nat) (f : Nat → α) :
    ((List.range n).map f).zipIdx = (List.range n).map (fun l => (f l, l)) := by
  refine List.ext_getElem (by simp) fun l _ _ => ?_
  simp

theorem getD_map_range {α : Type} (f : Nat → α) (d : α) {n l : Nat} (h : l < n) : ((List.range n).map f).getD l d = f l := by
  simp [h]

theorem eq_map_range {α : Type} {n : Nat} {xs : List α} (d : α) (h : xs.length = n) : xs = (List.range n).map (xs.getD · d) := by
  refine List.ext_getElem (by simp [h]) fun l h₁ _ => ?_
  simp [h₁]

/-- A list cut or padded with 0 to `n` reads as before. -/
theorem getD_padded {α : Type} (xs : List α) (d : α) {n l : Nat} (h : l < n) : ((xs ++ List.replicate n d).take n).getD l d = xs.getD l d := by
  simp only [List.getD_eq_getElem?_getD, List.getElem?_take, h, if_true, List.getElem?_append]
  split
  · rfl
  · rename_i hx
    rw [List.getElem?_eq_none (Nat.not_lt.1 hx), List.getElem?_replicate]
    split <;> rfl

section
variable (v : VectorEngine) (i : VInstr)

theorem VectorEngine.tile_length (t : Nat) : (v.tile t).length = 256 := by
  rw [VectorEngine.tile, List.length_take, List.length_append, List.length_replicate]
  omega

theorem VectorEngine.tile_eq (t : Nat) : v.tile t = (List.range 256).map (Safety.lane v t) := eq_map_range 0 (v.tile_length t)

/-- Lane `l` is active (R233). -/
def VectorEngine.on (l : Nat) : Bool := !i.pe || (v.pred i.pr).getLsbD l

theorem VectorEngine.on_iff (l : Nat) : v.on i l = true ↔ Safety.Active v i l := by
  simp [VectorEngine.on, Safety.Active]

theorem VectorEngine.active_eq : v.active i = (List.range 256).map (v.on i) := by
  unfold VectorEngine.active VectorEngine.on
  cases i.pe <;> simp

theorem VectorEngine.operandB_eq : v.operandB i = (List.range 256).map (Safety.laneB v i) := by
  unfold VectorEngine.operandB Safety.laneB
  cases i.bs
  · exact v.tile_eq i.b
  · simp

/-- What a lane reads as after its tile is set. -/
theorem VectorEngine.lane_setTile_self (t : Nat) (ws : List Word) {l : Nat} (hl : l < 256) : Safety.lane (v.setTile t ws) t l = ws.getD l 0 := by
  have hzero (h : ws.all (· == 0) = true) : ws.getD l 0 = 0 := by
    rw [List.getD_eq_getElem?_getD]
    cases hw : ws[l]? with
    | none => rfl
    | some w => simpa using List.all_eq_true.1 h w (List.mem_of_getElem? hw)
  unfold Safety.lane VectorEngine.tile
  rw [getD_padded _ _ hl]
  unfold VectorEngine.setTile
  dsimp only
  rw [Tab.at_set_self]
  split
  · rename_i h
    exact (hzero h).symm
  · rfl

theorem VectorEngine.tile_setTile_ne {t k : Nat} (ws : List Word) (h : k ≠ t) : (v.setTile t ws).tile k = v.tile k := by
  rw [VectorEngine.tile, VectorEngine.setTile, Tab.at_set_ne _ _ h]
  rfl

@[simp] theorem VectorEngine.setTile_pred (t p : Nat) (ws : List Word) : (v.setTile t ws).pred p = v.pred p := rfl
@[simp] theorem VectorEngine.setTile_scalar (t n : Nat) (ws : List Word) : (v.setTile t ws).scalar n = v.scalar n := rfl
@[simp] theorem VectorEngine.setTile_banks (t : Nat) (ws : List Word) : (v.setTile t ws).banks = v.banks := rfl
@[simp] theorem VectorEngine.setTile_tokens (t : Nat) (ws : List Word) : (v.setTile t ws).tokens = v.tokens := rfl
@[simp] theorem VectorEngine.setTile_flagsOr (t : Nat) (ws : List Word) : (v.setTile t ws).flagsOr = v.flagsOr := rfl

end

theorem orAll_testBit (xs : List Nat) (k : Nat) : (orAll xs).testBit k = xs.any (·.testBit k) := by
  have hacc (a : Nat) : (xs.foldl (· ||| ·) a).testBit k = (a.testBit k || xs.any (·.testBit k)) := by
    induction xs generalizing a with
    | nil => simp
    | cons x xs ih => simp [ih, Bool.or_assoc]
  rw [orAll, hacc, Nat.zero_testBit, Bool.false_or]

/-- Predication lane by lane: an active lane takes its new value and flags. -/
theorem mergeLanes_map_range (zm : Bool) (n : Nat) (on : Nat → Bool) (old : Nat → Word) (new : Nat → Flagged Word) :
    mergeLanes zm ((List.range n).map on) ((List.range n).map old) ((List.range n).map new) =
      ((List.range n).map (fun l => if on l then (new l).1 else if zm then 0 else old l),
        orAll ((List.range n).map (fun l => if on l then (new l).2 else 0))) := by
  simp only [mergeLanes, zip_map_range, List.map_map]
  refine Prod.ext (List.map_congr_left fun l _ => ?_) (congrArg orAll (List.map_congr_left fun l _ => ?_))
  · cases h : on l <;> simp [h]
  · cases h : on l <;> simp [h]

/-! ## Instructions that write T[D] lane by lane (O9) -/

/-- What an instruction whose lanes are `g` leaves of the vector engine `v` and of its core's counters. -/
def LanesWritten (s u : State) (core : Nat) (i : VInstr) (v : VectorEngine) (g : Nat → Flagged Word) : Prop :=
  (∀ l, l < 256 → (Safety.Active v i l → Safety.lane (u.core core).vx i.d l = (g l).1) ∧
    (¬ Safety.Active v i l → Safety.lane (u.core core).vx i.d l = if i.zm then 0 else Safety.lane v i.d l)) ∧
  (∀ k, k < 7 → ((u.core core).vx.flagsOr.getLsbD k = true ↔
    (v.flagsOr.getLsbD k = true ∨ ∃ l, l < 256 ∧ Safety.Active v i l ∧ (g l).2.testBit k = true))) ∧
  (∀ t, t ≠ i.d → (u.core core).vx.tile t = v.tile t) ∧ Safety.SamePreds v (u.core core).vx ∧ Safety.SameScalars v (u.core core).vx ∧
  (u.core core).vx.banks = v.banks ∧ (u.core core).counters = (s.core core).counters

/-- The effect of an instruction that gives T[D] new lanes. -/
def VectorEngine.laneOut (v : VectorEngine) (i : VInstr) (new : List (Flagged Word)) : VOut :=
  { v := v.setTile i.d (mergeLanes i.zm (v.active i) (v.tile i.d) new).1, flags := (mergeLanes i.zm (v.active i) (v.tile i.d) new).2 }

theorem VectorEngine.laneOut_map_range (v : VectorEngine) (i : VInstr) (g : Nat → Flagged Word) :
    v.laneOut i ((List.range 256).map g) =
      { v := v.setTile i.d ((List.range 256).map (fun l => if v.on i l then (g l).1 else if i.zm then 0 else Safety.lane v i.d l)),
        flags := orAll ((List.range 256).map (fun l => if v.on i l then (g l).2 else 0)) } := by
  rw [VectorEngine.laneOut, v.active_eq, v.tile_eq, mergeLanes_map_range]

/-- A core complete after an instruction that gave T[D] the lanes `g`. -/
theorem lanesWritten_complete (s : State) (core : Nat) (r : Running) (i : VInstr) (v : VectorEngine) (g : Nat → Flagged Word) :
    LanesWritten s (s.modCore core (·.complete r i (v.laneOut i ((List.range 256).map g)))) core i v g := by
  unfold LanesWritten
  simp only [State.core_modCore_self, CoreSt.complete_vx, v.laneOut_map_range]
  refine ⟨fun l hl => ?_, fun k hk => ?_, fun t ht => v.tile_setTile_ne _ ht, fun _ => rfl, fun _ => rfl, rfl, CoreSt.complete_counters ..⟩
  · have hlane := (v.lane_setTile_self i.d _ hl).trans
      (getD_map_range (fun l => if v.on i l then (g l).1 else if i.zm then 0 else Safety.lane v i.d l) 0 hl)
    rw [← v.on_iff]
    exact ⟨fun h => hlane.trans (if_pos h), fun h => hlane.trans (if_neg h)⟩
  · have hflag : (orAll ((List.range 256).map (fun l => if v.on i l then (g l).2 else 0))).testBit k = true ↔
        ∃ l, l < 256 ∧ Safety.Active v i l ∧ (g l).2.testBit k = true := by
      simp only [orAll_testBit, List.any_map, List.any_eq_true, List.mem_range, Function.comp_apply, ← v.on_iff]
      refine exists_congr fun l => and_congr_right fun _ => ?_
      cases v.on i l <;> simp
    rw [← hflag, VOut.engine, BitVec.getLsbD_or, BitVec.getLsbD_ofNat, decide_eq_true hk, Bool.true_and, Bool.or_eq_true,
      VectorEngine.setTile_flagsOr]

section
variable {s : State} {core op : Nat} {r : Running} {i : VInstr} {v : VectorEngine} {c : Instr} (h : Safety.Fetched s core r i)
  (hv : v = (s.core core).vx) (ho : i.op = op)
include h hv ho

/-- A command whose work, in the state it begins in, gives T[D] the lanes `g`. -/
theorem exec_lanes {act : State → Running → VInstr → VectorEngine → Res VOut} {g : Nat → Flagged Word}
    (hc : exec c s = .next (s.vector core op act)) (hl : act s r i v = (s, .ok (v.laneOut i ((List.range 256).map g)))) :
    ∃ u, exec c s = .next u ∧ Safety.Retired s u core r i (r.pc + 1) ∧ LanesWritten s u core i v g := by
  have heq : s.vector core op act = s.modCore core (·.complete r i (v.laneOut i ((List.range 256).map g))) :=
    State.vector_completes h ho (hv ▸ hl) s.writeWhole_nil rfl (pc_lt_of_fetched h)
  rw [hc, heq]
  refine ⟨_, rfl, retired_complete s (OnlyCore.refl core s) ?_ rfl rfl, lanesWritten_complete s core r i v g⟩
  rw [v.laneOut_map_range, ← hv]
  rfl

/-- A command that writes no memory and goes on at `pc`. -/
theorem exec_registers {act : State → Running → VInstr → VectorEngine → Res VOut} {t : State} {o : VOut} {pc : Nat}
    (hc : exec c s = .next (s.vector core op act)) (ha : act s r i v = (t, .ok o)) (ht : Safety.OnlyCore core s t)
    (hcore : t.core core = s.core core) (hw : o.writes = []) (he : o.ends = false) (hj : o.next r = pc) (hpc : pc ≤ 8191)
    (htok : o.v.tokens = v.tokens) (hm : o.more = 0) :
    ∃ u, exec c s = .next u ∧ Safety.Retired s u core r i pc ∧ u.core core = (s.core core).complete r i o := by
  subst hv hj
  rw [hc, State.vector_completes h ho ha (by rw [hw]; exact t.writeWhole_nil) he hpc]
  exact ⟨_, rfl, retired_complete t ht htok hm rfl, by rw [State.core_modCore_self, hcore]⟩

/-- A command that gives P[D] the bits `b`. -/
theorem exec_pred {act : State → Running → VInstr → VectorEngine → Res VOut} {b : BitVec 256} {f : Nat}
    (hc : exec c s = .next (s.vector core op act)) (ha : act s r i v = (s, .ok { v := v.setPred i.d b, flags := f })) :
    ∃ u, exec c s = .next u ∧ Safety.Retired s u core r i (r.pc + 1) ∧ (u.core core).vx.pred i.d = b ∧
      (∀ p, p ≠ i.d → (u.core core).vx.pred p = v.pred p) ∧ Safety.SameTiles v (u.core core).vx ∧ Safety.SameScalars v (u.core core).vx := by
  obtain ⟨u, hu, hr, hcore⟩ := exec_registers h hv ho hc ha (OnlyCore.refl core s) rfl rfl rfl rfl (pc_lt_of_fetched h) rfl rfl
  refine ⟨u, hu, hr, ?_⟩
  rw [hcore, CoreSt.complete_vx]
  exact ⟨Tab.at_set_self .., fun p hp => Tab.at_set_ne _ _ hp, fun _ => rfl, fun _ => rfl⟩

/-- A command that gives S[D] the value `x`. -/
theorem exec_scalar {act : State → Running → VInstr → VectorEngine → Res VOut} {x : Word64} (hc : exec c s = .next (s.vector core op act))
    (ha : act s r i v = (s, .ok { v := v.setScalar i.d x })) :
    ∃ u, exec c s = .next u ∧ Safety.Retired s u core r i (r.pc + 1) ∧ (u.core core).vx.scalar i.d = x ∧
      (∀ n, n ≠ i.d → (u.core core).vx.scalar n = v.scalar n) ∧ Safety.SameTiles v (u.core core).vx ∧ Safety.SamePreds v (u.core core).vx := by
  obtain ⟨u, hu, hr, hcore⟩ := exec_registers h hv ho hc ha (OnlyCore.refl core s) rfl rfl rfl rfl (pc_lt_of_fetched h) rfl rfl
  refine ⟨u, hu, hr, ?_⟩
  rw [hcore, CoreSt.complete_vx]
  exact ⟨Tab.at_set_self .., fun p hp => Tab.at_set_ne _ _ hp, fun _ => rfl, fun _ => rfl⟩

end

/-- A command works lane by lane, and its lanes are those of a function of the lane. -/
def IsLaneRule (s : State) (core : Nat) (i : VInstr) (v : VectorEngine) (p : Instr × Nat × (Nat → Flagged Word)) : Prop :=
  ∃ lanes : VInstr → VectorEngine → List (Flagged Word), exec p.1 s = .next (s.vectorLanes core p.2.1 lanes) ∧
    lanes i v = (List.range 256).map p.2.2

section
variable {s : State} {core op : Nat} {i : VInstr} {v : VectorEngine} {c : Instr}

theorem isLaneRule_vector1 (g : Nat → Word → Flagged Word) (hc : exec c s = .next (s.vector1 core op g)) :
    IsLaneRule s core i v (c, op, fun l => g i.ty (Safety.lane v i.a l)) := by
  refine ⟨_, hc, ?_⟩
  rw [v.tile_eq, List.map_map]
  rfl

theorem isLaneRule_vector2 (g : Nat → Word → Word → Flagged Word) (hc : exec c s = .next (s.vector2 core op g)) :
    IsLaneRule s core i v (c, op, fun l => g i.ty (Safety.lane v i.a l) (Safety.laneB v i l)) := by
  refine ⟨_, hc, ?_⟩
  rw [v.tile_eq, v.operandB_eq, zip_map_range, List.map_map]
  rfl

theorem isLaneRule_vectorMove (place : VInstr → Nat → Nat) (hc : exec c s = .next (s.vectorMove core op place)) :
    IsLaneRule s core i v (c, op, fun l => (Safety.lane v i.a (place i l), 0)) := ⟨_, hc, rfl⟩

theorem isLaneRule_vFma : IsLaneRule s core i v (.vFma core, 0x04,
    fun l => laneFma i.ty (Safety.lane v i.a l) (Safety.laneB v i l) (Safety.lane v (i.imm % 32) l)) := by
  refine ⟨_, rfl, ?_⟩
  rw [v.tile_eq, v.tile_eq, v.operandB_eq, zip_map_range, zip_map_range, List.map_map]
  rfl

theorem isLaneRule_vSel : IsLaneRule s core i v (.vSel core, 0x11,
    fun l => (if (v.pred (i.imm % 8)).getLsbD l then Safety.lane v i.a l else Safety.laneB v i l, 0)) := by
  refine ⟨_, rfl, ?_⟩
  rw [v.tile_eq, v.operandB_eq, zip_map_range, zipIdx_map_range, List.map_map]
  rfl

theorem isLaneRule_vIota : IsLaneRule s core i v (.vIota core, 0x1F, fun l => (BitVec.ofNat 32 l + v.low i.a, 0)) := ⟨_, rfl, rfl⟩

end

/-- Settles O9: each instruction is a rule for one lane, and a rule for one lane is written lane by lane. -/
theorem vectorLaneResults : Obligations.VectorLaneResults := by
  intro s core r i v h hv p hp ho
  obtain ⟨lanes, hc, hl⟩ : IsLaneRule s core i v p := by
    clear ho
    revert p
    simp only [List.forall_mem_cons, List.not_mem_nil, false_imp_iff, implies_true, and_true]
    exact ⟨isLaneRule_vector2 laneAdd rfl, isLaneRule_vector2 laneSub rfl, isLaneRule_vector2 laneMul rfl, isLaneRule_vFma,
      isLaneRule_vector2 laneMax rfl, isLaneRule_vector2 laneMin rfl, isLaneRule_vector1 laneAbs rfl, isLaneRule_vector1 laneNeg rfl,
      isLaneRule_vector1 (fun _ => laneFn rcpVal) rfl, isLaneRule_vector1 (fun _ => laneFn rsqrtVal) rfl,
      isLaneRule_vector1 (fun _ => laneFn exp2Val) rfl, isLaneRule_vector1 (fun _ => laneFn log2Val) rfl, isLaneRule_vSel,
      isLaneRule_vector2 (fun _ a b => (a &&& b, 0)) rfl, isLaneRule_vector2 (fun _ a b => (a ||| b, 0)) rfl,
      isLaneRule_vector2 (fun _ a b => (a ^^^ b, 0)) rfl, isLaneRule_vector2 (fun _ a b => (a <<< (b.toNat % 32), 0)) rfl,
      isLaneRule_vector2 (fun _ a b => (a >>> (b.toNat % 32), 0)) rfl,
      isLaneRule_vector2 (fun _ a b => (a.sshiftRight (b.toNat % 32), 0)) rfl,
      isLaneRule_vectorMove (fun _ l => 16 * (l % 16) + l / 16) rfl, isLaneRule_vectorMove (fun i l => 16 * fld i.imm 0 4 + l % 16) rfl,
      isLaneRule_vectorMove (fun i l => 16 * (l / 16) + fld i.imm 0 4) rfl, isLaneRule_vIota⟩
  exact exec_lanes (act := fun s _ i v => (s, .ok (v.laneOut i (lanes i v)))) h hv ho hc (by rw [hl])

/-! ## Conversions and predicate tiles (O10) -/

theorem packBits_b2n_testBit (bs : List Bool) (l : Nat) : (packBits 1 (bs.map b2n)).testBit l = bs.getD l false := by
  induction bs generalizing l with
  | nil => simp [packBits]
  | cons b bs ih =>
    have hb : b2n b % 2 ^ 1 = b.toNat := by cases b <;> rfl
    have hpack : packBits 1 ((b :: bs).map b2n) = Nat.bit b (packBits 1 (bs.map b2n)) := by
      rw [List.map_cons, packBits, hb, Nat.bit_val]
      omega
    rw [hpack]
    cases l with
    | zero => simp
    | succ l => rw [Nat.testBit_bit_succ, ih, List.getD_cons_succ]

theorem predOf_getLsbD (bs : List Bool) {l : Nat} (hl : l < 256) : (predOf bs).getLsbD l = bs.getD l false := by
  rw [predOf, BitVec.getLsbD_ofNat, decide_eq_true hl, Bool.true_and, packBits_b2n_testBit]

/-- The bits that CMP writes: the condition of an active lane, and an inactive bit kept or zeroed. -/
def VectorEngine.cmpBit (v : VectorEngine) (i : VInstr) (l : Nat) : Flagged Bool :=
  if v.on i l then laneCmp i.ty (fld i.imm 0 3) (Safety.lane v i.a l) (Safety.laneB v i l)
  else (if i.zm then false else (v.pred i.d).getLsbD l, 0)

theorem VectorEngine.cmp_map_range (v : VectorEngine) (i : VInstr) :
    ((v.active i).zip (((v.tile i.a).zip (v.operandB i)).map (fun (a, b) => laneCmp i.ty (fld i.imm 0 3) a b))).zipIdx.map
      (fun ((p, n), l) => if p then n else (if i.zm then false else (v.pred i.d).getLsbD l, 0)) = (List.range 256).map (v.cmpBit i) := by
  rw [v.active_eq, v.tile_eq, v.operandB_eq, zip_map_range, List.map_map, zip_map_range, zipIdx_map_range, List.map_map]
  rfl

/-- The immediate of PLOG names one of its four operations. -/
theorem VInstr.plog_imm_lt {i : VInstr} (h : i.ok = true) (ho : i.op = 0x18) : i.imm < 4 := by
  have himm : i.imm &&& (2 ^ 2 - 1) = i.imm := by
    simp only [VInstr.ok, ho, vRow] at h
    simp at h
    exact h.1.2
  rw [Nat.and_two_pow_sub_one_eq_mod] at himm
  omega

/-- The effect of CVT without stochastic rounding. -/
theorem cvt_lanes (v : VectorEngine) (i : VInstr) :
    ((v.tile i.a).zip (v.operandB i)).zipIdx.map
      (fun ((a, b), _) => laneCvt (fld i.imm 0 3) i.ty (bitOf i.imm 8) none none a b) =
      (List.range 256).map (fun l => laneCvt (i.imm % 8) i.ty (i.imm.testBit 8) none none (Safety.lane v i.a l) (Safety.laneB v i l)) := by
  rw [v.tile_eq, v.operandB_eq, zip_map_range, zipIdx_map_range, List.map_map]
  rfl

/-- Settles O10: each instruction by the lanes or the bits that it writes. -/
theorem vectorConversionsAndPredicates : Obligations.VectorConversionsAndPredicates := by
  intro s core r i v h hv
  refine ⟨fun ho hsr => ?_, fun ho => ?_, fun ho => ?_, fun ho => ?_⟩
  · obtain ⟨u, hu, hr, hlane, -, htile, hpred, hscalar, -⟩ := exec_lanes h hv ho (c := .vCvt core) rfl (by
      simp only [bitOf, hsr, Bool.false_and, Bool.false_eq_true, if_false]
      rw [← cvt_lanes]
      rfl)
    exact ⟨u, hu, hr, hlane, htile, hpred, hscalar⟩
  · obtain ⟨u, hu, hr, hbit, hframe⟩ := exec_pred h hv ho (c := .vCmp core) rfl rfl
    refine ⟨u, hu, hr, fun l hl => ?_, hframe⟩
    have hcmp : ((u.core core).vx.pred i.d).getLsbD l = (v.cmpBit i l).1 := by
      rw [hbit, predOf_getLsbD _ hl, v.cmp_map_range, List.map_map, getD_map_range _ _ hl]
      rfl
    rw [hcmp, ← v.on_iff, VectorEngine.cmpBit]
    refine ⟨fun hon => by rw [if_pos hon]; rfl, fun hoff => ?_⟩
    rw [if_neg hoff]
    cases i.zm <;> rfl
  · obtain ⟨u, hu, hr, hbit, hframe⟩ := exec_pred h hv ho (c := .vPlog core) rfl rfl
    refine ⟨u, hu, hr, fun l hl => ?_, hframe⟩
    have himm := VInstr.plog_imm_lt (State.runs_of_fetched h).ok ho
    have hop : fld i.imm 0 2 = i.imm := Nat.mod_eq_of_lt himm
    rw [hbit, hop]
    obtain hi | hi | hi | hi : i.imm = 0 ∨ i.imm = 1 ∨ i.imm = 2 ∨ i.imm = 3 := by omega
    · simp [hi]
    · simp [hi]
    · simp [hi]
    · simp [hi, hl]
  · obtain ⟨u, hu, hr, hbit, hframe⟩ := exec_pred h hv ho (c := .vPset core) rfl rfl
    refine ⟨u, hu, hr, fun row col hrow hcol => ?_, hframe⟩
    have hdiv : (16 * row + col) / 16 = row := by omega
    have hmod : (16 * row + col) % 16 = col := by omega
    rw [hbit, predOf_getLsbD _ (by omega), getD_map_range _ _ (by omega), hdiv, hmod, Bool.and_eq_true, decide_eq_true_iff, decide_eq_true_iff,
      fld, fld, bitsOf, bitsOf, Nat.shiftRight_eq_div_pow, Nat.shiftRight_eq_div_pow, Nat.pow_zero, Nat.div_one]
    rfl

/-! ## Scalar and control instructions (O11) -/

/-- A jump of JMP, BNZ or LOOP stays inside the kernel region (R236). -/
theorem VInstr.jump_imm_le {i : VInstr} (h : i.ok = true) (ho : i.op = 0x3A ∨ i.op = 0x3B ∨ i.op = 0x3C) : i.imm ≤ 8191 := by
  rcases ho with ho | ho | ho
  · simp only [VInstr.ok, ho, vRow] at h
    simp at h
    exact h.2
  · simp only [VInstr.ok, ho, vRow] at h
    simp at h
    exact h.2
  · simp only [VInstr.ok, ho, vRow] at h
    simp at h
    exact h.2

theorem scalar_setScalar (v : VectorEngine) (k : Nat) (x : Word64) (n : Nat) :
    (v.setScalar k x).scalar n = if n = k then x else v.scalar n := Tab.at_set v.scalars k n x

/-! ### The end of a kernel (R229, R230) -/

section
variable (x : CoreSt) {r : Running}

theorem CoreSt.endKernel_vx (r : Running) (cause : Cause) : (x.endKernel r cause).vx = { x.vx with
    run := none, ended := x.vx.ended + 1, lastFail := if cause = 0 then x.vx.lastFail else cause,
    failInstr := if cause = 0 then x.vx.failInstr else r.pc, segEnd := if r.kernel.segment then some cause else x.vx.segEnd } := by
  unfold CoreSt.endKernel
  dsimp only
  split
  · rfl
  · split <;> rfl

theorem CoreSt.endKernel_counters_done (hs : r.kernel.segment = false) :
    (x.endKernel r 0).counters = (x.advance r.counter r.increment).counters := by
  rw [CoreSt.endKernel, hs]
  rfl

theorem CoreSt.endKernel_counters_failed {cause : Cause} (hs : r.kernel.segment = false) (hc : cause ≠ 0) :
    (x.endKernel r cause).counters = (x.latch r.counter cause).counters := by
  rw [CoreSt.endKernel, hs, if_neg Bool.false_ne_true, if_neg hc]
  rfl

end

/-- The effect of END: the status word, where STATUS_EN asks for it. -/
def Running.endOut (r : Running) (core : Nat) (v : VectorEngine) : VOut :=
  { v := v, ends := true, writes := if r.statusEn then [(sramAddr core r.statusOff, leBytes 8 r.statusWord)] else [] }

section
variable {s : State} {core : Nat} {r : Running} {i : VInstr} {v : VectorEngine} (h : Safety.Fetched s core r i)
  (hv : v = (s.core core).vx)
include h hv

/-- A control instruction goes on at `pc` with the scalars of `v'`. -/
theorem exec_control {c : Instr} {act : VInstr → VectorEngine → VOut} {v' : VectorEngine} {j : Option Nat} {op pc : Nat} (ho : i.op = op)
    (hc : exec c s = .next (s.vectorPure core op act)) (hact : act i v = { v := v', jump := j }) (hj : j.getD (r.pc + 1) = pc)
    (hpc : pc ≤ 8191) (htok : v'.tokens = v.tokens) (htile : Safety.SameTiles v v') (hpred : Safety.SamePreds v v') :
    ∃ u, exec c s = .next u ∧ Safety.Retired s u core r i pc ∧ (∀ n, (u.core core).vx.scalar n = v'.scalar n) ∧
      Safety.SameTiles v (u.core core).vx ∧ Safety.SamePreds v (u.core core).vx := by
  obtain ⟨u, hu, hr, hcore⟩ := exec_registers (act := fun s _ i v => (s, .ok (act i v))) (o := { v := v', jump := j }) h hv ho hc
    (by rw [hact]) (OnlyCore.refl core s) rfl rfl rfl hj hpc htok rfl
  refine ⟨u, hu, hr, ?_⟩
  rw [hcore, CoreSt.complete_vx]
  exact ⟨fun _ => rfl, htile, hpred⟩

theorem jumps_spec : ∀ p ∈ ([(Instr.vJmp core, 0x3A, i.imm), (.vBnz core, 0x3B, if v.scalar i.a = 0 then r.pc + 1 else i.imm),
      (.vLoop core, 0x3C, if v.scalar i.a = 1 then r.pc + 1 else i.imm)] : List (Instr × Nat × Nat)), i.op = p.2.1 →
      ∃ u, exec p.1 s = .next u ∧ Safety.Retired s u core r i p.2.2 ∧
        (∀ n, (u.core core).vx.scalar n = if i.op = 0x3C ∧ n = i.a then v.scalar n - 1 else v.scalar n) ∧
        Safety.SameTiles v (u.core core).vx ∧ Safety.SamePreds v (u.core core).vx := by
  have hpc := pc_lt_of_fetched h
  have himm := VInstr.jump_imm_le (State.runs_of_fetched h).ok
  simp only [List.forall_mem_cons, List.not_mem_nil, false_imp_iff, implies_true, and_true]
  refine ⟨fun ho => ?_, fun ho => ?_, fun ho => ?_⟩
  · simp only [ho, show ¬ (0x3A = 0x3C) by decide, false_and, if_false]
    exact exec_control h hv ho rfl rfl rfl (himm (.inl ho)) rfl (fun _ => rfl) (fun _ => rfl)
  · simp only [ho, show ¬ (0x3B = 0x3C) by decide, false_and, if_false]
    refine exec_control h hv ho rfl rfl ?_ ?_ rfl (fun _ => rfl) (fun _ => rfl)
    · split <;> rfl
    · split
      · exact hpc
      · exact himm (.inr (.inl ho))
  · obtain ⟨u, hu, hr, hscalar, hframe⟩ := exec_control (c := .vLoop core) (v' := v.setScalar i.a (v.scalar i.a - 1))
      (pc := if v.scalar i.a = 1 then r.pc + 1 else i.imm) h hv ho rfl rfl
      (by
        have hone : v.scalar i.a - 1 = 0 ↔ v.scalar i.a = 1 := sub_eq_zero
        simp only [hone]
        split <;> rfl)
      (by
        split
        · exact hpc
        · exact himm (.inr (.inr ho))) rfl (fun _ => rfl) (fun _ => rfl)
    refine ⟨u, hu, hr, fun n => ?_, hframe⟩
    rw [hscalar, scalar_setScalar]
    simp only [ho, true_and]
    split
    · rename_i hn
      rw [hn]
    · rfl

end

/-- Writes below 32 MiB are all accepted. -/
theorem storeAll_ok (core : Nat) (v : VectorEngine) {ws : List (Nat × List Byte)} (h : ∀ w ∈ ws, w.1 + w.2.length ≤ 2 ^ 25) :
    storeAll core v ws = .ok { v := v, writes := ws.map (fun w => (sramAddr core w.1, w.2)) } := by
  rw [storeAll, if_pos (by simpa using h)]

section
variable {s : State} {core : Nat} {r : Running} {i : VInstr} {v : VectorEngine} (h : Safety.Fetched s core r i)
  (hv : v = (s.core core).vx) (hcore : core < 1024) (hs : s.tiers.wordErrs = [])
include h hv hcore hs

/-- An instruction that stores `ws` below 32 MiB and changes no register completes once they are stored. -/
theorem exec_stores {c : Instr} {act : State → Running → VInstr → VectorEngine → Res VOut} {op : Nat} {o : VOut}
    {ws : List (Nat × List Byte)} (ho : i.op = op) (hc : exec c s = .next (s.vector core op act)) (ha : act s r i v = (s, .ok o))
    (hw : o.writes = ws.map (fun w => (sramAddr core w.1, w.2))) (hle : ∀ w ∈ ws, w.1 + w.2.length ≤ 2 ^ 25) (he : o.ends = false)
    (hj : o.next r = r.pc + 1) :
    exec c s = .next ((s.stores o.writes).modCore core (·.complete r i o)) := by
  have hspace : ∀ w ∈ o.writes, addrSpace w.1 = 0 := by
    rw [hw]
    intro w hmem
    obtain ⟨x, hx, rfl⟩ := List.mem_map.1 hmem
    have := hle x hx
    exact addrSpace_sramAddr hcore (by omega)
  rw [hc, State.vector_completes h ho (hv ▸ ha) (State.writeWhole_stores hs hspace) he (hj ▸ pc_lt_of_fetched h)]

end

section
variable {s : State} {core : Nat} {r : Running} {i : VInstr} {v : VectorEngine} (h : Safety.Fetched s core r i)
  (hv : v = (s.core core).vx) (hcore : core < 1024) (hs : s.tiers.wordErrs = [])
include h hv hcore hs

/-- END stores the status word and then ends the kernel Done. -/
theorem exec_vEnd (ho : i.op = 0x3F) (hoff : r.statusOff + 8 ≤ 2 ^ 25) :
    exec (.vEnd core) s = .next (((s.stores (r.endOut core v).writes).modCore core (·.complete r i (r.endOut core v))).modCore core
      (·.endKernel { r.after i (r.endOut core v) with pc := r.pc } 0)) := by
  have hspace : ∀ w ∈ (r.endOut core v).writes, addrSpace w.1 = 0 := by
    unfold Running.endOut
    cases r.statusEn with
    | false => simp
    | true =>
      simp only [if_true, List.mem_singleton, forall_eq]
      exact addrSpace_sramAddr hcore (by omega)
  have hret := State.vector_retires (act := fun s r _ v => (s, .ok (r.endOut core v))) (State.runs_of_fetched h) ho (hv ▸ rfl)
    (State.writeWhole_stores hs hspace)
  exact congrArg _ (hret.trans (State.retire_eq ..))

end

/-- A byte of a number just stored. -/
theorem State.stores_leBytes_byte (s : State) (a w : Nat) {n b : Nat} (hb : b < n) :
    (s.stores [(a, leBytes n w)]).mem.byte (a + b) = BitVec.ofNat 8 (w / 256 ^ b) := by
  have hne : (leBytes n w).isEmpty = false := by
    cases n with
    | zero => omega
    | succ n => rfl
  have hstore : (s.stores [(a, leBytes n w)]).mem = s.mem.write a (leBytes n w) := by
    rw [State.stores_cons, State.store, hne]
    rfl
  rw [hstore, Memory.byte_write, leBytes_length, if_pos (by omega), Nat.add_sub_cancel_left, leBytes_getD n w b hb]

/-- A command writes a scalar, and its value is the one given. -/
def IsScalarRule (s : State) (core : Nat) (i : VInstr) (v : VectorEngine) (p : Instr × Nat × Word64) : Prop :=
  ∃ g : VInstr → VectorEngine → Word64, exec p.1 s = .next (s.vectorScalar core p.2.1 g) ∧ g i v = p.2.2

/-- Settles O11: each instruction by the registers, the place or the bytes that it writes. -/
theorem vectorScalarsAndControl : Obligations.VectorScalarsAndControl := by
  intro s core r i v h hv
  refine ⟨?_, jumps_spec h hv, ?_, ?_⟩
  · intro p hp ho
    obtain ⟨g, hc, hg⟩ : IsScalarRule s core i v p := by
      clear ho
      revert p
      simp only [List.forall_mem_cons, List.not_mem_nil, false_imp_iff, implies_true, and_true]
      exact ⟨⟨_, rfl, rfl⟩, ⟨_, rfl, rfl⟩, ⟨_, rfl, rfl⟩, ⟨_, rfl, rfl⟩, ⟨_, rfl, rfl⟩, ⟨_, rfl, rfl⟩⟩
    exact exec_scalar (act := fun s _ i v => (s, .ok { v := v.setScalar i.d (g i v) })) h hv ho hc (by rw [hg])
  · intro a ha hcore hs halign hle
    replace ha : v.immAddr i = a := ha.symm
    refine ⟨fun ho => ?_, fun ho => ?_⟩
    · obtain ⟨u, hu, hr, hx, hother, -⟩ := exec_scalar (c := .vSld core) (x := BitVec.ofNat 64 (s.peekNat (sramAddr core a) 8)) h hv ho rfl (by
        simp only [ha, halign, State.kernelRead_clean hs hcore hle]
        rfl)
      exact ⟨u, hu, hr, hx, hother⟩
    · have hstore : ∀ w ∈ [(a, leBytes 8 (v.scalar i.d).toNat)], w.1 + w.2.length ≤ 2 ^ 25 := by simpa using hle
      have hu := exec_stores (c := .vSst core) h hv hcore hs ho rfl
        (by simp only [ha, halign, storeAll_ok core v hstore]; rfl) rfl hstore rfl rfl
      refine ⟨_, hu, ?_, fun b hb => ?_, fun b hb => ?_, ?_, fun c hne => ?_⟩
      · simp [Running.after, VOut.next]
      · exact State.stores_leBytes_byte s _ _ hb
      · exact s.stores_byte_apart _ (by simp [Apart]; omega)
      · intro n
        rw [State.core_modCore_self, CoreSt.complete_vx]
        rfl
      · rw [State.core_modCore_ne _ _ hne, State.stores_core]
  · intro ho hcore hs hseg hoff
    have hu := exec_vEnd h hv hcore hs ho hoff
    have hctr : ((((s.core core).complete r i (r.endOut core v)).endKernel { r.after i (r.endOut core v) with pc := r.pc } 0).counters) =
        ((s.core core).advance r.counter r.increment).counters := by
      refine (CoreSt.endKernel_counters_done _ (by exact hseg)).trans ?_
      rw [CoreSt.advance, CoreSt.complete_counters]
      rfl
    refine ⟨_, hu, ?_, ?_, ?_, fun n hn => ?_, fun hen => ?_, fun hen b => ⟨fun hb => ?_, fun hb => ?_⟩⟩
    · rw [State.core_modCore_self, CoreSt.endKernel_vx]
    · rw [State.core_modCore_self, CoreSt.endKernel_vx, State.core_modCore_self, CoreSt.complete_vx]
      rfl
    · rw [State.core_modCore_self, State.core_modCore_self, State.stores_core, hctr, CoreSt.advance_value, if_pos rfl]
    · rw [State.core_modCore_self, State.core_modCore_self, State.stores_core, hctr, CoreSt.advance_counter_ne _ _ hn]
    · rw [State.modCore_mem, State.modCore_mem, Running.endOut, hen]
      rfl
    · rw [State.modCore_mem, State.modCore_mem, Running.endOut, hen]
      exact s.stores_leBytes_byte _ _ hb
    · rw [State.modCore_mem, State.modCore_mem, Running.endOut, hen]
      exact s.stores_byte_apart _ (by simp [Apart]; omega)

end Sys2Proof.Machine
end

section
/-! PROOFS. Loads that read memory whole (O12), block formats and reduction banks (O13). -/

namespace Sys2Proof.Machine

open Sys2Proof

/-! ## A tile row is read 16 bytes at a time (O12) -/

/-- Memory that lists address 0 twice: a read of 16 bytes from there stops at the repeat, and a read from address 4 does not meet it. Core 0
stands before `ld t0 = [s0 + 0], stride s0`, with every scalar 0. -/
def repeatedByte : State :=
  { mem := [(0, 1), (0, 1), (4, 1)], cores := [(0, { vx := { run := some {} }, kernelRegion := [(0, 0x2000000000000000)] })] }

/-- The instruction that stands at its place. -/
def repeatedByteLd : VInstr := VInstr.ofNat 0x2000000000000000

theorem repeatedByte_fetched : Safety.Fetched repeatedByte 0 {} repeatedByteLd := ⟨rfl, rfl, by decide, by decide⟩

theorem repeatedByte_rowLane_le (l : Nat) : (repeatedByte.core 0).vx.rowLane repeatedByteLd l + 4 ≤ 2 ^ 25 := by
  have hbase : ((repeatedByte.core 0).vx.scalar repeatedByteLd.a).toNat + repeatedByteLd.imm = 0 := by decide
  have hstride : ((repeatedByte.core 0).vx.scalar repeatedByteLd.b).toNat = 0 := by decide
  rw [VectorEngine.rowLane, hbase, hstride, addr64]
  omega

theorem repeatedByte_word : BitVec.ofNat 32 (repeatedByte.peekNat (sramAddr 0 ((repeatedByte.core 0).vx.rowLane repeatedByteLd 1)) 4) = 1 := by
  decide

theorem repeatedByte_vLd : ∃ u, exec (.vLd 0) repeatedByte = .next u ∧ Safety.lane (u.core 0).vx repeatedByteLd.d 1 = 0 := by
  refine ⟨_, rfl, ?_⟩
  decide +kernel

/-- Refutes O12: the statement is of every memory, and where one lists an address twice LD, which reads a row's words 16 bytes at a time,
differs from a read of 4 bytes. -/
theorem not_vectorLoadsAndStores : ¬ Obligations.VectorLoadsAndStores := by
  intro h
  obtain ⟨hload, -⟩ := h repeatedByte 0 {} repeatedByteLd _ repeatedByte_fetched rfl (by decide) rfl
  obtain ⟨haligned, -⟩ := hload _ (List.mem_cons_self ..) (by decide)
  obtain ⟨u, hu, -, hlane, -⟩ := haligned (by decide) (fun l _ _ => repeatedByte_rowLane_le l)
  obtain ⟨hword, -⟩ := hlane 1 (by decide)
  obtain ⟨w, hw, hzero⟩ := repeatedByte_vLd
  obtain rfl : w = u := Host.Outcome.next.inj (hw.symm.trans hu)
  have hone := (hword (.inl (by decide))).trans repeatedByte_word
  exact absurd (hzero.symm.trans hone) (by decide)

/-! ## Lists cut in pieces -/

theorem pieces_getElem? {α : Type} (n : Nat) {k j : Nat} (hj : j < k) (xs : List α) : (pieces n k xs)[j]? = some ((xs.drop (n * j)).take n) := by
  induction k generalizing j xs with
  | zero => omega
  | succ k ih =>
    cases j with
    | zero => simp [pieces]
    | succ j => rw [pieces, List.getElem?_cons_succ, ih (by omega), List.drop_drop, Nat.mul_succ, Nat.add_comm]

theorem pieces_length {α : Type} (n k : Nat) (xs : List α) : (pieces n k xs).length = k := by
  induction k generalizing xs with
  | zero => rfl
  | succ k ih => rw [pieces, List.length_cons, ih]

/-- A piece of a list that a function gives. -/
theorem pieces_map_range {α : Type} (f : Nat → α) {n k j : Nat} (hj : j < k) :
    (pieces n k ((List.range (n * k)).map f))[j]? = some ((List.range n).map (fun c => f (n * j + c))) := by
  rw [pieces_getElem? n hj]
  refine congrArg some (List.ext_getElem ?_ fun c h₁ h₂ => ?_)
  · have hle : n * j + n ≤ n * k := by rw [← Nat.mul_succ]; exact Nat.mul_le_mul_left n hj
    simp
    omega
  · simp

/-- Pieces of one length joined. -/
theorem flatMap_getElem? {α β : Type} {n : Nat} (g : α → List β) (hg : ∀ x, (g x).length = n) (xs : List α) (j : Nat) {c : Nat} (hc : c < n) :
    (xs.flatMap g)[n * j + c]? = xs[j]?.bind (fun x => (g x)[c]?) := by
  induction xs generalizing j with
  | nil => simp
  | cons x xs ih =>
    rw [List.flatMap_cons]
    cases j with
    | zero => rw [Nat.mul_zero, Nat.zero_add, List.getElem?_append_left (by rw [hg]; exact hc)]; rfl
    | succ j =>
      have hsub : n * (j + 1) + c - n = n * j + c := by rw [Nat.mul_succ]; omega
      rw [List.getElem?_append_right (by rw [hg, Nat.mul_succ]; omega), hg, hsub, ih, List.getElem?_cons_succ]

/-! ## A failing instruction (R230) -/

theorem State.failKernel_spec (s : State) (core : Nat) (r : Running) {cause : Cause} (hc : cause ≠ 0) :
    ((s.failKernel core r cause).core core).vx.run = none ∧ ((s.failKernel core r cause).core core).vx.lastFail = cause ∧
      ((s.failKernel core r cause).core core).vx.failInstr = r.pc ∧
      ((s.failKernel core r cause).core core).vx.banks = (s.core core).vx.banks ∧ Safety.OnlyCore core s (s.failKernel core r cause) := by
  rw [State.failKernel, State.core_modCore_self, CoreSt.endKernel_vx]
  exact ⟨rfl, if_neg hc, if_neg hc, rfl, OnlyCore.modCore core s _⟩

section
variable {s : State} {core op : Nat} {r : Running} {i : VInstr} {v : VectorEngine} {c : Instr} (h : Safety.Fetched s core r i)
  (hv : v = (s.core core).vx) (ho : i.op = op)
include h hv ho

/-- A command whose work is refused. -/
theorem exec_refused {act : State → Running → VInstr → VectorEngine → Res VOut} (hc : exec c s = .next (s.vector core op act))
    (ha : act s r i v = (s, .error Cause.planReject)) :
    ∃ u, exec c s = .next u ∧ (u.core core).vx.run = none ∧ (u.core core).vx.lastFail = Cause.planReject ∧
      (u.core core).vx.failInstr = r.pc ∧ (u.core core).vx.banks = v.banks ∧ Safety.OnlyCore core s u := by
  subst hv
  rw [hc, State.vector_fails (State.runs_of_fetched h) ho ha]
  exact ⟨_, rfl, s.failKernel_spec core r (by decide)⟩

end

/-! ## Reduction banks (R246, R249) -/

/-- What RFEED offers to a row at lane `l`: an active lane's value with its index. -/
def VectorEngine.offered (v : VectorEngine) (i : VInstr) (l : Nat) : Option (Word × Word) :=
  if v.on i l then some (Safety.lane v i.a l, v.low i.b + BitVec.ofNat 32 (l % 16)) else none

theorem VectorEngine.offered_map_range (v : VectorEngine) (i : VInstr) :
    ((v.active i).zip (v.tile i.a)).zipIdx.map (fun ((p, x), l) => if p then some (x, v.low i.b + BitVec.ofNat 32 (l % 16)) else none) =
      (List.range 256).map (v.offered i) := by
  rw [v.active_eq, v.tile_eq, zip_map_range, zipIdx_map_range, List.map_map]
  rfl

/-- What RFEED offers to row `n`. -/
theorem VectorEngine.offered_row (v : VectorEngine) (i : VInstr) {n : Nat} (hn : n < 16) :
    (List.range 16).map (fun c => v.offered i (16 * n + c)) = (List.range 16).map (fun c =>
      if (v.active i).getD (16 * n + c) false then some (Safety.lane v i.a (16 * n + c), v.low i.b + BitVec.ofNat 32 c) else none) := by
  refine List.map_congr_left fun c hc => ?_
  have hlt : c < 16 := List.mem_range.1 hc
  have hmod : (16 * n + c) % 16 = c := by omega
  rw [VectorEngine.offered, v.active_eq, getD_map_range _ _ (by omega), hmod]

/-- The rows of a bank after RFEED, with the cause bits of each. -/
def VectorEngine.fedRows (v : VectorEngine) (i : VInstr) : List (Flagged BankRow) :=
  ((v.banks.at (i.d % 4)).rows.zip (pieces 16 16 ((List.range 256).map (v.offered i)))).map
    (fun (row, vs) => row.feed (v.banks.at (i.d % 4)).op (v.banks.at (i.d % 4)).k vs)

theorem VectorEngine.fedRows_getElem? (v : VectorEngine) (i : VInstr) {n : Nat} (hn : n < 16) :
    ((v.fedRows i).map (·.1))[n]? = ((v.banks.at (i.d % 4)).rows[n]?).map (fun row =>
      (row.feed (v.banks.at (i.d % 4)).op (v.banks.at (i.d % 4)).k ((List.range 16).map (fun c =>
        if (v.active i).getD (16 * n + c) false then some (Safety.lane v i.a (16 * n + c), v.low i.b + BitVec.ofNat 32 c) else none))).1) := by
  have hpiece : (pieces 16 16 ((List.range 256).map (v.offered i)))[n]? = some ((List.range 16).map (fun c => v.offered i (16 * n + c))) :=
    pieces_map_range (v.offered i) hn
  rw [VectorEngine.fedRows, List.map_map, List.getElem?_map, List.zip, List.getElem?_zipWith, hpiece, v.offered_row i hn]
  cases (v.banks.at (i.d % 4)).rows[n]? <;> rfl

theorem BankRow.lanes_length (op k : Nat) (indices : Bool) (row : BankRow) : (row.lanes op k indices).1.length = 16 := by
  unfold BankRow.lanes
  split <;> simp

/-- A lane that RGET reads. -/
theorem rget_lane (v : VectorEngine) (i : VInstr) {rows : List BankRow} {op k : Nat} {indices : Bool} {row c : Nat} {w : BankRow} (hrow : row < 16)
    (hc : c < 16) (hw : rows[row]? = some w) :
    Safety.lane (v.setTile i.d ((rows.map (·.lanes op k indices)).flatMap (·.1))) i.d (16 * row + c) = (w.lanes op k indices).1.getD c 0 := by
  rw [v.lane_setTile_self i.d _ (by omega), List.flatMap_map, List.getD_eq_getElem?_getD,
    flatMap_getElem? _ (fun x : BankRow => x.lanes_length op k indices) rows row hc, hw]
  rfl

theorem banks_set (t : Tab Bank) (k : Nat) (b : Bank) : (t.set k b).at k = b ∧ ∀ j, j ≠ k → (t.set k b).at j = t.at j :=
  ⟨Tab.at_set_self .., fun _ hj => Tab.at_set_ne _ _ hj⟩

section
variable {s : State} {core : Nat} {r : Running} {i : VInstr} {v : VectorEngine} (h : Safety.Fetched s core r i)
  (hv : v = (s.core core).vx)
include h hv

/-- A command that gives a bank of the engine a new content. -/
theorem exec_bank {c : Instr} {act : State → Running → VInstr → VectorEngine → Res VOut} {op f : Nat} {bank : Bank} (ho : i.op = op)
    (hc : exec c s = .next (s.vector core op act))
    (ha : act s r i v = (s, .ok { v := { v with banks := v.banks.set (i.d % 4) bank }, flags := f })) :
    ∃ u, exec c s = .next u ∧ Safety.Retired s u core r i (r.pc + 1) ∧ (u.core core).vx.banks.at (i.d % 4) = bank ∧
      (∀ b, b ≠ i.d % 4 → (u.core core).vx.banks.at b = v.banks.at b) ∧ Safety.SameTiles v (u.core core).vx := by
  obtain ⟨u, hu, hr, hcore⟩ := exec_registers h hv ho hc ha (OnlyCore.refl core s) rfl rfl rfl rfl (pc_lt_of_fetched h) rfl rfl
  obtain ⟨hself, hne⟩ := banks_set v.banks (i.d % 4) bank
  refine ⟨u, hu, hr, ?_⟩
  rw [hcore, CoreSt.complete_vx]
  exact ⟨hself, hne, fun _ => rfl⟩

theorem exec_vRfeed (ho : i.op = 0x41) (hop : (v.banks.at (i.d % 4)).op ≠ 0) :
    ∃ u, exec (.vRfeed core) s = .next u ∧ Safety.Retired s u core r i (r.pc + 1) ∧
      (u.core core).vx.banks.at (i.d % 4) = { v.banks.at (i.d % 4) with rows := (v.fedRows i).map (·.1) } ∧
      (∀ b, b ≠ i.d % 4 → (u.core core).vx.banks.at b = v.banks.at b) ∧ Safety.SameTiles v (u.core core).vx := by
  refine exec_bank (c := .vRfeed core) (f := orAll ((v.fedRows i).map (·.2))) h hv ho rfl ?_
  dsimp only
  rw [if_neg hop, v.offered_map_range]
  rfl

/-- A command that gives T[D] new lanes and leaves the banks. -/
theorem exec_tile {c : Instr} {act : State → Running → VInstr → VectorEngine → Res VOut} {op f : Nat} {ws : List Word} {t : State} (ho : i.op = op)
    (hc : exec c s = .next (s.vector core op act)) (ha : act s r i v = (t, .ok { v := v.setTile i.d ws, flags := f }))
    (ht : Safety.OnlyCore core s t) (hcore : t.core core = s.core core) :
    ∃ u, exec c s = .next u ∧ Safety.Retired s u core r i (r.pc + 1) ∧ (u.core core).vx.banks = v.banks ∧
      (∀ l, Safety.lane (u.core core).vx i.d l = Safety.lane (v.setTile i.d ws) i.d l) ∧
      (∀ t, t ≠ i.d → (u.core core).vx.tile t = v.tile t) := by
  obtain ⟨u, hu, hr, hu'⟩ := exec_registers h hv ho hc ha ht hcore rfl rfl rfl (pc_lt_of_fetched h) rfl rfl
  refine ⟨u, hu, hr, ?_⟩
  rw [hu', CoreSt.complete_vx]
  exact ⟨rfl, fun _ => rfl, fun t ht => v.tile_setTile_ne _ ht⟩

theorem exec_vRget (ho : i.op = 0x42) : ∃ u, exec (.vRget core) s = .next u ∧ Safety.Retired s u core r i (r.pc + 1) ∧
    (u.core core).vx.banks = v.banks ∧
    ((v.banks.at (i.a % 4)).op ≠ 0 → ∀ row c w, row < 16 → c < 16 → (v.banks.at (i.a % 4)).rows[row]? = some w →
      Safety.lane (u.core core).vx i.d (16 * row + c) = (w.lanes (v.banks.at (i.a % 4)).op (v.banks.at (i.a % 4)).k (bitOf i.imm 0)).1.getD c 0) ∧
    (∀ t, t ≠ i.d → (u.core core).vx.tile t = v.tile t) := by
  by_cases hop : (v.banks.at (i.a % 4)).op = 0
  · obtain ⟨u, hu, hr, hbanks, -, htile⟩ := exec_tile (c := .vRget core) (t := s.draw) (f := 0) h hv ho rfl
      (by dsimp only; rw [if_pos hop]) ⟨fun _ _ => rfl, rfl⟩ rfl
    exact ⟨u, hu, hr, hbanks, fun hne => absurd hop hne, htile⟩
  · obtain ⟨u, hu, hr, hbanks, hlane, htile⟩ := exec_tile (c := .vRget core) h hv ho rfl
      (by dsimp only; rw [if_neg hop]) (OnlyCore.refl core s) rfl
    exact ⟨u, hu, hr, hbanks, fun _ row c w hrow hc hw => (hlane _).trans (rget_lane v i hrow hc hw), htile⟩

end

/-! ## Norm taps (R251) -/

/-- What RTAP contributes: the values of the active lanes. -/
def VectorEngine.tapped (v : VectorEngine) (i : VInstr) : List Val := (((v.active i).zip (v.tile i.a)).filter (·.1)).map (fun p => fp32 p.2)

@[simp] theorem CoreSt.takeScale_rd (x : CoreSt) (f : Option (Nat × Byte)) : (x.takeScale f).rd = x.rd := by
  cases f <;> rfl

theorem CoreSt.complete_rd (x : CoreSt) (r : Running) (i : VInstr) (o : VOut) : (x.complete r i o).rd = (x.takeTap o.tap).rd := by
  rw [CoreSt.complete, CoreSt.takeScale_rd]
  cases o.tap with
  | none => rfl
  | some t =>
    unfold CoreSt.takeTap CoreSt.tap
    dsimp only
    split <;> rfl

theorem CoreSt.tap_kind_zero (x : CoreSt) (set : Nat) (xs : List Val) (n : Nat) : x.tap set 0 xs n = x := rfl

/-- A contribution changes one kind of one set. -/
theorem CoreSt.tap_rd (x : CoreSt) {set kind : Nat} (xs : List Val) (hk : kind ≠ 0) :
    (x.tap set kind xs 0).rd.applied = x.rd.applied + 1 ∧
    ((x.tap set kind xs 0).rd.taps.at (4 * set + kind)).sum = addW36 (x.rd.taps.at (4 * set + kind)).sum (sumSquares xs) ∧
    ((x.tap set kind xs 0).rd.taps.at (4 * set + kind)).vanished = (x.rd.taps.at (4 * set + kind)).vanished ∧
    ((x.tap set kind xs 0).rd.taps.at (4 * set + kind)).count = (x.rd.taps.at (4 * set + kind)).count + 1 ∧
    (∀ k, k ≠ 4 * set + kind → (x.tap set kind xs 0).rd.taps.at k = x.rd.taps.at k) := by
  rw [CoreSt.tap, if_neg hk]
  dsimp only
  rw [Tab.at_upd_self]
  exact ⟨rfl, rfl, BitVec.add_zero _, rfl, fun k hne => Tab.at_upd_ne _ _ hne⟩

section
variable {s : State} {core : Nat} {r : Running} {i : VInstr} {v : VectorEngine} (h : Safety.Fetched s core r i)
  (hv : v = (s.core core).vx)
include h hv

theorem exec_vRtap (ho : i.op = 0x43) : ∃ u, exec (.vRtap core) s = .next u ∧ Safety.Retired s u core r i (r.pc + 1) ∧
    Safety.SameTiles v (u.core core).vx ∧
    (u.core core).rd = ((s.core core).tap ((v.scalar i.b).toNat % 256) (i.imm % 4) (v.tapped i) 0).rd := by
  obtain ⟨u, hu, hr, hcore⟩ := exec_registers (c := .vRtap core) h hv ho rfl rfl (OnlyCore.refl core s) rfl rfl rfl rfl (pc_lt_of_fetched h)
    rfl rfl
  refine ⟨u, hu, hr, ?_⟩
  rw [hcore, CoreSt.complete_vx, CoreSt.complete_rd]
  exact ⟨fun _ => rfl, rfl⟩

end

/-! ## Block loads (R243) -/

theorem unpackBits_length (w n x : Nat) : (unpackBits w n x).length = n := by
  induction n generalizing x with
  | zero => rfl
  | succ n ih => rw [unpackBits, List.length_cons, ih]

/-- With no SRAM word in error reads below 32 MiB give the stored bytes. -/
theorem State.kernelReads_clean {s : State} {core : Nat} (hs : s.tiers.wordErrs = []) (hc : core < 1024) {ps : List (Nat × Nat)}
    (h : ∀ p ∈ ps, p.1 + p.2 ≤ 2 ^ 25) : s.kernelReads core ps = (s, .ok (ps.map (fun p => s.peek (sramAddr core p.1) p.2))) := by
  induction ps with
  | nil => rfl
  | cons p ps ih =>
    obtain ⟨hp, hps⟩ := List.forall_mem_cons.1 h
    rw [State.kernelReads, State.kernelRead_clean hs hc hp]
    dsimp only
    rw [ih hps]
    rfl

/-- The elements of row `n`'s block, and its scale byte, as memory holds them. -/
def State.blockElems (s : State) (core : Nat) (v : VectorEngine) (i : VInstr) (n : Nat) : List Nat :=
  unpackBits (fmtBits (fld i.imm 8 4)) 32 (leNat (s.peek (sramAddr core (v.blockAddr i n).1) (storeBytes (fld i.imm 8 4) 32)))
def State.blockScale (s : State) (core : Nat) (v : VectorEngine) (i : VInstr) (n : Nat) : Byte :=
  (s.peek (sramAddr core (v.blockAddr i n).2) 1).headD 0

/-- The regions that LDX reads: of each row its elements and its scale byte. -/
def VectorEngine.blockRegions (v : VectorEngine) (i : VInstr) : List (Nat × Nat) :=
  ((List.range 16).map (v.blockAddr i)).flatMap (fun p => [(p.1, storeBytes (fld i.imm 8 4) 32), (p.2, 1)])

theorem VectorEngine.blockRegions_le {v : VectorEngine} {i : VInstr}
    (h : ∀ n, n < 16 → (v.blockAddr i n).1 + storeBytes (fld i.imm 8 4) 32 ≤ 2 ^ 25 ∧ (v.blockAddr i n).2 + 1 ≤ 2 ^ 25) :
    ∀ p ∈ v.blockRegions i, p.1 + p.2 ≤ 2 ^ 25 := by
  intro p hp
  simp only [VectorEngine.blockRegions, List.mem_flatMap, List.mem_map, List.mem_range] at hp
  obtain ⟨_, ⟨n, hn, rfl⟩, hp⟩ := hp
  obtain ⟨helems, hscale⟩ := h n hn
  simp only [List.mem_cons, List.not_mem_nil, or_false] at hp
  rcases hp with rfl | rfl
  · exact helems
  · exact hscale

/-- The row that LDX converts: 32 elements under the row's scale. -/
def State.blockConv (s : State) (core : Nat) (v : VectorEngine) (i : VInstr) (n : Nat) : List Conv :=
  (s.blockElems core v i n).map (fun c => convElem 0 true none (decodeScaled (fld i.imm 8 4) (s.blockScale core v i n) c))

theorem State.blockConv_length (s : State) (core : Nat) (v : VectorEngine) (i : VInstr) (n : Nat) : (s.blockConv core v i n).length = 32 := by
  rw [State.blockConv, List.length_map, State.blockElems, unpackBits_length]

/-- The rows that LDX forms from the bytes it reads. -/
theorem State.blockConv_map_range (s : State) (core : Nat) (v : VectorEngine) (i : VInstr) (bs : List (List Byte))
    (hbs : bs = (v.blockRegions i).map (fun p => s.peek (sramAddr core p.1) p.2)) :
    (List.range 16).map (fun n => (unpackBits (fmtBits (fld i.imm 8 4)) 32 (leNat (bs.getD (2 * n) []))).map (fun c =>
      convElem 0 true none (decodeScaled (fld i.imm 8 4) ((bs.getD (2 * n + 1) []).headD 0) c))) =
    (List.range 16).map (s.blockConv core v i) := by
  have hget {n k : Nat} (hn : n < 16) (hk : k < 2) : bs.getD (2 * n + k) [] =
      ([s.peek (sramAddr core (v.blockAddr i n).1) (storeBytes (fld i.imm 8 4) 32), s.peek (sramAddr core (v.blockAddr i n).2) 1] : List (List Byte)).getD k [] := by
    rw [hbs, VectorEngine.blockRegions, List.map_flatMap, List.flatMap_map, List.getD_eq_getElem?_getD,
      flatMap_getElem? (n := 2) _ (fun _ => rfl) (List.range 16) n hk, List.getElem?_range hn, List.getD_eq_getElem?_getD]
    rfl
  refine List.map_congr_left fun n hn => ?_
  have helems := hget (List.mem_range.1 hn) Nat.zero_lt_two
  have hscale := hget (List.mem_range.1 hn) Nat.one_lt_two
  rw [Nat.add_zero] at helems
  rw [helems, hscale]
  rfl

/-- Half `k` of each row of LDX, as the lanes of a tile. -/
def blockHalf (rows : List (List Conv)) (k : Nat) : List Word :=
  rows.flatMap (fun row => ((row.drop (16 * k)).take 16).map (fun c => BitVec.ofNat 32 c.bits))

theorem State.blockHalf_getD (s : State) (core : Nat) (v : VectorEngine) (i : VInstr) {k row c : Nat} (hk : k < 2) (hrow : row < 16) (hc : c < 16) :
    (blockHalf ((List.range 16).map (s.blockConv core v i)) k).getD (16 * row + c) 0 =
      toFp32 (decodeScaled (fld i.imm 8 4) (s.blockScale core v i row) ((s.blockElems core v i row).getD (16 * k + c) 0)) := by
  have hlen (n : Nat) : ((((s.blockConv core v i n).drop (16 * k)).take 16).map (fun c => BitVec.ofNat 32 c.bits)).length = 16 := by
    rw [List.length_map, List.length_take, List.length_drop, s.blockConv_length]
    omega
  have hin : 16 * k + c < (s.blockElems core v i row).length := by
    rw [State.blockElems, unpackBits_length]
    omega
  rw [blockHalf, List.flatMap_map, List.getD_eq_getElem?_getD, flatMap_getElem? _ hlen (List.range 16) row hc, List.getElem?_range hrow]
  simp only [Option.bind_some, List.getElem?_map, List.getElem?_take, hc, if_true, List.getElem?_drop, State.blockConv,
    List.getElem?_eq_getElem hin, Option.map_some, Option.getD_some, List.getD_eq_getElem?_getD]
  rfl

/-- The vector engine after LDX: T[D] and T[D + 1] hold the halves of the rows that it converts. -/
def State.blocksLoaded (s : State) (core : Nat) (v : VectorEngine) (i : VInstr) : VectorEngine :=
  (v.setTile i.d (blockHalf ((List.range 16).map (s.blockConv core v i)) 0)).setTile (i.d + 1)
    (blockHalf ((List.range 16).map (s.blockConv core v i)) 1)

/-- The effect of LDX, with its cause bits. -/
def State.ldxOut (s : State) (core : Nat) (v : VectorEngine) (i : VInstr) : VOut :=
  { v := s.blocksLoaded core v i,
    flags := 4 * b2n (((List.range 16).map (s.blockConv core v i)).flatten.any (·.exceeded)) +
      16 * b2n (((List.range 16).map (s.blockConv core v i)).flatten.any (·.vanished)) }

theorem State.blocksLoaded_lane (s : State) (core : Nat) (v : VectorEngine) (i : VInstr) {row c : Nat} (hrow : row < 16) (hc : c < 16) :
    Safety.lane (s.blocksLoaded core v i) i.d (16 * row + c) =
      toFp32 (decodeScaled (fld i.imm 8 4) (s.blockScale core v i row) ((s.blockElems core v i row).getD c 0)) ∧
    Safety.lane (s.blocksLoaded core v i) (i.d + 1) (16 * row + c) =
      toFp32 (decodeScaled (fld i.imm 8 4) (s.blockScale core v i row) ((s.blockElems core v i row).getD (16 + c) 0)) := by
  have hlt : 16 * row + c < 256 := by omega
  constructor
  · have hd := s.blockHalf_getD core v i (k := 0) (by omega) hrow hc
    rw [Nat.mul_zero, Nat.zero_add] at hd
    rw [State.blocksLoaded, Safety.lane, VectorEngine.tile_setTile_ne _ _ (Nat.ne_of_lt (Nat.lt_succ_self i.d)), ← hd]
    exact v.lane_setTile_self i.d _ hlt
  · exact (VectorEngine.lane_setTile_self _ _ _ hlt).trans (s.blockHalf_getD core v i (k := 1) (by omega) hrow hc)

section
variable {s : State} {core : Nat} {r : Running} {i : VInstr} {v : VectorEngine} (h : Safety.Fetched s core r i)
  (hv : v = (s.core core).vx) (hcore : core < 1024) (hs : s.tiers.wordErrs = [])
include h hv hcore hs

/-- LDX gives T[D] and T[D + 1] the halves of the rows it converts. -/
theorem exec_vLdx (ho : i.op = 0x22)
    (hle : ∀ n, n < 16 → (v.blockAddr i n).1 + storeBytes (fld i.imm 8 4) 32 ≤ 2 ^ 25 ∧ (v.blockAddr i n).2 + 1 ≤ 2 ^ 25) :
    ∃ u, exec (.vLdx core) s = .next u ∧ Safety.Retired s u core r i (r.pc + 1) ∧ u.core core = (s.core core).complete r i (s.ldxOut core v i) := by
  refine exec_registers (c := .vLdx core) h hv ho rfl ?_ (OnlyCore.refl core s) rfl rfl rfl rfl (pc_lt_of_fetched h) rfl rfl
  have hread := State.kernelReads_clean hs hcore (VectorEngine.blockRegions_le hle)
  have hrows := s.blockConv_map_range core v i _ rfl
  rw [VectorEngine.blockRegions] at hread hrows
  dsimp only
  rw [hread]
  dsimp only
  rw [hrows]
  rfl

end

/-! ## Block stores (R244) -/

theorem stxBlocks_length (s : State) (core : Nat) (v : VectorEngine) (i : VInstr) (f : Nat) (recipe : Option Byte) :
    (stxBlocks f recipe (s.stxRows core i v)).length = 16 := by
  simp [stxBlocks, stxConv, State.stxRows, VectorEngine.blockRows, pieces_length]

/-- The writes of row `n`'s block: its elements and its scale byte. -/
def VectorEngine.blockWrites (v : VectorEngine) (i : VInstr) (n : Nat) (b : BlockOut) : List (Nat × List Byte) :=
  [((v.blockAddr i n).1, leBytes (storeBytes (fld i.imm 8 4) 32) (packBits (fmtBits (fld i.imm 8 4)) (b.elems.map (·.bits)))),
    ((v.blockAddr i n).2, [b.scale])]

/-- The writes of the 16 blocks of STX, as offsets in SRAM. -/
def VectorEngine.stxWrites (v : VectorEngine) (i : VInstr) (blocks : List BlockOut) : List (Nat × List Byte) :=
  (List.range 16).flatMap (fun n => v.blockWrites i n (blocks.getD n {}))

theorem VectorEngine.stxWrites_eq (v : VectorEngine) (i : VInstr) {blocks : List BlockOut} (h : blocks.length = 16) :
    blocks.zipIdx.flatMap (fun (b, n) => v.blockWrites i n b) = v.stxWrites i blocks := by
  conv_lhs => rw [eq_map_range {} h, zipIdx_map_range, List.flatMap_map]
  rfl

section
variable {v : VectorEngine} {i : VInstr} {blocks : List BlockOut}

theorem VectorEngine.mem_stxWrites {w : Nat × List Byte} : w ∈ v.stxWrites i blocks ↔ ∃ n, n < 16 ∧ w ∈ v.blockWrites i n (blocks.getD n {}) := by
  simp [VectorEngine.stxWrites]

theorem VectorEngine.stxWrites_le
    (h : ∀ n, n < 16 → (v.blockAddr i n).1 + storeBytes (fld i.imm 8 4) 32 ≤ 2 ^ 25 ∧ (v.blockAddr i n).2 + 1 ≤ 2 ^ 25) :
    ∀ w ∈ v.stxWrites i blocks, w.1 + w.2.length ≤ 2 ^ 25 := by
  intro w hw
  obtain ⟨n, hn, hw⟩ := VectorEngine.mem_stxWrites.1 hw
  obtain ⟨helems, hscale⟩ := h n hn
  simp only [VectorEngine.blockWrites, List.mem_cons, List.not_mem_nil, or_false] at hw
  rcases hw with rfl | rfl
  · simpa using helems
  · simpa using hscale

/-- The regions that STX writes share no byte. -/
def VectorEngine.BlocksApart (v : VectorEngine) (i : VInstr) : Prop :=
  ∀ n m, n < 16 → m < 16 →
    ((v.blockAddr i n).2 < (v.blockAddr i m).1 ∨ (v.blockAddr i m).1 + storeBytes (fld i.imm 8 4) 32 ≤ (v.blockAddr i n).2) ∧
    (n ≠ m → (v.blockAddr i n).2 ≠ (v.blockAddr i m).2 ∧
      overlaps (v.blockAddr i n).1 (storeBytes (fld i.imm 8 4) 32) (v.blockAddr i m).1 (storeBytes (fld i.imm 8 4) 32) = false)

theorem VectorEngine.stxWrites_pairwise (h : v.BlocksApart i) :
    (v.stxWrites i blocks).Pairwise (fun w x => Apart w.1 w.2.length x) := by
  have hnear (n m : Nat) (hn : n < 16) (hm : m < 16) := (h n m hn hm).1
  rw [VectorEngine.stxWrites, List.pairwise_flatMap]
  constructor
  · intro n hn
    have := hnear n n (List.mem_range.1 hn) (List.mem_range.1 hn)
    simp [VectorEngine.blockWrites, Apart]
    omega
  · refine List.Pairwise.imp_of_mem (fun {n m} hn hm hlt w hw x hx => ?_) List.pairwise_lt_range
    have hn := List.mem_range.1 hn
    have hm := List.mem_range.1 hm
    obtain ⟨hscale, helems⟩ := (h n m hn hm).2 (Nat.ne_of_lt hlt)
    have h₁ := hnear n m hn hm
    have h₂ := hnear m n hm hn
    simp only [overlaps, Bool.and_eq_false_iff, decide_eq_false_iff_not, Nat.not_lt] at helems
    simp only [VectorEngine.blockWrites, List.mem_cons, List.not_mem_nil, or_false] at hw hx
    rcases hw with rfl | rfl <;> rcases hx with rfl | rfl <;> simp only [Apart, leBytes_length, List.length_singleton] <;> omega

end

/-- A write of the core's own SRAM at its device address. -/
def sramWrite (core : Nat) (w : Nat × List Byte) : Nat × List Byte := (sramAddr core w.1, w.2)

theorem apart_sramWrite {core a n : Nat} {w : Nat × List Byte} : Apart (sramAddr core a) n (sramWrite core w) ↔ Apart a n w := by
  simp only [Apart, sramWrite, sramAddr]
  omega

section
variable {s : State} {core : Nat} {r : Running} {i : VInstr} {v : VectorEngine} (h : Safety.Fetched s core r i)
  (hv : v = (s.core core).vx)
include h hv

/-- STX is refused with SR outside an update segment, and under a recipe of kind NONE. -/
theorem exec_vStx_refused (ho : i.op = 0x23)
    (hbad : (bitOf i.imm 13 = true ∧ r.kernel.segment = false) ∨ ∃ x, (s.core core).stxRecipe i = some x ∧ x.kind = 7) :
    ∃ u, exec (.vStx core) s = .next u ∧ (u.core core).vx.run = none ∧ (u.core core).vx.lastFail = Cause.planReject ∧
      (u.core core).vx.failInstr = r.pc ∧ Safety.OnlyCore core s u := by
  have hcond : ((bitOf i.imm 13 && !r.kernel.segment) || ((s.core core).stxRecipe i).any (fun x => x.kind == 7)) = true := by
    rcases hbad with ⟨hsr, hseg⟩ | ⟨x, hx, hk⟩
    · simp [hsr, hseg]
    · simp [hx, hk]
  obtain ⟨u, hu, hrun, hfail, hinstr, -, honly⟩ := exec_refused (c := .vStx core) h hv ho rfl (by dsimp only; rw [if_pos hcond])
  exact ⟨u, hu, hrun, hfail, hinstr, honly⟩

/-- The effect of STX with cause bits `f`. -/
def State.stxOut (s : State) (core : Nat) (v : VectorEngine) (i : VInstr) (f : Nat) : VOut :=
  { v := v, flags := f,
    writes := (v.stxWrites i (stxBlocks (fld i.imm 8 4) (((s.core core).stxRecipe i).map (·.scale)) (s.stxRows core i v))).map (sramWrite core),
    more := if (stxNewScale (fld i.imm 8 4) (((s.core core).stxRecipe i).map (·.scale)) (s.stxRows core i v)).isSome then 2 else 0,
    recipe := (stxNewScale (fld i.imm 8 4) (((s.core core).stxRecipe i).map (·.scale)) (s.stxRows core i v)).map (fun sc => (fld i.imm 16 8, sc)) }

theorem exec_vStx (hcore : core < 1024) (hs : s.tiers.wordErrs = []) (ho : i.op = 0x23)
    (hseg : bitOf i.imm 13 = true → r.kernel.segment = true) (hkind : ∀ x, (s.core core).stxRecipe i = some x → x.kind ≠ 7)
    (hle : ∀ n, n < 16 → (v.blockAddr i n).1 + storeBytes (fld i.imm 8 4) 32 ≤ 2 ^ 25 ∧ (v.blockAddr i n).2 + 1 ≤ 2 ^ 25) :
    ∃ f, exec (.vStx core) s = .next ((s.stores (s.stxOut core v i f).writes).modCore core (·.complete r i (s.stxOut core v i f))) := by
  have hcond : ¬ ((bitOf i.imm 13 && !r.kernel.segment) || ((s.core core).stxRecipe i).any (fun x => x.kind == 7)) = true := by
    intro hbad
    rcases Bool.or_eq_true_iff.1 hbad with hbad | hbad
    · simp only [Bool.and_eq_true, Bool.not_eq_true'] at hbad
      exact absurd (hseg hbad.1) (by simp [hbad.2])
    · obtain ⟨x, hx, hk⟩ := (Option.any_eq_true ..).1 hbad
      exact hkind x hx (by simpa using hk)
  have hws := VectorEngine.stxWrites_le (blocks := stxBlocks (fld i.imm 8 4) (((s.core core).stxRecipe i).map (·.scale)) (s.stxRows core i v)) hle
  have hblocks := v.stxWrites_eq i (stxBlocks_length s core v i (fld i.imm 8 4) (((s.core core).stxRecipe i).map (·.scale)))
  apply Exists.intro
  refine exec_stores (c := .vStx core) h hv hcore hs ho rfl ?_ rfl hws rfl rfl
  dsimp only
  rw [if_neg hcond]
  change (s, Except.map _ (storeAll core v ((stxBlocks (fld i.imm 8 4) (((s.core core).stxRecipe i).map (·.scale))
    (s.stxRows core i v)).zipIdx.flatMap (fun (b, n) => v.blockWrites i n b)))) = _
  rw [hblocks, storeAll_ok core v hws]
  rfl

end

section
variable (s : State) (core : Nat) (v : VectorEngine) (i : VInstr) (blocks : List BlockOut)

/-- Blocks whose regions share no byte read back as they were written. -/
theorem stxWrites_peek (h : v.BlocksApart i) {n : Nat} (hn : n < 16) :
    (s.stores ((v.stxWrites i blocks).map (sramWrite core))).peek (sramAddr core (v.blockAddr i n).1) (storeBytes (fld i.imm 8 4) 32) =
      leBytes (storeBytes (fld i.imm 8 4) 32) (packBits (fmtBits (fld i.imm 8 4)) ((blocks.getD n {}).elems.map (·.bits))) ∧
    (s.stores ((v.stxWrites i blocks).map (sramWrite core))).peek (sramAddr core (v.blockAddr i n).2) 1 = [(blocks.getD n {}).scale] := by
  have hpair : ((v.stxWrites i blocks).map (sramWrite core)).Pairwise (fun w x => Apart w.1 w.2.length x) :=
    List.pairwise_map.2 ((VectorEngine.stxWrites_pairwise h).imp apart_sramWrite.2)
  have hread (w : Nat × List Byte) (hw : w ∈ v.blockWrites i n (blocks.getD n {})) :
      (s.stores ((v.stxWrites i blocks).map (sramWrite core))).peek (sramAddr core w.1) w.2.length = w.2 :=
    s.stores_peek hpair (List.mem_map_of_mem (f := sramWrite core) (VectorEngine.mem_stxWrites.2 ⟨n, hn, hw⟩))
  have helems := hread _ (List.mem_cons_self ..)
  rw [leBytes_length] at helems
  exact ⟨helems, hread _ (List.mem_cons_of_mem _ (List.mem_cons_self ..))⟩

/-- A byte outside the blocks' regions stays. -/
theorem stxWrites_byte {a : Nat} (h : ∀ n, n < 16 →
      (a < sramAddr core (v.blockAddr i n).1 ∨ sramAddr core (v.blockAddr i n).1 + storeBytes (fld i.imm 8 4) 32 ≤ a) ∧
      a ≠ sramAddr core (v.blockAddr i n).2) :
    (s.stores ((v.stxWrites i blocks).map (sramWrite core))).mem.byte a = s.mem.byte a := by
  refine s.stores_byte_apart _ fun w hw => ?_
  obtain ⟨x, hx, rfl⟩ := List.mem_map.1 hw
  obtain ⟨n, hn, hx⟩ := VectorEngine.mem_stxWrites.1 hx
  have := h n hn
  simp only [VectorEngine.blockWrites, List.mem_cons, List.not_mem_nil, or_false] at hx
  rcases hx with rfl | rfl
  · simp only [Apart, sramWrite, leBytes_length]
    omega
  · simp only [Apart, sramWrite, List.length_singleton]
    omega

end

@[simp] theorem CoreSt.takeTap_recipes (x : CoreSt) (t : Option (Nat × Nat × List Val)) : (x.takeTap t).recipes = x.recipes := by
  unfold CoreSt.takeTap CoreSt.tap
  split
  · split <;> rfl
  · rfl

theorem CoreSt.complete_recipes (x : CoreSt) (r : Running) (i : VInstr) (o : VOut) :
    (x.complete r i o).recipes = match o.recipe with | some (n, sc) => x.recipes.upd n (·.feed sc) | none => x.recipes := by
  rw [CoreSt.complete]
  cases o.recipe with
  | none => exact CoreSt.takeTap_recipes ..
  | some p => exact congrArg (Tab.upd · p.1 (·.feed p.2)) (CoreSt.takeTap_recipes ..)

/-- Settles O13: LDX and STX by the regions of the blocks, the others by the bank, the tile or the tap that they change. -/
theorem vectorBlocksAndBanks : Obligations.VectorBlocksAndBanks := by
  intro s core r i v h hv hcore hs f hf
  subst hf
  refine ⟨fun ho hle => ?_, fun ho rows fed hrows hfed => ?_, fun ho => ?_, fun ho => ⟨fun hop => ?_, fun hop => ?_⟩, exec_vRget h hv, fun ho => ?_⟩
  · obtain ⟨u, hu, hr, hu'⟩ := exec_vLdx h hv hcore hs ho hle
    refine ⟨u, hu, hr, ?_⟩
    rw [hu', CoreSt.complete_vx]
    refine ⟨?_, fun t h₁ h₂ => ?_, fun _ => rfl, fun _ => rfl, rfl⟩
    · rintro row c hrow hc elems scale rfl rfl
      exact s.blocksLoaded_lane core v i hrow hc
    · exact (VectorEngine.tile_setTile_ne _ _ h₂).trans (v.tile_setTile_ne _ h₁)
  · subst hrows hfed
    refine ⟨exec_vStx_refused h hv ho, fun hseg hkind hle => ?_⟩
    obtain ⟨f, hu⟩ := exec_vStx h hv hcore hs ho hseg hkind hle
    refine ⟨_, hu, ?_, ?_, fun a ha => ?_, ?_, ?_, ?_, ?_, ?_, ?_, ?_⟩
    · rw [State.core_modCore_self, CoreSt.complete_vx]
      rfl
    · rintro hap n hn b rfl
      exact stxWrites_peek s core v i _ hap hn
    · exact stxWrites_byte s core v i _ ha
    · rw [State.core_modCore_self, CoreSt.complete_vx]
      rfl
    · intro sc hsc
      rw [State.core_modCore_self, CoreSt.complete_recipes, State.stxOut, hsc, State.stores_core]
      exact Tab.at_upd_self ..
    · intro hnone
      rw [State.core_modCore_self, CoreSt.complete_recipes, State.stxOut, hnone, State.stores_core]
      rfl
    · rw [State.core_modCore_self, CoreSt.complete_vx]
      exact fun _ => rfl
    · rw [State.core_modCore_self, CoreSt.complete_vx]
      exact fun _ => rfl
    · rw [State.core_modCore_self, CoreSt.complete_vx]
      exact fun _ => rfl
    · intro c hne
      rw [State.core_modCore_ne _ _ hne, State.stores_core]
  · exact exec_bank (c := .vRclr core) h hv ho rfl rfl
  · obtain ⟨u, hu, hr, hbank, hother, htile⟩ := exec_vRfeed h hv ho hop
    refine ⟨u, hu, hr, ?_⟩
    rw [hbank]
    exact ⟨rfl, rfl, fun n => v.fedRows_getElem? i, hother, htile⟩
  · exact exec_refused (c := .vRfeed core) h hv ho rfl (by dsimp only; rw [if_pos hop])
  · obtain ⟨u, hu, hr, htile, hrd⟩ := exec_vRtap h hv ho
    refine ⟨u, hu, hr, htile, ?_⟩
    rw [hrd]
    refine ⟨fun hk => ?_, ?_⟩
    · rw [hk, CoreSt.tap_kind_zero]
    · rintro hk key rfl
      exact CoreSt.tap_rd _ _ hk

end Sys2Proof.Machine
end

section
/-! PROOFS. Kernels (O14): their queue, their start, their time limit and the end of the kernel region. -/

namespace Sys2Proof.Machine

open Sys2Proof

/-! ## VECTOR entries (R225) -/

theorem State.countsOwn_readOwn {s t : State} {core a n al : Nat} {res : Except Cause (List Byte)} (h : s.readOwn core a n al = (t, res)) :
    State.CountsOwn core s t := by
  unfold State.readOwn at h
  split at h
  · rename_i hown
    simp only [Bool.and_eq_true, decide_eq_true_eq] at hown
    obtain ⟨⟨⟨hspace, rfl⟩, -⟩, -⟩ := hown
    have hread := s.countsOwn_readMem hspace n
    rw [h] at hread
    exact hread
  · cases h
    exact .refl core s

theorem State.CountsOwn.vx {s t : State} {core : Nat} (h : State.CountsOwn core s t) : (t.core core).vx = (s.core core).vx := by
  obtain ⟨_, _, ht⟩ := h.own
  rw [ht]

@[simp] theorem State.goNext_vx (s : State) (core q : Nat) : ((s.goNext core q).core core).vx = (s.core core).vx := by
  simp [State.goNext, State.goTo, CoreSt.modQueue]
@[simp] theorem State.goNext_rd (s : State) (core q : Nat) : ((s.goNext core q).core core).rd = (s.core core).rd := by
  simp [State.goNext, State.goTo, CoreSt.modQueue]

/-- The kernel that a VECTOR entry queues. -/
def State.vectorKernel (s : State) (core q : Nat) (e : Entry) : Kernel :=
  { index := e.kernel, args := sramOff e.argBlock, queue := q, entry := ((s.goNext core q).queue core q).pos - 1 }

section
variable {s t u : State} {core q : Nat} {e : Entry} {bs : List Byte} (h : Safety.Ready s core q t e) (hk : e.kind = 2)
  (hread : t.readArgs core e.argBlock = (u, .ok bs))
include h hk hread

theorem exec_vector_queued (hle : e.kernel ≤ 8191) : exec (.vector core q) s = .next ((u.goNext core q).modCore core (·.modVx (fun v =>
    { v with queue := v.queue ++ [u.vectorKernel core q e] }))) := by
  refine congrArg _ ((State.issue_ready h hk _).trans ?_)
  unfold State.actVector
  rw [hread]
  dsimp only
  rw [if_neg (Nat.not_lt.2 hle)]
  rfl

theorem exec_vector_rejected (hlt : 8191 < e.kernel) : exec (.vector core q) s = .next ((u.goNext core q).modCore core (fun x =>
    (x.vxFailed Cause.planReject).latch (fld (leNat (bs.drop 240)) 0 6) Cause.planReject)) := by
  refine congrArg _ ((State.issue_ready h hk _).trans ?_)
  unfold State.actVector
  rw [hread]
  dsimp only
  rw [if_pos hlt]

omit hk in
theorem onlyCore_vector (f : CoreSt → CoreSt) : Safety.OnlyCore core s ((u.goNext core q).modCore core f) :=
  OnlyCore.trans (OnlyCore.ready h) (OnlyCore.trans (OnlyCore.readOwn hread) (OnlyCore.trans (OnlyCore.goNext core q u) (OnlyCore.modCore core _ f)))

end

/-- A change of a core that keeps its queues keeps their places. -/
theorem State.modCore_pos (s : State) {core : Nat} {f : CoreSt → CoreSt} (hf : (f (s.core core)).queues = (s.core core).queues) (q : Nat) :
    ((s.modCore core f).queue core q).pos = (s.queue core q).pos := by
  rw [State.queue, State.core_modCore_self, hf, State.queue]

/-! ## The start of a kernel (R226, R227) -/

/-- Argument word `n` of a block. -/
def blockWord (bs : List Byte) (n : Nat) : Nat := leNat ((bs.drop (8 * n)).take 8)

/-- What a set of every key of a list leaves at a key. -/
theorem foldl_set_at {α : Type} [Inhabited α] [DecidableEq α] (f : Nat → α) (ns : List Nat) (t : Tab α) (k : Nat) :
    (ns.foldl (fun t n => t.set n (f n)) t).at k = if k ∈ ns then f k else t.at k := by
  induction ns generalizing t with
  | nil => simp
  | cons n ns ih =>
    rw [List.foldl_cons, ih, Tab.at_set]
    by_cases hk : k = n
    · subst hk; simp
    · simp [hk]

theorem allOnes_at : ∀ p, p < 8 → Tab.at ((List.range 8).map (fun p => (p, BitVec.allOnes 256))) p = BitVec.allOnes 256 := by decide

/-- A kernel that starts with settings read from its argument block. -/
def Kernel.start (k : Kernel) (bs : List Byte) (now : Nat) : Running :=
  { kernel := k, pc := k.index, counter := fld (blockWord bs 30) 0 6, increment := fld (blockWord bs 30) 16 16,
    statusEn := bitOf (blockWord bs 31) 63, statusOff := fld (blockWord bs 31) 0 25, started := now }

/-- The vector engine in which a kernel starts: the argument words in the scalars, everything else empty. -/
def VectorEngine.started (v : VectorEngine) (r : Running) (bs : List Byte) (n : Nat) : VectorEngine :=
  { v with
    run := some r, tiles := [], preds := (List.range 8).map (fun p => (p, BitVec.allOnes 256)),
    scalars := (List.range 32).foldl (fun t n => t.set n (BitVec.ofNat 64 (blockWord bs n))) [], banks := [],
    tokens := v.tokens + BitVec.ofNat 64 n }

theorem VectorEngine.started_tile (v : VectorEngine) (r : Running) (bs : List Byte) (n t : Nat) :
    (v.started r bs n).tile t = List.replicate 256 0 := by
  have hnil : (v.started r bs n).tiles.at t = [] := rfl
  rw [VectorEngine.tile, hnil, List.nil_append, List.take_replicate, Nat.min_self]

theorem VectorEngine.started_scalar (v : VectorEngine) (r : Running) (bs : List Byte) (n : Nat) {k : Nat} (hk : k < 32) :
    (v.started r bs n).scalar k = BitVec.ofNat 64 (blockWord bs k) :=
  (foldl_set_at (fun n => BitVec.ofNat 64 (blockWord bs n)) (List.range 32) [] k).trans (if_pos (List.mem_range.2 hk))

/-- A state whose core has taken the first kernel from its queue. -/
def State.takeKernel (s : State) (core : Nat) : State := s.modCore core (·.modVx (fun v => { v with queue := v.queue.drop 1 }))

section
variable {s u : State} {core : Nat} {k : Kernel} {bs : List Byte}
  (hread : (s.takeKernel core).readArgs core (sramAddr core k.args) = (u, .ok bs)) (hk : k.index ≤ 8191)
include hread hk

theorem State.startKernel_starts (hok : settingsOk k.segment (blockWord bs 30) (blockWord bs 31) = true) :
    s.startKernel core k = (u.modCore core (·.modVx (·.started (k.start bs u.now) bs (startTokens u.free)))).draw := by
  unfold State.startKernel
  rw [State.takeKernel] at hread
  dsimp only
  rw [hread]
  have hcond : (decide (8191 < k.index) || !settingsOk k.segment (blockWord bs 30) (blockWord bs 31)) = false := by
    rw [hok, decide_eq_false (Nat.not_lt.2 hk)]
    rfl
  exact if_neg (ne_true_of_eq_false hcond)

omit hk in
theorem State.startKernel_rejected (hbad : settingsOk k.segment (blockWord bs 30) (blockWord bs 31) = false) :
    s.startKernel core k = u.failKernel core (k.start bs u.now) Cause.planReject := by
  unfold State.startKernel
  rw [State.takeKernel] at hread
  dsimp only
  rw [hread]
  have hcond : (decide (8191 < k.index) || !settingsOk k.segment (blockWord bs 30) (blockWord bs 31)) = true := by
    rw [hbad]
    exact Bool.or_true _
  exact if_pos hcond

end

theorem exec_kernelStart {s : State} {core : Nat} {k : Kernel} {rest : List Kernel} (hrun : (s.core core).vx.run = none)
    (hqueue : (s.core core).vx.queue = k :: rest) (hdie : s.dieRunning (coreDie core) = true) :
    exec (.kernelStart core) s = .next (s.startKernel core k) := by
  change execKernelStart core s = _
  unfold execKernelStart
  rw [hrun, hqueue]
  dsimp only
  rw [if_pos hdie]

/-- What the start of a kernel gives (R226, R227). -/
theorem kernelStart_spec {s u : State} {core : Nat} {k : Kernel} {rest : List Kernel} {bs : List Byte} (hrun : (s.core core).vx.run = none)
    (hqueue : (s.core core).vx.queue = k :: rest) (hdie : s.dieRunning (coreDie core) = true) (hseg : k.segment = false) (hk : k.index ≤ 8191)
    (hread : (s.takeKernel core).readArgs core (sramAddr core k.args) = (u, .ok bs)) :
    ∃ v, exec (.kernelStart core) s = .next v ∧ (v.core core).vx.queue = rest ∧
      (settingsOk false (blockWord bs 30) (blockWord bs 31) = true →
        (v.core core).vx.run.map (·.pc) = some k.index ∧ (∀ t, (v.core core).vx.tile t = List.replicate 256 0) ∧
        (∀ p, p < 8 → (v.core core).vx.pred p = BitVec.allOnes 256) ∧ (v.core core).vx.banks = [] ∧
        (∀ n, n < 32 → (v.core core).vx.scalar n = BitVec.ofNat 64 (blockWord bs n))) ∧
      (settingsOk false (blockWord bs 30) (blockWord bs 31) = false →
        (v.core core).vx.run = none ∧ (v.core core).vx.lastFail = Cause.planReject) ∧ Safety.OnlyCore core s v := by
  have hown := State.countsOwn_readOwn hread
  have hrest : (u.core core).vx.queue = rest := by
    rw [hown.vx, State.takeKernel, State.core_modCore_self]
    exact congrArg (List.drop 1) hqueue
  have honly : Safety.OnlyCore core s u := OnlyCore.trans (OnlyCore.modCore core s _) hown.only
  rw [exec_kernelStart hrun hqueue hdie]
  cases hok : settingsOk false (blockWord bs 30) (blockWord bs 31) with
  | true =>
    rw [State.startKernel_starts hread hk (hseg ▸ hok)]
    have hframe (f : CoreSt → CoreSt) : Safety.OnlyCore core u (u.modCore core f).draw := OnlyCore.modCore core u f
    refine ⟨_, rfl, ?_, fun _ => ?_, fun hbad => absurd hbad (by decide), OnlyCore.trans honly (hframe _)⟩
    · rw [State.draw_core, State.core_modCore_self]
      exact hrest
    · rw [State.draw_core, State.core_modCore_self]
      exact ⟨rfl, VectorEngine.started_tile _ _ _ _, allOnes_at, rfl, fun n => VectorEngine.started_scalar _ _ _ _⟩
  | false =>
    rw [State.startKernel_rejected hread (hseg ▸ hok)]
    obtain ⟨hnone, hfail, -, -, hframe⟩ := u.failKernel_spec core (k.start bs u.now) (cause := Cause.planReject) (by decide)
    refine ⟨_, rfl, ?_, fun hbad => absurd hbad (by decide), fun _ => ⟨hnone, hfail⟩, OnlyCore.trans honly hframe⟩
    rw [State.failKernel, State.core_modCore_self, CoreSt.endKernel_vx]
    exact hrest

/-! ## The time limit of a kernel (R228) -/

/-- What the time limit of a kernel gives. -/
theorem kernelTimeout_spec {s : State} {core : Nat} {r : Running} (hrun : (s.core core).vx.run = some r) (hseg : r.kernel.segment = false)
    (hlate : r.started + s.waitLimit core r.kernel.queue < s.now) (hcause : ((s.core core).counters.at r.counter).cause = 0) :
    ∃ u, exec (.kernelTimeout core) s = .next u ∧ (u.core core).vx.run = none ∧ (u.core core).vx.lastFail = Cause.timeout ∧
      (u.core core).vx.failInstr = r.pc ∧ ((u.core core).counters.at r.counter).cause = Cause.timeout ∧
      ((u.core core).counters.at r.counter).value = ((s.core core).counters.at r.counter).value ∧ Safety.OnlyCore core s u := by
  have hexec : exec (.kernelTimeout core) s = .next (s.failKernel core r Cause.timeout) := by
    change execKernelTimeout core s = _
    rw [execKernelTimeout, hrun]
    exact congrArg _ (if_pos (decide_eq_true hlate))
  have hctr : ((s.failKernel core r Cause.timeout).core core).counters = ((s.core core).latch r.counter Cause.timeout).counters := by
    rw [State.failKernel, State.core_modCore_self, CoreSt.endKernel_counters_failed _ hseg (by decide)]
  obtain ⟨hnone, hfail, hinstr, -, hframe⟩ := s.failKernel_spec core r (cause := Cause.timeout) (by decide)
  refine ⟨_, hexec, hnone, hfail, hinstr, ?_, ?_, hframe⟩
  · rw [hctr, CoreSt.latch_cause _ hcause]
  · rw [hctr, CoreSt.latch_value]

/-! ## The last instruction of the kernel region (R236) -/

/-- The command of an instruction that reads and writes no memory and goes on to the next instruction; SSET writes its scalar. -/
def IsPlainRule (s : State) (core : Nat) (i : VInstr) (v : VectorEngine) (p : Instr × Nat) : Prop :=
  ∃ act : VInstr → VectorEngine → VOut, exec p.1 s = .next (s.vectorPure core p.2 act) ∧ (act i v).writes = [] ∧ (act i v).ends = false ∧
    (act i v).jump = none ∧ (act i v).v.ended = v.ended ∧ (p.2 = 0x30 → (act i v).v.scalar i.d = i.simm)

section
variable {s : State} {core : Nat} {i : VInstr} {v : VectorEngine} {c : Instr} {op : Nat}

/-- Every instruction that writes lanes is one. -/
theorem isPlainRule_vectorLanes {lanes : VInstr → VectorEngine → List (Flagged Word)} (hc : exec c s = .next (s.vectorLanes core op lanes))
    (hop : op ≠ 0x30) : IsPlainRule s core i v (c, op) :=
  ⟨fun i v => v.laneOut i (lanes i v), hc, rfl, rfl, rfl, rfl, fun ho => absurd ho hop⟩

theorem isPlainRule_vectorScalar {g : VInstr → VectorEngine → Word64} (hc : exec c s = .next (s.vectorScalar core op g))
    (hg : op = 0x30 → g i v = i.simm) : IsPlainRule s core i v (c, op) :=
  ⟨_, hc, rfl, rfl, rfl, rfl, fun ho => (Tab.at_set_self ..).trans (hg ho)⟩

theorem isPlainRule_vectorPred {b : VInstr → VectorEngine → BitVec 256} {f : VInstr → VectorEngine → Nat}
    (hc : exec c s = .next (s.vectorPure core op (fun i v => { v := v.setPred i.d (b i v), flags := f i v }))) (hop : op ≠ 0x30) :
    IsPlainRule s core i v (c, op) :=
  ⟨_, hc, rfl, rfl, rfl, rfl, fun ho => absurd ho hop⟩

theorem isPlainRule_vectorPure {act : VInstr → VectorEngine → VOut} (hc : exec c s = .next (s.vectorPure core op act))
    (hw : (act i v).writes = []) (he : (act i v).ends = false) (hj : (act i v).jump = none) (hn : (act i v).v.ended = v.ended) (hop : op ≠ 0x30) :
    IsPlainRule s core i v (c, op) :=
  ⟨act, hc, hw, he, hj, hn, fun ho => absurd ho hop⟩

end

/-- An instruction that goes on past instruction 8 191 ends its kernel there. -/
theorem exec_last {s : State} {core : Nat} {r : Running} {i : VInstr} {p : Instr × Nat} (h : s.Runs core r i) (hpc : r.pc = 8191)
    (ho : i.op = p.2) (hp : IsPlainRule s core i (s.core core).vx p) :
    ∃ u, exec p.1 s = .next u ∧ (u.core core).vx.run = none ∧ (u.core core).vx.lastFail = Cause.planReject ∧
      (u.core core).vx.failInstr = 8191 ∧ (u.core core).vx.ended = (s.core core).vx.ended + 1 ∧
      (i.op = 0x30 → (u.core core).vx.scalar i.d = i.simm) ∧ Safety.OnlyCore core s u := by
  obtain ⟨act, hc, hw, he, hj, hended, hscalar⟩ := hp
  have hnext : (act i (s.core core).vx).next r = 8192 := by rw [VOut.next, hj, hpc]; rfl
  have hret := State.vector_retires (act := fun s _ i v => (s, .ok (act i v))) h ho rfl (by rw [hw]; exact s.writeWhole_nil)
  rw [State.retire_eq, he, if_neg Bool.false_ne_true, hnext, if_pos (by decide)] at hret
  obtain ⟨hnone, hfail, hinstr, -, hframe⟩ := (s.modCore core (·.complete r i (act i (s.core core).vx))).failKernel_spec core
    { r.after i (act i (s.core core).vx) with pc := 8191 } (cause := Cause.planReject) (by decide)
  refine ⟨_, hc.trans (congrArg _ hret), hnone, hfail, hinstr, ?_, fun hop => ?_, OnlyCore.trans (OnlyCore.modCore core s _) hframe⟩
  · rw [State.failKernel, State.core_modCore_self, CoreSt.endKernel_vx, State.core_modCore_self, CoreSt.complete_vx]
    exact congrArg (· + 1) hended
  · rw [State.failKernel, State.core_modCore_self, CoreSt.endKernel_vx, State.core_modCore_self, CoreSt.complete_vx]
    exact hscalar (ho.symm.trans hop)

/-- What a lane, predicate, scalar or bank instruction at instruction 8 191 gives. -/
theorem lastInstruction_spec {s : State} {core : Nat} {r : Running} {i : VInstr} (h : s.Runs core r i) (hpc : r.pc = 8191) :
    ∀ p ∈ [(Instr.vAdd core, 0x01), (.vSub core, 0x02), (.vMul core, 0x03), (.vFma core, 0x04), (.vMax core, 0x05), (.vMin core, 0x06),
      (.vAbs core, 0x07), (.vNeg core, 0x08), (.vRcp core, 0x09), (.vRsqrt core, 0x0A), (.vExp2 core, 0x0B), (.vLog2 core, 0x0C),
      (.vCmp core, 0x10), (.vSel core, 0x11), (.vAnd core, 0x12), (.vOr core, 0x13), (.vXor core, 0x14), (.vShl core, 0x15),
      (.vShr core, 0x16), (.vSar core, 0x17), (.vPlog core, 0x18), (.vPset core, 0x19), (.vTrn core, 0x1C), (.vBrow core, 0x1D),
      (.vBcol core, 0x1E), (.vIota core, 0x1F), (.vSset core, 0x30), (.vSseth core, 0x31), (.vSadd core, 0x32), (.vSaddr core, 0x33),
      (.vSmul core, 0x34), (.vSget core, 0x35), (.vRclr core, 0x40), (.vRtap core, 0x43)], i.op = p.2 →
    ∃ u, exec p.1 s = .next u ∧ (u.core core).vx.run = none ∧ (u.core core).vx.lastFail = Cause.planReject ∧
      (u.core core).vx.failInstr = 8191 ∧ (u.core core).vx.ended = (s.core core).vx.ended + 1 ∧
      (i.op = 0x30 → (u.core core).vx.scalar i.d = i.simm) ∧ Safety.OnlyCore core s u := by
  intro p hp ho
  refine exec_last h hpc ho ?_
  clear ho
  revert p
  simp only [List.forall_mem_cons, List.not_mem_nil, false_imp_iff, implies_true, and_true]
  exact ⟨isPlainRule_vectorLanes rfl (by decide), isPlainRule_vectorLanes rfl (by decide), isPlainRule_vectorLanes rfl (by decide),
    isPlainRule_vectorLanes rfl (by decide), isPlainRule_vectorLanes rfl (by decide), isPlainRule_vectorLanes rfl (by decide),
    isPlainRule_vectorLanes rfl (by decide), isPlainRule_vectorLanes rfl (by decide), isPlainRule_vectorLanes rfl (by decide),
    isPlainRule_vectorLanes rfl (by decide), isPlainRule_vectorLanes rfl (by decide), isPlainRule_vectorLanes rfl (by decide),
    isPlainRule_vectorPred rfl (by decide), isPlainRule_vectorLanes rfl (by decide), isPlainRule_vectorLanes rfl (by decide),
    isPlainRule_vectorLanes rfl (by decide), isPlainRule_vectorLanes rfl (by decide), isPlainRule_vectorLanes rfl (by decide),
    isPlainRule_vectorLanes rfl (by decide), isPlainRule_vectorLanes rfl (by decide), isPlainRule_vectorPred rfl (by decide),
    isPlainRule_vectorPred rfl (by decide), isPlainRule_vectorLanes rfl (by decide), isPlainRule_vectorLanes rfl (by decide),
    isPlainRule_vectorLanes rfl (by decide), isPlainRule_vectorLanes rfl (by decide), isPlainRule_vectorScalar rfl (fun _ => rfl),
    isPlainRule_vectorScalar rfl (fun h => absurd h (by decide)), isPlainRule_vectorScalar rfl (fun h => absurd h (by decide)),
    isPlainRule_vectorScalar rfl (fun h => absurd h (by decide)), isPlainRule_vectorScalar rfl (fun h => absurd h (by decide)),
    isPlainRule_vectorScalar rfl (fun h => absurd h (by decide)), isPlainRule_vectorPure rfl rfl rfl rfl rfl (by decide),
    isPlainRule_vectorPure rfl rfl rfl rfl rfl (by decide)⟩

/-! ## A VECTOR entry (R225, R226) -/

/-- What a VECTOR entry gives. -/
theorem vectorEntry_spec {s t u : State} {core q : Nat} {e : Entry} {bs : List Byte} (h : Safety.Ready s core q t e) (hk : e.kind = 2)
    (hread : t.readArgs core e.argBlock = (u, .ok bs)) :
    (e.kernel ≤ 8191 → ∃ v k, exec (.vector core q) s = .next v ∧
      (v.core core).vx.queue = (u.core core).vx.queue ++ [k] ∧ k.index = e.kernel ∧ k.queue = q ∧ k.segment = false ∧
      (v.core core).vx.run = (u.core core).vx.run ∧ (v.queue core q).pos = (u.queue core q).pos + 1 ∧ Safety.OnlyCore core s v) ∧
    (8191 < e.kernel → ∃ v, exec (.vector core q) s = .next v ∧ (v.core core).vx.queue = (u.core core).vx.queue ∧
      (v.core core).vx.lastFail = Cause.planReject ∧ (v.core core).vx.ended = (u.core core).vx.ended + 1 ∧
      (v.queue core q).pos = (u.queue core q).pos + 1 ∧ Safety.OnlyCore core s v) := by
  refine ⟨fun hle => ?_, fun hlt => ?_⟩
  · refine ⟨_, u.vectorKernel core q e, exec_vector_queued h hk hread hle, ?_, rfl, rfl, rfl, ?_, ?_, onlyCore_vector h hread _⟩
    · rw [State.core_modCore_self, ← u.goNext_vx core q]
      rfl
    · rw [State.core_modCore_self, ← u.goNext_vx core q]
      rfl
    · exact (State.modCore_pos _ (by rfl) q).trans (u.goNext_pos core q)
  · refine ⟨_, exec_vector_rejected h hk hread hlt, ?_, ?_, ?_, ?_, onlyCore_vector h hread _⟩
    · rw [State.core_modCore_self, ← u.goNext_vx core q]
      rfl
    · rw [State.core_modCore_self]
      rfl
    · rw [State.core_modCore_self, ← u.goNext_vx core q]
      rfl
    · exact (State.modCore_pos _ (by rfl) q).trans (u.goNext_pos core q)

end Sys2Proof.Machine
end

section
/-! PROOFS. REDUCE operations (O14): what they write lies in their regions, and then what each of the four leaves. -/

namespace Sys2Proof.Machine

open Sys2Proof

/-! ## Writes inside regions (R254, R256) -/

/-- A write lies in one of the regions of a core's own SRAM. -/
def Within (core : Nat) (rs : Regions) (w : Nat × List Byte) : Prop :=
  ∃ o, w.1 = sramAddr core o ∧ ∃ r ∈ rs, r.1 ≤ o ∧ o + w.2.length ≤ r.1 + r.2

/-- An address lies in none of them. -/
def Outside (core : Nat) (rs : Regions) (a : Nat) : Prop := ∀ r ∈ rs, a < sramAddr core r.1 ∨ sramAddr core r.1 + r.2 ≤ a

theorem Within.apart {core a : Nat} {rs : Regions} {w : Nat × List Byte} (h : Within core rs w) (ha : Outside core rs a) : Apart a 1 w := by
  obtain ⟨o, ho, r, hr, hlo, hhi⟩ := h
  have hout := ha r hr
  unfold sramAddr at ho hout
  unfold Apart
  omega

theorem Within.space {core : Nat} {rs : Regions} {w : Nat × List Byte} (h : Within core rs w) (hc : core < 1024)
    (hrs : ∀ r ∈ rs, r.1 + r.2 ≤ 2 ^ 25) : addrSpace w.1 = 0 := by
  obtain ⟨o, ho, r, hr, hlo, hhi⟩ := h
  have hle := hrs r hr
  rw [ho]
  exact addrSpace_sramAddr hc (by omega)

/-- A write at an offset from the start of a region. -/
theorem within_of_mem {core o : Nat} {rs : Regions} {r : Nat × Nat} {bs : List Byte} (hr : r ∈ rs) (hle : o + bs.length ≤ r.2) :
    Within core rs (sramAddr core (r.1 + o), bs) :=
  ⟨r.1 + o, rfl, r, hr, Nat.le_add_right _ _, by rw [Nat.add_assoc]; exact Nat.add_le_add_left hle _⟩

/-- The sets that TAPREAD reads. -/
def RDesc.sets (d : RDesc) : List Nat := (List.range d.count).map (d.tapSet + ·)

/-- A core whose sets TAPREAD has cleared. -/
def CoreSt.clearTaps (x : CoreSt) (d : RDesc) : CoreSt :=
  { x with rd := { x.rd with taps := x.rd.taps.filter (fun e => !d.sets.contains (e.1 / 4)) } }

/-- What a REDUCE operation has brought a state to before it ends: its core differs in taps and recipes alone, memory in the regions alone. -/
structure State.Reduces (core : Nat) (rs : Regions) (s t : State) : Prop where
  tiers : t.tiers = s.tiers
  others : ∀ c, c ≠ core → t.core c = s.core c
  queues : (t.core core).queues = (s.core core).queues
  counters : (t.core core).counters = (s.core core).counters
  ended : (t.core core).rd.ended = (s.core core).rd.ended
  outside : ∀ a, Outside core rs a → t.mem.byte a = s.mem.byte a

section
variable {core : Nat} {rs : Regions} {s t u : State}

theorem State.Reduces.refl (core : Nat) (rs : Regions) (s : State) : State.Reduces core rs s s :=
  ⟨rfl, fun _ _ => rfl, rfl, rfl, rfl, fun _ _ => rfl⟩

theorem State.Reduces.trans (h : State.Reduces core rs s t) (g : State.Reduces core rs t u) : State.Reduces core rs s u :=
  ⟨g.tiers.trans h.tiers, fun c hc => (g.others c hc).trans (h.others c hc), g.queues.trans h.queues, g.counters.trans h.counters,
    g.ended.trans h.ended, fun a ha => (g.outside a ha).trans (h.outside a ha)⟩

theorem State.reduces_stores (s : State) {ws : List (Nat × List Byte)} (hws : ∀ w ∈ ws, Within core rs w) :
    State.Reduces core rs s (s.stores ws) :=
  ⟨s.stores_tiers ws, fun c _ => s.stores_core ws c, by rw [s.stores_core], by rw [s.stores_core], by rw [s.stores_core],
    fun _ ha => s.stores_byte_apart ws (fun w hw => (hws w hw).apart ha)⟩

theorem State.reduces_modCore (s : State) {f : CoreSt → CoreSt} (hq : (f (s.core core)).queues = (s.core core).queues)
    (hn : (f (s.core core)).counters = (s.core core).counters) (he : (f (s.core core)).rd.ended = (s.core core).rd.ended) :
    State.Reduces core rs s (s.modCore core f) :=
  ⟨rfl, fun _ hc => State.core_modCore_ne s f hc, by rw [State.core_modCore_self, hq], by rw [State.core_modCore_self, hn],
    by rw [State.core_modCore_self, he], fun _ _ => rfl⟩

theorem State.reduces_feedRecipe (s : State) (n : Nat) (scale : Option Byte) :
    State.Reduces core rs s (s.modCore core (·.feedRecipe n scale)) := by
  cases scale with
  | none => exact s.reduces_modCore rfl rfl rfl
  | some sc => exact s.reduces_modCore rfl rfl rfl

theorem State.reduces_clearTaps (s : State) (d : RDesc) : State.Reduces core rs s (s.modCore core (·.clearTaps d)) :=
  s.reduces_modCore rfl rfl rfl

theorem State.reduces_tap (s : State) (set kind : Nat) (xs : List Val) (vanished : Nat) :
    State.Reduces core rs s (s.modCore core (·.tap set kind xs vanished)) := by
  by_cases hk : kind = 0
  · refine s.reduces_modCore ?_ ?_ ?_ <;> rw [CoreSt.tap, if_pos hk]
  · refine s.reduces_modCore ?_ ?_ ?_ <;> rw [CoreSt.tap, if_neg hk]

end

/-! ## The end of an operation (R64, R256) -/

/-- What a REDUCE operation that ends Done leaves. -/
structure State.Reduced (core q : Nat) (d : RDesc) (s v : State) : Prop where
  outside : ∀ a, Outside core d.regions.2 a → v.mem.byte a = s.mem.byte a
  ended : (v.core core).rd.ended = (s.core core).rd.ended + 1
  counter : ((v.core core).counters.at d.counter).value = ((s.core core).counters.at d.counter).value + BitVec.ofNat 32 d.increment
  pos : (v.queue core q).pos = (s.queue core q).pos
  others : ∀ c, c ≠ core → v.core c = s.core c

section
variable {core : Nat} {d : RDesc} {s t : State}

/-- A core whose REDUCE operation has ended Done. -/
def CoreSt.reduceDone (x : CoreSt) (d : RDesc) : CoreSt :=
  ({ x with rd := { x.rd with ended := x.rd.ended + 1 } } : CoreSt).advance d.counter d.increment

theorem State.endReduce_core (s : State) (core : Nat) (d : RDesc) : (s.endReduce core d 0).core core = (s.core core).reduceDone d := by
  rw [State.endReduce, State.endItem, if_pos rfl, State.advance, State.core_modCore_self, State.core_modCore_self]
  rfl

theorem State.endReduce_core_ne (s : State) {core c : Nat} (d : RDesc) (cause : Cause) (hc : c ≠ core) :
    (s.endReduce core d cause).core c = s.core c :=
  (OnlyCore.trans (OnlyCore.modCore core s _) (OnlyCore.endItem core _ _ _ cause)).1 c hc

theorem State.Reduces.endReduce (h : State.Reduces core d.regions.2 s t) (q : Nat) : State.Reduced core q d s (t.endReduce core d 0) where
  outside := h.outside
  ended := by
    rw [State.endReduce_core, ← h.ended]
    rfl
  counter := by
    rw [State.endReduce_core, CoreSt.reduceDone, CoreSt.advance_value, if_pos rfl, ← h.counters]
  pos := by
    rw [State.queue, State.endReduce_core, State.queue, ← h.queues]
    rfl
  others := fun c hc => (t.endReduce_core_ne d 0 hc).trans (h.others c hc)

theorem State.Reduces.finishReduce (h : State.Reduces core d.regions.2 s t) (q : Nat) (vs : List Val) (n : Nat) :
    State.Reduced core q d s (t.finishReduce core d vs n) :=
  (h.trans (t.reduces_tap d.tapSet d.tapKind vs n)).endReduce q

end

/-- What the checks of R256 give. -/
theorem CoreSt.reduceOk_spec {x : CoreSt} {d : RDesc} (h : x.reduceOk d = true) :
    d.fieldsOk = true ∧ ∀ r ∈ d.regions.2, r.1 + r.2 ≤ 2 ^ 25 := by
  simp only [CoreSt.reduceOk, Bool.and_eq_true, List.all_append, List.all_eq_true, decide_eq_true_eq] at h
  obtain ⟨⟨⟨⟨-, hfields⟩, -, hwrites⟩, -⟩, -⟩ := h
  exact ⟨hfields, hwrites⟩

theorem State.readRegions_clean {s : State} (hs : s.tiers.wordErrs = []) (core : Nat) (rs : Regions) : s.readRegions core rs = (s, 0) := by
  rw [State.readRegions, hs]
  rfl

section
variable {s : State} {core : Nat} {d : RDesc} (hs : s.tiers.wordErrs = []) (hc : core < 1024) (hok : (s.core core).reduceOk d = true)
include hs hc hok

/-- With no SRAM word in error the writes of an operation that lie in its regions are stored. -/
theorem State.writeAll_reduce {ws : List (Nat × List Byte)} (hws : ∀ w ∈ ws, Within core d.regions.2 w) : s.writeAll ws = (s.stores ws, 0) := by
  obtain ⟨-, hle⟩ := CoreSt.reduceOk_spec hok
  exact State.writeAll_stores hs (fun w hw => (hws w hw).space hc hle)

end

/-! ## SUM (R254, R255) -/

/-- The sums of SUM, converted, and their write. -/
def State.sumConvs (s : State) (core : Nat) (d : RDesc) : List Conv :=
  (sumColumns d.count ((List.range d.count).map (s.sumInput core d)) (d.m * 256)).map (fun a => convElem d.fmtOut false none (w36 a.value))
def State.sumWrite (s : State) (core : Nat) (d : RDesc) : Nat × List Byte :=
  (sramAddr core d.dst, leBytes (storeBytes d.fmtOut (d.m * 256)) (packBits (storeBits d.fmtOut) ((s.sumConvs core d).map (·.bits))))

theorem RDesc.regions_sum {d : RDesc} (ho : d.op = 2) : d.regions.2 = [(d.dst, storeBytes d.fmtOut (d.m * 256))] := by
  simp only [RDesc.regions, ho]

theorem State.sumWrite_within (s : State) (core : Nat) {d : RDesc} (ho : d.op = 2) : Within core d.regions.2 (s.sumWrite core d) := by
  rw [d.regions_sum ho]
  exact within_of_mem (o := 0) (List.mem_singleton_self _) (by rw [leBytes_length, Nat.zero_add])

section
variable {s : State} {core : Nat} {d : RDesc} (hs : s.tiers.wordErrs = []) (hc : core < 1024) (hok : (s.core core).reduceOk d = true)
  (ho : d.op = 2)
include hs hc hok ho

theorem State.runSum_eq : ∃ vs n, State.runSum core s d = (s.stores [s.sumWrite core d]).finishReduce core d vs n := by
  obtain ⟨-, hle⟩ := CoreSt.reduceOk_spec hok
  have hwrite := State.writeMem_store hs ((s.sumWrite_within core ho).space hc hle)
  unfold State.sumWrite State.sumConvs at hwrite
  unfold State.runSum
  rw [State.readRegions_clean hs]
  dsimp only at hwrite
  simp only [BitVec.ofNat_eq_ofNat]
  rw [hwrite]
  exact ⟨_, _, rfl⟩

/-- What SUM leaves. -/
theorem runSum_spec (q : Nat) : State.Reduced core q d s (State.runSum core s d) ∧
    (State.runSum core s d).peek (sramAddr core d.dst) (storeBytes d.fmtOut (d.m * 256)) = leBytes (storeBytes d.fmtOut (d.m * 256))
      (packBits (storeBits d.fmtOut) ((sumColumns d.count ((List.range d.count).map (s.sumInput core d)) (d.m * 256)).map
        (fun a => (convElem d.fmtOut false none (w36 a.value)).bits))) := by
  obtain ⟨vs, n, heq⟩ := State.runSum_eq hs hc hok ho
  have hwithin : ∀ w ∈ [s.sumWrite core d], Within core d.regions.2 w := by simpa using s.sumWrite_within core ho
  rw [heq]
  refine ⟨(s.reduces_stores hwithin).finishReduce q vs n, ?_⟩
  have hpeek := s.stores_peek (List.pairwise_singleton _ (s.sumWrite core d)) (List.mem_singleton_self _)
  have hlen : (s.sumWrite core d).2.length = storeBytes d.fmtOut (d.m * 256) := leBytes_length ..
  have hbytes : (s.sumConvs core d).map (·.bits) = _ := List.map_map ..
  rw [hlen] at hpeek
  refine Eq.trans hpeek ?_
  rw [State.sumWrite, hbytes]
  rfl

end

/-! ## ROWS and TAPREAD (R254) -/

/-- Records of 64 bytes, one after the other from an offset of a core's SRAM. -/
def recordWrites (core dst n : Nat) (f : Nat → List Byte) : List (Nat × List Byte) :=
  (List.range n).map (fun r => (sramAddr core (dst + 64 * r), f r))

section
variable {core dst n : Nat} {f : Nat → List Byte} (hf : ∀ r, (f r).length = 64)
include hf

theorem recordWrites_within {rs : Regions} (hr : (dst, n * 64) ∈ rs) : ∀ w ∈ recordWrites core dst n f, Within core rs w := by
  intro w hw
  obtain ⟨r, hlt, rfl⟩ := List.mem_map.1 hw
  have := List.mem_range.1 hlt
  exact within_of_mem hr (by rw [hf]; omega)

theorem recordWrites_peek (s : State) {r : Nat} (hr : r < n) :
    (s.stores (recordWrites core dst n f)).peek (sramAddr core (dst + 64 * r)) 64 = f r := by
  have hpair : (recordWrites core dst n f).Pairwise (fun w x => Apart w.1 w.2.length x) := by
    refine List.pairwise_map.2 (List.pairwise_lt_range.imp fun {a b} hab => ?_)
    rw [hf]
    refine Or.inr ?_
    unfold sramAddr
    dsimp only
    omega
  have hpeek := s.stores_peek hpair (List.mem_map.2 ⟨r, List.mem_range.2 hr, rfl⟩)
  rw [hf] at hpeek
  exact hpeek

end

theorem fitBytes_length (n : Nat) (bs : List Byte) : (fitBytes n bs).length = n := by
  rw [fitBytes, List.length_append, List.length_take, zeros, List.length_replicate]
  omega

theorem RDesc.rowRecord_length (d : RDesc) (xs : List Word) : (d.rowRecord xs).length = 64 := by
  rw [RDesc.rowRecord, List.length_append, fitBytes_length, fitBytes_length]

theorem CoreSt.tapRecord_length (x : CoreSt) (set : Nat) : (x.tapRecord set).length = 64 := by
  simp [CoreSt.tapRecord, zeros]

/-- The record of row `r`, as ROWS forms it from memory. -/
def State.rowBytes (s : State) (core : Nat) (d : RDesc) (r : Nat) : List Byte :=
  d.rowRecord ((unpackBits (fmtBits d.fmtIn) d.n (s.peekNat (sramAddr core (d.src + r * d.aux)) (storeBytes d.fmtIn d.n))).map
    (fun b => toFp32 (decodeElem d.fmtIn b)))

theorem CoreSt.clearTaps_at (x : CoreSt) (d : RDesc) {n k : Nat} (hn : n < d.count) (hk : k < 4) :
    (x.clearTaps d).rd.taps.at (4 * (d.tapSet + n) + k) = {} := by
  have hdiv : (4 * (d.tapSet + n) + k) / 4 = d.tapSet + n := by omega
  have hmem : d.sets.contains ((4 * (d.tapSet + n) + k) / 4) = true := by
    rw [hdiv, List.contains_iff_mem]
    exact List.mem_map.2 ⟨n, List.mem_range.2 hn, rfl⟩
  have hfind := Tab.find?_filter x.rd.taps (fun e => !d.sets.contains (e.1 / 4)) (fun k => !d.sets.contains (k / 4)) (fun _ => rfl)
    (4 * (d.tapSet + n) + k)
  rw [hmem] at hfind
  exact congrArg (·.getD default) hfind

section
variable {s : State} {core : Nat} {d : RDesc} (hs : s.tiers.wordErrs = []) (hc : core < 1024) (hok : (s.core core).reduceOk d = true)
include hs hc hok

theorem State.runRows_eq (ho : d.op = 3) :
    State.runRows core s d = (s.stores (recordWrites core d.dst d.m (s.rowBytes core d))).endReduce core d 0 := by
  have hregion : (d.dst, d.m * 64) ∈ d.regions.2 := by simp [RDesc.regions, ho]
  have hwrite := State.writeAll_reduce hs hc hok (recordWrites_within (fun r => d.rowRecord_length _) hregion (f := s.rowBytes core d))
  unfold State.runRows
  rw [State.readRegions_clean hs]
  simp only [BitVec.ofNat_eq_ofNat]
  rw [zipIdx_map_range, List.map_map]
  unfold recordWrites at hwrite
  exact congrArg (fun p : State × Cause => p.1.endReduce core d p.2) hwrite

/-- What ROWS leaves. -/
theorem runRows_spec (ho : d.op = 3) (q : Nat) : State.Reduced core q d s (State.runRows core s d) ∧
    ∀ r, r < d.m → (State.runRows core s d).peek (sramAddr core (d.dst + 64 * r)) 64 = s.rowBytes core d r := by
  have hregion : (d.dst, d.m * 64) ∈ d.regions.2 := by simp [RDesc.regions, ho]
  have hlen : ∀ r, (s.rowBytes core d r).length = 64 := fun r => d.rowRecord_length _
  rw [State.runRows_eq hs hc hok ho]
  exact ⟨(s.reduces_stores (recordWrites_within hlen hregion)).endReduce q, fun r hr => recordWrites_peek hlen s hr⟩

theorem State.runTapread_eq (ho : d.op = 4) : State.runTapread core s d =
    ((s.stores (recordWrites core d.dst d.count (fun n => (s.core core).tapRecord (d.tapSet + n)))).when d.clear
      (·.modCore core (·.clearTaps d))).endReduce core d 0 := by
  have hregion : (d.dst, d.count * 64) ∈ d.regions.2 := by simp [RDesc.regions, ho]
  have hsets : d.sets.zipIdx.map (fun (t, i) => (sramAddr core (d.dst + 64 * i), (s.core core).tapRecord t)) =
      recordWrites core d.dst d.count (fun n => (s.core core).tapRecord (d.tapSet + n)) := by
    rw [RDesc.sets, zipIdx_map_range, List.map_map]
    rfl
  have hwrite := State.writeAll_reduce hs hc hok (recordWrites_within (fun n => CoreSt.tapRecord_length (s.core core) (d.tapSet + n)) hregion)
  rw [← hsets] at hwrite ⊢
  unfold RDesc.sets at hwrite
  unfold State.runTapread
  simp only [BitVec.ofNat_eq_ofNat]
  rw [hwrite]
  rfl

/-- What TAPREAD leaves. -/
theorem runTapread_spec (ho : d.op = 4) (q : Nat) : State.Reduced core q d s (State.runTapread core s d) ∧
    ∀ n, n < d.count → (State.runTapread core s d).peek (sramAddr core (d.dst + 64 * n)) 64 = (s.core core).tapRecord (d.tapSet + n) ∧
      (d.clear = true → ∀ k, k < 4 → ((State.runTapread core s d).core core).rd.taps.at (4 * (d.tapSet + n) + k) = {}) := by
  have hregion : (d.dst, d.count * 64) ∈ d.regions.2 := by simp [RDesc.regions, ho]
  have hlen : ∀ n, ((s.core core).tapRecord (d.tapSet + n)).length = 64 := fun n => CoreSt.tapRecord_length _ _
  have hstores := s.reduces_stores (recordWrites_within (core := core) hlen hregion)
  rw [State.runTapread_eq hs hc hok ho]
  cases d.clear with
  | false => exact ⟨hstores.endReduce q, fun n hn => ⟨recordWrites_peek hlen s hn, fun h => absurd h Bool.false_ne_true⟩⟩
  | true =>
    refine ⟨(hstores.trans (State.reduces_clearTaps _ d)).endReduce q, fun n hn => ⟨recordWrites_peek hlen s hn, fun _ k hk => ?_⟩⟩
    rw [State.endReduce_core, State.when_true, State.core_modCore_self]
    exact CoreSt.clearTaps_at _ d hn hk

end

/-! ## TREE (R254): its tiles fit the output -/

/-- A converted tile has at most `rows` rows of `cols` elements, and scales only in a block format. -/
structure TileFits (f : Nat) (t : TileOut) (rows cols : Nat) : Prop where
  rowCount : t.rows.length ≤ rows
  rowLength : ∀ es ∈ t.rows, es.length ≤ cols
  scaleCount : t.scales.length ≤ rows
  scaleLength : ∀ ss ∈ t.scales, ss.length ≤ cols / 32
  scaleFormat : t.scales ≠ [] → isBlock f = true

theorem convUnder_length (f : Nat) (keep : Bool) (scale : Byte) (xs : List Val) :
    (convUnder f keep scale (xs.map (fun _ => none)) xs).elems.length = xs.length := by
  unfold convUnder
  dsimp only
  split
  · simp
  · simp

theorem convComputed_length (f : Nat) (keep : Bool) (xs : List Val) :
    (convComputed f keep (xs.map (fun _ => none)) xs).elems.length = xs.length :=
  convUnder_length f keep (computedScale f xs).1 xs

theorem pieces_le {α : Type} (n k : Nat) (xs : List α) : ∀ p ∈ pieces n k xs, p.length ≤ n := by
  induction k generalizing xs with
  | zero => intro p hp; cases hp
  | succ k ih =>
    rw [pieces, List.forall_mem_cons]
    exact ⟨List.length_take_le n xs, ih _⟩

section
variable (f : Nat) (keep : Bool) (scale : Option Byte) (xs : List Val)

theorem convRow_length : (convRow f keep scale xs).length = xs.length / 32 := by
  rw [convRow, List.length_map, pieces_length]

theorem convRow_elems_le : ∀ b ∈ convRow f keep scale xs, b.elems.length ≤ 32 := by
  intro b hb
  obtain ⟨p, hp, rfl⟩ := List.mem_map.1 hb
  have hle := pieces_le 32 _ xs p hp
  cases scale with
  | none => exact (convComputed_length f keep p).trans_le hle
  | some sc => exact (convUnder_length f keep sc p).trans_le hle

/-- The elements of a converted row. -/
theorem convRow_bits_le : ((convRow f keep scale xs).flatMap (fun b => b.elems.map (·.bits))).length ≤ xs.length := by
  have hsum : ((convRow f keep scale xs).map (fun b => (b.elems.map (·.bits)).length)).sum ≤ (convRow f keep scale xs).length * 32 := by
    have h := List.sum_le_card_nsmul ((convRow f keep scale xs).map (fun b => (b.elems.map (·.bits)).length)) 32 (fun n hn => by
      obtain ⟨b, hb, rfl⟩ := List.mem_map.1 hn
      rw [List.length_map]
      exact convRow_elems_le f keep scale xs b hb)
    rwa [List.length_map, smul_eq_mul] at h
  rw [convRow_length] at hsum
  rw [List.length_flatMap]
  omega

end

/-- A tile in a block format is rows converted under one choice of scale. -/
theorem outputTile_block {f : Nat} (h : isBlock f = true) (keep : Bool) (recipe : Option Byte) (accs : List (List Acc)) :
    ∃ sc, (outputTile f keep recipe accs).rows = accs.map (fun r => (convRow f keep sc (r.map (fun a => w36 a.value))).flatMap
        (fun b => b.elems.map (·.bits))) ∧
      (outputTile f keep recipe accs).scales = accs.map (fun r => (convRow f keep sc (r.map (fun a => w36 a.value))).map (·.scale)) := by
  unfold outputTile
  rw [if_pos h]
  dsimp only
  split
  · exact ⟨_, by rw [List.map_map, List.map_map]; rfl, by rw [List.map_map, List.map_map]; rfl⟩
  · exact ⟨_, by rw [List.map_map, List.map_map]; rfl, by rw [List.map_map, List.map_map]; rfl⟩

theorem outputTile_plain {f : Nat} (h : isBlock f = false) (keep : Bool) (recipe : Option Byte) (accs : List (List Acc)) :
    (outputTile f keep recipe accs).rows = accs.map (fun r => r.map (fun a => (convElem f keep none (w36 a.value)).bits)) ∧
      (outputTile f keep recipe accs).scales = [] := by
  unfold outputTile
  rw [h, if_neg Bool.false_ne_true]
  refine ⟨?_, rfl⟩
  simp only [List.map_map, Function.comp_def]

theorem outputTile_fits (f : Nat) (keep : Bool) (recipe : Option Byte) {accs : List (List Acc)} {cols : Nat} (hcols : ∀ r ∈ accs, r.length = cols) :
    TileFits f (outputTile f keep recipe accs) accs.length cols := by
  cases h : isBlock f with
  | true =>
    obtain ⟨sc, hrows, hscales⟩ := outputTile_block h keep recipe accs
    refine ⟨by rw [hrows, List.length_map], fun es hes => ?_, by rw [hscales, List.length_map], fun ss hss => ?_, fun _ => h⟩
    · rw [hrows] at hes
      obtain ⟨r, hr, rfl⟩ := List.mem_map.1 hes
      exact (convRow_bits_le ..).trans (by rw [List.length_map, hcols r hr])
    · rw [hscales] at hss
      obtain ⟨r, hr, rfl⟩ := List.mem_map.1 hss
      rw [List.length_map, convRow_length, List.length_map, hcols r hr]
  | false =>
    obtain ⟨hrows, hscales⟩ := outputTile_plain h keep recipe accs
    refine ⟨by rw [hrows, List.length_map], fun es hes => ?_, by simp [hscales], by simp [hscales], fun hne => absurd hscales hne⟩
    rw [hrows] at hes
    obtain ⟨r, hr, rfl⟩ := List.mem_map.1 hes
    rw [List.length_map, hcols r hr]

/-- Elements that end at `n` columns end inside the row's bytes. -/
theorem elements_le {bits col len n : Nat} (h : col + len ≤ n) : col * bits / 8 + len * bits / 8 ≤ (n * bits + 7) / 8 := by
  have hsum := @Nat.div_add_div_le_add_div (col * bits) (len * bits) 8
  have hle : col * bits + len * bits ≤ n * bits + 7 := by
    rw [← Nat.add_mul]
    exact (Nat.mul_le_mul_right bits h).trans (Nat.le_add_right _ 7)
  exact hsum.trans (Nat.div_le_div_right hle)

section
variable {core row col rows cols : Nat} {d : RDesc} {t : TileOut} (ht : TileFits d.fmtOut t rows cols) (ho : d.op = 1)
  (hrow : row + rows ≤ d.m) (hcol : col + cols ≤ d.n)
include ht ho hrow hcol

/-- The element rows of a tile that fits lie in the output of a TREE. -/
theorem tileRow_within (hldd : d.ldd / 64 * 64 = d.ldd) {es : List Nat} {r : Nat} (hes : (es, r) ∈ t.rows.zipIdx) :
    Within core d.regions.2 (sramAddr core (d.dst + (row + r) * (d.ldd / 64) * 64 + col * storeBits d.fmtOut / 8),
      leBytes (storeBytes d.fmtOut es.length) (packBits (storeBits d.fmtOut) es)) := by
  have hr := List.snd_lt_of_mem_zipIdx hes
  have hmem : (d.dst, (d.m - 1) * d.ldd + (d.n * storeBits d.fmtOut + 7) / 8) ∈ d.regions.2 := by simp [RDesc.regions, ho]
  have hcount := ht.rowCount
  have hlen := ht.rowLength es (List.fst_mem_of_mem_zipIdx hes)
  have hrows : (row + r) * d.ldd ≤ (d.m - 1) * d.ldd := Nat.mul_le_mul_right _ (by omega)
  have hcols := elements_le (bits := storeBits d.fmtOut) ((Nat.add_le_add_left hlen col).trans hcol)
  rw [Nat.add_assoc, Nat.mul_assoc, hldd]
  refine within_of_mem hmem ?_
  rw [leBytes_length, storeBytes, Nat.add_assoc]
  exact Nat.add_le_add hrows hcols

/-- So do its scale bytes. -/
theorem tileScales_within {ss : List Byte} {r : Nat} (hss : (ss, r) ∈ t.scales.zipIdx) :
    Within core d.regions.2 (sramAddr core (d.dstScale + (row + r) * (d.n / 32) + col / 32), ss) := by
  have hr := List.snd_lt_of_mem_zipIdx hss
  have hblock := ht.scaleFormat (List.ne_nil_of_length_pos (by omega))
  have hmem : (d.dstScale, d.m * (d.n / 32)) ∈ d.regions.2 := by simp [RDesc.regions, ho, hblock]
  have hcount := ht.scaleCount
  have hlen := ht.scaleLength ss (List.fst_mem_of_mem_zipIdx hss)
  have hrows : (row + r + 1) * (d.n / 32) ≤ d.m * (d.n / 32) := Nat.mul_le_mul_right _ (by omega)
  rw [Nat.succ_mul] at hrows
  rw [Nat.add_assoc]
  refine within_of_mem hmem ?_
  omega

theorem tileWrites_within (hldd : d.ldd / 64 * 64 = d.ldd) :
    ∀ w ∈ tileWrites core d.fmtOut d.dst (d.ldd / 64) d.dstScale d.n row col t, Within core d.regions.2 w := by
  intro w hw
  rcases List.mem_append.1 hw with hw | hw
  · obtain ⟨⟨es, r⟩, hes, rfl⟩ := List.mem_map.1 hw
    exact tileRow_within ht ho hrow hcol hldd hes
  · obtain ⟨⟨ss, r⟩, hss, rfl⟩ := List.mem_map.1 hw
    exact tileScales_within ht ho hrow hcol hss

end

/-- The status word of tile `k` lies in the status array. -/
theorem tileStatus_within {core k w : Nat} {d : RDesc} (ho : d.op = 1) (hk : k < d.tiles) :
    Within core d.regions.2 (sramAddr core (d.status + k * 8), leBytes 8 w) := by
  have hmem : (d.status, d.tiles * 8) ∈ d.regions.2 := by simp [RDesc.regions, ho]
  exact within_of_mem hmem (by rw [leBytes_length]; omega)

/-- Where tile `k` of an output lies. -/
theorem RDesc.tile_inside {d : RDesc} {k : Nat} (hk : k < d.tiles) : 64 * (k / d.tileCols) < d.m ∧ 64 * (k % d.tileCols) < d.n := by
  have hpos : 0 < d.tileCols := Nat.pos_of_ne_zero fun h => by
    rw [RDesc.tiles, h, Nat.mul_zero] at hk
    omega
  have hrow : k / d.tileCols < (d.m + 63) / 64 := Nat.div_lt_of_lt_mul (by rw [Nat.mul_comm]; exact hk)
  have hcol : k % d.tileCols < (d.n + 63) / 64 := Nat.mod_lt k hpos
  omega

/-! ## TREE, tile by tile -/

/-- Tile `k` of a TREE, converted, and its writes. -/
def State.treeOut (s : State) (core : Nat) (d : RDesc) (k : Nat) : TileOut :=
  outputTile d.fmtOut false (if d.recipeSrc then some ((s.core core).recipes.at d.recipe).scale else none)
    (s.treeTile core d k (min 64 (d.m - 64 * (k / d.tileCols))) (min 64 (d.n - 64 * (k % d.tileCols))))
def State.treeWrites (s : State) (core : Nat) (d : RDesc) (k : Nat) : List (Nat × List Byte) :=
  tileWrites core d.fmtOut d.dst (d.ldd / 64) d.dstScale d.n (64 * (k / d.tileCols)) (64 * (k % d.tileCols)) (s.treeOut core d k) ++
    [(sramAddr core (d.status + k * 8), leBytes 8 (statusWord (s.treeOut core d k) false false false))]

theorem State.treeOut_fits (s : State) (core : Nat) (d : RDesc) (k : Nat) :
    TileFits d.fmtOut (s.treeOut core d k) (min 64 (d.m - 64 * (k / d.tileCols))) (min 64 (d.n - 64 * (k % d.tileCols))) := by
  have hrows (rows cols : Nat) : (s.treeTile core d k rows cols).length = rows := by rw [State.treeTile, List.length_map, List.length_range]
  have hcols (rows cols : Nat) : ∀ r ∈ s.treeTile core d k rows cols, r.length = cols := fun r hr => by
    obtain ⟨_, -, rfl⟩ := List.mem_map.1 hr
    rw [List.length_map, List.length_range]
  have hfits := outputTile_fits d.fmtOut false (if d.recipeSrc then some ((s.core core).recipes.at d.recipe).scale else none)
    (hcols (min 64 (d.m - 64 * (k / d.tileCols))) (min 64 (d.n - 64 * (k % d.tileCols))))
  rwa [hrows] at hfits

theorem State.treeWrites_within (s : State) (core : Nat) {d : RDesc} {k : Nat} (ho : d.op = 1) (hldd : d.ldd / 64 * 64 = d.ldd)
    (hk : k < d.tiles) : ∀ w ∈ s.treeWrites core d k, Within core d.regions.2 w := by
  obtain ⟨hrow, hcol⟩ := RDesc.tile_inside hk
  exact List.forall_mem_append.2 ⟨tileWrites_within (s.treeOut_fits core d k) ho (by omega) (by omega) hldd,
    List.forall_mem_singleton.2 (tileStatus_within ho hk)⟩

section
variable {s : State} {core : Nat} {d : RDesc} (hc : core < 1024) (hle : ∀ r ∈ d.regions.2, r.1 + r.2 ≤ 2 ^ 25) (ho : d.op = 1)
  (hldd : d.ldd / 64 * 64 = d.ldd)
include hc hle ho hldd

theorem State.treeStep_eq (hs : s.tiers.wordErrs = []) (outs : List TileOut) {k : Nat} (hk : k < d.tiles) :
    State.treeStep core d (s, 0, outs) k = ((s.stores (s.treeWrites core d k)).modCore core (·.feedRecipe d.recipe (s.treeOut core d k).newScale),
      0, outs ++ [s.treeOut core d k]) := by
  have hwrite := State.writeAll_stores hs (fun w hw => (s.treeWrites_within core ho hldd hk w hw).space hc hle)
  unfold State.treeWrites State.treeOut at hwrite
  unfold State.treeStep
  simp only [BitVec.ofNat_eq_ofNat, ne_eq, not_true_eq_false, if_false, State.readRegions_clean hs]
  rw [hwrite]
  rfl

/-- The tiles of a TREE leave no failure and write inside its regions. -/
theorem treeTiles_reduce (hs : s.tiers.wordErrs = []) (outs : List TileOut) {ks : List Nat} (hks : ∀ k ∈ ks, k < d.tiles) :
    ∃ t os, ks.foldl (State.treeStep core d) (s, 0, outs) = (t, 0, os) ∧ State.Reduces core d.regions.2 s t := by
  induction ks generalizing s outs with
  | nil => exact ⟨s, outs, rfl, .refl core _ s⟩
  | cons k ks ih =>
    obtain ⟨hk, hks⟩ := List.forall_mem_cons.1 hks
    have htile : State.Reduces core d.regions.2 s
        ((s.stores (s.treeWrites core d k)).modCore core (·.feedRecipe d.recipe (s.treeOut core d k).newScale)) :=
      (s.reduces_stores (s.treeWrites_within core ho hldd hk)).trans (State.reduces_feedRecipe _ _ _)
    obtain ⟨t, os, hfold, ht⟩ := ih (htile.tiers ▸ hs) (outs ++ [s.treeOut core d k]) hks
    refine ⟨t, os, ?_, htile.trans ht⟩
    rw [List.foldl_cons, State.treeStep_eq hc hle ho hldd hs outs hk, hfold]

end

/-- What TREE leaves. -/
theorem runTree_reduced {s : State} {core : Nat} {d : RDesc} (hs : s.tiers.wordErrs = []) (hc : core < 1024)
    (hok : (s.core core).reduceOk d = true) (ho : d.op = 1) (hldd : d.ldd / 64 * 64 = d.ldd) (q : Nat) :
    State.Reduced core q d s (State.runTree core s d) := by
  obtain ⟨-, hle⟩ := CoreSt.reduceOk_spec hok
  obtain ⟨t, outs, hfold, ht⟩ := treeTiles_reduce hc hle ho hldd hs [] (ks := List.range d.tiles) (fun _ => List.mem_range.1)
  unfold State.runTree
  rw [hfold]
  simp only [BitVec.ofNat_eq_ofNat]
  exact State.Reduces.finishReduce (d := d) ht q (d.treeValues outs) _

/-! ## A REDUCE entry issues (R253, R256) -/

theorem RDesc.ldd_words (w : Nat) : (RDesc.ofNat w).ldd / 64 * 64 = (RDesc.ofNat w).ldd := Nat.div_mul_cancel (Dvd.intro_left _ rfl)

/-- What an operation that passes its checks does. -/
def State.runReduce (core op : Nat) : State → RDesc → State :=
  match op with
  | 2 => State.runSum core
  | 3 => State.runRows core
  | 4 => State.runTapread core
  | _ => State.runTree core

/-- What SUM, ROWS and TAPREAD write of a state. -/
structure State.ReduceWrites (core : Nat) (d : RDesc) (y v : State) : Prop where
  sum : d.op = 2 → v.peek (sramAddr core d.dst) (storeBytes d.fmtOut (d.m * 256)) = leBytes (storeBytes d.fmtOut (d.m * 256))
    (packBits (storeBits d.fmtOut) ((sumColumns d.count ((List.range d.count).map (y.sumInput core d)) (d.m * 256)).map
      (fun a => (convElem d.fmtOut false none (w36 a.value)).bits)))
  rows : d.op = 3 → ∀ r, r < d.m → v.peek (sramAddr core (d.dst + 64 * r)) 64 = y.rowBytes core d r
  taps : d.op = 4 → ∀ n, n < d.count → v.peek (sramAddr core (d.dst + 64 * n)) 64 = (y.core core).tapRecord (d.tapSet + n) ∧
    (d.clear = true → ∀ k, k < 4 → (v.core core).rd.taps.at (4 * (d.tapSet + n) + k) = {})

theorem runReduce_spec {y : State} {core : Nat} {d : RDesc} (hs : y.tiers.wordErrs = []) (hc : core < 1024) (hok : (y.core core).reduceOk d = true)
    (hldd : d.ldd / 64 * 64 = d.ldd) (q : Nat) {op : Nat} (hop : op ∈ [1, 2, 3, 4]) (ho : d.op = op) :
    State.Reduced core q d y (State.runReduce core op y d) ∧ State.ReduceWrites core d y (State.runReduce core op y d) := by
  have hne {k j : Nat} {P : Prop} (hk : d.op = k) (hkj : k ≠ j) : d.op = j → P := fun h => absurd (hk.symm.trans h) hkj
  simp only [List.mem_cons, List.not_mem_nil, or_false] at hop
  rcases hop with rfl | rfl | rfl | rfl
  · exact ⟨runTree_reduced hs hc hok ho hldd q, hne ho (by decide), hne ho (by decide), hne ho (by decide)⟩
  · obtain ⟨hends, hpeek⟩ := runSum_spec hs hc hok ho q
    exact ⟨hends, fun _ => hpeek, hne ho (by decide), hne ho (by decide)⟩
  · obtain ⟨hends, hpeek⟩ := runRows_spec hs hc hok ho q
    exact ⟨hends, hne ho (by decide), fun _ => hpeek, hne ho (by decide)⟩
  · obtain ⟨hends, hpeek⟩ := runTapread_spec hs hc hok ho q
    exact ⟨hends, hne ho (by decide), hne ho (by decide), fun _ => hpeek⟩

/-- What an operation that fails its checks leaves. -/
theorem endReduce_rejected (y : State) (core : Nat) (d : RDesc) :
    ((y.endReduce core d Cause.planReject).core core).rd.lastFail = Cause.planReject ∧
    ((y.endReduce core d Cause.planReject).core core).rd.ended = (y.core core).rd.ended + 1 ∧
    (((y.endReduce core d Cause.planReject).core core).counters.at d.counter).value = ((y.core core).counters.at d.counter).value ∧
    (((y.core core).counters.at d.counter).cause = 0 →
      (((y.endReduce core d Cause.planReject).core core).counters.at d.counter).cause = Cause.planReject) ∧
    Safety.OnlyCore core y (y.endReduce core d Cause.planReject) := by
  have hne : ¬ Cause.planReject = 0 := by decide
  have hframe : Safety.OnlyCore core y (y.endReduce core d Cause.planReject) :=
    OnlyCore.trans (OnlyCore.modCore core y _) (OnlyCore.endItem core _ _ _ _)
  have hcore : (y.endReduce core d Cause.planReject).core core =
      ({ y.core core with rd := { (y.core core).rd with ended := (y.core core).rd.ended + 1, lastFail := Cause.planReject } } : CoreSt).latch
        d.counter Cause.planReject := by
    rw [State.endReduce, State.endItem, if_neg hne, State.latch, State.core_modCore_self, State.core_modCore_self]
    rfl
  rw [hcore]
  exact ⟨rfl, rfl, CoreSt.latch_value .., fun h => CoreSt.latch_cause _ h, hframe⟩

section
variable {s t u : State} {core q : Nat} {e : Entry} {bs : List Byte} {d : RDesc} (h : Safety.Ready s core q t e) (hk : e.kind = 3)
  (hread : t.readOwn core e.addr 32 1 = (u, .ok bs)) (hd : d = RDesc.ofNat (leNat bs))
include h hk hread hd

theorem State.issueReduce_ready {op : Nat} (act : State → RDesc → State) (ho : d.op = op) :
    s.issueReduce core q op act = if ((u.goNext core q).core core).reduceOk d then act (u.goNext core q) d
      else (u.goNext core q).endReduce core d Cause.planReject := by
  subst hd
  refine (State.issue_ready h hk _).trans ?_
  unfold State.actReduce
  rw [hread]
  dsimp only
  rw [ho]
  exact if_neg (by simp)

theorem exec_reduce : ∀ p ∈ [(Instr.tree core q, 1), (.sum core q, 2), (.rows core q, 3), (.tapread core q, 4)], d.op = p.2 →
    exec p.1 s = .next (if ((u.goNext core q).core core).reduceOk d then State.runReduce core p.2 (u.goNext core q) d
      else (u.goNext core q).endReduce core d Cause.planReject) := by
  simp only [List.forall_mem_cons, List.not_mem_nil, false_imp_iff, implies_true, and_true]
  exact ⟨fun ho => congrArg _ (State.issueReduce_ready h hk hread hd _ ho), fun ho => congrArg _ (State.issueReduce_ready h hk hread hd _ ho),
    fun ho => congrArg _ (State.issueReduce_ready h hk hread hd _ ho), fun ho => congrArg _ (State.issueReduce_ready h hk hread hd _ ho)⟩

end

/-- Settles O14: the four steps of a kernel's life, and a REDUCE entry by what its operation writes. -/
theorem kernelLifecycle : Obligations.KernelLifecycle := by
  refine ⟨⟨fun s t u core q e bs h hk hread => vectorEntry_spec h hk hread,
    fun s u core k rest bs hrun hqueue hdie hseg hk hread _ => kernelStart_spec hrun hqueue hdie hseg hk hread,
    fun s core r hrun hseg hlate hcause => kernelTimeout_spec hrun hseg hlate hcause,
    fun s core r i hrun hpc hinstr hok => lastInstruction_spec ⟨hrun, hpc ▸ hinstr, hok⟩ hpc⟩, ?_⟩
  intro s t u y core q e bs d h hk hc hread hd hs hy p hp ho
  subst hy
  have hframe : Safety.OnlyCore core s (u.goNext core q) := OnlyCore.trans (OnlyCore.ready h)
    (OnlyCore.trans (OnlyCore.readOwn hread) (OnlyCore.goNext core q u))
  have hexec := exec_reduce h hk hread hd p hp ho
  refine ⟨fun hok => ?_, fun hbad => ?_⟩
  · have hop : p.2 ∈ [1, 2, 3, 4] := List.mem_map_of_mem (f := Prod.snd) hp
    have hldd : d.ldd / 64 * 64 = d.ldd := hd ▸ RDesc.ldd_words _
    obtain ⟨⟨hout, hended, hctr, hpos, hothers⟩, hsum, hrows, htaps⟩ := runReduce_spec (y := u.goNext core q) hs hc hok hldd q hop ho
    obtain ⟨hcores, hmem⟩ := hframe
    refine ⟨_, hexec.trans (congrArg _ (if_pos hok)), fun a ha => ?_, hsum, hrows, htaps, ?_, ?_, ?_, fun c hne => ?_⟩
    · rw [hout a ha, hmem]
    · rw [hended, State.goNext_rd]
    · rw [hctr, State.goNext_counters]
    · rw [hpos, State.goNext_pos]
    · rw [hothers c hne, hcores c hne]
  · obtain ⟨hfail, hended, hctr, hcause, honly⟩ := endReduce_rejected (u.goNext core q) core d
    refine ⟨_, hexec.trans (congrArg _ (if_neg (ne_true_of_eq_false hbad))), hfail, ?_, ?_, ?_, OnlyCore.trans hframe honly⟩
    · rw [hended, State.goNext_rd]
    · rw [hctr, State.goNext_counters]
    · rw [State.goNext_counters] at hcause
      exact hcause

end Sys2Proof.Machine
end

section
/-! PROOFS. The scan of a route list (O15): its order, what one entry does to the entries and slots, then what the whole scan gives. -/

namespace Sys2Proof.Machine

open Sys2Proof

/-! ## The order of the scan (R272) -/

/-- The ranks and tokens of a route list in the order in which the scan meets them. -/
def DBlock.rankMajor (b : DBlock) : List (Nat × Nat) :=
  (List.range b.k).flatMap (fun r => (List.range b.tokens).map (fun u => (r, u)))

/-- The place in the route list of the entry of a rank and token. -/
def DBlock.place (b : DBlock) (p : Nat × Nat) : Nat := p.2 * b.k + p.1

/-- One rank and token comes before another in rank-major order. -/
def rankBefore (p q : Nat × Nat) : Bool := p.1 < q.1 || (p.1 == q.1 && p.2 < q.2)

theorem rankBefore_iff {p q : Nat × Nat} : rankBefore p q = true ↔ p.1 < q.1 ∨ (p.1 = q.1 ∧ p.2 < q.2) := by
  simp [rankBefore]

theorem rankBefore_irrefl (p : Nat × Nat) : rankBefore p p = false := by
  simp [rankBefore]

theorem rankBefore_asymm {p q : Nat × Nat} (h : rankBefore p q = true) : rankBefore q p = false := by
  rw [rankBefore_iff] at h
  rw [← Bool.not_eq_true, rankBefore_iff]
  omega

section
variable (b : DBlock)

theorem DBlock.mem_rankMajor {p : Nat × Nat} : p ∈ b.rankMajor ↔ p.1 < b.k ∧ p.2 < b.tokens := by
  obtain ⟨r, u⟩ := p
  simp [DBlock.rankMajor]

theorem DBlock.rankMajor_sorted : b.rankMajor.Pairwise (fun p q => rankBefore p q = true) := by
  refine List.pairwise_flatMap.2 ⟨fun r _ => ?_, List.pairwise_lt_range.imp fun hlt p hp q hq => ?_⟩
  · exact List.pairwise_map.2 (List.pairwise_lt_range.imp fun hlt => by simpa [rankBefore] using hlt)
  · obtain ⟨_, _, rfl⟩ := List.mem_map.1 hp
    obtain ⟨_, _, rfl⟩ := List.mem_map.1 hq
    exact rankBefore_iff.2 (.inl hlt)

theorem DBlock.map_place_rankMajor :
    b.rankMajor.map b.place = (List.range b.k).flatMap (fun r => (List.range b.tokens).map (fun u => u * b.k + r)) := by
  simp only [DBlock.rankMajor, List.map_flatMap, List.map_map]
  rfl

variable {b}

theorem DBlock.place_inj {p q : Nat × Nat} (hp : p.1 < b.k) (hq : q.1 < b.k) (h : b.place p = b.place q) : p = q := by
  have hrank {x : Nat × Nat} (hx : x.1 < b.k) : b.place x % b.k = x.1 := by
    rw [DBlock.place, Nat.mul_comm, Nat.mul_add_mod, Nat.mod_eq_of_lt hx]
  have htoken {x : Nat × Nat} (hx : x.1 < b.k) : b.place x / b.k = x.2 := by
    rw [DBlock.place, Nat.mul_comm, Nat.mul_add_div (by omega), Nat.div_eq_of_lt hx, Nat.add_zero]
  exact Prod.ext ((hrank hp).symm.trans (h ▸ hrank hq)) ((htoken hp).symm.trans (h ▸ htoken hq))

/-- The order cut at an entry: the entries that come before it, and later ones, which lie at other places. -/
theorem DBlock.rankMajor_cut {p : Nat × Nat} (hp : p ∈ b.rankMajor) :
    ∃ earlier later, b.rankMajor = earlier ++ p :: later ∧ (∀ f, b.rankMajor.filter (fun q => rankBefore q p && f q) = earlier.filter f) ∧
      b.place p ∉ later.map b.place := by
  obtain ⟨earlier, later, hcut⟩ := List.append_of_mem hp
  have hsorted := b.rankMajor_sorted
  rw [hcut, List.pairwise_append, List.pairwise_cons] at hsorted
  obtain ⟨-, ⟨hlater, -⟩, hearlier⟩ := hsorted
  refine ⟨earlier, later, hcut, fun f => ?_, fun hmem => ?_⟩
  · have hnone : later.filter (fun q => rankBefore q p && f q) = [] :=
      List.filter_eq_nil_iff.2 fun q hq => by simp [rankBefore_asymm (hlater q hq)]
    have hall : earlier.filter (fun q => rankBefore q p && f q) = earlier.filter f :=
      List.filter_congr fun q hq => by simp [hearlier q hq p (List.mem_cons_self ..)]
    rw [hcut, List.filter_append, List.filter_cons_of_neg (by simp [rankBefore_irrefl]), hnone, hall, List.append_nil]
  · obtain ⟨q, hq, hplace⟩ := List.mem_map.1 hmem
    have hqmem : q ∈ b.rankMajor := hcut ▸ List.mem_append_right _ (List.mem_cons_of_mem _ hq)
    cases DBlock.place_inj (b.mem_rankMajor.1 hqmem).1 (b.mem_rankMajor.1 hp).1 hplace
    exact absurd (hlater p hq) (by simp [rankBefore_irrefl])

end

/-! ## One entry of the scan (R272, R273) -/

/-- The entry at a place names an expert. -/
def namesExpert (es : List REntry) (x i : Nat) : Bool := (es[i]?).any (fun e => e.expert == x)

/-- The entry at a place is one that a replay admits to an expert. -/
def replaysTo (es : List REntry) (x i : Nat) : Bool := (es[i]?).any (fun e => e.state == 1 && e.expert == x)

/-- The STATE that a scan with REPLAY 0 gives an entry, from the slots taken so far. -/
def DBlock.verdict (b : DBlock) (slots : Array (List Nat)) (e : REntry) : Nat :=
  if e.expert = 0xFFFF then 3 else if (slots.getD e.expert []).length < b.cap then 1 else 2

theorem getD_modify_append {slots : Array (List Nat)} {x : Nat} (hx : x < slots.size) (y i : Nat) :
    (slots.modify y (· ++ [i])).getD x [] = slots.getD x [] ++ if y = x then [i] else [] := by
  rw [Array.getD_eq_getD_getElem?, Array.getD_eq_getD_getElem?, Array.getElem?_modify, Array.getElem?_eq_getElem hx]
  by_cases h : y = x <;> simp [h]

section
variable {b : DBlock} {es : List REntry} {e : REntry} {i x : Nat}

theorem DBlock.scanOne_none (h : es[i]? = none) (a : Array REntry × Array (List Nat)) : b.scanOne es.toArray a i = a := by
  simp only [DBlock.scanOne, List.getElem?_toArray, h]

theorem DBlock.scanOne_replay (hr : b.replay = true) (he : es[i]? = some e) (a : Array REntry × Array (List Nat)) :
    b.scanOne es.toArray a i = (a.1, if e.state = 1 then a.2.modify e.expert (· ++ [i]) else a.2) := by
  simp only [DBlock.scanOne, List.getElem?_toArray, he, hr, if_true]
  split <;> rfl

theorem DBlock.scanOne_fresh (hr : b.replay = false) (he : es[i]? = some e) (a : Array REntry × Array (List Nat)) :
    b.scanOne es.toArray a i = (a.1.setIfInBounds i { e with state := b.verdict a.2 e },
      if b.verdict a.2 e = 1 then a.2.modify e.expert (· ++ [i]) else a.2) := by
  simp only [DBlock.scanOne, List.getElem?_toArray, he, hr, Bool.false_eq_true, if_false, DBlock.verdict]
  split
  · rfl
  · split <;> rfl

theorem DBlock.scanOne_sizes (b : DBlock) (es : List REntry) (a : Array REntry × Array (List Nat)) (i : Nat) :
    (b.scanOne es.toArray a i).1.size = a.1.size ∧ (b.scanOne es.toArray a i).2.size = a.2.size := by
  cases he : es[i]? with
  | none => rw [DBlock.scanOne_none he]; exact ⟨rfl, rfl⟩
  | some e =>
    cases hr : b.replay with
    | true => rw [DBlock.scanOne_replay hr he]; exact ⟨rfl, by dsimp only; split <;> simp⟩
    | false => rw [DBlock.scanOne_fresh hr he]; exact ⟨by simp, by dsimp only; split <;> simp⟩

/-- A replay adds an admitted entry to its expert's slots. -/
theorem DBlock.scanOne_replay_slots (hr : b.replay = true) {a : Array REntry × Array (List Nat)} (hx : x < a.2.size) :
    (b.scanOne es.toArray a i).2.getD x [] = a.2.getD x [] ++ [i].filter (replaysTo es x) := by
  cases he : es[i]? with
  | none => simp [DBlock.scanOne_none he, replaysTo, he]
  | some e =>
    rw [DBlock.scanOne_replay hr he]
    by_cases hs : e.state = 1
    · simp only [if_pos hs, getD_modify_append hx]
      by_cases hex : e.expert = x <;> simp [replaysTo, he, hs, hex]
    · simp [replaysTo, he, hs]

/-- A scan with REPLAY 0 takes a slot of an expert for an entry that names it, while there is one. -/
theorem DBlock.scanOne_slots_taken (hr : b.replay = false) (hn : x ≠ 0xFFFF) {a : Array REntry × Array (List Nat)} (hx : x < a.2.size)
    (hcap : (a.2.getD x []).length ≤ b.cap) :
    ((b.scanOne es.toArray a i).2.getD x []).length = min b.cap ((a.2.getD x []).length + [i].countP (namesExpert es x)) := by
  cases he : es[i]? with
  | none => simpa [DBlock.scanOne_none he, namesExpert, he] using hcap
  | some e =>
    rw [DBlock.scanOne_fresh hr he]
    by_cases hex : e.expert = x
    · subst hex
      by_cases hfree : (a.2.getD e.expert []).length < b.cap
      · have hv : b.verdict a.2 e = 1 := by rw [DBlock.verdict, if_neg hn, if_pos hfree]
        simp only [if_pos hv, getD_modify_append hx, if_true, List.length_append, List.length_singleton]
        simp only [namesExpert, he, Option.any_some, beq_self_eq_true, List.countP_cons, List.countP_nil, if_true]
        omega
      · have hv : b.verdict a.2 e ≠ 1 := by rw [DBlock.verdict, if_neg hn, if_neg hfree]; decide
        simp only [if_neg hv, namesExpert, he, Option.any_some, beq_self_eq_true, List.countP_cons, List.countP_nil, if_true]
        omega
    · have hslots : (if b.verdict a.2 e = 1 then a.2.modify e.expert (· ++ [i]) else a.2).getD x [] = a.2.getD x [] := by
        by_cases hv : b.verdict a.2 e = 1
        · rw [if_pos hv, getD_modify_append hx, if_neg hex, List.append_nil]
        · rw [if_neg hv]
      rw [hslots]
      simpa only [namesExpert, he, Option.any_some, beq_false_of_ne hex, List.countP_cons, List.countP_nil, Bool.false_eq_true, if_false,
        Nat.add_zero, right_eq_inf] using hcap

/-- An entry at another place stays. -/
theorem DBlock.scanOne_entry_ne (a : Array REntry × Array (List Nat)) {k : Nat} (h : i ≠ k) :
    (b.scanOne es.toArray a i).1[k]? = a.1[k]? := by
  cases he : es[i]? with
  | none => rw [DBlock.scanOne_none he]
  | some e =>
    cases hr : b.replay with
    | true => rw [DBlock.scanOne_replay hr he]
    | false => rw [DBlock.scanOne_fresh hr he]; exact Array.getElem?_setIfInBounds_ne h

end

/-! ## The scan over a list of places -/

section
variable {b : DBlock} {es : List REntry} {x : Nat} (l : List Nat) (a : Array REntry × Array (List Nat))

theorem DBlock.scanAll_sizes :
    (l.foldl (b.scanOne es.toArray) a).1.size = a.1.size ∧ (l.foldl (b.scanOne es.toArray) a).2.size = a.2.size :=
  ⟨foldl_keeps (fun a : Array REntry × Array (List Nat) => a.1.size) _ (fun a i => (b.scanOne_sizes es a i).1) l a,
    foldl_keeps (fun a : Array REntry × Array (List Nat) => a.2.size) _ (fun a i => (b.scanOne_sizes es a i).2) l a⟩

theorem DBlock.scanAll_entry_ne {k : Nat} (h : k ∉ l) : (l.foldl (b.scanOne es.toArray) a).1[k]? = a.1[k]? := by
  induction l generalizing a with
  | nil => rfl
  | cons i l ih =>
    obtain ⟨hi, hl⟩ := not_or.1 (mt List.mem_cons.2 h)
    rw [List.foldl_cons, ih _ hl, DBlock.scanOne_entry_ne _ (Ne.symm hi)]

/-- As many slots of an expert are taken as entries named it, up to CAP. -/
theorem DBlock.scanAll_slots_taken (hr : b.replay = false) (hn : x ≠ 0xFFFF) (hx : x < a.2.size) (hcap : (a.2.getD x []).length ≤ b.cap) :
    ((l.foldl (b.scanOne es.toArray) a).2.getD x []).length = min b.cap ((a.2.getD x []).length + l.countP (namesExpert es x)) := by
  induction l generalizing a with
  | nil => simpa using hcap
  | cons i l ih =>
    have hone := DBlock.scanOne_slots_taken (i := i) (es := es) hr hn hx hcap
    have hsum : (i :: l).countP (namesExpert es x) = [i].countP (namesExpert es x) + l.countP (namesExpert es x) :=
      List.countP_append (l₁ := [i])
    rw [List.foldl_cons, ih _ ((b.scanOne_sizes es a i).2.symm ▸ hx) (by omega), hsum]
    omega

/-- With REPLAY 1 the slots of an expert are the admitted entries that name it, in order. -/
theorem DBlock.scanAll_replay_slots (hr : b.replay = true) (hx : x < a.2.size) :
    (l.foldl (b.scanOne es.toArray) a).2.getD x [] = a.2.getD x [] ++ l.filter (replaysTo es x) := by
  induction l generalizing a with
  | nil => simp
  | cons i l ih =>
    have hsplit : (i :: l).filter (replaysTo es x) = [i].filter (replaysTo es x) ++ l.filter (replaysTo es x) :=
      List.filter_append (l₁ := [i]) ..
    rw [List.foldl_cons, ih _ ((b.scanOne_sizes es a i).2.symm ▸ hx), DBlock.scanOne_replay_slots hr hx, hsplit, List.append_assoc]

end

/-! ## What a scan gives (R272, R273) -/

/-- The entries and slots once the places of a list have been scanned. -/
def DBlock.scanned (b : DBlock) (es : List REntry) (l : List Nat) : Array REntry × Array (List Nat) :=
  l.foldl (b.scanOne es.toArray) (es.toArray, Array.replicate b.experts [])

section
variable {b : DBlock} {es : List REntry}

theorem DBlock.scan_eq_scanned (b : DBlock) (es : List REntry) : b.scan es = b.scanned es (b.rankMajor.map b.place) := by
  rw [b.map_place_rankMajor]
  rfl

theorem replicate_slots_getD (n x : Nat) : (Array.replicate n ([] : List Nat)).getD x [] = [] := by
  rw [Array.getD_eq_getD_getElem?, Array.getElem?_replicate]
  split <;> rfl

theorem DBlock.scanned_slots_taken (l : List Nat) {x : Nat} (hr : b.replay = false) (hn : x ≠ 0xFFFF) (hx : x < b.experts) :
    ((b.scanned es l).2.getD x []).length = min b.cap (l.countP (namesExpert es x)) := by
  rw [DBlock.scanned, DBlock.scanAll_slots_taken _ _ hr hn (by simpa using hx)
    (by rw [replicate_slots_getD]; exact Nat.zero_le _), replicate_slots_getD, List.length_nil, Nat.zero_add]

/-- The entry at a place is ruled on when the scan comes to it, and stays so. -/
theorem DBlock.scan_entry {p : Nat × Nat} {earlier later : List (Nat × Nat)} {e : REntry} (hr : b.replay = false)
    (hcut : b.rankMajor = earlier ++ p :: later) (hlater : b.place p ∉ later.map b.place) (he : es[b.place p]? = some e) :
    (b.scan es).1.toList[b.place p]? = some { e with state := b.verdict (b.scanned es (earlier.map b.place)).2 e } := by
  have hsize : b.place p < (b.scanned es (earlier.map b.place)).1.size := by
    rw [DBlock.scanned, (DBlock.scanAll_sizes _ _).1]
    exact (List.getElem?_eq_some_iff.1 he).1
  rw [DBlock.scan_eq_scanned, DBlock.scanned, hcut, List.map_append, List.map_cons, List.foldl_append, List.foldl_cons, ← DBlock.scanned,
    Array.getElem?_toList, DBlock.scanAll_entry_ne _ _ hlater, DBlock.scanOne_fresh hr he, Array.getElem?_setIfInBounds_self_of_lt hsize]

/-- A scan with REPLAY 0 rules on an entry by the entries before it that name its expert. -/
theorem DBlock.scan_fresh_entry {p : Nat × Nat} {e : REntry} (hr : b.replay = false) (hp : p ∈ b.rankMajor)
    (hexp : e.expert < b.experts ∨ e.expert = 0xFFFF) (he : es[b.place p]? = some e) :
    ∃ f, (b.scan es).1.toList[b.place p]? = some f ∧ f = { e with state := f.state } ∧
      f.state = if e.expert = 0xFFFF then 3
        else if (b.rankMajor.filter (fun q => rankBefore q p && namesExpert es e.expert (b.place q))).length < b.cap then 1 else 2 := by
  obtain ⟨earlier, later, hcut, hbefore, hlater⟩ := DBlock.rankMajor_cut hp
  refine ⟨_, DBlock.scan_entry hr hcut hlater he, rfl, ?_⟩
  rw [hbefore, ← List.countP_eq_length_filter]
  unfold DBlock.verdict
  split
  · rfl
  · rename_i hn
    rw [DBlock.scanned_slots_taken _ hr hn (hexp.resolve_right hn), List.countP_map]
    simp only [min_lt_iff, lt_irrefl, false_or]
    rfl

/-- A scan with REPLAY 1 changes no entry and takes its slots from their STATE. -/
theorem DBlock.scan_replay (hr : b.replay = true) {x : Nat} (hx : x < b.experts) :
    (b.scan es).1.toList = es ∧ (b.scan es).2.getD x [] = (b.rankMajor.map b.place).filter (replaysTo es x) := by
  rw [DBlock.scan_eq_scanned]
  constructor
  · refine (congrArg Array.toList (foldl_keeps Prod.fst _ (fun a i => ?_) _ _)).trans rfl
    cases he : es[i]? with
    | none => rw [DBlock.scanOne_none he]
    | some e => rw [DBlock.scanOne_replay hr he]
  · rw [DBlock.scanned, DBlock.scanAll_replay_slots _ _ hr (by simpa using hx), replicate_slots_getD, List.nil_append]

end

end Sys2Proof.Machine
end

section
/-! PROOFS. DISPATCH and COMBINE (O15): what their entries do when they issue, and the end of their items. -/

namespace Sys2Proof.Machine

open Sys2Proof

/-! ## Reads of a parameter block's regions (R269, R281) -/

theorem State.CountsOwn.xf {s t : State} {core : Nat} (h : State.CountsOwn core s t) : (t.core core).xf = (s.core core).xf := by
  obtain ⟨_, _, ht⟩ := h.own
  rw [ht]

@[simp] theorem State.goNext_xf (s : State) (core q : Nat) : ((s.goNext core q).core core).xf = (s.core core).xf := by
  simp [State.goNext, State.goTo, CoreSt.modQueue]

theorem State.countsOwn_readSram {s t : State} {core off n : Nat} {res : Except Cause (List Byte)} (hc : core < 1024) (ho : off < 2 ^ 42)
    (h : s.readMem (sramAddr core off) n = (t, res)) : State.CountsOwn core s t := by
  have hread := s.countsOwn_readMem (addrSpace_sramAddr hc ho) n
  rw [addrCore_sramAddr hc ho, h] at hread
  exact hread

theorem DBlock.home_lt (w : Nat) : (DBlock.ofNat w).home < 2 ^ 42 := Nat.lt_of_lt_of_le (fld_units_lt w 198 19) (by decide)
theorem DBlock.route_lt (w : Nat) : (DBlock.ofNat w).route < 2 ^ 42 := Nat.lt_of_lt_of_le (fld_units_lt w 179 19) (by decide)

/-! ## An expert entry ends before its item is open (R271, R282) -/

/-- What a failure leaves: its cause in LAST_FAIL, the open items and the queue's place as they were. -/
theorem State.expertFail_spec (v : State) (core q : Nat) (d : XDesc) {cause : Cause} (hc : cause ≠ 0) :
    ((v.expertFail core d cause).core core).rt.lastFail = cause ∧
    ((v.expertFail core d cause).core core).xf.open_ = (v.core core).xf.open_ ∧
    (v.expertFail core d cause).queue core q = v.queue core q ∧ Safety.OnlyCore core v (v.expertFail core d cause) := by
  have hframe : Safety.OnlyCore core v (v.expertFail core d cause) := by
    rw [State.expertFail, State.endXfer, if_neg hc]
    exact OnlyCore.trans (OnlyCore.modCore core v _) (OnlyCore.trans (OnlyCore.modCore core _ _) (OnlyCore.endItem core _ _ _ _))
  have hcore : (v.expertFail core d cause).core core =
      ({ v.core core with rt := { (v.core core).rt with lastFail := cause }, xf := { (v.core core).xf with lastFail := cause } } : CoreSt).latch
        d.counter cause := by
    rw [State.expertFail, State.endXfer, if_neg hc, State.endItem, if_neg hc, State.latch, State.core_modCore_self, State.xferFailed, State.modXf,
      State.core_modCore_self, State.core_modCore_self]
  rw [State.queue, hcore]
  exact ⟨rfl, rfl, rfl, hframe⟩

/-! ## The item of an expert transfer (R278, R282) -/

/-- The item that an expert entry opens. -/
def State.expertItem (s : State) (core q w : Nat) (d : XDesc) (kind : XferKind) : Xfer :=
  { id := (s.core core).xf.nextId, kind := kind, op := d.op, queue := q, entry := (s.queue core q).pos - 1, counter := d.counter,
    increment := d.increment, desc := BitVec.ofNat 256 w, started := s.now }

theorem State.openExpert_spec (s : State) (core q w : Nat) (d : XDesc) (kind : XferKind) :
    ((s.openExpert core q w d kind).1.core core).xf.open_ = (s.core core).xf.open_ ++ [s.expertItem core q w d kind] ∧
    ((s.openExpert core q w d kind).1.core core).counters = (s.core core).counters ∧
    (s.openExpert core q w d kind).1.queue core q = s.queue core q ∧ Safety.OnlyCore core s (s.openExpert core q w d kind).1 := by
  have hcore : (s.openExpert core q w d kind).1.core core = { s.core core with xf := { (s.core core).xf with
      open_ := (s.core core).xf.open_ ++ [s.expertItem core q w d kind], nextId := (s.core core).xf.nextId + 1 } } := s.core_modCore_self core _
  rw [State.queue, hcore]
  exact ⟨rfl, rfl, rfl, OnlyCore.modCore core s _⟩

/-! ## DISPATCH and COMBINE issue (R269, R271, R281, R282) -/

theorem State.withBlock_read {s v : State} {core q : Nat} {d : XDesc} {pb : List Byte}
    (h : s.readOwn core (sramAddr core (64 * d.aux)) 64 1 = (v, .ok pb)) (act : State → Nat → State) :
    s.withBlock core q d act = act v (leNat pb) := by
  rw [State.withBlock, h]

section
variable {s t u v : State} {core q : Nat} {e : Entry} {bs pb : List Byte} {d : XDesc} (h : Safety.Ready s core q t e) (hk : e.kind = 4)
  (hread : t.readOwn core e.addr 32 1 = (u, .ok bs)) (hd : d = XDesc.ofNat (leNat bs))
  (hblock : (u.goNext core q).readOwn core (sramAddr core (64 * d.aux)) 64 1 = (v, .ok pb))

section
include h hread hblock

/-- The reads of the entry, its descriptor and its block leave the open items and counters, and the next entry is at the head. -/
theorem expertReads_spec : (v.core core).xf.open_ = (u.core core).xf.open_ ∧ (v.core core).counters = (u.core core).counters ∧
    (v.queue core q).pos = (u.queue core q).pos + 1 ∧ Safety.OnlyCore core s v := by
  have hown := State.countsOwn_readOwn hblock
  refine ⟨?_, ?_, ?_, OnlyCore.trans (OnlyCore.ready h)
    (OnlyCore.trans (OnlyCore.readOwn hread) (OnlyCore.trans (OnlyCore.goNext core q u) hown.only))⟩
  · rw [hown.xf, State.goNext_xf]
  · rw [hown.counters, State.goNext_counters]
  · rw [hown.queue, State.goNext_pos]

/-- What an entry refused by the checks of its block leaves. -/
theorem expertRejected_spec : ((v.expertFail core d Cause.planReject).core core).rt.lastFail = Cause.planReject ∧
    ((v.expertFail core d Cause.planReject).core core).xf.open_ = (u.core core).xf.open_ ∧
    ((v.expertFail core d Cause.planReject).queue core q).pos = (u.queue core q).pos + 1 ∧
    Safety.OnlyCore core s (v.expertFail core d Cause.planReject) := by
  obtain ⟨hopen, -, hpos, hframe⟩ := expertReads_spec h hread hblock
  obtain ⟨hcause, hkept, hqueue, honly⟩ := v.expertFail_spec core q d (cause := Cause.planReject) (by decide)
  exact ⟨hcause, hkept.trans hopen, by rw [hqueue, hpos], OnlyCore.trans hframe honly⟩

end

include h hk hread hd in
/-- An entry of the command's own OP acts on its descriptor. -/
theorem State.issueXfer_read {op : Nat} (ho : d.op = op) (act : State → Nat → State) :
    s.issueXfer core q op act = act (u.goNext core q) (leNat bs) := by
  subst hd
  exact State.issueXfer_transfer ⟨t, e, bs, h, hk, hread, rfl⟩ ho act

include h hk hread hd hblock

section
variable {b : DBlock} (ho : d.op = 0x20) (hb : b = DBlock.ofNat (leNat pb))
include ho hb

theorem exec_dispatch_rejected (hbad : (d.expertOk && b.fieldsOk && b.formatOk v core d && b.regionsOk d) = false) :
    exec (.dispatch core q) s = .next (v.expertFail core d Cause.planReject) := by
  refine congrArg _ ((State.issueXfer_read h hk hread hd ho _).trans ?_)
  rw [State.actDispatch, ← hd, State.withBlock_read hblock]
  dsimp only
  rw [← hb, hbad]
  rfl

variable {x y : State} {homeB routeB : List Byte} {homes : List Home} {es : List REntry}
  (hok : (d.expertOk && b.fieldsOk && b.formatOk v core d && b.regionsOk d) = true)
  (hhome : v.readMem (sramAddr core b.home) (8 * b.experts) = (x, .ok homeB))
  (hroute : x.readMem (sramAddr core b.route) (8 * b.tokens * b.k) = (y, .ok routeB))
  (hhomes : homes = (wordsOf 8 homeB).map Home.ofNat) (hes : es = (wordsOf 8 routeB).map REntry.ofNat)
  (hlists : (homes.all (b.homeOk y) && b.routeOk es) = true)
include hok hhome hroute hhomes hes hlists

theorem exec_dispatch_sent : exec (.dispatch core q) s = .next ((y.openExpert core q (leNat bs) d .dispatch).1.dispatchGo core
    (y.expertItem core q (leNat bs) d .dispatch).id d b homes es) := by
  refine congrArg _ ((State.issueXfer_read h hk hread hd ho _).trans ?_)
  rw [State.actDispatch, ← hd, State.withBlock_read hblock]
  simp only [← hb, hok, hhome, hroute, ← hhomes, ← hes, hlists, Bool.not_true, Bool.false_eq_true, if_false]
  rfl

/-- A DISPATCH that passes every check sends its bundles as one open item. -/
theorem dispatchSent_spec : ∃ z item, exec (.dispatch core q) s = .next (z.dispatchGo core item.id d b homes es) ∧
    (z.core core).xf.open_ = (y.core core).xf.open_ ++ [item] ∧ item.kind = .dispatch ∧ item.counter = d.counter ∧
    item.increment = d.increment ∧ item.queue = q ∧ item.outstanding = [] ∧ (z.core core).counters = (u.core core).counters ∧
    (z.queue core q).pos = (u.queue core q).pos + 1 ∧ Safety.OnlyCore core s z := by
  have hexec := exec_dispatch_sent h hk hread hd hblock ho hb hok hhome hroute hhomes hes hlists
  obtain ⟨-, hctr, hpos, hframe⟩ := expertReads_spec h hread hblock
  have hc := core_lt_of_readOwn hread
  have hown : State.CountsOwn core v y :=
    (State.countsOwn_readSram hc (hb ▸ DBlock.home_lt _) hhome).trans (State.countsOwn_readSram hc (hb ▸ DBlock.route_lt _) hroute)
  obtain ⟨hopen, hsame, hqueue, honly⟩ := y.openExpert_spec core q (leNat bs) d .dispatch
  refine ⟨_, y.expertItem core q (leNat bs) d .dispatch, hexec, hopen, rfl, rfl, rfl, rfl, rfl, ?_, ?_,
    OnlyCore.trans hframe (OnlyCore.trans hown.only honly)⟩
  · rw [hsame, hown.counters, hctr]
  · rw [hqueue, hown.queue, hpos]

end

section
variable {b : CBlock} {n : Nat} (ho : d.op = 0x21) (hb : b = CBlock.ofNat (leNat pb))
  (hn : n = 32 * (rowBlocks d.dstFmt b.rowBytes (v.rowRate core d)).getD 0)
include ho hb hn

theorem exec_combine_rejected (hbad : b.ok d n = false) :
    exec (.combine core q) s = .next (v.expertFail core d Cause.planReject) := by
  refine congrArg _ ((State.issueXfer_read h hk hread hd ho _).trans ?_)
  rw [State.actCombine, ← hd, State.withBlock_read hblock]
  dsimp only
  rw [← hb, ← hn, hbad]
  rfl

theorem exec_combine_sent {x y : State} {headB retB : List Byte} {counts : List Nat} {tags : List (List Byte)} (hok : b.ok d n = true)
    (hparts : v.readParts core [(b.recv, 64 * b.xsize), (b.ret, 8 * b.xsize)] = (x, .ok [headB, retB]))
    (hcounts : counts = (wordsOf 64 headB).map (fun h => fld h 0 11)) (hheads : (wordsOf 64 headB).all b.headerOk = true)
    (hrets : (wordsOf 8 retB).all (retOk x) = true)
    (hrows : counts.sum = 0 ∨ b.out + (counts.sum - 1) * b.stride + rowIn d n b.rowBytes ≤ 2 ^ 25)
    (htags : x.readParts core (counts.zipIdx.map (fun (k, i) => (b.recv + b.region.tags i, 4 * k))) = (y, .ok tags)) :
    exec (.combine core q) s = .next (y.combineGo core q (leNat bs) d b n counts (tags.map (wordsOf 4)) (wordsOf 8 retB)) := by
  have hfit : (counts.sum == 0 || decide (b.out + (counts.sum - 1) * b.stride + rowIn d n b.rowBytes ≤ 2 ^ 25)) = true := by
    simpa only [Bool.or_eq_true, beq_iff_eq, decide_eq_true_eq] using hrows
  refine congrArg _ ((State.issueXfer_read h hk hread hd ho _).trans ?_)
  rw [State.actCombine, ← hd, State.withBlock_read hblock]
  simp only [← hb, ← hn, hok, hparts, Bool.not_true, Bool.false_eq_true, if_false, List.getD_cons_zero, List.getD_cons_succ, ← hcounts,
    hheads, hrets, hfit, Bool.and_true, htags]

end

end

/-! ## DISPATCH_DONE and COMBINE_DONE (R278, R282) -/

/-- A Done item leaves the open items; its bytes are counted and its counter advances. -/
theorem State.endOpen_done {s : State} {core id : Nat} {x : Xfer} (hx : s.findXfer core id = some x) :
    (s.endOpen core id 0).core core = ({ s.core core with xf := { (s.core core).xf with
      open_ := (s.core core).xf.open_.filter (fun y => y.id != id), bytes := (s.core core).xf.bytes + x.bytes } } : CoreSt).advance
        x.counter x.increment ∧
    Safety.OnlyCore core s (s.endOpen core id 0) := by
  have hend : s.endOpen core id 0 = ((s.modTorus (fun t =>
      { t with sources := t.sources.filter (fun y => !(y.core == core && y.item == id)) })).modXf core (fun t =>
        { t with open_ := t.open_.filter (fun y => y.id != id), bytes := t.bytes + x.bytes })).advance core x.counter x.increment := by
    rw [State.endOpen, hx]
    rfl
  have htorus (f : Torus → Torus) : Safety.OnlyCore core s (s.modTorus f) := ⟨fun _ _ => rfl, rfl⟩
  rw [hend]
  refine ⟨?_, OnlyCore.trans (htorus _) (OnlyCore.trans (OnlyCore.modCore core _ _) (OnlyCore.advance core _ _ _))⟩
  rw [State.advance, State.core_modCore_self, State.modXf, State.core_modCore_self]
  rfl

/-- An item that ends Done is gone, and its counter alone advances. -/
theorem State.endOpen_done_spec {s : State} {core id : Nat} {x : Xfer} (hx : s.findXfer core id = some x) :
    (s.endOpen core id 0).findXfer core id = none ∧
    (((s.endOpen core id 0).core core).counters.at x.counter).value =
      ((s.core core).counters.at x.counter).value + BitVec.ofNat 32 x.increment ∧
    (∀ n, n ≠ x.counter → ((s.endOpen core id 0).core core).counters.at n = (s.core core).counters.at n) ∧
    Safety.OnlyCore core s (s.endOpen core id 0) := by
  obtain ⟨hcore, hframe⟩ := State.endOpen_done hx
  rw [State.findXfer, hcore]
  refine ⟨?_, ?_, fun n hn => CoreSt.advance_counter_ne _ _ hn, hframe⟩
  · refine List.find?_eq_none.2 fun y hy => ?_
    simpa using (List.mem_filter.1 hy).2
  · rw [CoreSt.advance_value, if_pos rfl]

theorem exec_expertDone (s : State) (core item : Nat) :
    ∀ p ∈ [(Instr.dispatchDone core item, XferKind.dispatch), (.combineDone core item, .combine)],
      exec p.1 s = .next (s.expertDone core item p.2) := by
  simp only [List.forall_mem_cons, List.not_mem_nil, false_imp_iff, implies_true, and_true]
  exact ⟨rfl, rfl⟩

section
variable {s : State} {core item : Nat} {x : Xfer} {kind : XferKind} (hx : s.findXfer core item = some x)
include hx

theorem State.expertDone_ends (hk : x.kind = kind) (ho : x.outstanding = []) : s.expertDone core item kind = s.endOpen core item 0 := by
  simp [State.expertDone, hx, hk, ho]

theorem State.expertDone_waits (h : x.kind ≠ kind ∨ x.outstanding ≠ []) : s.expertDone core item kind = s := by
  rw [State.expertDone, hx]
  refine if_neg fun hdone => ?_
  rw [Bool.and_eq_true, beq_iff_eq, List.isEmpty_iff] at hdone
  exact h.elim (absurd hdone.1) (absurd hdone.2)

end

/-- Settles O15: the scan place by place, each entry by the state it goes on to, and the two ends by the item they close. -/
theorem expertEntriesIssue : Obligations.ExpertEntriesIssue := by
  refine ⟨⟨⟨?_, ?_⟩, ?_⟩, ?_⟩
  · intro b es t j e hr _ hexp _ ht hj he
    exact DBlock.scan_fresh_entry (p := (j, t)) hr (b.mem_rankMajor.2 ⟨hj, ht⟩) (hexp e (List.mem_of_getElem? he)) he
  · intro b es x hr _ hx
    rw [← b.map_place_rankMajor]
    exact DBlock.scan_replay hr hx
  · intro s t u v core q e bs pb d h hk hread hd hblock
    have hrejected := expertRejected_spec h hread hblock
    refine ⟨?_, ?_, ?_, ?_⟩
    · intro b ho hb hbad
      exact ⟨_, exec_dispatch_rejected h hk hread hd hblock ho hb hbad, hrejected⟩
    · intro b x y homeB routeB homes es ho hb hok hhome hroute hhomes hes hlists
      exact dispatchSent_spec h hk hread hd hblock ho hb hok hhome hroute hhomes hes hlists
    · intro b n ho hb hn hbad
      exact ⟨_, exec_combine_rejected h hk hread hd hblock ho hb hn hbad, hrejected⟩
    · intro b n x y headB retB counts tags ho hb hn hok hparts hcounts hheads hrets hrows htags
      exact exec_combine_sent h hk hread hd hblock ho hb hn hok hparts hcounts hheads hrets hrows htags
  · intro s core item x hx p hp
    rw [exec_expertDone s core item p hp]
    exact ⟨fun hk ho => ⟨_, congrArg _ (State.expertDone_ends hx hk ho), State.endOpen_done_spec hx⟩,
      fun hw => congrArg _ (State.expertDone_waits hx hw)⟩

end Sys2Proof.Machine
end

section
/-! PROOFS. The gate unit takes contributions and holds totals, a selector advances, and a gate passes its time limit (O16). -/

namespace Sys2Proof.Machine

open Sys2Proof

/-! ## What a read leaves (R364 to R374) -/

/-- A state without what a read may count: the words of the cores, the tiers' counts and what they report. -/
def State.uncounted (s : State) : State := { s with cores := [], tiers := {}, recorder := {}, free := 0 }

theorem State.countWords_uncounted (s : State) (a ce ue bad : Nat) : (s.countWords a ce ue bad).uncounted = s.uncounted := by
  unfold State.countWords; split
  · rfl
  · dsimp only; split <;> rfl

theorem State.readBadLine_uncounted (a : Nat) (r : Res (List Byte)) (e : Nat × ErrPattern) :
    (State.readBadLine a r e).1.uncounted = r.1.uncounted := by
  obtain ⟨s, o⟩ := r
  unfold State.readBadLine; dsimp only; split
  · rfl
  · split <;> rfl

theorem State.readMem_uncounted (s : State) (a n : Nat) : (s.readMem a n).1.uncounted = s.uncounted := by
  unfold State.readMem; split
  · rfl
  · split
    · unfold State.readLines; split
      · rfl
      · exact foldl_keeps (fun r : Res (List Byte) => r.1.uncounted) _ (State.readBadLine_uncounted a) _ _
    · unfold State.readWords; dsimp only; split
      · rfl
      · exact s.countWords_uncounted _ _ _ _

section
variable {s t : State} {a n : Nat} {r : Except Cause (List Byte)} (h : s.readMem a n = (t, r))
include h

theorem State.uncounted_of_readMem : t.uncounted = s.uncounted := by
  have hread := s.readMem_uncounted a n
  rwa [h] at hread

theorem State.gate_of_readMem : t.gate = s.gate := (congrArg State.gate (State.uncounted_of_readMem h) :)
theorem State.now_of_readMem : t.now = s.now := (congrArg State.now (State.uncounted_of_readMem h) :)
theorem State.contributors_of_readMem : t.contributors = s.contributors :=
  (congrArg State.contributors (State.uncounted_of_readMem h) :)

end

/-! ## GATE_CONTRIBUTION (R313) -/

/-- The step's GATE record is issued with its first contribution. -/
def State.issueFirst (s : State) : State := s.when s.gate.firstAt.isNone (fun u => u.issueRec 0 s.gate.step)

theorem State.reports_issueFirst (s : State) : s.Reports s.issueFirst := State.reports_when (s.reports_issueRec 0 s.gate.step)

/-- The gate unit with the records of a core held that has had `k` contributions taken before, at a package time. -/
def GateUnit.take (g : GateUnit) (core k now : Nat) (recs : List (W36 × Nat × W36 × W36)) : GateUnit :=
  { g with taken := g.taken.set core (k + 1), records := g.records ++ [(core, recs)],
           firstAt := some (g.firstAt.getD now), lastAt := now }

theorem GateUnit.take_taken (g : GateUnit) (core k now : Nat) (recs : List (W36 × Nat × W36 × W36)) :
    (g.take core k now recs).taken = g.taken.set core (k + 1) := rfl

/-- The module with a contribution of a core held. -/
def State.holdContribution (s : State) (core k : Nat) (recs : List (W36 × Nat × W36 × W36)) : State :=
  s.issueFirst.modGate (fun g => g.take core k s.issueFirst.now recs)

/-- A contributor without a record keeps the totals incomplete. -/
theorem State.totals_incomplete {s : State} (h : ∃ c ∈ s.contributors, ∀ r ∈ s.gate.records, r.1 ≠ c) :
    s.contributors.all (fun c => s.gate.records.any (fun r => r.1 == c)) = false := by
  obtain ⟨c, hc, hr⟩ := h
  refine List.all_eq_false.2 ⟨c, hc, ?_⟩
  rw [Bool.not_eq_true, List.any_eq_false]
  exact fun r hm => by simpa using hr r hm

section
variable (s : State) (core k : Nat) (recs : List (W36 × Nat × W36 × W36))

theorem State.holdContribution_gate : (s.holdContribution core k recs).gate = s.gate.take core k s.now recs := by
  unfold State.holdContribution
  rw [s.reports_issueFirst]
  rfl

theorem State.holdContribution_cores : (s.holdContribution core k recs).cores = s.cores := s.reports_issueFirst.cores

theorem State.holdContribution_contributors : (s.holdContribution core k recs).contributors = s.contributors := by
  unfold State.holdContribution
  rw [s.reports_issueFirst]
  rfl

/-- One core's contribution leaves the totals incomplete while another contributor is missing. -/
theorem State.holdContribution_incomplete {s : State} {core : Nat}
    (h : ∃ c ∈ s.contributors, c ≠ core ∧ ∀ r ∈ s.gate.records, r.1 ≠ c) :
    (s.holdContribution core k recs).contributors.all
      (fun c => (s.holdContribution core k recs).gate.records.any (fun r => r.1 == c)) = false := by
  obtain ⟨c, hc, hne, hr⟩ := h
  refine State.totals_incomplete ⟨c, by rwa [State.holdContribution_contributors], ?_⟩
  rw [State.holdContribution_gate]
  exact List.forall_mem_append.2 ⟨hr, List.forall_mem_singleton.2 hne.symm⟩

end

/-- While another contributor is missing, a contribution is held and the gate stays open. -/
theorem exec_gateContribution_held {s t : State} {core off len : Nat} {bs : List Byte} (hregion : s.gateRegion core = some (off, len))
    (hlanded : s.gate.taken.at core < s.gate.landed.at core) (hstep : s.gate.first + s.gate.taken.at core = s.gate.step)
    (hstopped : s.gate.stopped = false) (hserial : s.serialOk s.gate.step = true) (hread : s.readMem (hsAddr off) len = (t, .ok bs))
    (hmissing : ∃ c ∈ s.contributors, c ≠ core ∧ ∀ r ∈ s.gate.records, r.1 ≠ c) :
    exec (.gateContribution core) s =
      .next (t.holdContribution core (s.gate.taken.at core) ((pieces 64 (len / 64) bs).map gateRecord)) := by
  have hgate := State.gate_of_readMem hread
  rw [← hgate, ← State.contributors_of_readMem hread] at hmissing
  have hheld : t.when s.gate.firstAt.isNone (fun u => u.issueRec 0 s.gate.step) = t.issueFirst := by
    rw [State.issueFirst, hgate]
  change execGateContribution core s = _
  unfold execGateContribution
  simp only [hregion, hread, hheld]
  rw [if_neg (by simp [hlanded, hstep, hstopped, hserial])]
  exact congrArg _ (if_neg (ne_of_eq_of_ne (State.holdContribution_incomplete _ _ hmissing) Bool.false_ne_true))

/-! ## GATE_TOTALS_MESSAGE (R314) -/

/-- No axis stage runs while contributions are outstanding. -/
theorem State.runStages_idle {s : State} (h : s.gate.stage = 0) (fuel : Nat) : State.runStages fuel s = s := by
  cases fuel with
  | zero => rfl
  | succ fuel => rw [State.runStages, if_pos h]

/-- A ring peer's vector goes on round the ring unless this module is its last. -/
def State.passTotals (s : State) (axis coord : Nat) (m : GateTotals) : State :=
  s.when ((s.coord s.img.node axis + 1) % s.axis axis ≠ coord) (fun s => s.sendMsg (portOf axis false) (.gateTotals axis coord m))

/-- Passing a vector on changes only the torus. -/
theorem State.passTotals_torus (s : State) (axis coord : Nat) (m : GateTotals) :
    s.passTotals axis coord m = { s with torus := (s.passTotals axis coord m).torus } := by
  unfold State.passTotals State.when; split <;> rfl

/-- A ring peer's vector is held, for its stage. -/
def State.holdTotals (s : State) (axis coord : Nat) (m : GateTotals) : State :=
  (s.passTotals axis coord m).modGate (fun g => { g with held := g.held ++ [(m.step.toNat, axis, coord, m.layers)] })

theorem State.holdTotals_eq (s : State) (axis coord : Nat) (m : GateTotals) :
    s.holdTotals axis coord m = { s with
      torus := (s.passTotals axis coord m).torus
      gate := { s.gate with held := s.gate.held ++ [(m.step.toNat, axis, coord, m.layers)] } } := by
  unfold State.holdTotals
  rw [s.passTotals_torus]
  rfl

/-- A vector is held when one of its step, axis and coordinate is. -/
theorem GateUnit.held_iff (g : GateUnit) (step axis coord : Nat) :
    g.held.any (fun h => h.1 == step && h.2.1 == axis && h.2.2.1 == coord) = true ↔
      ∃ h ∈ g.held, (h.1, h.2.1, h.2.2.1) = (step, axis, coord) := by
  simp [List.any_eq_true, and_assoc]

section
variable {s : State} {axis coord : Nat} {m : GateTotals}

/-- A vector of a step already decided, or held already, changes nothing. -/
theorem exec_gateTotalsMessage_late
    (h : m.step.toNat < s.gate.step ∨ (∃ h ∈ s.gate.held, (h.1, h.2.1, h.2.2.1) = (m.step.toNat, axis, coord))) :
    exec (.gateTotalsMessage axis coord m) s = .next s := by
  change execGateTotalsMessage axis coord m s = _
  unfold execGateTotalsMessage
  dsimp only
  rw [if_pos]
  rcases h with hlt | hheld
  · simp [hlt]
  · rw [(s.gate.held_iff _ _ _).2 hheld, Bool.or_true]

/-- The vector of a ring peer is held while the module's own totals are not complete. -/
theorem exec_gateTotalsMessage_held (hstep : s.gate.step ≤ m.step.toNat) (haxis : axis < 4) (hcoord : coord < s.axis axis)
    (hpeer : s.coord s.img.node axis ≠ coord) (hnew : ∀ h ∈ s.gate.held, (h.1, h.2.1, h.2.2.1) ≠ (m.step.toNat, axis, coord))
    (hstage : s.gate.stage = 0) :
    exec (.gateTotalsMessage axis coord m) s = .next (s.holdTotals axis coord m) := by
  have hidle : (s.holdTotals axis coord m).gate.stage = 0 := by
    rw [State.holdTotals_eq]; exact hstage
  have hfree := Bool.eq_false_iff.2 ((s.gate.held_iff m.step.toNat axis coord).not.2 (fun ⟨e, he, heq⟩ => hnew e he heq))
  change execGateTotalsMessage axis coord m s = _
  unfold execGateTotalsMessage
  dsimp only
  rw [if_neg]
  · exact congrArg _ (State.runStages_idle hidle 6)
  · rw [hfree]
    simp [hstep, haxis, hcoord, hpeer]

end

/-! ## SELECTOR_ADVANCE (R311) -/

/-- Without a widening at the step no entry of the core is patched. -/
theorem State.patchCore_none {s : State} {wanted : Nat → Option Nat} (h : ∀ l, wanted l = none) (c : CoreCfg) : s.patchCore c wanted = s := by
  refine foldl_keeps id _ (fun u p => ?_) c.patches s
  rw [h]
  rfl

/-- The patches of a step without a widening change only the gate unit's note of the steps patched. -/
theorem State.patchStep_none {s : State} {t : Nat} (h : ∀ l, s.wideningAt t l = none) (c : CoreCfg) :
    s.patchStep c t = { s with gate := { s.gate with patched := (s.patchStep c t).gate.patched } } := by
  unfold State.patchStep; split
  · rfl
  · rw [State.patchCore_none h]; rfl

/-- A selector advance without a widening at its step adds 1 to its counter and its count, and touches no other core and no byte. -/
theorem State.advanceSelector_spec {s : State} {core : Nat} (h : ∀ l, s.wideningAt (s.selectorStep core) l = none) :
    (((s.advanceSelector core).core core).counters.at (s.coreCfg core).selectorCtr).value =
        ((s.core core).counters.at (s.coreCfg core).selectorCtr).value + 1 ∧
      (s.advanceSelector core).gate.selector = s.gate.selector.upd core (· + 1) ∧ Safety.OnlyCore core s (s.advanceSelector core) := by
  unfold State.advanceSelector
  dsimp only
  rw [State.patchStep_none h]
  refine ⟨?_, rfl, OnlyCore.advance core _ 1 s⟩
  exact (s.advance_value core _ 1 core _).trans (by rw [if_pos rfl]; rfl)

theorem exec_selectorAdvance_ready {s : State} {core : Nat} (h : s.selectorReady core = true) :
    exec (.selectorAdvance core) s = .next (s.advanceSelector core) := congrArg _ (if_pos h)

theorem exec_selectorAdvance_waits {s : State} {core : Nat} (h : s.selectorReady core = false) :
    exec (.selectorAdvance core) s = .next s := congrArg _ (if_neg (ne_of_eq_of_ne h Bool.false_ne_true))

/-! ## GATE_TIMEOUT (R319) -/

theorem CoreSt.latch_cause_self (x : CoreSt) (n : Nat) (cause : Cause) :
    ((x.latch n cause).counters.at n).cause = if (x.counters.at n).cause = 0 then cause else (x.counters.at n).cause := by
  simp [CoreSt.latch]

/-- Counter `n` of a core holds a cause. -/
def State.HoldsCause (s : State) (core n : Nat) : Prop := ((s.core core).counters.at n).cause ≠ 0

theorem State.holdsCause_latch_self (s : State) (core n : Nat) {cause : Cause} (hc : cause ≠ 0) : (s.latch core n cause).HoldsCause core n := by
  unfold State.HoldsCause State.latch
  rw [State.core_modCore_self, CoreSt.latch_cause_self]
  split
  · exact hc
  · assumption

/-- A latch changes no counter that holds a cause. -/
theorem State.HoldsCause.latch {s : State} {core n : Nat} (h : s.HoldsCause core n) (k m : Nat) (cause : Cause) :
    (s.latch k m cause).HoldsCause core n := by
  unfold State.HoldsCause State.latch at *
  by_cases hk : core = k
  · subst hk
    rw [State.core_modCore_self]
    by_cases hn : n = m
    · subst hn; rwa [CoreSt.latch_cause_self, if_neg h]
    · rwa [CoreSt.latch_counter_ne _ _ hn]
  · rwa [State.core_modCore_ne _ _ hk]

theorem State.latch_value (s : State) (k m : Nat) (cause : Cause) (core n : Nat) :
    (((s.latch k m cause).core core).counters.at n).value = ((s.core core).counters.at n).value := by
  unfold State.latch
  by_cases hk : core = k
  · subst hk; rw [State.core_modCore_self, CoreSt.latch_value]
  · rw [State.core_modCore_ne _ _ hk]

/-- A cause is latched into a core's gate counter and its selector counter. -/
def State.latchGate (cause : Cause) (s : State) (c : CoreCfg) : State :=
  (s.latch c.core c.gateCtr cause).latch c.core c.selectorCtr cause

theorem State.HoldsCause.latchGates {s : State} {core n : Nat} (h : s.HoldsCause core n) (cs : List CoreCfg) (cause : Cause) :
    (s.each cs (State.latchGate cause)).HoldsCause core n := by
  induction cs generalizing s with
  | nil => exact h
  | cons c cs ih => exact ih ((h.latch c.core c.gateCtr cause).latch c.core c.selectorCtr cause)

/-- Both counters of every listed core hold a cause in the end. -/
theorem State.latchGates_holdCauses (s : State) {cause : Cause} (hc : cause ≠ 0) {cs : List CoreCfg} {c : CoreCfg} (h : c ∈ cs) :
    (s.each cs (State.latchGate cause)).HoldsCause c.core c.gateCtr ∧ (s.each cs (State.latchGate cause)).HoldsCause c.core c.selectorCtr := by
  induction cs generalizing s with
  | nil => cases h
  | cons d cs ih =>
    rcases List.mem_cons.1 h with rfl | h
    · exact ⟨((s.holdsCause_latch_self _ _ hc).latch _ _ _).latchGates cs cause,
        (State.holdsCause_latch_self _ _ _ hc).latchGates cs cause⟩
    · exact ih (s.latchGate cause d) h

theorem State.latchGates_value (s : State) (cs : List CoreCfg) (cause : Cause) (core n : Nat) :
    (((s.each cs (State.latchGate cause)).core core).counters.at n).value = ((s.core core).counters.at n).value := by
  refine foldl_keeps (fun u : State => ((u.core core).counters.at n).value) _ (fun u c => ?_) cs s
  unfold State.latchGate
  rw [State.latch_value, State.latch_value]

/-- Latches change only the cores. -/
theorem State.latchGates_gate (s : State) (cs : List CoreCfg) (cause : Cause) : (s.each cs (State.latchGate cause)).gate = s.gate :=
  foldl_keeps State.gate (State.latchGate cause) (fun _ _ => rfl) cs s
theorem State.latchGates_mem (s : State) (cs : List CoreCfg) (cause : Cause) : (s.each cs (State.latchGate cause)).mem = s.mem :=
  foldl_keeps State.mem (State.latchGate cause) (fun _ _ => rfl) cs s

theorem exec_gateTimeout_late {s : State} {start : Nat} (hstart : s.gate.firstAt = some start) (hlate : start + s.img.gateWait < s.now)
    (hstopped : s.gate.stopped = false) :
    exec .gateTimeout s = .next ((s.each s.gateCores (State.latchGate Cause.timeout)).failGate Cause.timeout) := by
  change execGateTimeout s = _
  unfold execGateTimeout
  rw [if_pos (by simp [hstart, hlate, hstopped])]
  rfl

/-! ## The obligation -/

/-- Settles O16: a contribution and a peer's vector by what the gate unit then holds, the selector by its own counts, the time limit by the
latches that it sets. -/
theorem gateTakesContributions : Obligations.GateTakesContributions := by
  refine ⟨⟨?_, ?_, ?_⟩, ?_, ?_, ?_⟩
  · intro s t core off len bs hregion hlanded hstep hstopped hserial hread hmissing
    refine ⟨_, exec_gateContribution_held hregion hlanded hstep hstopped hserial hread hmissing, ?_⟩
    rw [State.holdContribution_gate, State.holdContribution_cores, State.gate_of_readMem hread, State.now_of_readMem hread]
    refine ⟨?_, fun c hc => ?_, rfl, rfl, rfl, rfl, rfl⟩
    · rw [GateUnit.take_taken, Tab.at_set_self]
    · rw [GateUnit.take_taken, Tab.at_set_ne _ _ hc]
  · intro s axis coord m hlate
    exact exec_gateTotalsMessage_late hlate
  · intro s axis coord m hstep haxis hcoord hpeer hnew hstage
    refine ⟨_, exec_gateTotalsMessage_held hstep haxis hcoord hpeer hnew hstage, ?_⟩
    rw [State.holdTotals_eq]
    exact ⟨rfl, rfl, rfl⟩
  · intro s core hready hnone
    obtain ⟨hvalue, hselector, honly⟩ := State.advanceSelector_spec hnone
    refine ⟨_, exec_selectorAdvance_ready hready, hvalue, ?_, fun c hc => ?_, honly⟩
    · rw [hselector, Tab.at_upd_self]
    · rw [hselector, Tab.at_upd_ne _ _ hc]
  · intro s core hwait
    exact exec_selectorAdvance_waits hwait
  · intro s start hstart hlate hstopped
    have hgate := s.latchGates_gate s.gateCores Cause.timeout
    refine ⟨_, exec_gateTimeout_late hstart hlate hstopped, rfl, rfl, (congrArg GateUnit.step hgate :), fun c hc => ?_, fun c n => ?_, ?_⟩
    · exact s.latchGates_holdCauses (by decide) hc
    · exact s.latchGates_value s.gateCores Cause.timeout c n
    · exact s.latchGates_mem s.gateCores Cause.timeout

end Sys2Proof.Machine
end

section
/-! PROOFS. Update segments (O18, O19): how a segment joins the unit, where its gate record sends it, how its waits end, and what the
commit unit does with one that failed. -/

namespace Sys2Proof.Machine

open Sys2Proof

/-! ## The update unit of a core and the shards -/

@[simp] theorem State.modUp_up (s : State) (core : Nat) (f : UpdateEngine → UpdateEngine) :
    ((s.modUp core f).core core).up = f (s.core core).up := by simp [State.modUp]
@[simp] theorem State.modUp_counters (s : State) (core : Nat) (f : UpdateEngine → UpdateEngine) :
    ((s.modUp core f).core core).counters = (s.core core).counters := by simp [State.modUp]
theorem OnlyCore.modUp (core : Nat) (s : State) (f : UpdateEngine → UpdateEngine) : Safety.OnlyCore core s (s.modUp core f) :=
  OnlyCore.modCore core s _
theorem OnlyCore.segPhase (core : Nat) (s : State) (p : SegPhase) : Safety.OnlyCore core s (s.segPhase core p) := OnlyCore.modUp core s _

@[simp] theorem State.goNext_up (s : State) (core q : Nat) : ((s.goNext core q).core core).up = (s.core core).up := by
  simp [State.goNext, State.goTo, CoreSt.modQueue]

@[simp] theorem State.shardSt_modShard_self (s : State) (n : Nat) (f : ShardSt → ShardSt) : (s.modShard n f).shardSt n = f (s.shardSt n) :=
  Tab.at_upd_self _ _ _
theorem State.shardSt_modShard_ne (s : State) {n k : Nat} (f : ShardSt → ShardSt) (h : k ≠ n) : (s.modShard n f).shardSt k = s.shardSt k :=
  Tab.at_upd_ne _ _ h

theorem State.headSeg_of_segs {s : State} {core : Nat} {g : Segment} {gs : List Segment} (h : (s.core core).up.segs = g :: gs) :
    s.headSeg core = some g := by rw [State.headSeg, h, List.head?_cons]

/-- The front segment in its new phase. -/
theorem State.headSeg_segPhase {s : State} {core : Nat} {g : Segment} (h : s.headSeg core = some g) (p : SegPhase) :
    (s.segPhase core p).headSeg core = some { g with phase := p, since := s.now } := by
  obtain ⟨gs, hsegs⟩ := List.head?_eq_some_iff.1 h
  rw [State.headSeg, State.segPhase, State.modHead, State.modUp_up, hsegs]
  rfl

/-- Segments behind one that has begun do not begin. -/
theorem State.runSegs_begun {s : State} {core : Nat} {g : Segment} (h : s.headSeg core = some g) (hg : g.phase ≠ .queued) (fuel : Nat) :
    State.runSegs fuel core s = s := by
  cases fuel with
  | zero => rfl
  | succ fuel => simp [State.runSegs, h, hg]

theorem State.runSegs_empty {s : State} {core : Nat} (h : (s.core core).up.segs = []) (fuel : Nat) : State.runSegs fuel core s = s := by
  cases fuel with
  | zero => rfl
  | succ fuel => simp [State.runSegs, State.headSeg, h]

/-! ## UPDATE entries (R336, R337) -/

/-- The segment that an UPDATE entry of queue `q` brings, from the bytes of its descriptor. -/
def State.entrySegment (u : State) (core q : Nat) (bs : List Byte) : Segment :=
  { desc := BitVec.ofNat 256 (leNat bs), queue := q, entry := (u.queue core q).pos }

theorem State.actUpdate_behind {t u : State} {core q : Nat} {e : Entry} {bs : List Byte} {g : Segment} {gs : List Segment}
    (hread : t.readOwn core e.addr 32 1 = (u, .ok bs)) (hsegs : (u.core core).up.segs = g :: gs) (hg : g.phase ≠ .queued) :
    t.actUpdate core q e = (u.goNext core q).modUp core (fun x => { x with segs := x.segs ++ [u.entrySegment core q bs] }) := by
  rw [State.actUpdate, hread]
  dsimp only
  rw [State.goNext_pos, Nat.add_sub_cancel]
  refine State.runSegs_begun (g := g) (State.headSeg_of_segs (gs := gs ++ [u.entrySegment core q bs]) ?_) hg 4
  rw [State.modUp_up, State.goNext_up, hsegs]
  rfl

theorem exec_innerSegment_ready {s t : State} {core q : Nat} {e : Entry} (h : Safety.Ready s core q t e) (hk : e.kind = 5) :
    exec (.innerSegment core q) s = .next (t.actUpdate core q e) :=
  congrArg _ (State.issue_ready h hk (fun s e => s.actUpdate core q e))

/-! ## Where an INNER segment's gate record sends it (R316, R338, R339, R350) -/

/-- A shard whose next step some segment has not skipped processes nothing more. -/
theorem State.processSkips_waits {s : State} {n segs : Nat} (h : (s.shardSt n).skipReports.at (s.nextStep n) < segs) (fuel : Nat) :
    State.processSkips n segs fuel s = s := by
  cases fuel with
  | zero => rfl
  | succ fuel => simp [State.processSkips, Nat.not_le.2 h]

theorem State.nextStep_congr {s t : State} {n : Nat} (hp : (t.shardSt n).processed = (s.shardSt n).processed) (hg : t.gate = s.gate) :
    t.nextStep n = s.nextStep n := by rw [State.nextStep, hp, hg, State.nextStep]

section
variable {s : State} {core : Nat} {g : Segment} {c : ShardCfg}

/-- The unit without its front segment, which has ended Done for the first time with its step skipped. -/
def UpdateEngine.skipFront (u : UpdateEngine) (g : Segment) : UpdateEngine :=
  { u with segs := u.segs.drop 1, ended := u.ended + 1, step := if g.udesc.last then u.step + 1 else u.step,
           kept := u.kept.filter (fun k => k.udesc.shard != g.udesc.shard || k.step == g.step) ++
             [{ g with advanced := true, phase := .queued, chunk := 0 }] }

/-- The shard with one more segment that skipped a step. -/
def ShardSt.noteSkip (x : ShardSt) (step : Nat) : ShardSt := { x with skipReports := x.skipReports.upd step (· + 1) }

/-- The front segment's skip is noted by its unit and its shard. -/
def State.noteSkipped (s : State) (core : Nat) (g : Segment) : State :=
  (s.modUp core (·.skipFront g)).modShard g.udesc.shard (·.noteSkip g.step)

theorem State.noteSkipped_shard (s : State) (core : Nat) (g : Segment) :
    (s.noteSkipped core g).shardSt g.udesc.shard = (s.shardSt g.udesc.shard).noteSkip g.step := State.shardSt_modShard_self _ _ _

theorem State.noteSkipped_nextStep (s : State) (core : Nat) (g : Segment) :
    (s.noteSkipped core g).nextStep g.udesc.shard = s.nextStep g.udesc.shard :=
  State.nextStep_congr (congrArg ShardSt.processed (s.noteSkipped_shard core g) :) rfl

theorem State.segDone_skipped (hop : g.udesc.op = 1) (hadv : g.advanced = false)
    (hfew : ((s.shardSt g.udesc.shard).skipReports.upd g.step (· + 1)).at (s.nextStep g.udesc.shard) < c.segCount) :
    s.segDone core g c .skipped = (s.noteSkipped core g).advance core g.udesc.counter g.udesc.increment := by
  have hwaits : State.processSkips g.udesc.shard c.segCount 8 (s.noteSkipped core g) = s.noteSkipped core g := by
    refine State.processSkips_waits ?_ 8
    rw [State.noteSkipped_nextStep, State.noteSkipped_shard]
    exact hfew
  rw [← hwaits]
  simp [State.segDone, State.noteReport, hop, hadv, State.noteSkipped, UpdateEngine.skipFront, ShardSt.noteSkip]

variable {bs : List Byte} (hcfg : s.shardCfg g.udesc.shard = some c) (hop : g.udesc.op = 1) (hok : s.segmentOk core g.udesc c = true)
  (hread : s.readMem (sramAddr core ((s.coreCfg core).gateRing + g.step % 4 * 64)) 64 = (s, .ok bs)) (hstep : fld (leNat bs) 0 64 = g.step)
include hcfg hop hok hread hstep

theorem State.segBegin_skip (hskip : fld (leNat bs) 64 8 = 1) : s.segBegin core g = s.segDone core g c .skipped := by
  simp [State.segBegin, hcfg, hop, hread, hok, hstep, hskip]

/-- The gate has decided APPLY and the shard is at another step. -/
theorem State.segBegin_early (happly : fld (leNat bs) 64 8 = 0) (hgave : (s.shardSt g.udesc.shard).gaveUp = false)
    (hne : g.step ≠ s.nextStep g.udesc.shard) : s.segBegin core g = s.segPhase core .waitPrev := by
  simp [State.segBegin, hcfg, hop, hread, hok, hstep, happly, hgave, hne]

end

/-! ## Segments that wait (R336, R339, R354) -/

section
variable {s : State} {core : Nat} {g : Segment}

/-- `g` still waits for the step before at the front of the unit. -/
def State.waitsPrev (t : State) (core : Nat) (g : Segment) : Bool :=
  (t.headSeg core).any (fun h => h.phase == .waitPrev && h.entry == g.entry && h.step == g.step)

theorem State.waitsPrev_segPhase (h : s.headSeg core = some g) : (s.segPhase core .waitPrev).waitsPrev core g = true := by
  simp [State.waitsPrev, State.headSeg_segPhase h]

theorem exec_previousStepResume (h : s.headSeg core = some g) (hp : g.phase = .waitPrev) :
    exec (.previousStepResume core) s = .next (if s.dieRunning (coreDie core) = true ∧ (s.segBegin core g).waitsPrev core g = false
      then State.runSegs 4 core (s.segBegin core g) else s) := by
  change execPreviousStepResume core s = _
  unfold execPreviousStepResume
  rw [h]
  simp only [hp, decide_true, Bool.true_and]
  cases s.dieRunning (coreDie core) with
  | false => rfl
  | true =>
    change Host.Outcome.next (if (s.segBegin core g).waitsPrev core g = true then s else State.runSegs 4 core (s.segBegin core g)) = _
    cases (s.segBegin core g).waitsPrev core g <;> rfl

/-- The wait of a segment for its slot is counted. -/
def State.countSlotWait (s : State) (core : Nat) (g : Segment) : State :=
  s.modUp core (fun u => { u with slotWaitUs := u.slotWaitUs + (s.now - g.since) / 1000 })

theorem State.headSeg_countSlotWait (s : State) (core : Nat) (g : Segment) : (s.countSlotWait core g).headSeg core = s.headSeg core := by
  rw [State.headSeg, State.countSlotWait, State.modUp_up, State.headSeg]

theorem exec_slotReleaseResume {c : ShardCfg} (h : s.headSeg core = some g) (hcfg : s.shardCfg g.udesc.shard = some c) (hp : g.phase = .waitSlot) :
    exec (.slotReleaseResume core) s = .next (if s.chunkReleased g c = true then (s.countSlotWait core g).writeChunk core g c
      else if g.since + s.waitLimit core g.queue < s.now then (s.countSlotWait core g).segFail core Cause.timeout else s) := by
  change execSlotReleaseResume core s = _
  unfold execSlotReleaseResume
  rw [h]
  dsimp only
  rw [hcfg]
  exact congrArg _ (if_neg (not_not.2 hp))

theorem exec_stagedResume (h : s.headSeg core = some g) (hp : g.phase = .waitStage) (hd : s.dieRunning (coreDie core) = true) :
    exec (.stagedResume core) s = .next (if (s.shardSt g.udesc.shard).staged = true then State.runSegs 4 core (s.segBegin core g) else s) := by
  change execStagedResume core s = _
  simp [execStagedResume, h, hp, hd]

theorem exec_deferralLimit (h : s.headSeg core = some g) (hp : g.phase = .waitStage) :
    exec (.deferralLimit core) s = .next (if g.since + s.img.deferWait < s.now then s.segFail core Cause.deferralLimit else s) := by
  change execDeferralLimit core s = _
  simp [execDeferralLimit, h, hp]

/-- A segment that fails is at the front with its cause. -/
theorem State.segFail_phase (h : s.headSeg core = some g) (cause : Cause) :
    ((s.segFail core cause).headSeg core).map (·.phase) = some (.failed cause) := by
  rw [State.segFail, State.headSeg_segPhase h, Option.map_some]

end

/-- Settles O18: an entry by the unit that it joins, the waits by the state that their resumes test, and the gate record by the branch of
the segment's beginning that it selects. -/
theorem segmentsQueueAndWait : Obligations.SegmentsQueueAndWait := by
  refine ⟨⟨?_, ?_, ?_, ?_⟩, ?_, ?_⟩
  · intro s t u core q e bs g gs h hk hread hsegs hg
    refine ⟨_, u.entrySegment core q bs, (exec_innerSegment_ready h hk).trans (congrArg _ (State.actUpdate_behind hread hsegs hg)),
      rfl, rfl, rfl, ?_, ?_, ?_, ?_⟩
    · rw [State.modUp_up, State.goNext_up, hsegs]
    · exact (congrArg Queue.pos (by simp [State.queue, State.modUp])).trans (u.goNext_pos core q)
    · rw [State.modUp_counters, State.goNext_counters]
    · exact OnlyCore.trans (OnlyCore.ready h) (OnlyCore.trans (OnlyCore.readOwn hread)
        (OnlyCore.trans (OnlyCore.goNext core q u) (OnlyCore.modUp core _ _)))
  · intro s core g h hp hd
    rw [exec_previousStepResume h hp]
    refine ⟨fun hgoes => ?_, fun hwaits => ?_⟩
    · rw [if_pos ⟨hd, hgoes⟩]
    · rw [if_neg]
      rintro ⟨-, hgoes⟩
      exact Bool.false_ne_true (hgoes.symm.trans hwaits)
  · intro s core g c h hcfg hp
    rw [exec_slotReleaseResume h hcfg hp]
    refine ⟨fun hr => ?_, fun hr hlate => ?_, fun hr hearly => ?_⟩
    · rw [if_pos hr]
      exact ⟨_, rfl, State.modUp_up s core _, OnlyCore.modUp core s _⟩
    · rw [if_neg (by rw [hr]; decide), if_pos hlate]
      exact ⟨_, rfl, State.segFail_phase ((s.headSeg_countSlotWait core g).trans h) _,
        OnlyCore.trans (OnlyCore.modUp core s _) (OnlyCore.segPhase core _ _)⟩
    · rw [if_neg (by rw [hr]; decide), if_neg (Nat.not_lt.2 hearly)]
  · intro s core g h hp hd
    rw [exec_stagedResume h hp hd, exec_deferralLimit h hp]
    refine ⟨fun hst => by rw [if_pos hst], fun hst => by rw [if_neg (by rw [hst]; decide)], fun hlate => ?_, fun hearly => ?_⟩
    · rw [if_pos hlate]
      exact ⟨_, rfl, State.segFail_phase h _, OnlyCore.segPhase core s _⟩
    · rw [if_neg (Nat.not_lt.2 hearly)]
  · intro s core g c bs hsegs hadv hcfg hop hok hread hstep hskip hp hd hfew
    have hdone : s.segBegin core g = _ := (State.segBegin_skip hcfg hop hok hread hstep hskip).trans (State.segDone_skipped hop hadv hfew)
    have hleft : ((s.segBegin core g).core core).up = (s.core core).up.skipFront g := by
      rw [hdone]; simp [State.advance, CoreSt.advance, State.noteSkipped, State.modShard]
    have hempty : ((s.segBegin core g).core core).up.segs = [] := by
      rw [hleft, UpdateEngine.skipFront, hsegs]; rfl
    refine ⟨s.segBegin core g, ?_, hempty, ?_, ?_, ?_, ?_⟩
    · rw [exec_previousStepResume (State.headSeg_of_segs hsegs) hp, if_pos ⟨hd, by simp [State.waitsPrev, State.headSeg, hempty]⟩,
        State.runSegs_empty hempty]
    · rw [hdone, State.advance_value, if_pos rfl]
      simp [State.noteSkipped, State.modShard]
    · rw [hleft, UpdateEngine.skipFront]
      split <;> rfl
    · rw [hdone]
      exact (congrArg (fun x : ShardSt => x.skipReports.at g.step) (s.noteSkipped_shard core g)).trans
        (Tab.at_upd_self (s.shardSt g.udesc.shard).skipReports g.step (· + 1))
    · rw [hdone]; rfl
  · intro s core g c bs h hcfg hop hok hread hstep happly hp hgave hne
    rw [exec_previousStepResume h hp, State.segBegin_early hcfg hop hok hread hstep happly hgave hne, State.waitsPrev_segPhase h, if_neg]
    exact fun hd => Bool.false_ne_true hd.2.symm

end Sys2Proof.Machine
end

section
/-! PROOFS. Update segments that fail (O19): the end of a chunk's kernel, and the commit unit giving a segment up. -/

namespace Sys2Proof.Machine

open Sys2Proof

/-! ## CHUNK_WRITEBACK (R342) -/

/-- The end of the segment's kernel has been taken. -/
def State.takeSegEnd (s : State) (core : Nat) : State := s.modCore core (·.modVx (fun v => { v with segEnd := none }))

theorem exec_chunkWriteback {s : State} {core : Nat} {g : Segment} {c : ShardCfg} {cause : Cause} (h : s.headSeg core = some g)
    (hcfg : s.shardCfg g.udesc.shard = some c) (hp : g.phase = .kernel) (hend : (s.core core).vx.segEnd = some cause) :
    exec (.chunkWriteback core) s = .next (if cause ≠ 0 then (s.takeSegEnd core).segFail core cause
      else if s.chunkReleased g c = true then (s.takeSegEnd core).writeChunk core g c else (s.takeSegEnd core).segPhase core .waitSlot) := by
  change execChunkWriteback core s = _
  unfold execChunkWriteback
  simp only [h, hend, hcfg]
  exact congrArg _ (if_neg (not_not.2 hp))

/-! ## Segments kept for re-issue (R523) -/

theorem Tab.mem_of_find? {α : Type} {t : Tab α} {k : Nat} {v : α} (h : Tab.find? t k = some v) : (k, v) ∈ t := by
  induction t with
  | nil => cases h
  | cons e t ih =>
    obtain ⟨j, w⟩ := e
    rw [Tab.find?_cons] at h
    split at h
    · next hj => cases h; subst hj; exact List.mem_cons_self
    · exact List.mem_cons_of_mem _ (ih h)

/-- A core that keeps a segment is listed. -/
theorem State.mem_cores_of_kept {s : State} {core : Nat} {g : Segment} (h : g ∈ (s.core core).up.kept) : (core, s.core core) ∈ s.cores := by
  unfold State.core Tab.at at *
  cases hfind : Tab.find? s.cores core with
  | none => rw [hfind] at h; cases h
  | some x => exact Tab.mem_of_find? hfind

theorem State.mem_keptSegs {s : State} {core : Nat} {g : Segment} (h : g ∈ (s.core core).up.kept) :
    (core, g) ∈ s.keptSegs g.udesc.shard g.step :=
  List.mem_flatMap.2 ⟨_, State.mem_cores_of_kept h, List.mem_map.2 ⟨g, List.mem_filter.2 ⟨h, by simp⟩, rfl⟩⟩

/-! ## A segment is given up (R349, R77) -/

/-- A failed segment's counter latches its cause, and queue 7 of its core halts. -/
def State.giveUpSeg (s : State) (k : Nat × Segment) : State :=
  (s.latch k.1 k.2.udesc.counter k.2.phase.cause).haltQueue k.1 7 k.2.phase.cause

section
variable (s : State) (k : Nat × Segment)

/-- Latching and halting change the counters and the queues of a core and what halts change. -/
theorem State.giveUpSeg_core (c : Nat) : ∃ counters queues hc, (s.giveUpSeg k).core c =
    { s.core c with counters := counters, queues := queues, haltCause := hc } := by
  rw [State.giveUpSeg, (State.halts_haltQueue _ _ _ _).core]
  by_cases h : c = k.1
  · subst h
    rw [State.core_modCore_self, State.latch, State.core_modCore_self]
    exact ⟨_, _, _, rfl⟩
  · rw [State.core_modCore_ne _ _ h, State.latch, State.core_modCore_ne _ _ h]
    exact ⟨_, _, _, rfl⟩

theorem State.giveUpSeg_up (c : Nat) : ((s.giveUpSeg k).core c).up = (s.core c).up := by
  obtain ⟨_, _, _, h⟩ := s.giveUpSeg_core k c
  rw [h]

theorem State.giveUpSeg_commit : (s.giveUpSeg k).commit = s.commit := by
  rw [State.giveUpSeg, State.halts_haltQueue _ _ _ _]
  rfl

/-- A queue's halt leaves the counters. -/
theorem State.haltQueue_counters (c q core : Nat) (cause : Cause) : ((s.haltQueue c q cause).core core).counters = (s.core core).counters := by
  rw [(s.halts_haltQueue c q cause).core]
  by_cases h : core = c
  · subst h; rw [State.core_modCore_self]; rfl
  · rw [State.core_modCore_ne _ _ h]

variable {s k}

theorem State.HoldsCause.haltQueue {core n : Nat} (h : s.HoldsCause core n) (c q : Nat) (cause : Cause) :
    (s.haltQueue c q cause).HoldsCause core n := by
  unfold State.HoldsCause at *
  rwa [State.haltQueue_counters]

theorem State.HoldsCause.giveUpSegs {core n : Nat} (h : s.HoldsCause core n) (ks : List (Nat × Segment)) :
    (s.each ks State.giveUpSeg).HoldsCause core n := by
  induction ks generalizing s with
  | nil => exact h
  | cons k ks ih => exact ih ((h.latch _ _ _).haltQueue _ _ _)

theorem State.giveUpSegs_keep_halted {core : Nat} (h : (s.queue core 7).halted = true) (ks : List (Nat × Segment)) :
    ((s.each ks State.giveUpSeg).queue core 7).halted = true := by
  induction ks generalizing s with
  | nil => exact h
  | cons k ks ih =>
    refine ih (State.haltQueue_keeps_halted ?_ _ _ _)
    unfold State.latch State.queue at *
    by_cases hk : core = k.1
    · subst hk; rwa [State.core_modCore_self]
    · rwa [State.core_modCore_ne _ _ hk]

/-- Every segment given up with a cause has latched it, and its core's queue 7 is halted. -/
theorem State.giveUpSegs_spec {ks : List (Nat × Segment)} (hk : k ∈ ks) (hc : k.2.phase.cause ≠ 0) :
    (s.each ks State.giveUpSeg).HoldsCause k.1 k.2.udesc.counter ∧ ((s.each ks State.giveUpSeg).queue k.1 7).halted = true := by
  induction ks generalizing s with
  | nil => cases hk
  | cons j ks ih =>
    rcases List.mem_cons.1 hk with rfl | hk
    · refine ⟨((s.holdsCause_latch_self _ _ hc).haltQueue _ _ _).giveUpSegs ks, State.giveUpSegs_keep_halted ?_ ks⟩
      rw [State.giveUpSeg, State.haltQueue_queue_self]
    · exact ih (s := s.giveUpSeg j) hk

theorem State.giveUpSegs_up (s : State) (ks : List (Nat × Segment)) (c : Nat) :
    ((s.each ks State.giveUpSeg).core c).up = (s.core c).up :=
  foldl_keeps (fun u : State => (u.core c).up) _ (fun u k => u.giveUpSeg_up k c) ks s
theorem State.giveUpSegs_commit (s : State) (ks : List (Nat × Segment)) : (s.each ks State.giveUpSeg).commit = s.commit :=
  foldl_keeps State.commit _ State.giveUpSeg_commit ks s

end

/-! ## SEGMENT_FAIL_REPORT (R349) -/

section
variable (s : State) (core : Nat) (g : Segment) (cause : Cause)

/-- The unit without its front INNER segment, which has failed and is kept. -/
def UpdateEngine.failFront (u : UpdateEngine) : UpdateEngine :=
  { u with segs := u.segs.drop 1, ended := u.ended + 1, lastFail := cause,
           kept := u.kept.filter (fun k => k.udesc.shard != g.udesc.shard || k.step == g.step) ++ [g] }

/-- The front INNER segment's failure is noted by its unit and by the commit unit, which reports it and marks the shard. -/
def State.noteFailed : State :=
  ((((s.modUp core (fun u => { u with segs := u.segs.drop 1, ended := u.ended + 1, lastFail := cause })).modCommit
    (fun u => { u with lastCause := cause, lastShard := g.udesc.shard })).event 0x0013 cause g.udesc.shard 0 0).modUp core (fun u => { u with
      kept := u.kept.filter (fun k => k.udesc.shard != g.udesc.shard || k.step == g.step) ++ [g] })).modShard g.udesc.shard
        (fun x => { x with uncommitted := true, cause := cause })

theorem State.noteFailed_up : ((s.noteFailed core g cause).core core).up = (s.core core).up.failFront g cause := by
  simp [State.noteFailed, State.modShard, UpdateEngine.failFront]

/-- The commit unit gives up the shard's step. -/
def State.markGaveUp (n : Nat) : State := s.modShard n (fun x => { x with gaveUp := true, cause := cause })

theorem State.giveUp_eq (n step : Nat) : s.giveUp n step cause =
    (s.markGaveUp cause n).each (((s.markGaveUp cause n).keptSegs n step).filter (fun k => k.2.phase.cause != 0)) State.giveUpSeg := rfl

variable {s core g cause}

/-- The only segment of the unit, INNER and failed with a cause that no re-issue can mend, is given up. -/
theorem exec_segmentFailReport {c : ShardCfg} (hsegs : (s.core core).up.segs = [g]) (hp : g.phase = .failed cause) (hcause : cause ≠ 0)
    (hcfg : s.shardCfg g.udesc.shard = some c) (hop : g.udesc.op = 1) (hr : retriable cause = false) :
    exec (.segmentFailReport core) s = .next ((s.noteFailed core g cause).giveUp g.udesc.shard g.step cause) := by
  have hleft : (((s.noteFailed core g cause).giveUp g.udesc.shard g.step cause).core core).up.segs = [] := by
    rw [State.giveUp_eq, State.giveUpSegs_up]
    refine (congrArg UpdateEngine.segs (s.noteFailed_up core g cause)).trans ?_
    rw [UpdateEngine.failFront, hsegs]
    rfl
  rw [← State.runSegs_empty hleft 4]
  change execSegmentFailReport core s = _
  unfold execSegmentFailReport
  simp only [State.headSeg_of_segs hsegs, hp, SegPhase.cause, hop, hr]
  rw [if_neg hcause]
  have hcfg' : (s.modUp core (fun u => { u with segs := u.segs.drop 1, ended := u.ended + 1, lastFail := cause })).shardCfg g.udesc.shard =
    some c := hcfg
  rw [hcfg']
  rfl

/-- A segment given up has latched its cause, with its core's queue 7 halted. -/
theorem State.giveUp_spec (hp : g.phase = .failed cause) (hcause : cause ≠ 0) :
    ((s.noteFailed core g cause).giveUp g.udesc.shard g.step cause).HoldsCause core g.udesc.counter ∧
      (((s.noteFailed core g cause).giveUp g.udesc.shard g.step cause).queue core 7).halted = true := by
  have hcause' : g.phase.cause ≠ 0 := by rw [hp]; exact hcause
  have hkept : g ∈ (((s.noteFailed core g cause).markGaveUp cause g.udesc.shard).core core).up.kept := by
    refine (congrArg (fun u : UpdateEngine => g ∈ u.kept) (s.noteFailed_up core g cause)).mpr ?_
    exact List.mem_append_right _ (List.mem_singleton_self g)
  rw [State.giveUp_eq]
  exact State.giveUpSegs_spec (k := (core, g)) (List.mem_filter.2 ⟨State.mem_keptSegs hkept, by simpa using hcause'⟩) hcause'

end

/-- Settles O19: a kernel's end by the three ways on, and a segment given up by the latch and the halt of its core's queue 7. -/
theorem segmentFailures : Obligations.SegmentFailures := by
  refine ⟨?_, ?_, ?_⟩
  · intro s core g c cause h hcfg hp hend
    have hexec := exec_chunkWriteback h hcfg hp hend
    refine ⟨s.takeSegEnd core, ?_, ?_, OnlyCore.modCore core s _, fun hne => ?_, fun hz hrel => ?_, fun hz hrel => ?_⟩
    · simp [State.takeSegEnd, CoreSt.modVx]
    · simp [State.takeSegEnd, CoreSt.modVx]
    · rw [hexec, if_pos hne]
    · rw [hexec, if_neg (not_not.2 hz), if_pos hrel]
    · rw [hexec, if_neg (not_not.2 hz), if_neg (by rw [hrel]; decide)]
  · intro s core p g h
    exact ⟨by rw [State.headSeg_segPhase h, Option.map_some], OnlyCore.segPhase core s p⟩
  · intro s core g c cause hsegs hp hcause hcfg hop hr
    have hup : (((s.noteFailed core g cause).giveUp g.udesc.shard g.step cause).core core).up = (s.core core).up.failFront g cause := by
      rw [State.giveUp_eq, State.giveUpSegs_up]
      exact s.noteFailed_up core g cause
    have hcommit : ((s.noteFailed core g cause).giveUp g.udesc.shard g.step cause).commit =
        ((s.noteFailed core g cause).markGaveUp cause g.udesc.shard).commit := by
      rw [State.giveUp_eq, State.giveUpSegs_commit]
    have hshard : ((s.noteFailed core g cause).giveUp g.udesc.shard g.step cause).shardSt g.udesc.shard =
        { s.shardSt g.udesc.shard with uncommitted := true, cause := cause, gaveUp := true } := by
      rw [State.shardSt, hcommit]
      refine (State.shardSt_modShard_self _ _ _).trans ?_
      rw [State.noteFailed, State.shardSt_modShard_self]
      rfl
    obtain ⟨hlatched, hhalted⟩ := State.giveUp_spec (s := s) (core := core) hp hcause
    refine ⟨_, exec_segmentFailReport hsegs hp hcause hcfg hop hr, ?_, ?_, ?_, ?_, ?_, ?_, ?_, hlatched, hhalted⟩
    · rw [hup, UpdateEngine.failFront, hsegs]; rfl
    · rw [hup]; rfl
    · rw [hup]; rfl
    · rw [hcommit]; rfl
    · rw [hcommit]; rfl
    · rw [hshard]
    · rw [hshard]

end Sys2Proof.Machine
end

section
/-! PROOFS. Commits of shards and the digests of a replica set (O20): what follows a commit leaves every shard's commit as it is, and a
digest that arrives is held or decides. -/

namespace Sys2Proof.Machine

open Sys2Proof

/-! ## What accesses, reports and messages leave -/

theorem State.Reports.commit {s t : State} (h : s.Reports t) : t.commit = s.commit := by rw [h]
theorem State.Halts.commit {s t : State} (h : s.Halts t) : t.commit = s.commit := by rw [h]

/-- A state without its stores and what accesses to them count and report. -/
def State.aside (s : State) : State := { s with mem := [], cores := [], tiers := {}, recorder := {}, free := 0 }

theorem State.aside_of_uncounted {s t : State} (h : t.uncounted = s.uncounted) : t.aside = s.aside :=
  (congrArg (fun u : State => { u with mem := [] }) h :)

theorem State.readMem_aside (s : State) (a n : Nat) : (s.readMem a n).1.aside = s.aside := State.aside_of_uncounted (s.readMem_uncounted a n)

theorem State.fixLine_aside (r : State × Cause) (e : Nat × ErrPattern) : (State.fixLine r e).1.aside = r.1.aside := by
  obtain ⟨s, c⟩ := r
  unfold State.fixLine; dsimp only; split
  · rfl
  · split <;> rfl

/-- A write changes its store, and what accesses count and report. -/
theorem State.writeMem_aside (s : State) (a : Nat) (bs : List Byte) : (s.writeMem a bs).1.aside = s.aside := by
  unfold State.writeMem; split
  · rfl
  · split
    · unfold State.writeLines; split
      · rfl
      · dsimp only
        generalize hr : List.foldl State.fixLine (s, 0) _ = r
        have hfixed : r.1.aside = s.aside := by
          rw [← hr]; exact foldl_keeps (fun r : State × Cause => r.1.aside) _ State.fixLine_aside _ _
        split
        · exact hfixed
        · exact Eq.trans (by rfl) hfixed
    · unfold State.writeWords; dsimp only; split
      · rfl
      · have hcounted (ce ue bad : Nat) := State.aside_of_uncounted (s.countWords_uncounted a ce ue bad)
        split
        · exact hcounted _ _ _
        · exact Eq.trans (by rfl) (hcounted _ _ _)

theorem State.readMem_commit (s : State) (a n : Nat) : (s.readMem a n).1.commit = s.commit :=
  (congrArg State.commit (s.readMem_aside a n) :)
theorem State.writeMem_commit (s : State) (a : Nat) (bs : List Byte) : (s.writeMem a bs).1.commit = s.commit :=
  (congrArg State.commit (s.writeMem_aside a bs) :)

/-- Two states differ at most in the torus: what sending messages and packets changes. -/
def State.Sends (s t : State) : Prop := t = { s with torus := t.torus }

theorem State.sends_refl (s : State) : s.Sends s := rfl
theorem State.Sends.trans {s t u : State} (h : s.Sends t) (k : t.Sends u) : s.Sends u := by
  unfold State.Sends at *; rw [k, h]
theorem State.sends_when {s : State} {p : Bool} {f : State → State} (h : s.Sends (f s)) : s.Sends (s.when p f) := by
  unfold State.when; split
  · exact h
  · rfl
theorem State.sends_each {α : Type} {f : State → α → State} (h : ∀ (s : State) (x : α), s.Sends (f s x)) (xs : List α) (s : State) :
    s.Sends (s.each xs f) := by
  unfold State.each
  induction xs generalizing s with
  | nil => rfl
  | cons x xs ih => exact (h s x).trans (ih _)
theorem State.sends_sendMsg (s : State) (p : Nat) (m : Message) : s.Sends (s.sendMsg p m) := rfl
theorem State.sends_ringSend (s : State) (origin : Nat) (m : Message) : s.Sends (s.ringSend origin m) :=
  State.sends_each (fun s a => s.sends_sendMsg (portOf a false) m) _ s

/-! ## Commits kept -/

/-- What a commit sets of a shard. -/
def ShardSt.committed (x : ShardSt) : Bool × Nat × Nat × Nat × Nat × Nat := (x.hasState, x.slot, x.seq, x.version, x.step, x.count)

/-- Between two states no shard's commit differs, nor the number of commits, nor what a shard other than `n` has processed. -/
structure State.KeepsCommits (n : Nat) (s t : State) : Prop where
  commits : t.commit.commits = s.commit.commits
  committed : ∀ k, (t.shardSt k).committed = (s.shardSt k).committed
  processed : ∀ k, k ≠ n → (t.shardSt k).processed = (s.shardSt k).processed

section
variable {n : Nat}

theorem State.keepsCommits_of_shards {s t : State} (hs : t.commit.shards = s.commit.shards) (hc : t.commit.commits = s.commit.commits) :
    State.KeepsCommits n s t := by
  have h (k : Nat) : t.shardSt k = s.shardSt k := congrArg (Tab.at · k) hs
  exact ⟨hc, fun k => by rw [h], fun k _ => by rw [h]⟩

theorem State.keepsCommits_of_commit {s t : State} (h : t.commit = s.commit) : State.KeepsCommits n s t :=
  State.keepsCommits_of_shards (congrArg _ h) (congrArg _ h)

theorem State.KeepsCommits.refl (s : State) : State.KeepsCommits n s s := State.keepsCommits_of_commit rfl

theorem State.KeepsCommits.trans {s t u : State} (h : State.KeepsCommits n s t) (g : State.KeepsCommits n t u) : State.KeepsCommits n s u :=
  ⟨g.commits.trans h.commits, fun k => (g.committed k).trans (h.committed k), fun k hk => (g.processed k hk).trans (h.processed k hk)⟩

theorem State.keepsCommits_each {α : Type} {f : State → α → State} (h : ∀ (s : State) (x : α), State.KeepsCommits n s (f s x)) (xs : List α)
    (s : State) : State.KeepsCommits n s (s.each xs f) := by
  unfold State.each
  induction xs generalizing s with
  | nil => exact .refl s
  | cons x xs ih => exact (h s x).trans (ih _)

/-- A change of shard `n` that sets nothing of its commit. -/
theorem State.keepsCommits_modShard_self (s : State) {f : ShardSt → ShardSt} (h : ∀ x, (f x).committed = x.committed) :
    State.KeepsCommits n s (s.modShard n f) := by
  refine ⟨rfl, fun k => ?_, fun k hk => by rw [State.shardSt_modShard_ne _ _ hk]⟩
  by_cases hk : k = n
  · subst hk; rw [State.shardSt_modShard_self, h]
  · rw [State.shardSt_modShard_ne _ _ hk]

/-- A change of any shard that sets nothing of its commit, nor the step that it has processed. -/
theorem State.keepsCommits_modShard (s : State) (j : Nat) {f : ShardSt → ShardSt} (h : ∀ x, (f x).committed = x.committed)
    (hp : ∀ x, (f x).processed = x.processed) : State.KeepsCommits n s (s.modShard j f) := by
  refine ⟨rfl, (s.keepsCommits_modShard_self (n := j) h).committed, fun k _ => ?_⟩
  by_cases hk : k = j
  · subst hk; rw [State.shardSt_modShard_self, hp]
  · rw [State.shardSt_modShard_ne _ _ hk]

/-! ## The completion of a step keeps commits (R348, R496, R631) -/

theorem State.targetDue_commit (step : Nat) (s : State) (e : TargetCfg × Nat) : (State.targetDue step s e).commit = s.commit := by
  unfold State.targetDue; split
  · rfl
  · split <;> rfl

theorem State.ckCut_commit (s : State) (step : Nat) : (s.ckCut step).commit = s.commit := by
  unfold State.ckCut; split
  · rfl
  · exact foldl_keeps State.commit _ (State.targetDue_commit step) _ s

theorem State.commitCounters_commit (s : State) : s.commitCounters.commit = s.commit :=
  foldl_keeps State.commit (fun s (c : CoreCfg) => s.advance c.core c.commitCtr 1) (fun _ _ => rfl) _ s

theorem State.tryEnd_commit (s : State) : s.tryEnd.commit = s.commit := by
  unfold State.tryEnd; split
  · split
    · rfl
    · exact (State.reports_setJob _ _ _).commit.trans ((State.reports_jobRecord _ _ _).commit)
  · rfl

theorem State.keepsCommits_holdSlots (s : State) : State.KeepsCommits n s s.holdSlots := by
  refine State.keepsCommits_each (fun s k => ?_) _ s
  dsimp only; split
  · exact .refl s
  · split
    · exact .refl s
    · refine State.KeepsCommits.trans ?_ (State.keepsCommits_of_commit (State.modRound_commit _ _))
      exact s.keepsCommits_modShard k (fun _ => rfl) (fun _ => rfl)

theorem State.keepsCommits_holdForm (s : State) : State.KeepsCommits n s s.holdForm := by
  unfold State.holdForm; split
  · exact s.keepsCommits_holdSlots
  · exact .refl s

theorem State.keepsCommits_roundBoundary (s : State) (step : Nat) : State.KeepsCommits n s (s.roundBoundary step) := by
  unfold State.roundBoundary; split
  · exact .refl s
  · split
    · exact (State.keepsCommits_of_commit (by rfl)).trans (State.keepsCommits_holdForm _)
    · exact .refl s

theorem State.keepsCommits_stepsDone (fuel : Nat) (s : State) : State.KeepsCommits n s (State.stepsDone fuel s) := by
  induction fuel generalizing s with
  | zero => exact .refl s
  | succ fuel ih =>
    rw [State.stepsDone]
    dsimp only; split
    · refine State.KeepsCommits.trans ?_ (ih _)
      refine State.KeepsCommits.trans ?_ (State.keepsCommits_roundBoundary _ _)
      have hcommit := (State.reports_finishRec (s.ckCut s.commit.advanced).commitCounters 0 s.commit.advanced
        (if ((s.gate.closed.find? s.commit.advanced).getD []).getD 8 0 = 1 then ((s.gate.closed.find? s.commit.advanced).getD []).getD 9 0 else 0)
        ((s.gate.closed.find? s.commit.advanced).getD [])).commit.trans ((State.commitCounters_commit _).trans (s.ckCut_commit _))
      exact State.keepsCommits_of_shards (congrArg CommitUnit.shards hcommit :) (congrArg CommitUnit.commits hcommit :)
    · exact .refl s

theorem State.keepsCommits_pickNext (s : State) : State.KeepsCommits n s (s.pickNext n) := by
  unfold State.pickNext; dsimp only; split
  · exact .refl s
  · split
    · exact .refl s
    · exact s.keepsCommits_modShard_self (fun _ => rfl)

theorem State.keepsCommits_shardProcessed (s : State) (step : Nat) : State.KeepsCommits n s (s.shardProcessed n step) := by
  unfold State.shardProcessed State.tryStepDone
  refine State.KeepsCommits.trans ?_ (State.keepsCommits_of_commit (State.tryEnd_commit _))
  refine State.KeepsCommits.trans ?_ (State.keepsCommits_stepsDone 8 _)
  refine State.KeepsCommits.trans ?_ (State.keepsCommits_pickNext _)
  exact (State.keepsCommits_of_commit (s.ckCut_commit step)).trans (State.keepsCommits_modShard_self _ (fun _ => rfl))

theorem State.keepsCommits_processSkips (segs fuel : Nat) (s : State) : State.KeepsCommits n s (State.processSkips n segs fuel s) := by
  induction fuel generalizing s with
  | zero => exact .refl s
  | succ fuel ih =>
    rw [State.processSkips]; split
    · exact (s.keepsCommits_shardProcessed _).trans (ih _)
    · exact .refl s

/-! ## Digests and repairs keep commits (R358, R359, R520) -/

/-- A module whose digest of a shard is not that of the majority marks the shard DIVERGED, counts it and reports it. -/
def State.markDiverged (s : State) (n good : Nat) : State :=
  ((s.modShard n (fun x => { x with diverged := true, good := some good })).modCommit (fun u =>
    { u with divergedCount := u.divergedCount + 1 })).event 0x0013 Cause.digestMismatch n 0 0

theorem State.markDiverged_self (s : State) (n good : Nat) : ((s.markDiverged n good).shardSt n).diverged = true :=
  congrArg ShardSt.diverged (s.shardSt_modShard_self n (fun x => { x with diverged := true, good := some good }))
theorem State.markDiverged_ne (s : State) {n k : Nat} (good : Nat) (h : k ≠ n) : (s.markDiverged n good).shardSt k = s.shardSt k :=
  s.shardSt_modShard_ne (fun x => { x with diverged := true, good := some good }) h

theorem State.keepsCommits_markDiverged (s : State) (good : Nat) : State.KeepsCommits n s (s.markDiverged n good) := by
  have hshard : State.KeepsCommits n s (s.modShard n (fun x => { x with diverged := true, good := some good })) :=
    s.keepsCommits_modShard_self (fun _ => rfl)
  exact hshard.trans (State.keepsCommits_of_shards rfl rfl)

theorem State.keepsCommits_compareDigests (s : State) : State.KeepsCommits n s (s.compareDigests n) := by
  unfold State.compareDigests; split
  · split
    · split
      · dsimp only
        generalize hx : State.when _ _ _ = x
        have hwhen : State.KeepsCommits n s x := by
          rw [← hx, State.when]
          split <;> exact State.keepsCommits_of_shards rfl rfl
        split
        · exact hwhen
        · exact hwhen.trans (x.keepsCommits_markDiverged _)
      · exact .refl s
    · exact .refl s
  · exact .refl s

theorem State.ownDigest_commit (s : State) (d : ShardCfg) : (s.ownDigest n d).1.commit = s.commit := by
  have hread := s.readMem_commit (d.heldBase (s.shardSt n).staged (s.shardSt n).slot) d.slotSize
  unfold State.ownDigest; dsimp only
  split <;> (rename_i heq; rwa [heq] at hread)

theorem State.keepsCommits_digestShard (s : State) (step : Nat) (d : ShardCfg) : State.KeepsCommits n s (s.digestShard n step d) := by
  unfold State.digestShard; split
  · exact .refl s
  · have hown := s.ownDigest_commit (n := n) d
    unfold State.digestNow; split
    · exact s.keepsCommits_modShard_self (fun _ => rfl)
    · split
      · next heq => rw [heq] at hown; exact State.keepsCommits_of_commit hown
      · next heq =>
        rw [heq] at hown
        refine State.KeepsCommits.trans ?_ (State.keepsCommits_compareDigests _)
        refine State.KeepsCommits.trans ?_ (State.keepsCommits_of_commit (congrArg State.commit (State.sends_ringSend _ _ _)))
        exact State.keepsCommits_of_shards (congrArg CommitUnit.shards hown :) (congrArg CommitUnit.commits hown :)

theorem State.keepsCommits_replicaRepair (s : State) : State.KeepsCommits n s (s.replicaRepair n) := by
  unfold State.replicaRepair; split
  · split
    · exact (State.keepsCommits_of_commit (s.halts_flood _ _).commit).trans (State.keepsCommits_modShard_self _ (fun _ => rfl))
    · exact .refl s
  · exact .refl s

/-! ## The end of a round keeps commits (R473, R476) -/

theorem State.keepsCommits_dropRoundHolds (s : State) : State.KeepsCommits n s s.dropRoundHolds := by
  refine State.keepsCommits_each (fun s k => ?_) _ s
  unfold State.dropRoundHold; split
  · refine State.KeepsCommits.trans ?_ (State.keepsCommits_of_commit (State.modRound_commit _ _))
    exact s.keepsCommits_modShard k (fun _ => rfl) (fun _ => rfl)
  · exact .refl s

theorem State.keepsCommits_roundApplied (s : State) : State.KeepsCommits n s s.roundApplied := by
  have hnext (f : RoundUnit → RoundUnit) : State.KeepsCommits n s (s.dropRoundHolds.modRound f).holdForm :=
    (s.keepsCommits_dropRoundHolds.trans (State.keepsCommits_of_commit (State.modRound_commit _ f))).trans (State.keepsCommits_holdForm _)
  unfold State.roundApplied; split
  · exact hnext _
  · split
    · exact hnext _
    · exact .refl s

theorem State.keepsCommits_outerCommitted (s : State) (k : Nat) : State.KeepsCommits n s (s.outerCommitted k) := by
  unfold State.outerCommitted; dsimp only; split
  · exact (State.keepsCommits_of_commit (by rfl)).trans (State.keepsCommits_roundApplied _)
  · exact State.keepsCommits_of_commit rfl

end

/-! ## SHARD_COMMIT (R334, R347) -/

/-- The shard with a commit record in force. -/
def ShardSt.commitTo (x : ShardSt) (r : CommitRec) : ShardSt :=
  { x with hasState := true, slot := r.slot, seq := r.seq, version := r.version, step := r.step, count := r.count,
           slotVersion := x.slotVersion.filter (fun v => v.1 != r.slot) ++ [(r.slot, r.version)] }

/-- The state with a commit record written and in force. -/
def State.putCommit (s : State) (n : Nat) (d : ShardCfg) (r : CommitRec) : State :=
  (s.writeMem (d.commitBase + 64 * (r.seq % 2)) r.bytes).1.modShard n (·.commitTo r)

section
variable (s : State) (n : Nat) (d : ShardCfg) (r : CommitRec)

theorem State.putCommit_commits : (s.putCommit n d r).commit.commits = s.commit.commits := by
  unfold State.putCommit
  rw [← s.writeMem_commit (d.commitBase + 64 * (r.seq % 2)) r.bytes]
  rfl

theorem State.putCommit_shard : ∃ x, (s.putCommit n d r).shardSt n = ShardSt.commitTo x r :=
  ⟨_, State.shardSt_modShard_self _ _ _⟩

variable {n} in
theorem State.putCommit_shard_ne {k : Nat} (hk : k ≠ n) : (s.putCommit n d r).shardSt k = s.shardSt k := by
  unfold State.putCommit
  rw [State.shardSt_modShard_ne _ _ hk, State.shardSt, State.writeMem_commit, State.shardSt]

end

section
variable {s : State} {n slot step : Nat} {c : ShardCfg} {r : CommitRec}

theorem State.writeCommit_ok (h : (s.writeMem (c.commitBase + 64 * (r.seq % 2)) r.bytes).2 = 0) :
    s.writeCommit n c r = (s.putCommit n c r, 0) := by
  unfold State.writeCommit State.putCommit
  generalize s.writeMem _ _ = w at h ⊢
  obtain ⟨t, e⟩ := w
  subst h
  rfl

/-- A commit is counted, with the longest time from the last report. -/
def State.countCommit (s : State) (us : Nat) : State := s.modCommit (fun u => { u with commits := u.commits + 1, worst := max u.worst us })

/-- What a commit leaves after all that follows it. -/
theorem State.commit_spec {u : State} {us : Nat} (h : State.KeepsCommits n ((s.putCommit n c r).countCommit us) u) :
    (u.shardSt n).committed = (true, r.slot, r.seq, r.version, r.step, r.count) ∧ u.commit.commits = s.commit.commits + 1 ∧
      ∀ k, k ≠ n → (u.shardSt k).committed = (s.shardSt k).committed ∧ (u.shardSt k).processed = (s.shardSt k).processed := by
  refine ⟨(h.committed n).trans ?_, h.commits.trans (congrArg (· + 1) (s.putCommit_commits n c r)), fun k hk => ?_⟩
  · obtain ⟨x, hx⟩ := s.putCommit_shard n c r
    exact congrArg ShardSt.committed hx
  · have hother : ((s.putCommit n c r).countCommit us).shardSt k = s.shardSt k := s.putCommit_shard_ne c r hk
    rw [h.committed, h.processed k hk, hother]
    exact ⟨rfl, rfl⟩

variable (hcfg : s.shardCfg n = some c) (ht : (s.shardSt n).target = some (slot, step))
include hcfg

theorem exec_shardCommit : exec (.shardCommit n) s = .next (if s.commitReady n c = true then s.commitInner n c
    else if (c.segCount ≠ 0 ∧ (s.shardSt n).outerReports = c.segCount) ∧ (c.pool = true → (s.shardSt n).written = true)
      then s.commitOuter n c else s) := by
  change execShardCommit n s = _
  unfold execShardCommit
  rw [hcfg]
  simp [Bool.or_eq_true, ← imp_iff_not_or, ← Bool.not_eq_true]

omit hcfg
include ht

theorem State.keepsCommits_commitInner (hr : r = ⟨(s.shardSt n).seq + 1, (s.shardSt n).version + 1, step, (s.shardSt n).count + 1, c.tid, slot⟩)
    (h : (s.writeMem (c.commitBase + 64 * (r.seq % 2)) r.bytes).2 = 0) :
    ∃ us, State.KeepsCommits n ((s.putCommit n c r).countCommit us) (s.commitInner n c) := by
  unfold State.commitInner
  dsimp only
  rw [ht]
  dsimp only
  rw [← hr, State.writeCommit_ok h]
  refine ⟨((s.putCommit n c r).now - (s.shardSt n).lastReportAt) / 1000, ?_⟩
  refine State.KeepsCommits.trans ?_ (State.keepsCommits_processSkips _ _ _)
  refine State.KeepsCommits.trans ?_ (State.keepsCommits_shardProcessed _ _)
  refine State.KeepsCommits.trans ?_ (State.keepsCommits_digestShard _ _ _)
  refine State.KeepsCommits.trans ?_ (State.keepsCommits_replicaRepair _)
  exact State.keepsCommits_modShard_self _ (fun _ => rfl)

theorem State.keepsCommits_commitOuter
    (hr : r = ⟨(s.shardSt n).seq + 1, (s.shardSt n).version + 1, (s.shardSt n).step, (s.shardSt n).count, c.tid, slot⟩)
    (h : (s.writeMem (c.commitBase + 64 * (r.seq % 2)) r.bytes).2 = 0) :
    ∃ us, State.KeepsCommits n ((s.putCommit n c r).countCommit us) (s.commitOuter n c) := by
  unfold State.commitOuter
  dsimp only
  rw [ht]
  dsimp only
  rw [← hr, State.writeCommit_ok h]
  refine ⟨((s.putCommit n c r).now - (s.shardSt n).lastReportAt) / 1000, ?_⟩
  refine State.KeepsCommits.trans ?_ (State.keepsCommits_outerCommitted _ _)
  refine State.KeepsCommits.trans ?_ (State.keepsCommits_pickNext _)
  exact State.keepsCommits_modShard_self _ (fun _ => rfl)

end

/-! ## DIGEST_EXCHANGE (R359) -/

/-- Another module's digest is passed on round the rings. -/
def State.passDigest (s : State) (n coord : Nat) (w : Word64) : State :=
  s.when (coord ≠ s.img.node && decide (coord < s.nodes)) (fun s => s.ringSend coord (.digest n coord w))

theorem State.sends_passDigest (s : State) (n coord : Nat) (w : Word64) : s.Sends (s.passDigest n coord w) :=
  State.sends_when (s.sends_ringSend _ _)

theorem State.passDigest_eq (s : State) (n coord : Nat) (w : Word64) :
    s.passDigest n coord w = if coord ≠ s.img.node ∧ coord < s.nodes then s.ringSend coord (.digest n coord w) else s := by
  simp [State.passDigest, State.when]

/-- The digests held of shard `n` are those given. -/
def State.holdDigests (s : State) (n step : Nat) (held : List (Nat × Word64)) : State :=
  s.modCommit (fun u => { u with digests := u.digests.filter (fun e => e.1 != n) ++ [(n, step, held)] })

/-- An entry put in the place of every entry of its key is the one found. -/
theorem find?_replaced {α : Type} (xs : List (Nat × α)) (k : Nat) (v : α) :
    (xs.filter (fun e => e.1 != k) ++ [(k, v)]).find? (fun e => e.1 == k) = some (k, v) := by
  rw [List.find?_append, List.find?_eq_none.2, Option.none_or]
  · simp
  · intro e he
    simpa using (List.mem_filter.1 he).2

theorem find?_replaced_ne {α : Type} (xs : List (Nat × α)) {j k : Nat} (v : α) (h : j ≠ k) :
    (xs.filter (fun e => e.1 != k) ++ [(k, v)]).find? (fun e => e.1 == j) = xs.find? (fun e => e.1 == j) := by
  have hlast : [(k, v)].find? (fun e => e.1 == j) = none := by simp [Ne.symm h]
  rw [List.find?_append, hlast, Option.or_none, List.find?_filter]
  congr 1
  funext e
  by_cases he : e.1 = j
  · simp [he, h]
  · simp [he]

/-- A member's digest joins those held of its shard, which are compared. -/
def State.takeDigest (s : State) (n coord : Nat) (w : Word64) (c : ShardCfg) : State :=
  if c.replicaSet = 0 || s.img.digestInterval = 0 || !(s.replicas c.replicaSet).contains coord || coord = s.img.node then s
  else
    let next := (s.nextStep n + s.img.digestInterval - 1) / s.img.digestInterval * s.img.digestInterval
    let (step, held) := ((s.commit.digests.find? (fun e => e.1 == n)).map (·.2)).getD (next, [])
    (s.holdDigests n step (held.filter (fun e => e.1 != coord) ++ [(coord, w)])).compareDigests n

section
variable {s : State} {n coord step : Nat} {w own : Word64} {c : ShardCfg} {held : List (Nat × Word64)}

theorem State.takeDigest_outside (h : (s.replicas c.replicaSet).contains coord = false) : s.takeDigest n coord w c = s := by
  unfold State.takeDigest
  rw [if_pos]
  simp only [h, Bool.not_false, Bool.or_true, Bool.true_or]

theorem State.takeDigest_member (hset : c.replicaSet ≠ 0) (hint : s.img.digestInterval ≠ 0) (hmem : coord ∈ s.replicas c.replicaSet)
    (hne : coord ≠ s.img.node) (hheld : s.commit.digests.find? (fun e => e.1 == n) = some (n, step, held)) :
    s.takeDigest n coord w c = (s.holdDigests n step (held.filter (fun e => e.1 != coord) ++ [(coord, w)])).compareDigests n := by
  unfold State.takeDigest
  rw [if_neg (by simp [hset, hint, hmem, hne]), hheld]
  rfl

variable (hcfg : s.shardCfg n = some c)
include hcfg

theorem exec_digestExchange : exec (.digestExchange n coord w) s = .next ((s.passDigest n coord w).takeDigest n coord w c) := by
  change execDigestExchange n coord w s = _
  unfold execDigestExchange
  rw [hcfg]
  rfl

/-- While a member's digest is missing, the digests stay held. -/
theorem State.compareDigests_waits (h : ∃ m ∈ s.replicas c.replicaSet, ∀ e ∈ held, e.1 ≠ m) :
    (s.holdDigests n step held).compareDigests n = s.holdDigests n step held := by
  have hcfg' : (s.holdDigests n step held).shardCfg n = some c := hcfg
  have hfind : (s.holdDigests n step held).commit.digests.find? (fun e => e.1 == n) = some (n, step, held) := find?_replaced _ _ _
  have hmissing : ((s.holdDigests n step held).replicas c.replicaSet).all (fun m => held.any (fun e => e.1 == m)) = false := by
    obtain ⟨m, hm, hno⟩ := h
    refine List.all_eq_false.2 ⟨m, hm, ?_⟩
    rw [Bool.not_eq_true, List.any_eq_false]
    exact fun e he => by simpa using hno e he
  unfold State.compareDigests
  rw [hcfg', hfind]
  dsimp only
  split
  · rw [if_neg (by rw [hmissing]; decide)]
  · rfl

/-- The digests of a shard are held no more. -/
def State.dropDigests (s : State) (n : Nat) : State := s.modCommit (fun u => { u with digests := u.digests.filter (fun e => e.1 != n) })

/-- Once every member's digest is held, a module whose own is that of the majority only drops them; another marks the shard DIVERGED. -/
theorem State.compareDigests_decides {best : Nat × Word64} (h : ∀ m ∈ s.replicas c.replicaSet, ∃ e ∈ held, e.1 = m)
    (hown : held.find? (fun e => e.1 == s.img.node) = some (s.img.node, own)) (hbest : majority held = some best) :
    ∃ ck, (s.holdDigests n step held).compareDigests n = if own = best.2 then { s.dropDigests n with ck := ck }
      else ({ s.dropDigests n with ck := ck } : State).markDiverged n best.1 := by
  have hcfg' : (s.holdDigests n step held).shardCfg n = some c := hcfg
  have hfind : (s.holdDigests n step held).commit.digests.find? (fun e => e.1 == n) = some (n, step, held) := find?_replaced _ _ _
  have hown' : held.find? (fun e => e.1 == (s.holdDigests n step held).img.node) = some (s.img.node, own) := hown
  have hall : ((s.holdDigests n step held).replicas c.replicaSet).all (fun m => held.any (fun e => e.1 == m)) = true := by
    refine List.all_eq_true.2 fun m hm => List.any_eq_true.2 ?_
    obtain ⟨e, he, hem⟩ := h m hm
    exact ⟨e, he, by rw [hem, beq_self_eq_true]⟩
  have hdropped : (s.holdDigests n step held).modCommit (fun u => { u with digests := u.digests.filter (fun e => e.1 != n) }) = s.dropDigests n := by
    simp [State.holdDigests, State.dropDigests, State.modCommit, List.filter_append]
  unfold State.compareDigests
  rw [hcfg', hfind]
  simp only [hown', hbest, hall, if_true, hdropped]
  generalize hx : State.when _ _ _ = x
  obtain ⟨ck, rfl⟩ : ∃ ck, x = { s.dropDigests n with ck := ck } := by
    rw [← hx, State.when]
    split <;> exact ⟨_, rfl⟩
  exact ⟨ck, rfl⟩

end

/-- Settles O20: a commit by what follows it keeping commits, and a digest by the comparison that it completes or not. -/
theorem shardsCommit : Obligations.ShardsCommit := by
  refine ⟨⟨?_, ?_, ?_⟩, ?_, ?_⟩
  · intro s n slot step c hcfg hready ht hwrite
    obtain ⟨us, hkeeps⟩ := State.keepsCommits_commitInner ht rfl hwrite
    obtain ⟨hown, hcommits, hothers⟩ := State.commit_spec hkeeps
    simp only [ShardSt.committed, Prod.mk.injEq] at hown hothers
    obtain ⟨hst, hslot, hseq, hversion, hstep, hcount⟩ := hown
    refine ⟨s.commitInner n c, by rw [exec_shardCommit hcfg, if_pos hready], hslot, hseq, hversion, hstep, hcount, hst, hcommits, fun k hk => ?_⟩
    obtain ⟨⟨-, hk₁, hk₂, hk₃, hk₄, hk₅⟩, hp⟩ := hothers k hk
    exact ⟨hk₁, hk₂, hk₃, hk₄, hk₅, hp⟩
  · intro s n slot step c hcfg hready hsegs houter hpool ht hwrite
    obtain ⟨us, hkeeps⟩ := State.keepsCommits_commitOuter ht rfl hwrite
    obtain ⟨hown, hcommits, hothers⟩ := State.commit_spec hkeeps
    simp only [ShardSt.committed, Prod.mk.injEq] at hown hothers
    obtain ⟨-, hslot, hseq, hversion, hstep, hcount⟩ := hown
    refine ⟨s.commitOuter n c, ?_, hslot, hseq, hversion, hstep, hcount, hcommits, fun k hk => ?_⟩
    · rw [exec_shardCommit hcfg, if_neg (by rw [hready]; decide), if_pos ⟨⟨hsegs, houter⟩, hpool⟩]
    · obtain ⟨⟨-, hk₁, hk₂, hk₃, hk₄, hk₅⟩, hp⟩ := hothers k hk
      exact ⟨hk₁, hk₂, hk₃, hk₄, hk₅, hp⟩
  · intro s n c hcfg hreports houter
    rw [exec_shardCommit hcfg, if_neg (by simp [State.commitReady, hreports]), if_neg (fun h => houter h.1.2)]
  · intro s n coord w c hcfg h
    rw [exec_digestExchange hcfg, State.takeDigest_outside, State.passDigest_eq]
    rw [s.sends_passDigest n coord w]
    exact h
  · intro s n coord step w own c held hcfg hset hint hmem hne hheld hown
    have hexec := exec_digestExchange (coord := coord) (w := w) hcfg
    have hsends := s.sends_passDigest n coord w
    generalize s.passDigest n coord w = p at hexec hsends
    have hcommit : p.commit = s.commit := by rw [hsends]
    have hmemory : p.mem = s.mem := by rw [hsends]
    have hcfg' : p.shardCfg n = some c := by rw [hsends]; exact hcfg
    have hset' : p.replicas c.replicaSet = s.replicas c.replicaSet := by rw [hsends]; rfl
    have himg : p.img = s.img := by rw [hsends]; rfl
    rw [State.takeDigest_member hset (himg ▸ hint) (hset' ▸ hmem) (himg ▸ hne) (hcommit ▸ hheld)] at hexec
    refine ⟨fun hmissing => ⟨_, hexec, ?_⟩, fun hall best hbest => ⟨_, hexec, ?_⟩⟩
    · rw [State.compareDigests_waits hcfg' (by
        obtain ⟨m, hm, hmc, hno⟩ := hmissing
        exact ⟨m, hset' ▸ hm, List.forall_mem_append.2 ⟨fun e he => hno e (List.mem_filter.1 he).1, List.forall_mem_singleton.2 (Ne.symm hmc)⟩⟩)]
      exact ⟨find?_replaced _ _ _, (congrArg CommitUnit.shards hcommit :), hmemory⟩
    · obtain ⟨ck, hdecides⟩ := State.compareDigests_decides (step := step) (own := own) hcfg' (by
        intro m hm
        rw [hset'] at hm
        by_cases hmc : m = coord
        · exact ⟨(coord, w), List.mem_append_right _ (List.mem_singleton_self _), hmc.symm⟩
        · obtain ⟨e, he, hem⟩ := (hall m hm).resolve_left hmc
          exact ⟨e, List.mem_append_left _ (List.mem_filter.2 ⟨he, by simpa [hem] using hmc⟩), hem⟩)
        (by rw [himg, find?_replaced_ne _ _ (Ne.symm hne)]; exact hown) hbest
      have hdropped : ∀ e ∈ (p.dropDigests n).commit.digests, e.1 ≠ n := fun e he => by simpa using (List.mem_filter.1 he).2
      rw [hdecides]
      refine ⟨?_, fun heq => ?_, fun hneq => ?_, ?_⟩
      · split <;> exact hdropped
      · rw [if_pos heq]
        exact ⟨(congrArg CommitUnit.shards hcommit :), (congrArg CommitUnit.divergedCount hcommit :)⟩
      · rw [if_neg hneq]
        refine ⟨State.markDiverged_self _ n _, (congrArg (fun u : CommitUnit => u.divergedCount + 1) hcommit :), fun k hk => ?_⟩
        rw [State.markDiverged_ne _ _ hk]
        exact (congrArg (fun u : CommitUnit => u.shards.at k) hcommit :)
      · split <;> exact hmemory

end Sys2Proof.Machine
end

section
/-! PROOFS. STAGE and WRITEBACK entries (O22): the item that each opens, and the pool requests that it makes. -/

namespace Sys2Proof.Machine

open Sys2Proof

/-! ## Reads of a core's own SRAM leave every other unit (R364, R365) -/

/-- Two states differ at most in their cores. -/
def State.OnlyCores (s t : State) : Prop := t = { s with cores := t.cores }

theorem State.OnlyCores.trans {s t u : State} (h : s.OnlyCores t) (k : t.OnlyCores u) : s.OnlyCores u := by
  unfold State.OnlyCores at *; rw [k, h]

theorem State.onlyCores_readOwn {s t : State} {core a n al : Nat} {r : Except Cause (List Byte)} (h : s.readOwn core a n al = (t, r)) :
    s.OnlyCores t := by
  have hread : s.OnlyCores (s.readOwn core a n al).1 := by
    unfold State.readOwn; split
    · next hown =>
      simp only [Bool.and_eq_true, decide_eq_true_eq] at hown
      have ha := hown.1.1.1
      unfold State.readMem; split
      · rfl
      · rw [if_neg (by simp [ha])]
        unfold State.readWords; dsimp only; split
        · rfl
        · unfold State.countWords; rw [if_pos ha]; rfl
    · rfl
  rwa [h] at hread

theorem State.onlyCores_ready {s t : State} {core q : Nat} {e : Entry} (h : Safety.Ready s core q t e) : s.OnlyCores t := by
  obtain ⟨⟨-, ⟨_, hread, -⟩, -⟩, -⟩ := h
  exact State.onlyCores_readOwn hread

/-- The state in which a transfer's descriptor is acted on. -/
theorem State.onlyCores_issued {s t u : State} {core q a n al : Nat} {e : Entry} {r : Except Cause (List Byte)} (h : Safety.Ready s core q t e)
    (hread : t.readOwn core a n al = (u, r)) : s.OnlyCores (u.goNext core q) :=
  ((State.onlyCores_ready h).trans (State.onlyCores_readOwn hread)).trans rfl

/-! ## Items over a shard's pool slot (R382, R393) -/

/-- The item that a STAGE or a WRITEBACK opens. -/
def State.shardItem (s : State) (core q w : Nat) (d : XDesc) (kind : XferKind) (bytes : Nat) : Xfer :=
  { id := (s.core core).xf.nextId, kind := kind, op := d.op, queue := q, entry := (s.queue core q).pos - 1, counter := d.counter,
    increment := d.increment, desc := BitVec.ofNat 256 w, shard := d.shard, bytes := bytes, started := s.now }

/-- The state with that item open. -/
def State.openItem (s : State) (core : Nat) (x : Xfer) : State :=
  s.modXf core (fun t => { t with open_ := t.open_ ++ [x], nextId := (s.core core).xf.nextId + 1 })

theorem State.openShardXfer_eq (s : State) (core q w : Nat) (d : XDesc) (kind : XferKind) (bytes : Nat) :
    s.openShardXfer core q w d kind bytes =
      (s.openItem core (s.shardItem core q w d kind bytes), (s.shardItem core q w d kind bytes).id) := rfl

@[simp] theorem State.modXf_xf (s : State) (core : Nat) (f : TransferEngine → TransferEngine) :
    ((s.modXf core f).core core).xf = f (s.core core).xf := by simp [State.modXf]

/-- An item with its pool requests outstanding. -/
def Xfer.request (x : Xfer) (lines : List Nat) (writes : List (Nat × List Byte)) (writing : Bool) (tag now : Nat) : Xfer :=
  { x with outstanding := lines, got := writes, writing := writing, tag := tag, started := now }

section
variable (s : State) (core : Nat) (x : Xfer) (lines : List Nat) (writes : List (Nat × List Byte)) (writing : Bool)

theorem OnlyCore.poolRequest (id : Nat) : Safety.OnlyCore core s (s.poolRequest core id lines writes writing) :=
  ⟨fun _ hc => State.core_modCore_ne _ _ hc, rfl⟩

theorem State.poolRequest_counters (id : Nat) :
    ((s.poolRequest core id lines writes writing).core core).counters = (s.core core).counters := by
  simp [State.poolRequest, State.modXf]

/-- The requests of the item opened last are its own. -/
theorem State.poolRequest_open {xs : List Xfer} (hopen : (s.core core).xf.open_ = xs ++ [x]) (hids : ∀ y ∈ xs, y.id ≠ x.id) :
    ((s.poolRequest core x.id lines writes writing).core core).xf.open_ = xs ++ [x.request lines writes writing s.tiers.poolTag s.now] := by
  have hold : xs.map (fun y => if y.id = x.id then y.request lines writes writing s.tiers.poolTag s.now else y) = xs := by
    refine (List.map_congr_left fun y hy => ?_).trans (List.map_id xs)
    exact if_neg (hids y hy)
  have hmap : ((s.poolRequest core x.id lines writes writing).core core).xf.open_ =
      (s.core core).xf.open_.map (fun y => if y.id = x.id then y.request lines writes writing s.tiers.poolTag s.now else y) := by
    rw [State.poolRequest, State.modXf_xf]
    rfl
  rw [hmap, hopen, List.map_append, hold, List.map_singleton, if_pos rfl]

end

theorem State.openItem_open (s : State) (core : Nat) (x : Xfer) : ((s.openItem core x).core core).xf.open_ = (s.core core).xf.open_ ++ [x] := by
  simp [State.openItem, State.modXf]
theorem State.openItem_counters (s : State) (core : Nat) (x : Xfer) : ((s.openItem core x).core core).counters = (s.core core).counters := by
  simp [State.openItem, State.modXf]
theorem OnlyCore.openItem (s : State) (core : Nat) (x : Xfer) : Safety.OnlyCore core s (s.openItem core x) := OnlyCore.modCore core s _

/-! ## STAGE and WRITEBACK issue (R393) -/

section
variable {s z : State} {core q w : Nat} {d : XDesc} {c : ShardCfg} (hz : s.OnlyCores z) (hd : d = XDesc.ofNat w)
include hz hd

/-- A STAGE that names no shard of the image ends Failed. -/
theorem State.actStage_noShard (hcfg : s.shardCfg d.shard = none) :
    z.actStage core q w = z.endXfer core d.counter d.increment Cause.planReject := by
  have hcfg' : z.shardCfg d.shard = none := by rw [hz]; exact hcfg
  unfold State.actStage
  rw [← hd]
  dsimp only
  rw [hcfg']

variable (hcfg : s.shardCfg d.shard = some c) (hpool : c.pool = true) (hok : d.shardOpOk s = true)
include hcfg hpool hok

theorem State.actStage_reads (hst : (s.shardSt d.shard).staged = false) (hhas : (s.shardSt d.shard).hasState = true)
    (hfree : s.poolBlocked (c.slotAddr (s.shardSt d.shard).slot) c.slotSize = false) :
    z.actStage core q w = (((z.openItem core (z.shardItem core q w d .stage c.slotSize)).addHold d.shard (s.shardSt d.shard).slot holdStage).poolRequest
      core (z.shardItem core q w d .stage c.slotSize).id (poolLines (c.slotAddr (s.shardSt d.shard).slot) c.slotSize) [] false) := by
  have hcfg' : z.shardCfg d.shard = some c := by rw [hz]; exact hcfg
  have hok' : d.shardOpOk z = true := by rw [hz]; exact hok
  have hsh : z.shardSt d.shard = s.shardSt d.shard := by rw [hz]; rfl
  have hfree' : (z.openItem core (z.shardItem core q w d .stage c.slotSize)).poolBlocked (c.slotAddr (s.shardSt d.shard).slot) c.slotSize = false := by
    change z.poolBlocked _ _ = false
    rw [hz]; exact hfree
  unfold State.actStage
  rw [← hd]
  dsimp only
  rw [hcfg', hsh]
  dsimp only
  rw [if_pos (by simp [hok', hpool, hst, hhas]), State.openShardXfer_eq]
  exact if_neg (by rw [hfree']; decide)

theorem State.actWriteback_writes {slot : Nat} (hslot : (s.shardSt d.shard).writebackSlot c = some slot)
    (hfree : s.poolBlocked (c.slotAddr slot) c.slotSize = false) (hclean : Safety.Clean s) {out : List Byte}
    (hout : out = s.peek c.outputHalf c.slotSize) :
    z.actWriteback core q w = (z.openItem core (z.shardItem core q w d .writeback c.slotSize)).poolRequest core
      (z.shardItem core q w d .writeback c.slotSize).id ((poolCut ((out.length + 63) / 64) (c.slotAddr slot) out).map (·.1))
        (poolCut ((out.length + 63) / 64) (c.slotAddr slot) out) true := by
  have hcfg' : z.shardCfg d.shard = some c := by rw [hz]; exact hcfg
  have hok' : d.shardOpOk z = true := by rw [hz]; exact hok
  have hslot' : (z.shardSt d.shard).writebackSlot c = some slot := by rw [hz]; exact hslot
  have hfree' : (z.openItem core (z.shardItem core q w d .writeback c.slotSize)).poolBlocked (c.slotAddr slot) c.slotSize = false := by
    change z.poolBlocked _ _ = false
    rw [hz]; exact hfree
  have hclean' : Safety.Clean (z.openItem core (z.shardItem core q w d .writeback c.slotSize)) := by
    change Safety.Clean z
    rw [hz]; exact hclean
  have hpeek : (z.openItem core (z.shardItem core q w d .writeback c.slotSize)).peek c.outputHalf c.slotSize = s.peek c.outputHalf c.slotSize := by
    change z.peek _ _ = _
    rw [hz]; rfl
  have hread : (z.openItem core (z.shardItem core q w d .writeback c.slotSize)).readMem c.outputHalf c.slotSize =
      (z.openItem core (z.shardItem core q w d .writeback c.slotSize), .ok out) := by
    rw [State.readMem_of_clean hclean', hpeek, hout]
  unfold State.actWriteback
  rw [← hd]
  dsimp only
  rw [hcfg']
  dsimp only
  rw [hslot']
  dsimp only
  rw [if_pos (by simp [hok', hpool]), State.openShardXfer_eq]
  refine (if_neg (by rw [hfree']; decide)).trans ?_
  rw [hread]

end

/-- A transfer that ends Failed latches its cause and leaves the open items. -/
theorem State.endXfer_failed (z : State) (core ctr inc : Nat) {cause : Cause} (hc : cause ≠ 0) :
    ((z.endXfer core ctr inc cause).core core).xf.lastFail = cause ∧ (z.endXfer core ctr inc cause).HoldsCause core ctr ∧
      ((z.endXfer core ctr inc cause).core core).xf.open_ = (z.core core).xf.open_ ∧ Safety.OnlyCore core z (z.endXfer core ctr inc cause) ∧
      (z.endXfer core ctr inc cause).commit = z.commit := by
  rw [State.endXfer, if_neg hc, State.endItem, if_neg hc]
  refine ⟨?_, State.holdsCause_latch_self _ _ _ hc, ?_, OnlyCore.trans (OnlyCore.modCore core z _) (OnlyCore.modCore core _ _), rfl⟩
  · simp [State.latch, State.xferFailed, State.modXf, CoreSt.latch]
  · simp [State.latch, State.xferFailed, State.modXf, CoreSt.latch]

section
variable {s t u : State} {core q : Nat} {e : Entry} {bs : List Byte} {d : XDesc} (h : Safety.Ready s core q t e) (hk : e.kind = 4)
  (hread : t.readOwn core e.addr 32 1 = (u, .ok bs)) (hd : d = XDesc.ofNat (leNat bs))

include h hk hread hd in
/-- A STAGE whose slot takes its hold acts on its descriptor. -/
theorem exec_stage (ho : d.op = 0x02) (hhold : (s.shardSt d.shard).canHold (s.shardSt d.shard).slot = true) :
    exec (.stage core q) s = .next ((u.goNext core q).actStage core q (leNat bs)) := by
  refine congrArg _ ((State.issueXfer_read h hk hread hd ho _).trans ?_)
  rw [State.holdStageEntry, ← hd]
  exact if_pos hhold

include h hk hread hd in
theorem exec_writeback (ho : d.op = 0x03) : exec (.writeback core q) s = .next ((u.goNext core q).actWriteback core q (leNat bs)) :=
  congrArg _ (State.issueXfer_read h hk hread hd ho _)

include h hread

theorem OnlyCore.issued : Safety.OnlyCore core s (u.goNext core q) :=
  OnlyCore.trans (OnlyCore.ready h) (OnlyCore.trans (OnlyCore.readOwn hread) (OnlyCore.goNext core q u))

end

/-- Every open item is older than the one that an entry opens. -/
theorem shardItem_id_ne {u : State} {core : Nat} (hids : ∀ x ∈ (u.core core).xf.open_, x.id < (u.core core).xf.nextId) (q w : Nat) (d : XDesc)
    (kind : XferKind) (bytes : Nat) :
    ∀ y ∈ ((u.goNext core q).core core).xf.open_, y.id ≠ ((u.goNext core q).shardItem core q w d kind bytes).id := by
  rw [State.shardItem, State.goNext_xf]
  exact fun y hy => Nat.ne_of_lt (hids y hy)

/-- Settles O22: each entry by the item that it opens and the requests of that item, a refused one by the latch of its cause. -/
theorem stageAndWriteback : Obligations.StageAndWriteback := by
  refine ⟨?_, ?_, ?_⟩
  · intro s t u core q e bs d c h hk hread hd ho hcfg hpool hok hst hhas hhold hfree hids
    have hz := State.onlyCores_issued (q := q) h hread
    have hact := State.actStage_reads (core := core) (q := q) hz hd hcfg hpool hok hst hhas hfree
    have hx : ((((u.goNext core q).openItem core ((u.goNext core q).shardItem core q (leNat bs) d .stage c.slotSize)).addHold d.shard
        (s.shardSt d.shard).slot holdStage).core core).xf.open_ = _ := State.openItem_open _ core _
    refine ⟨_, ((u.goNext core q).shardItem core q (leNat bs) d .stage c.slotSize).request
      (poolLines (c.slotAddr (s.shardSt d.shard).slot) c.slotSize) [] false u.tiers.poolTag u.now, exec_stage h hk hread hd ho hhold, ?_, ?_⟩
    · rw [hact, State.poolRequest_open _ _ _ _ _ _ hx (shardItem_id_ne hids _ _ _ _ _), State.goNext_xf]
      rfl
    · rw [hact]
      refine ⟨rfl, rfl, rfl, rfl, rfl, ?_, ?_, ?_⟩
      · refine (congrArg ShardSt.holds (State.shardSt_modShard_self _ _ _)).trans ?_
        change ((u.goNext core q).shardSt d.shard).holds ++ _ = _
        rw [hz]; rfl
      · rw [State.poolRequest_counters]
        exact (State.openItem_counters _ core _).trans (u.goNext_counters core q)
      · exact OnlyCore.trans (OnlyCore.issued h hread) (OnlyCore.trans (OnlyCore.openItem _ core _)
          (OnlyCore.poolRequest (State.addHold _ _ _ _) core _ _ _ _))
  · intro s t u core q e bs d h hk hread hd ho hcfg hhold
    have hz := State.onlyCores_issued (q := q) h hread
    obtain ⟨hfail, hlatched, hopen, honly, hcommit⟩ := (u.goNext core q).endXfer_failed core d.counter d.increment (cause := Cause.planReject) (by decide)
    refine ⟨_, exec_stage h hk hread hd ho hhold, ?_⟩
    rw [State.actStage_noShard hz hd hcfg]
    exact ⟨hfail, hlatched, by rw [hopen, State.goNext_xf], by rw [hcommit, hz], OnlyCore.trans (OnlyCore.issued h hread) honly⟩
  · intro s t u core q slot e bs out d c h hk hread hd ho hcfg hpool hok hslot hfree hids hw hl hch hout
    have hz := State.onlyCores_issued (q := q) h hread
    have hclean : Safety.Clean s := by
      have hu : Safety.Clean u := ⟨hw, hl, hch⟩
      rwa [(State.onlyCores_ready h).trans (State.onlyCores_readOwn hread)] at hu
    have hact := State.actWriteback_writes (core := core) (q := q) hz hd hcfg hpool hok hslot hfree hclean hout
    have hx := State.openItem_open (u.goNext core q) core ((u.goNext core q).shardItem core q (leNat bs) d .writeback c.slotSize)
    refine ⟨_, ((u.goNext core q).shardItem core q (leNat bs) d .writeback c.slotSize).request
      ((poolCut ((out.length + 63) / 64) (c.slotAddr slot) out).map (·.1)) (poolCut ((out.length + 63) / 64) (c.slotAddr slot) out) true
        u.tiers.poolTag u.now, exec_writeback h hk hread hd ho, ?_, ?_⟩
    · rw [hact, State.poolRequest_open _ _ _ _ _ _ hx (shardItem_id_ne hids _ _ _ _ _), State.goNext_xf]
      rfl
    · rw [hact]
      refine ⟨rfl, rfl, rfl, rfl, rfl, rfl, ?_, ?_, ?_⟩
      · rw [State.poolRequest_counters]
        exact (State.openItem_counters _ core _).trans (u.goNext_counters core q)
      · change (u.goNext core q).commit = _
        rw [hz]
      · exact (OnlyCore.issued h hread).2

end Sys2Proof.Machine
end

section
/-! PROOFS. What messages, sources and records leave (O40): the messages that a module has sent and the sources that it has open while
packets leave its ports, and the job's state while its records are written. -/

namespace Sys2Proof.Machine

open Sys2Proof

/-! ## Packets that leave by a port (R410 to R418) -/

/-- What no packet that leaves changes: the messages sent, the HALT numbers seen, and the open sources but for when each sent last. -/
def Torus.standing (t : Torus) : List (Nat × Message) × List (Nat × Nat) × List Source :=
  (t.sentMessages, t.haltSeq, t.sources.map (fun y => { y with lastSent := 0 }))

theorem Torus.modPort_standing (t : Torus) (p : Nat) (f : Port → Port) : (t.modPort p f).standing = t.standing := rfl

theorem Torus.sendIdle_standing (t : Torus) (p : Nat) : (t.sendIdle p).standing = t.standing := rfl

theorem Torus.sendPacket_standing (t : Torus) (p : Nat) (k : Packet) : (t.sendPacket p k).standing = t.standing := by
  refine (foldl_keeps Torus.standing _ ?_ _ _).trans rfl
  exact fun _ _ => rfl

theorem Torus.launch_standing (t : Torus) (c : TxCtx) (port : Nat) (k : Packet) : (t.launch c port k).standing = t.standing := by
  rw [← t.sendPacket_standing port k]
  unfold Torus.launch Torus.standing; dsimp only; split
  · rw [List.map_map]
    refine congrArg (fun ys => (_, _, ys)) (List.map_congr_left fun y _ => ?_)
    simp only [Function.comp_apply]
    split <;> rfl
  · rfl

theorem Torus.drain_standing (c : TxCtx) (port fuel : Nat) (t : Torus) : (Torus.drain c port fuel t).standing = t.standing := by
  induction fuel generalizing t with
  | zero => rfl
  | succ fuel ih =>
    rw [Torus.drain]; split
    · rfl
    · split
      · rfl
      · exact (ih _).trans (Torus.launch_standing _ _ _ _)

theorem Torus.run_standing (t : Torus) (c : TxCtx) (port : Nat) : (t.run c port).standing = t.standing := by
  have hdrain := Torus.drain_standing c port ((t.port port).waiting.length + 1) t
  unfold Torus.run
  generalize Torus.drain _ _ _ _ = u at hdrain ⊢
  dsimp only; split
  · exact (u.sendIdle_standing port).trans hdrain
  · exact hdrain

theorem Torus.tx_standing (t : Torus) (c : TxCtx) (port : Nat) (k : Packet) : (t.tx c port k).standing = t.standing := by
  unfold Torus.tx; split
  · rfl
  · exact (Torus.run_standing _ _ _).trans (t.modPort_standing _ _)

theorem State.sends_forward (s : State) (arrived : Option Nat) (p : Packet) : s.Sends (s.forward arrived p) := by
  unfold State.forward; split <;> rfl

theorem State.forward_standing (s : State) (arrived : Option Nat) (p : Packet) : (s.forward arrived p).torus.standing = s.torus.standing := by
  unfold State.forward; split
  · rfl
  · exact Torus.tx_standing _ _ _ _

/-! ## Messages of a site (R431) -/

theorem State.sendMsg_standing (s : State) (p : Nat) (m : Message) :
    (s.sendMsg p m).torus.standing = (s.torus.sentMessages ++ [(p, m)], s.torus.standing.2) := by
  unfold State.sendMsg; dsimp only; split
  · rfl
  · exact Torus.tx_standing _ _ _ _

@[simp] theorem State.sendMsg_sentMessages (s : State) (p : Nat) (m : Message) :
    (s.sendMsg p m).torus.sentMessages = s.torus.sentMessages ++ [(p, m)] := congrArg Prod.fst (s.sendMsg_standing p m)

theorem State.sends_flood (s : State) (but : Option Nat) (m : Message) : s.Sends (s.flood but m) :=
  State.sends_each (fun s p => s.sends_sendMsg p m) _ s

/-- A message to a list of ports. -/
theorem State.each_sendMsg_standing (m : Message) (ps : List Nat) (s : State) :
    (s.each ps (fun s p => s.sendMsg p m)).torus.standing = (s.torus.sentMessages ++ ps.map (fun p => (p, m)), s.torus.standing.2) := by
  induction ps generalizing s with
  | nil => rw [List.map_nil, List.append_nil]; rfl
  | cons p ps ih =>
    refine (ih (s.sendMsg p m)).trans ?_
    rw [s.sendMsg_standing p m, s.sendMsg_sentMessages p m, List.append_assoc, List.map_cons, List.singleton_append]

theorem State.flood_standing (s : State) (port : Nat) (m : Message) :
    (s.flood (some port) m).torus.standing =
      (s.torus.sentMessages ++ (s.upPorts.filter (fun p => p != port)).map (fun p => (p, m)), s.torus.standing.2) := by
  have hports : (fun p => some p != some port) = (fun p : Nat => p != port) := by
    funext p
    rw [Bool.eq_iff_iff, bne_iff_ne, bne_iff_ne, Ne, Option.some_inj]
  rw [State.flood, hports, State.each_sendMsg_standing]

/-! ## A source for bytes that the module serves (R424, R515) -/

/-- The packets of a transfer carry its bytes. -/
theorem cutPackets_payload (p : Packet) (fuel a : Nat) (bs : List Byte) (h : bs.length ≤ 4096 * fuel) :
    ((cutPackets p fuel a bs).map (·.payload)).flatten = bs := by
  induction fuel generalizing a bs with
  | zero => rw [List.length_eq_zero_iff.1 (Nat.le_zero.1 h)]; rfl
  | succ fuel ih =>
    rw [cutPackets]; split
    · next he => rw [List.isEmpty_iff.1 he]; rfl
    · have hrest : (bs.drop (min 4096 bs.length)).length ≤ 4096 * fuel := by
        rw [List.length_drop]; omega
      rw [List.map_cons, List.flatten_cons, ih _ _ hrest, List.take_append_drop]

theorem writePackets_payload {p : Packet} (hp : p.payload = []) (a : Nat) (bs : List Byte) :
    ((writePackets p [(a, bs)]).map (·.payload)).flatten = bs := by
  have hcut (p : Packet) := cutPackets_payload p (bs.length / 4096 + 1) a bs (by omega)
  simp only [writePackets, List.map_cons, List.map_nil, List.sum_cons, List.sum_nil, List.flatMap_cons, List.flatMap_nil, List.append_nil]
  split
  · next he =>
    have hbs := hcut { p with kind := 1, total := bs.length + 0 }
    rw [List.isEmpty_iff.1 he] at hbs
    rw [← hbs]
    simp [hp]
  · exact hcut _

/-- The source that carries bytes served to a node. -/
def State.servedSource (s : State) (node : Nat) (bytes : List Byte) : Source :=
  { tag := s.torus.nextTag % 2 ^ 24, core := 1024, item := 0, dst := node, tc := 3,
    packets := writePackets { tc := 3, dst := node, tag := s.torus.nextTag % 2 ^ 24 } [(Config.copyDest s.free, bytes)] }

/-- The state with a source open. -/
def State.addSource (s : State) (y : Source) : State :=
  s.modTorus (fun t => { t with nextTag := s.torus.nextTag % 2 ^ 24 + 1, sources := t.sources ++ [y] })

section
variable {s : State} {node : Nat}

theorem State.openSource_known (h : (s.torus.paths.at node).known = true) (bytes : List Byte) :
    s.openSource 1024 0 { tc := 3, dst := node } [(Config.copyDest s.free, bytes)] =
      (s.addSource (s.servedSource node bytes), s.torus.nextTag % 2 ^ 24) := by
  have hknow : s.knowPath node = s := by rw [State.knowPath, if_pos h]
  unfold State.openSource
  dsimp only
  rw [hknow]
  rfl

/-- The source of a tag that no other has is the one found. -/
theorem find?_addSource {y : Source} {ys : List Source} (h : ∀ z ∈ ys, z.tag ≠ y.tag) :
    (ys ++ [y]).find? (fun z => z.tag == y.tag) = some y := by
  rw [List.find?_append, List.find?_eq_none.2 (fun z hz => by simpa using h z hz), Option.none_or]
  simp

/-- A source is sent: it and the others stand as they were but for their marks. -/
theorem State.sendSource_spec {y : Source} (hfind : s.torus.sources.find? (fun z => z.tag == y.tag) = some y)
    (hpath : (s.torus.paths.at y.dst).state ≠ 3) :
    s.Sends (s.sendSource y.tag) ∧ ∃ z ∈ (s.sendSource y.tag).torus.sources,
      z.dst = y.dst ∧ z.tc = y.tc ∧ z.core = y.core ∧ z.packets = y.packets := by
  have hy := List.mem_of_find?_eq_some hfind
  unfold State.sendSource
  rw [hfind]
  dsimp only
  rw [if_neg hpath]
  split
  · exact ⟨s.sends_refl, y, hy, rfl, rfl, rfl, rfl⟩
  · generalize hm : s.modTorus _ = m
    have hsends : s.Sends m := by rw [← hm]; rfl
    have hkept : (m.each y.packets (fun s p => s.forward none (s.stamp p))).torus.standing = m.torus.standing :=
      foldl_keeps (fun u : State => u.torus.standing) _ (fun u p => u.forward_standing none (u.stamp p)) _ _
    refine ⟨hsends.trans (State.sends_each (fun u p => u.sends_forward none (u.stamp p)) _ m), ?_⟩
    have hmarked : { y with sent := true, epoch := (s.torus.paths.at y.dst).epoch, lastSent := s.now } ∈ m.torus.sources := by
      rw [← hm]
      exact List.mem_map.2 ⟨y, hy, if_pos rfl⟩
    have hstands := List.mem_map_of_mem (f := fun z : Source => { z with lastSent := 0 }) hmarked
    rw [← show _ = m.torus.sources.map _ from congrArg (fun x => x.2.2) hkept] at hstands
    obtain ⟨z, hz, heq⟩ := List.mem_map.1 hstands
    exact ⟨z, hz, (congrArg Source.dst heq :), (congrArg Source.tc heq :), (congrArg Source.core heq :), (congrArg Source.packets heq :)⟩

/-- Bytes served to a node of a known path leave as one source, and nothing but the torus and the free counter changes. -/
theorem State.serve_spec (hknown : (s.torus.paths.at node).known = true) (hpath : (s.torus.paths.at node).state ≠ 3)
    (hfresh : ∀ y ∈ s.torus.sources, y.tag ≠ s.torus.nextTag % 2 ^ 24) (bytes : List Byte) :
    (∃ y ∈ (s.serve node bytes).torus.sources, y.dst = node ∧ y.tc = 3 ∧ y.core = 1024 ∧ (y.packets.map (·.payload)).flatten = bytes) ∧
      (s.serve node bytes).cores = s.cores ∧ (s.serve node bytes).mem = s.mem := by
  have hserve : s.serve node bytes = ((s.addSource (s.servedSource node bytes)).sendSource (s.servedSource node bytes).tag).draw := by
    rw [State.serve, State.openSource_known hknown]
    rfl
  obtain ⟨hsends, y, hy, hdst, htc, hcore, hpackets⟩ := State.sendSource_spec (s := s.addSource (s.servedSource node bytes))
    (find?_addSource (y := s.servedSource node bytes) hfresh) hpath
  have hsame : s.Sends (s.addSource (s.servedSource node bytes)) := rfl
  rw [hserve]
  refine ⟨⟨y, hy, hdst, htc, hcore, ?_⟩, ?_, ?_⟩
  · rw [hpackets]
    exact writePackets_payload rfl _ _
  · rw [State.draw_cores, hsame.trans hsends]
  · rw [State.draw_mem, hsame.trans hsends]

end

/-! ## The job's state while its records are written (R629 to R645) -/

/-- The job's state, the start that waits and the last cause. -/
def HostIf.jobView (h : HostIf) : JobState × Option Nat × Cause := (h.job, h.starting, h.lastCause)

section
variable (s : State)

theorem State.msix_jobView (v : Nat) : (s.msix v).host.jobView = s.host.jobView := by
  obtain ⟨_, _, _, h⟩ := s.msix_host v
  rw [h]; rfl

theorem State.issueRec_jobView (ring tag : Nat) : (s.issueRec ring tag).host.jobView = s.host.jobView := by
  unfold State.issueRec; dsimp only; split
  · rw [State.hsWrite_host]; rfl
  · rfl

theorem State.closeRec_jobView (ring index st : Nat) (cause : Cause) (payload : List Byte) :
    (s.closeRec ring index st cause payload).host.jobView = s.host.jobView := by
  unfold State.closeRec; dsimp only; split
  · rfl
  · rw [State.msix_jobView, State.hsWrite_host]; rfl

theorem State.finishRec_jobView (ring tag : Nat) (cause : Cause) (payload : List Byte) :
    (s.finishRec ring tag cause payload).host.jobView = s.host.jobView := by
  unfold State.finishRec; split
  · exact s.closeRec_jobView _ _ _ _ _
  · rfl

theorem State.jobRecord_jobView (ev : Nat) (cause : Cause) : (s.jobRecord ev cause).host.jobView = s.host.jobView :=
  (State.finishRec_jobView _ _ _ _ _).trans (s.issueRec_jobView _ _)

theorem State.jobStatus_jobView : s.jobStatus.host.jobView = s.host.jobView := by
  unfold State.jobStatus
  rw [State.hsWrite_host]; rfl

theorem State.failRecs_jobView (cause : Cause) : (s.failRecs cause).host.jobView = s.host.jobView :=
  foldl_keeps (fun u : State => u.host.jobView) _ (fun u _ => u.closeRec_jobView _ _ _ _ _) _ _

/-- The job is in the state that it is put in. -/
theorem State.setJob_job (j : JobState) (cause : Cause) : (s.setJob j cause).host.job = j := by
  unfold State.setJob; split
  · assumption
  · dsimp only
    generalize hs : ({ s with host := _ } : State) = s₁
    generalize hf : State.when s₁ _ _ = s₂
    generalize hd : State.when s₂ _ _ = s₃
    have h₁ : s₁.host.job = j := by rw [← hs]
    have h₂ : s₂.host.jobView = s₁.host.jobView := by
      rw [← hf, State.when]
      split
      · exact s₁.failRecs_jobView _
      · rfl
    have h₃ : s₃.host.jobView = s₂.host.jobView := by
      rw [← hd, State.when]
      split <;> rfl
    have hlast : ((s₃.stateRecord cause).jobStatus.msix 3).host.jobView = s₃.host.jobView :=
      (State.msix_jobView _ _).trans ((State.jobStatus_jobView _).trans rfl)
    exact (congrArg Prod.fst (hlast.trans (h₃.trans h₂))).trans h₁

end

end Sys2Proof.Machine
end

section
/-! PROOFS. Partners, served copies, halts and wakes by message (O40). -/

namespace Sys2Proof.Machine

open Sys2Proof

/-! ## The start of a job leaves the gate unit's step and the partner (R334, R577, R638, R644) -/

/-- The gate unit and the checkpoint unit. -/
def State.gateCk (s : State) : GateUnit × CheckpointUnit := (s.gate, s.ck)

theorem State.Reports.gateCk {s t : State} (h : s.Reports t) : t.gateCk = s.gateCk := by rw [h]; rfl
theorem State.Reports.ck {s t : State} (h : s.Reports t) : t.ck = s.ck := by rw [h]
theorem State.gateCk_of_aside {s t : State} (h : t.aside = s.aside) : t.gateCk = s.gateCk := (congrArg State.gateCk h :)
theorem State.modCk_gateCk (s : State) (f : CheckpointUnit → CheckpointUnit) : (s.modCk f).gateCk = (s.gateCk.1, f s.gateCk.2) := rfl
theorem State.modPower_gateCk (s : State) (f : Power → Power) : (s.modPower f).gateCk = s.gateCk := rfl
theorem State.readMem_gateCk (s : State) (a n : Nat) : (s.readMem a n).1.gateCk = s.gateCk := State.gateCk_of_aside (s.readMem_aside a n)
theorem State.writeMem_gateCk (s : State) (a : Nat) (bs : List Byte) : (s.writeMem a bs).1.gateCk = s.gateCk :=
  State.gateCk_of_aside (s.writeMem_aside a bs)

section
variable (s : State)

theorem State.readCommit_gateCk (d : ShardCfg) : (s.readCommit d).1.gateCk = s.gateCk := by
  have hget (u : State) (i : Nat) : (match u.readMem (d.commitBase + 64 * i) 64 with
      | (v, .ok bs) => (v, CommitRec.parse d.tid bs)
      | (v, .error _) => (v, none) : State × Option CommitRec).1.gateCk = u.gateCk := by
    have hread := u.readMem_gateCk (d.commitBase + 64 * i) 64
    split <;> (rename_i heq; rwa [heq] at hread)
  exact (hget _ 1).trans (hget s 0)

theorem State.loadShard_gateCk (n : Nat) : (s.loadShard n).gateCk = s.gateCk := by
  unfold State.loadShard; split
  · rfl
  · next d _ =>
    have hread := s.readCommit_gateCk d
    split <;> (rename_i heq; rw [heq] at hread; exact hread)

theorem State.startCommit_gateCk (n : Nat) : (s.startCommit n).gateCk = s.gateCk := by
  refine (foldl_keeps State.gateCk _ (fun u i => ?_) _ _).trans rfl
  exact (State.loadShard_gateCk _ i).trans rfl

theorem State.firstAnchor_gateCk (n : Nat) : (s.firstAnchor n).gateCk = s.gateCk := by
  have hreport (u : State) (e : Cause) (p : Bool) : (u.when p (fun s => s.freynEvent e n 0)).gateCk = u.gateCk := by
    unfold State.when; split <;> rfl
  unfold State.firstAnchor; split
  · rfl
  · next c _ =>
    have hzeroed := s.writeMem_gateCk c.omBase (zeros (omSize c))
    dsimp only
    generalize s.writeMem c.omBase (zeros (omSize c)) = w at hzeroed ⊢
    have hsaid := hreport w.1 w.2 (decide (w.2 ≠ 0))
    generalize State.when w.1 _ _ = u at hsaid ⊢
    split
    · have hread := u.readMem_gateCk (c.heldBase (u.shardSt n).staged (u.shardSt n).slot) (2 * c.count)
      split
      · next heq => rw [heq] at hread; exact (Eq.trans (by rfl) hread).trans (hsaid.trans hzeroed)
      · next heq =>
        rw [heq] at hread
        exact (hreport _ _ _).trans ((State.writeMem_gateCk _ _ _).trans (hread.trans (hsaid.trans hzeroed)))
    · exact hsaid.trans hzeroed

theorem State.startSites_gateCk : s.startSites.gateCk = s.gateCk := by
  refine foldl_keeps State.gateCk _ ?_ _ _
  exact fun _ _ => rfl

theorem State.firstRound_gateCk : s.firstRound.gateCk = s.gateCk := by
  unfold State.firstRound; split
  · rfl
  · refine (State.startSites_gateCk _).trans ?_
    refine (foldl_keeps State.gateCk _ State.firstAnchor_gateCk _ _).trans ?_
    exact (State.writeMem_gateCk _ _ _).trans (State.writeMem_gateCk _ _ _)

theorem State.reports_startRing (mbBase : Nat) (e : RingCfg × Nat) : s.Reports (State.startRing mbBase s e) := by
  have hhost (u : State) (f : HostIf → HostIf) : u.Reports (u.modHost f) := rfl
  unfold State.startRing State.intakeStatus
  exact State.reports_trans (hhost s _) (State.reports_trans (hhost _ _) (State.reports_hsWrite _ _ _))

theorem State.reports_issuePlan (p : PlanRingCfg) (n : Nat) : s.Reports (State.issuePlan p n s) := by
  induction n generalizing s with
  | zero => rfl
  | succ n ih =>
    rw [State.issuePlan]; split
    · exact State.reports_trans (State.reports_trans (s.reports_issueRec _ _) (State.reports_setRing _ _ _)) (ih _)
    · rfl

theorem State.startPlan_gateCk (mbBase : Nat) (p : PlanRingCfg) : (State.startPlan mbBase s p).gateCk = s.gateCk :=
  ((State.reports_issuePlan _ p p.freeCount).gateCk).trans rfl

theorem State.startCores_gateCk (cs : List CoreCfg) : (s.each cs (State.startCore 0)).gateCk = s.gateCk := by
  refine foldl_keeps State.gateCk _ ?_ _ _
  exact fun _ _ => rfl

theorem State.planRings_gateCk (ps : List PlanRingCfg) : (s.each ps (fun s p => (s.freePlan p).startPlan 0 p)).gateCk = s.gateCk := by
  refine foldl_keeps State.gateCk _ ?_ _ _
  exact fun u p => ((u.freePlan p).startPlan_gateCk 0 p).trans rfl

theorem State.rings_gateCk (rs : List (RingCfg × Nat)) : (s.each rs (State.startRing 0)).gateCk = s.gateCk := by
  refine foldl_keeps State.gateCk _ ?_ _ _
  exact fun u e => (u.reports_startRing 0 e).gateCk

/-- The checkpoint unit at a job's first step. -/
def CheckpointUnit.begin (u : CheckpointUnit) : CheckpointUnit :=
  { u with dataCursor := 0, grain := 0, targets := u.targets.map (fun t => (t.1, { t.2 with due := none, writes := [] })), cutStep := none }

/-- The job begins at step 0 with its checkpoint unit anew. -/
theorem State.beginJob_gateCk : s.beginJob.gateCk = ((s.startGate 0).gate, s.ck.begin) := by
  unfold State.beginJob
  dsimp only
  refine (State.reports_setJob _ _ _).gateCk.trans ?_
  refine (State.reports_jobRecord _ _ _).gateCk.trans ?_
  refine (State.modPower_gateCk _ _).trans ?_
  refine (State.planRings_gateCk _ _).trans ?_
  refine (State.rings_gateCk _ _).trans ?_
  refine (State.firstRound_gateCk _).trans ?_
  rw [State.modCk_gateCk, State.startCores_gateCk, State.startCommit_gateCk]
  rfl

theorem State.beginJob_ck : s.beginJob.ck = s.ck.begin := by
  have hunits := s.beginJob_gateCk
  rw [State.gateCk, Prod.mk.injEq] at hunits
  exact hunits.2

theorem State.beginJob_step : s.beginJob.gate.step = 0 := by
  have hunits := s.beginJob_gateCk
  rw [State.gateCk, Prod.mk.injEq] at hunits
  rw [hunits.1]; rfl

theorem State.beginJob_job : s.beginJob.host.job = .running := by
  unfold State.beginJob; dsimp only
  generalize State.jobRecord _ _ _ = u
  exact u.setJob_job _ _

/-! ## The outcome of a start or a restore (R515, R630) -/

/-- The checkpoint unit after a restore that failed. -/
def CheckpointUnit.fail (u : CheckpointUnit) (cause : Cause) : CheckpointUnit :=
  { u with restoring := 0, claiming := none, pieces := [], lastCause := cause, noMajority := false }

theorem State.restoreFail_ck (cause : Cause) : (s.restoreFail cause).ck = s.ck.fail cause :=
  (State.reports_setJob _ _ _).ck.trans ((State.reports_jobRecord _ _ _).ck.trans rfl)

theorem State.restoreFail_job (cause : Cause) : (s.restoreFail cause).host.job = .halted := State.setJob_job _ _ _

/-- The checks of a restore keep the partner, and no claim is open after them where none was. -/
theorem State.restoreChecks_partner (h : s.ck.claiming = none) : s.restoreChecks.ck.partner = s.ck.partner ∧ s.restoreChecks.ck.claiming = none := by
  have hfail (u : State) (cause : Cause) (hu : u.ck.partner = s.ck.partner) :
      (u.restoreFail cause).ck.partner = s.ck.partner ∧ (u.restoreFail cause).ck.claiming = none := by
    rw [State.restoreFail_ck]
    exact ⟨hu, rfl⟩
  unfold State.restoreChecks; split
  · exact hfail s _ rfl
  · dsimp only; split
    · exact hfail s _ rfl
    · split
      · exact ⟨rfl, h⟩
      · split
        · exact hfail _ _ rfl
        · exact ⟨rfl, h⟩

/-- Selection ends for a restore, for a start or for neither. -/
theorem State.partnerDecided_restoring (h : s.ck.restoring = 5) (cause : Cause) :
    s.partnerDecided cause = if cause = 0 then s.restoreChecks else s.restoreFail cause := if_pos h
theorem State.partnerDecided_starting (h : s.ck.restoring ≠ 5) (hs : s.host.starting ≠ none) : s.partnerDecided 0 = s.beginJob := by
  rw [State.partnerDecided, if_neg h, if_pos (Option.isSome_iff_ne_none.2 hs), if_pos rfl]
theorem State.partnerDecided_idle (h : s.ck.restoring ≠ 5) (hs : s.host.starting = none) (cause : Cause) : s.partnerDecided cause = s := by
  rw [State.partnerDecided, if_neg h, hs]; rfl

/-- A partner decided on stays, with no claim open. -/
theorem State.partnerDecided_partner (h : s.ck.claiming = none) :
    (s.partnerDecided 0).ck.partner = s.ck.partner ∧ (s.partnerDecided 0).ck.claiming = none := by
  by_cases hr : s.ck.restoring = 5
  · rw [s.partnerDecided_restoring hr, if_pos rfl]
    exact s.restoreChecks_partner h
  · by_cases hs : s.host.starting = none
    · rw [s.partnerDecided_idle hr hs]
      exact ⟨rfl, h⟩
    · rw [s.partnerDecided_starting hr hs, s.beginJob_ck]
      exact ⟨rfl, h⟩

theorem exec_linkWaitExpiry {t : Nat} (h : s.host.starting = some t) (hl : s.linksReady = false) (ht : t + s.img.linkWait < s.now) :
    exec .linkWaitExpiry s = .next (s.startFailed Cause.linkDown) := by
  change execLinkWaitExpiry s = _
  simp [execLinkWaitExpiry, h, hl, ht]

theorem State.startFailed_spec (cause : Cause) : (s.startFailed cause).host.jobView = (s.host.job, none, cause) ∧
    (s.startFailed cause).cores = s.cores :=
  ⟨(State.jobRecord_jobView _ 1 cause).trans rfl, (State.reports_jobRecord _ 1 cause).cores.trans rfl⟩

end

/-! ## Candidates for a partner (R509, R510) -/

section
variable {s : State}

/-- The link at a candidate port is UP and its neighbour's feed differs. -/
def State.claimable (s : State) (p : Nat) : Bool := (s.port p).state == 6 && feedsDiffer (s.port p).nbrFeed s.power.feed

/-- The first claimable candidate from an index on. -/
theorem State.claimable_find {i j p : Nat} (hij : i ≤ j) (hp : s.img.partnerPorts[j]? = some p) (hok : s.claimable p = true)
    (hno : ∀ k q, i ≤ k → k < j → s.img.partnerPorts[k]? = some q → s.claimable q = false) :
    s.img.partnerPorts.zipIdx.find? (fun e => i ≤ e.2 && s.claimable e.1) = some (p, j) := by
  obtain ⟨hj, hpj⟩ := List.getElem?_eq_some_iff.1 hp
  rw [List.find?_eq_some_iff_getElem]
  refine ⟨by simp [hij, hok], j, by simpa using hj, by simp [hpj], fun k hk => ?_⟩
  have hkl : k < s.img.partnerPorts.length := Nat.lt_trans hk hj
  rw [List.getElem_zipIdx, Nat.zero_add]
  by_cases hik : i ≤ k
  · simp [hno k _ hik hk (List.getElem?_eq_getElem hkl)]
  · simp [hik]

theorem State.claimable_none {i : Nat} (h : s.img.partnerPorts.length ≤ i) :
    s.img.partnerPorts.zipIdx.find? (fun e => i ≤ e.2 && s.claimable e.1) = none := by
  refine List.find?_eq_none.2 fun e he => ?_
  have hlt := List.snd_lt_of_mem_zipIdx he
  simp [Nat.not_le.2 (Nat.lt_of_lt_of_le hlt h)]

/-- A candidate is claimed. -/
def State.claimPort (s : State) (p j : Nat) : State :=
  (s.modCk (fun u => { u with candidate := j, claiming := some p })).sendMsg p (.claim s.img.node)

theorem State.claimFrom_next {i j p : Nat} (h : s.img.partnerPorts.zipIdx.find? (fun e => i ≤ e.2 && s.claimable e.1) = some (p, j)) :
    s.claimFrom i = (s.claimPort p j, none) := by
  simp only [State.claimable] at h
  unfold State.claimFrom; dsimp only
  rw [h]
  rfl

theorem State.claimFrom_end {i : Nat} (h : s.img.partnerPorts.zipIdx.find? (fun e => i ≤ e.2 && s.claimable e.1) = none)
    (hf : s.img.partnerForce = false) : s.claimFrom i = (s.modCk (fun u => { u with claiming := none }), some Cause.partnerSameFeed) := by
  have hforce : (s.modCk (fun u => { u with claiming := none })).forcePartner = none := if_neg (by
    change ¬ s.img.partnerForce = true
    rw [hf]; decide)
  simp only [State.claimable] at h
  unfold State.claimFrom; dsimp only
  rw [h]
  dsimp only
  rw [hforce]

theorem exec_partnerClaim {port node : Nat} (h : (s.port port).state = 6) :
    exec (.partnerClaim port node) s = .next (if s.ck.claimedBy = none
      then (s.modCk (fun u => { u with claimedBy := some port })).sendMsg port (.claimAccepted s.img.node)
      else s.sendMsg port (.claimRefused node)) := by
  change execPartnerClaim port node s = _
  simp [execPartnerClaim, h]

variable {port : Nat} (hclaim : s.ck.claiming = some port)
include hclaim

theorem exec_partnerRefusal_next {j p : Nat}
    (h : s.img.partnerPorts.zipIdx.find? (fun e => s.ck.candidate + 1 ≤ e.2 && s.claimable e.1) = some (p, j)) :
    exec (.partnerRefusal port) s = .next (s.claimPort p j) := by
  change execPartnerRefusal port s = _
  unfold execPartnerRefusal
  rw [if_neg (not_not.2 hclaim), State.claimFrom_next h]

/-- With no candidate left and PARTNER_FORCE clear, a restore fails. -/
theorem exec_partnerRefusal_fails (h : s.img.partnerPorts.length ≤ s.ck.candidate + 1) (hf : s.img.partnerForce = false)
    (hr : s.ck.restoring = 5) :
    exec (.partnerRefusal port) s = .next ((s.modCk (fun u => { u with claiming := none })).restoreFail Cause.partnerSameFeed) := by
  change execPartnerRefusal port s = _
  unfold execPartnerRefusal
  rw [if_neg (not_not.2 hclaim), State.claimFrom_end (State.claimable_none h) hf]
  exact congrArg Host.Outcome.next ((State.partnerDecided_restoring (s.modCk (fun u => { u with claiming := none })) hr _).trans (if_neg (by decide)))

/-- The partner is the neighbour at a port. -/
def State.takePartner (s : State) (port : Nat) : State := s.modCk (fun u => { u with claiming := none, partner := some port, sameFeed := false })

theorem exec_partnerAcceptance : exec (.partnerAcceptance port) s = .next ((s.takePartner port).partnerDecided 0) := by
  change execPartnerAcceptance port s = _
  unfold execPartnerAcceptance
  rw [if_neg (not_not.2 hclaim)]
  rfl

end

/-! ## HALT messages (R522) -/

section
variable (s : State)

/-- The policy on a halt stops issuing and halts or restores the job; no core and nothing of the torus changes. -/
theorem State.haltPolicy_spec (cause : Cause) : (s.haltPolicy cause).torus = s.torus ∧ (s.haltPolicy cause).cores = s.cores ∧
    (s.haltPolicy cause).power.stopIssue = true ∧ ((s.haltPolicy cause).host.job = .halted ∨ (s.haltPolicy cause).host.job = .restoring) := by
  have hkeeps (t : State) (j : JobState) : (t.setJob j cause).torus = t.torus ∧ (t.setJob j cause).cores = t.cores ∧
      (t.setJob j cause).power = t.power := by
    rw [t.reports_setJob j cause]
    exact ⟨rfl, rfl, rfl⟩
  unfold State.haltPolicy; dsimp only; split
  · obtain ⟨ht, hc, hp⟩ := hkeeps { s with power := { s.power with stopIssue := true },
                                           ck := { s.ck with restoring := 1, restoreAt := s.now, autoRestores := s.ck.autoRestores ++ [s.now] } } .restoring
    exact ⟨ht, hc, congrArg Power.stopIssue hp, .inr (State.setJob_job _ _ _)⟩
  · obtain ⟨ht, hc, hp⟩ := hkeeps { s with power := { s.power with stopIssue := true } } .halted
    exact ⟨ht, hc, congrArg Power.stopIssue hp, .inl (State.setJob_job _ _ _)⟩

/-- A HALT is noted and flooded on. -/
def State.passHalt (s : State) (arrived node seq : Nat) : State :=
  (s.modTorus (fun t => { t with haltSeq := t.haltSeq.filter (fun e => e.1 != node) ++ [(node, seq)] })).flood (some arrived) (.halt node seq)

theorem State.sends_passHalt (arrived node seq : Nat) : s.Sends (s.passHalt arrived node seq) :=
  State.Sends.trans (t := s.modTorus _) rfl (State.sends_flood _ _ _)

theorem State.passHalt_torus (arrived node seq : Nat) : (node, seq) ∈ (s.passHalt arrived node seq).torus.haltSeq ∧
    (s.passHalt arrived node seq).torus.sentMessages =
      s.torus.sentMessages ++ (s.upPorts.filter (fun p => p != arrived)).map (fun p => (p, .halt node seq)) := by
  have hstands := (s.modTorus (fun t => { t with haltSeq := t.haltSeq.filter (fun e => e.1 != node) ++ [(node, seq)] })).flood_standing
    arrived (.halt node seq)
  have hseq : (s.passHalt arrived node seq).torus.haltSeq = s.torus.haltSeq.filter (fun e => e.1 != node) ++ [(node, seq)] :=
    congrArg (fun x => x.2.1) hstands
  refine ⟨?_, congrArg Prod.fst hstands⟩
  rw [hseq]
  exact List.mem_append_right _ (List.mem_singleton_self _)

variable {s} {arrived node seq : Nat}

theorem exec_haltMessage : exec (.haltMessage arrived node seq) s = .next
    (if (∃ e ∈ s.torus.haltSeq, e.1 = node ∧ seq ≤ e.2) ∨ node = s.img.node then s
     else if s.host.job = .running ∧ s.power.stopIssue = false
       then ((s.passHalt arrived node seq).haltPolicy (failCause (Config.remoteHalt s.free))).draw
       else s.passHalt arrived node seq) := by
  have hsends := s.sends_passHalt arrived node seq
  have hjob : (s.passHalt arrived node seq).host = s.host := by rw [hsends]
  have hpower : (s.passHalt arrived node seq).power = s.power := by rw [hsends]
  have hfree : (s.passHalt arrived node seq).free = s.free := by rw [hsends]
  change Host.Outcome.next (if (s.torus.haltSeq.any (fun e => e.1 == node && seq ≤ e.2)) || node = s.img.node then s
    else if (s.passHalt arrived node seq).host.job = .running && !(s.passHalt arrived node seq).power.stopIssue
      then ((s.passHalt arrived node seq).haltPolicy (failCause (Config.remoteHalt (s.passHalt arrived node seq).free))).draw
      else s.passHalt arrived node seq) = _
  rw [hjob, hpower, hfree]
  simp only [List.any_eq_true, Bool.or_eq_true, Bool.and_eq_true, beq_iff_eq, decide_eq_true_eq, Bool.not_eq_true']

end

/-! ## Exports of shards (R360, R520) -/

theorem exportOffs_length (a : Nat) (ns : List Nat) : (exportOffs a ns).length = ns.length := by
  induction ns generalizing a with
  | nil => rfl
  | cons n ns ih => simp [exportOffs, ih]

theorem exportHeader_length (d : ShardCfg) (flags step version count park : Nat) (digest : Word64) :
    (d.exportHeader flags step version count park digest).length = 256 := by
  have hfour (xs : List Nat) : ((List.range 4).flatMap (fun i => leBytes 4 (xs.getD i 0))).length = 16 := by
    simp [List.length_flatMap]
  unfold ShardCfg.exportHeader; dsimp only
  simp only [List.length_append, leBytes_length, zeros, List.length_replicate, hfour]

theorem fitBytes_whole {n : Nat} {bs : List Byte} (h : bs.length = n) : fitBytes n bs = bs := by
  rw [fitBytes, List.take_of_length_le (Nat.le_of_eq h), h, Nat.sub_self]
  exact List.append_nil bs

section
variable (s : State) (n : Nat) (c : ShardCfg)

/-- Each array of an exported shard begins at its first byte and is named by the header's FLAGS. -/
theorem State.exportParts_spec (flags : Nat) :
    ∀ p ∈ s.exportParts n c flags, p.span 0 = 0 ∧ (p.flag == 4 || bitOf flags p.flag) = true := by
  have hom : omSpan c 0 0 = 0 := by
    unfold omSpan; split
    · rfl
    · simp [pad64]
  have hopt (b : Bool) (p : ExportPart) (hb : b = true → p.span 0 = 0 ∧ (p.flag == 4 || bitOf flags p.flag) = true) :
      ∀ q ∈ (if b = true then [p] else []), q.span 0 = 0 ∧ (q.flag == 4 || bitOf flags q.flag) = true := by
    cases b with
    | false => exact fun q hq => absurd hq List.not_mem_nil
    | true => exact List.forall_mem_singleton.2 (hb rfl)
  unfold State.exportParts
  simp only [List.forall_mem_append]
  refine ⟨⟨⟨⟨fun p hp => ?_, hopt _ _ fun h => ⟨rfl, by simp [h]⟩⟩, hopt _ _ fun h => ⟨hom, by simp [h]⟩⟩,
    hopt _ _ fun h => ⟨rfl, by simp [h]⟩⟩, hopt _ _ fun h => ⟨rfl, by simp [h]⟩⟩
  obtain ⟨b, -, rfl⟩ := List.mem_map.1 hp
  exact ⟨rfl, rfl⟩

theorem State.readArrays_clean (h : Safety.Clean s) (a k : Nat) (ps : List ExportPart) :
    s.readArrays a k ps = (s, .ok (ps.map (fun p => s.peek (p.addr + p.span a) (p.span (a + k) - p.span a)))) := by
  induction ps with
  | nil => rfl
  | cons p ps ih => simp only [State.readArrays, State.readMem_of_clean h, ih, List.map_cons]

theorem State.ownDigest_clean (h : Safety.Clean s) : s.ownDigest n c = (s, .ok (c.digest (s.shardSt n).step (s.shardSt n).count
    (c.arrays (s.peek (c.heldBase (s.shardSt n).staged (s.shardSt n).slot) c.slotSize)))) := by
  unfold State.ownDigest
  simp only [State.readMem_of_clean h]

/-- The bytes of a whole exported shard: its header, then each array read. -/
theorem State.layExport_bytes (flags : Nat) (digest : Word64) {read : List (ExportPart × List Byte)}
    (h : ∀ r ∈ read, (r.1.flag == 4 || bitOf flags r.1.flag) = true) :
    (s.layExport n c flags digest 0 read).flatMap (fun p => fitBytes (up64 p.2.length) p.2) =
      c.exportHeader flags (s.shardSt n).step (s.shardSt n).version (s.shardSt n).count (s.shardSt n).park digest ++
        read.flatMap (fun r => fitBytes (up64 r.2.length) r.2) := by
  have hlen := exportHeader_length c flags (s.shardSt n).step (s.shardSt n).version (s.shardSt n).count (s.shardSt n).park digest
  have harrays (offs : List Nat) (ho : offs.length = read.length) :
      ((offs.zip read).map (fun (o, p) => (o + p.1.span 0, p.2))).flatMap (fun p => fitBytes (up64 p.2.length) p.2) =
        read.flatMap (fun r => fitBytes (up64 r.2.length) r.2) := by
    conv_rhs => rw [← List.map_snd_zip (l₁ := offs) (l₂ := read) (Nat.le_of_eq ho.symm)]
    rw [List.flatMap_map, List.flatMap_map]
  unfold State.layExport
  dsimp only
  rw [List.filter_eq_self.2 h, if_pos rfl, List.singleton_append, List.flatMap_cons, hlen, show up64 256 = 256 from rfl, fitBytes_whole hlen,
    harrays _ (by rw [exportOffs_length, List.length_map])]

/-- With no error in any store exportBytes is the header and the arrays that its FLAGS name. -/
theorem State.exportBytes_clean (h : Safety.Clean s) : s.exportBytes n c =
    (s, .ok (c.exportHeader (s.exportFlags n c true true) (s.shardSt n).step (s.shardSt n).version (s.shardSt n).count (s.shardSt n).park
        (c.digest (s.shardSt n).step (s.shardSt n).count (c.arrays (s.peek (c.heldBase (s.shardSt n).staged (s.shardSt n).slot) c.slotSize))) ++
      (s.exportParts n c (s.exportFlags n c true true)).flatMap (fun p => fitBytes (up64 (p.span c.count)) (s.peek p.addr (p.span c.count))))) := by
  have hspec := s.exportParts_spec n c (s.exportFlags n c true true)
  unfold State.exportBytes
  rw [State.ownDigest_clean s n c h]
  dsimp only
  rw [State.readArrays_clean s h]
  dsimp only
  rw [State.layExport_bytes]
  · refine congrArg (fun x => (s, Except.ok (_ ++ x))) ?_
    rw [← List.map_prod_left_eq_zip, List.flatMap_map]
    refine List.flatMap_congr fun p hp => ?_
    simp only [(hspec p hp).1, Nat.zero_add, Nat.add_zero, Nat.sub_zero, State.peek_length]
  · intro r hr
    exact (hspec r.1 (List.of_mem_zip hr).1).2

theorem State.readArrays_uncounted (a k : Nat) (ps : List ExportPart) : (s.readArrays a k ps).1.uncounted = s.uncounted := by
  induction ps generalizing s with
  | nil => rfl
  | cons p ps ih =>
    have hread := s.readMem_uncounted (p.addr + p.span a) (p.span (a + k) - p.span a)
    unfold State.readArrays
    split
    · next heq => rwa [heq] at hread
    · next t _ heq =>
      rw [heq] at hread
      have hrest := ih t
      split <;> (rename_i heq₂; rw [heq₂] at hrest; exact hrest.trans hread)

/-- exportBytes only reads. -/
theorem State.exportBytes_uncounted : (s.exportBytes n c).1.uncounted = s.uncounted := by
  have hown : (s.ownDigest n c).1.uncounted = s.uncounted := by
    have hread := s.readMem_uncounted (c.heldBase (s.shardSt n).staged (s.shardSt n).slot) c.slotSize
    unfold State.ownDigest; dsimp only
    split <;> (rename_i heq; rwa [heq] at hread)
  unfold State.exportBytes
  split
  · next heq => rwa [heq] at hown
  · next t _ heq =>
    rw [heq] at hown
    dsimp only
    have hread := t.readArrays_uncounted 0 c.count (t.exportParts n c (t.exportFlags n c true true))
    split <;> (rename_i heq₂; rw [heq₂] at hread; exact hread.trans hown)

end

theorem exec_shardExportRequest {s : State} {node n : Nat} {c : ShardCfg} (hcfg : s.shardCfg n = some c) (hs : (s.shardSt n).hasState = true)
    (hn : node < s.nodes) (hne : node ≠ s.img.node) : exec (.shardExportRequest node n) s = .next (s.exportTo node n c) := by
  change execShardExportRequest node n s = _
  unfold execShardExportRequest
  rw [hcfg]
  exact congrArg _ (if_neg (by simp [hs, hne, Nat.not_le.2 hn]))

/-- The module whose claim was accepted is sent the copy region. -/
theorem exec_copyRegionRequest {s : State} {port : Nat} {t : TargetCfg} (ht : s.img.ckTargets.find? (fun t => t.kind == 0) = some t)
    (hclaim : s.ck.claimedBy = some port) (hport : (s.port port).state = 6) (hclean : Safety.Clean s) :
    exec (.copyRegionRequest port) s = .next (s.serve (s.port port).nbrNode (s.peek s.img.copyRegion t.size)) := by
  change execCopyRegionRequest port s = _
  unfold execCopyRegionRequest
  rw [ht]
  dsimp only
  rw [if_pos (by simp [hclaim, hport]), State.readMem_of_clean hclean]

/-! ## The clauses of O40, each from the step that it takes -/

theorem linkWaitExpiry_fails {s : State} {t : Nat} (h : s.host.starting = some t) (hl : s.linksReady = false) (ht : t + s.img.linkWait < s.now) :
    ∃ u, exec .linkWaitExpiry s = .next u ∧ u.host.starting = none ∧ u.host.lastCause = Cause.linkDown ∧ u.host.job = s.host.job ∧
      u.cores = s.cores := by
  obtain ⟨hview, hcores⟩ := s.startFailed_spec Cause.linkDown
  simp only [HostIf.jobView, Prod.mk.injEq] at hview
  obtain ⟨hjob, hstarting, hcause⟩ := hview
  exact ⟨_, exec_linkWaitExpiry s h hl ht, hstarting, hcause, hjob, hcores⟩

/-- A HALT that is new is flooded on, and halts a job that issues. -/
theorem haltMessage_new {s : State} (arrived : Nat) {node seq : Nat} (hne : node ≠ s.img.node)
    (hnew : ∀ e ∈ s.torus.haltSeq, e.1 ≠ node ∨ e.2 < seq) :
    ∃ u, exec (.haltMessage arrived node seq) s = .next u ∧ (node, seq) ∈ u.torus.haltSeq ∧
      u.torus.sentMessages = s.torus.sentMessages ++ (s.upPorts.filter (fun p => p != arrived)).map (fun p => (p, .halt node seq)) ∧
      u.cores = s.cores ∧ (s.host.job ≠ .running → u.power = s.power ∧ u.mem = s.mem) ∧
      (s.host.job = .running → s.power.stopIssue = false → u.power.stopIssue = true ∧ (u.host.job = .halted ∨ u.host.job = .restoring)) := by
  obtain ⟨hseq, hsent⟩ := s.passHalt_torus arrived node seq
  have hsends := s.sends_passHalt arrived node seq
  have hcores : (s.passHalt arrived node seq).cores = s.cores := by rw [hsends]
  have hunknown : ¬((∃ e ∈ s.torus.haltSeq, e.1 = node ∧ seq ≤ e.2) ∨ node = s.img.node) := by
    rintro (⟨e, he, hen, hes⟩ | hown)
    · exact (hnew e he).elim (absurd hen) (Nat.not_lt.2 hes)
    · exact hne hown
  rw [exec_haltMessage, if_neg hunknown]
  split
  · next hrun =>
    obtain ⟨htorus, hkept, hstop, hjob⟩ := (s.passHalt arrived node seq).haltPolicy_spec (failCause (Config.remoteHalt s.free))
    refine ⟨_, rfl, ?_, ?_, hkept.trans hcores, fun h => absurd hrun.1 h, fun _ _ => ⟨hstop, hjob⟩⟩
    · rw [State.draw_torus, htorus]; exact hseq
    · rw [State.draw_torus, htorus]; exact hsent
  · next hrun =>
    exact ⟨_, rfl, hseq, hsent, hcores, fun _ => ⟨by rw [hsends], by rw [hsends]⟩, fun hj hp => absurd ⟨hj, hp⟩ hrun⟩

theorem exec_wakeMessage (s : State) (node : Nat) : exec (.wakeMessage node) s = .next s.wakeUp := rfl

/-- The candidate after the one that refused is the next that may be claimed. -/
theorem partnerRefusal_next {s : State} {port p j : Nat} (hclaim : s.ck.claiming = some port) (hp : s.img.partnerPorts[j]? = some p)
    (hj : s.ck.candidate < j) (hup : (s.port p).state = 6) (hfeeds : feedsDiffer (s.port p).nbrFeed s.power.feed = true)
    (hno : ∀ i k, s.ck.candidate < i → i < j → s.img.partnerPorts[i]? = some k →
      (s.port k).state ≠ 6 ∨ feedsDiffer (s.port k).nbrFeed s.power.feed = false) :
    exec (.partnerRefusal port) s = .next (s.claimPort p j) := by
  refine exec_partnerRefusal_next hclaim (State.claimable_find hj hp (by simp [State.claimable, hup, hfeeds]) fun i q hi hij hq => ?_)
  rcases hno i q hi hij hq with h | h <;> simp [State.claimable, h]

theorem partnerAcceptance_decides {s : State} {port : Nat} (hclaim : s.ck.claiming = some port) :
    ∃ u, exec (.partnerAcceptance port) s = .next u ∧ u.ck.partner = some port ∧ u.ck.claiming = none ∧
      (s.ck.restoring ≠ 5 → s.host.starting ≠ none → u.host.job = .running ∧ u.gate.step = 0) ∧
      (s.ck.restoring ≠ 5 → s.host.starting = none → u.cores = s.cores ∧ u.mem = s.mem) := by
  obtain ⟨hpartner, hnone⟩ := (s.takePartner port).partnerDecided_partner rfl
  refine ⟨_, exec_partnerAcceptance hclaim, hpartner, hnone, fun hr hstart => ?_, fun hr hstart => ?_⟩
  · rw [State.partnerDecided_starting (s.takePartner port) hr hstart]
    exact ⟨State.beginJob_job _, State.beginJob_step _⟩
  · rw [State.partnerDecided_idle (s.takePartner port) hr hstart]
    exact ⟨rfl, rfl⟩

theorem copyRegionRequest_serves {s : State} {port : Nat} {t : TargetCfg} (ht : s.img.ckTargets.find? (fun t => t.kind == 0) = some t)
    (hclaim : s.ck.claimedBy = some port) (hport : (s.port port).state = 6) (hclean : Safety.Clean s)
    (hknown : (s.torus.paths.at (s.port port).nbrNode).known = true) (hpath : (s.torus.paths.at (s.port port).nbrNode).state ≠ 3)
    (hfresh : ∀ y ∈ s.torus.sources, y.tag ≠ s.torus.nextTag % 2 ^ 24) :
    ∃ u y, exec (.copyRegionRequest port) s = .next u ∧ y ∈ u.torus.sources ∧ y.dst = (s.port port).nbrNode ∧ y.tc = 3 ∧ y.core = 1024 ∧
      (y.packets.map (·.payload)).flatten = s.peek s.img.copyRegion t.size ∧ u.cores = s.cores ∧ u.mem = s.mem := by
  obtain ⟨⟨y, hy, hdst, htc, hcore, hbytes⟩, hcores, hmem⟩ := State.serve_spec hknown hpath hfresh (s.peek s.img.copyRegion t.size)
  exact ⟨_, y, exec_copyRegionRequest ht hclaim hport hclean, hy, hdst, htc, hcore, hbytes, hcores, hmem⟩

theorem shardExportRequest_serves {s t : State} {node shard : Nat} {c : ShardCfg} {bs : List Byte} (hcfg : s.shardCfg shard = some c)
    (hs : (s.shardSt shard).hasState = true) (hhold : (s.shardSt shard).canHold (s.shardSt shard).slot = true) (hn : node < s.nodes)
    (hne : node ≠ s.img.node) (hknown : (s.torus.paths.at node).known = true) (hpath : (s.torus.paths.at node).state ≠ 3)
    (hfresh : ∀ y ∈ s.torus.sources, y.tag ≠ s.torus.nextTag % 2 ^ 24) (hbytes : s.exportBytes shard c = (t, .ok bs)) :
    ∃ u y, exec (.shardExportRequest node shard) s = .next u ∧ y ∈ u.torus.sources ∧ y.dst = node ∧ y.tc = 3 ∧ y.core = 1024 ∧
      (y.packets.map (·.payload)).flatten = bs ∧ u.cores = t.cores ∧ u.mem = s.mem := by
  have hread := s.exportBytes_uncounted shard c
  rw [hbytes] at hread
  have htorus : t.torus = s.torus := (congrArg State.torus hread :)
  have hmemory : t.mem = s.mem := (congrArg State.mem hread :)
  rw [← htorus] at hknown hpath hfresh
  obtain ⟨⟨y, hy, hdst, htc, hcore, hpayload⟩, hcores, hmem⟩ := State.serve_spec hknown hpath hfresh bs
  refine ⟨t.serve node bs, y, ?_, hy, hdst, htc, hcore, hpayload, hcores, hmem.trans hmemory⟩
  rw [exec_shardExportRequest hcfg hs hn hne, State.exportTo, if_neg (by rw [hhold]; decide), hbytes]

/-- A SHARD_EXPORT_REQUEST of a slot with no hold left waits for it. -/
theorem shardExportRequest_waits {s : State} {node shard : Nat} {c : ShardCfg} (hcfg : s.shardCfg shard = some c)
    (hs : (s.shardSt shard).hasState = true) (hhold : (s.shardSt shard).canHold (s.shardSt shard).slot = false) (hn : node < s.nodes)
    (hne : node ≠ s.img.node) : exec (.shardExportRequest node shard) s =
      .next (s.modShard shard (fun x => { x with waiting := x.waiting ++ [.exportTo node] })) := by
  rw [exec_shardExportRequest hcfg hs hn hne, State.exportTo, if_pos (by rw [hhold]; rfl)]

/-- Settles O40: each message by the step that it takes, what is served by its source's packets, and an exported shard by the reads that make it. -/
theorem jobMessages : Obligations.JobMessages := by
  refine ⟨fun s t => linkWaitExpiry_fails, fun s arrived node seq => ⟨fun hknown => ?_, haltMessage_new arrived⟩, fun s node => ?_,
    fun s port node hport => ?_, fun s port hclaim => ⟨fun p j hp hj hup hfeeds hno => ?_, fun hlast hforce hr => ?_, partnerAcceptance_decides hclaim⟩,
    fun s port t => copyRegionRequest_serves, fun s t node shard c bs => shardExportRequest_serves, fun s shard c slot hclean hslot => ?_,
    fun s node shard c hcfg hs hhold hn hne => ?_⟩
  · rw [exec_haltMessage, if_pos hknown.symm]
  · rw [exec_wakeMessage, State.wakeUp]
    refine ⟨fun h => ?_, fun h => by rw [if_neg h]⟩
    rw [if_pos h]
    exact ⟨_, rfl, rfl, rfl, rfl, rfl⟩
  · rw [exec_partnerClaim hport]
    refine ⟨fun h => ?_, fun h => ?_⟩
    · rw [if_pos h]
      exact ⟨_, rfl, rfl, State.sendMsg_sentMessages _ _ _, rfl, rfl⟩
    · rw [if_neg h]
      exact ⟨_, rfl, rfl, State.sendMsg_sentMessages _ _ _, rfl, rfl⟩
  · exact ⟨_, partnerRefusal_next hclaim hp hj hup hfeeds hno, rfl, rfl, State.sendMsg_sentMessages _ _ _, rfl, rfl⟩
  · refine ⟨_, exec_partnerRefusal_fails hclaim hlast hforce hr, ?_, ?_, State.restoreFail_job _ _⟩
    · rw [State.restoreFail_ck]; rfl
    · rw [State.restoreFail_ck]; rfl
  · rw [hslot]
    exact s.exportBytes_clean shard c hclean
  · refine ⟨_, shardExportRequest_waits hcfg hs hhold hn hne, ?_, rfl, rfl, rfl⟩
    rw [State.shardSt_modShard_self]

end Sys2Proof.Machine
end

section
/-! PROOFS. Scrubs of words and lines, and the channels of the tiers (O24): what each corrects and counts, and what it leaves. -/

namespace Sys2Proof.Machine

open Sys2Proof

theorem Tab.at_erase {α : Type} [Inhabited α] (t : Tab α) (k j : Nat) : Tab.at (t.erase k) j = if j = k then default else Tab.at t j := by
  unfold Tab.at
  rw [Tab.find?_erase]
  split <;> rfl

/-! ## SRAM scrubs (R364 to R366) -/

/-- Counting words in error leaves which words they are. -/
theorem State.countWords_wordErrs (s : State) (a ce ue bad : Nat) : (s.countWords a ce ue bad).tiers.wordErrs = s.tiers.wordErrs := by
  unfold State.countWords; split
  · rfl
  · dsimp only; split <;> rfl

/-- Words in error of a core's SRAM are counted at the core. -/
theorem State.countWords_core {s : State} {a : Nat} (ha : addrSpace a = 0) (ce ue bad : Nat) :
    (s.countWords a ce ue bad).core (addrCore a) = { s.core (addrCore a) with
      sramCe := (s.core (addrCore a)).sramCe + BitVec.ofNat 32 ce, sramUe := (s.core (addrCore a)).sramUe + BitVec.ofNat 32 ue } := by
  rw [State.countWords, if_pos ha, State.core_modCore_self]

section
variable {s : State} {addr : Nat}

theorem exec_sramScrub_clean (h : s.tiers.wordErrs.at (addr / 16) = .none) : exec (.sramScrub addr) s = .next s := by
  change execSramScrub addr s = _
  rw [execSramScrub]; dsimp only
  rw [h]

theorem exec_sramScrub_corrects (h : s.tiers.wordErrs.at (addr / 16) = .single) : exec (.sramScrub addr) s =
    .next ((s.countWords addr 1 0 addr).modTiers (fun t => { t with wordErrs := t.wordErrs.erase (addr / 16) })) := by
  change execSramScrub addr s = _
  rw [execSramScrub]; dsimp only
  rw [h]

theorem exec_sramScrub_counts (h : s.tiers.wordErrs.at (addr / 16) = .double) : exec (.sramScrub addr) s =
    .next ((s.countWords addr 0 1 addr).event 0x0020 Cause.sramUncorrectable (addrCore addr) 0 (16 * (addr / 16))) := by
  change execSramScrub addr s = _
  rw [execSramScrub]; dsimp only
  rw [h]

end

/-! ## Patrol scrubs (R372, R375) -/

/-- The pass ends with the last line of the far tier (log entry 17). -/
def State.countPass (s : State) (line : Nat) : State :=
  if line = farAddr (8 * s.farSlice) / 64 - 1 then s.modTiers (fun t => { t with scrubPasses := t.scrubPasses + 1 }) else s

section
variable (s : State) (line : Nat)

theorem State.countPass_eq : s.countPass line = s.modTiers (fun t => { t with scrubPasses := (s.countPass line).tiers.scrubPasses }) := by
  unfold State.countPass; split <;> rfl

@[simp] theorem State.countPass_mem : (s.countPass line).mem = s.mem := by rw [s.countPass_eq line]; rfl
@[simp] theorem State.countPass_cores : (s.countPass line).cores = s.cores := by rw [s.countPass_eq line]; rfl
@[simp] theorem State.countPass_lineErrs : (s.countPass line).tiers.lineErrs = s.tiers.lineErrs := by rw [s.countPass_eq line]; rfl

variable (e c : ErrPattern)

theorem State.lineBytes_length : (s.lineBytes line e c).length = 64 := by simp [State.lineBytes]

theorem State.storeLine_lineErrs_self : (s.storeLine line e c).tiers.lineErrs.at line = [] := by
  change Tab.at (s.tiers.lineErrs.erase line) line = []
  rw [Tab.at_erase, if_pos rfl]; rfl

/-- A line stored anew leaves every byte of the other lines. -/
theorem State.storeLine_byte_ne {a : Nat} (ha : a / 64 ≠ line) : (s.storeLine line e c).mem.byte a = s.mem.byte a :=
  Memory.byte_write_out _ _ (by rw [State.lineBytes_length]; omega)

theorem State.storeLine_cores : (s.storeLine line e c).cores = s.cores := rfl

end

section
variable {s : State} {addr : Nat}

theorem exec_patrolScrub_clean (h : s.tiers.lineErrs.at (addr / 64) = []) : exec (.patrolScrub addr) s = .next (s.countPass (addr / 64)) := by
  refine congrArg (fun x : State => Host.Outcome.next (x.countPass (addr / 64))) (if_pos ?_)
  rw [h]; rfl

theorem exec_patrolScrub_stores {c : ErrPattern} (hup : s.channelFailed (64 * (addr / 64)) 64 = false) (he : s.tiers.lineErrs.at (addr / 64) ≠ [])
    (hc : lineDecode (s.tiers.lineErrs.at (addr / 64)) = some c) : exec (.patrolScrub addr) s =
      .next (((s.when (!c.isEmpty) (·.countCe (s.channelOf (64 * (addr / 64))).1)).storeLine (addr / 64)
        (s.tiers.lineErrs.at (addr / 64)) c).countPass (addr / 64)) := by
  refine congrArg (fun x : State => Host.Outcome.next (x.countPass (addr / 64))) ((if_neg (by simp [he, hup])).trans ?_)
  rw [hc]

end

/-! ## Channels (R377, R378) -/

section
variable (s : State) (n : Nat) (f : Channel → Channel)

@[simp] theorem State.modChannel_mem : (s.modChannel n f).mem = s.mem := by unfold State.modChannel; split <;> rfl
@[simp] theorem State.modChannel_cores : (s.modChannel n f).cores = s.cores := by unfold State.modChannel; split <;> rfl

theorem State.modChannel_self (hn : n < 96) : (s.modChannel n f).tiers.channels.at n = f (s.tiers.channels.at n) := by
  rw [State.modChannel, if_pos hn]
  exact Tab.at_upd_self _ _ _

theorem State.modChannel_ne {k : Nat} (hk : k ≠ n) : (s.modChannel n f).tiers.channels.at k = s.tiers.channels.at k := by
  unfold State.modChannel; split
  · exact Tab.at_upd_ne _ _ hk
  · rfl

/-- What a change of a channel keeps, every channel keeps. -/
theorem State.modChannel_keeps {γ : Type} {p : Channel → γ} (hp : ∀ c, p (f c) = p c) (k : Nat) :
    p ((s.modChannel n f).tiers.channels.at k) = p (s.tiers.channels.at k) := by
  by_cases hk : k = n
  · subst hk
    by_cases hn : k < 96
    · rw [s.modChannel_self k f hn, hp]
    · rw [State.modChannel, if_neg hn]
  · rw [s.modChannel_ne n f hk]

end

theorem exec_strobeStep (s : State) (n : Nat) :
    exec (.strobeStep n) s = .next (s.modChannel n (fun c => if c.state = 1 then { c with strobes := c.strobes + 1 } else c)) := rfl

theorem exec_refresh (s : State) (n bank : Nat) :
    exec (.refresh n bank) s = .next (s.modChannel n (fun c => { c with refreshes := c.refreshes + 1 })) := rfl

section
variable {s : State} {n : Nat}

theorem exec_channelRetrain_ok (h : (s.tiers.channels.at n).state = 2) :
    exec (.channelRetrain n true) s = .next (s.modChannel n (fun c => { c with state := 1, recent := [] })) := by
  change execChannelRetrain n true s = _
  rw [execChannelRetrain, if_neg (by simp [h]), if_pos rfl]

theorem exec_channelRetrain_fails (h : (s.tiers.channels.at n).state = 2) : exec (.channelRetrain n false) s =
    .next ((s.modChannel n (fun c => { c with state := 3 })).event 0x0020 Cause.memUncorrectable n 0 0) := by
  change execChannelRetrain n false s = _
  rw [execChannelRetrain, if_neg (by simp [h]), if_neg (by decide)]

theorem exec_dramTemperatureReport_hot (hn : n < 96) (hup : s.power.holdup = 0) :
    exec (.dramTemperatureReport n false) s = .next (s.modChannel n (fun c => { c with hot := true })) := by
  change execDramTemperatureReport n false s = _
  rw [execDramTemperatureReport, if_neg (by simp [hup, hn]), if_neg (by decide)]

end

/-- Settles O24: each scrub by the word or line that it meets, and each event of a channel by the change of that channel. -/
theorem scrubsAndChannels : Obligations.ScrubsAndChannels := by
  refine ⟨fun s addr h => ?_, fun s addr h => ?_, fun s addr h => exec_sramScrub_clean h, fun s addr c hup he hc => ?_, fun s addr h => ?_,
    fun s n hn h => ⟨?_, ?_⟩, fun s n bank => ⟨?_, ?_⟩, fun s n hn hup => ?_⟩
  · refine ⟨_, exec_sramScrub_corrects h, ?_, fun w hw => ?_, s.countWords_mem _ _ _ _, fun ha => ?_⟩
    · exact (Tab.at_erase _ _ _).trans (if_pos rfl)
    · refine (Tab.at_erase _ _ _).trans ((if_neg hw).trans ?_)
      rw [State.countWords_wordErrs]
    · rw [State.modTiers_core, State.countWords_core ha]; rfl
  · refine ⟨_, exec_sramScrub_counts h, ?_, ?_, fun ha => ?_⟩
    · rw [State.event_tiers, State.countWords_wordErrs]
    · rw [State.event_mem, State.countWords_mem]
    · rw [State.event_core, State.countWords_core ha]; rfl
  · have hcounted : ∀ p n, (s.when p (·.countCe n)).mem = s.mem ∧ (s.when p (·.countCe n)).cores = s.cores := by
      intro p n
      cases p <;> exact ⟨rfl, rfl⟩
    refine ⟨_, exec_patrolScrub_stores hup he hc, ?_, fun a ha => ?_, ?_⟩
    · rw [State.countPass_lineErrs, State.storeLine_lineErrs_self]
    · rw [State.countPass_mem, State.storeLine_byte_ne _ _ _ _ ha, (hcounted _ _).1]
    · rw [State.countPass_cores, State.storeLine_cores, (hcounted _ _).2]
  · exact ⟨_, exec_patrolScrub_clean h, s.countPass_mem _, s.countPass_lineErrs _, s.countPass_cores _⟩
  · exact ⟨_, exec_channelRetrain_ok h, by rw [s.modChannel_self n _ hn], s.modChannel_mem n _⟩
  · refine ⟨_, exec_channelRetrain_fails h, ?_, ?_, fun k hk => ?_⟩
    · rw [State.event_tiers, s.modChannel_self n _ hn]
    · rw [State.event_mem, s.modChannel_mem]
    · rw [State.event_tiers, s.modChannel_ne n _ hk]
  · refine ⟨_, exec_strobeStep s n, s.modChannel_mem n _, s.modChannel_cores n _, fun k => ⟨?_, ?_⟩⟩
    · refine s.modChannel_keeps n _ (p := Channel.state) (fun c => ?_) k
      split <;> rfl
    · refine s.modChannel_keeps n _ (p := Channel.ce) (fun c => ?_) k
      split <;> rfl
  · refine ⟨_, exec_refresh s n bank, s.modChannel_mem n _, s.modChannel_cores n _, fun k => ⟨?_, ?_⟩⟩
    · refine s.modChannel_keeps n _ (p := Channel.state) (fun c => ?_) k
      rfl
    · refine s.modChannel_keeps n _ (p := Channel.ce) (fun c => ?_) k
      rfl
  · refine ⟨_, exec_dramTemperatureReport_hot hn hup, ?_, fun k hk => s.modChannel_ne n _ hk, s.modChannel_mem n _⟩
    rw [s.modChannel_self n _ hn]

end Sys2Proof.Machine
end

section
/-! PROOFS. Answers to pool requests (O23): a line answered, an item ended Failed, and a request past its time limit. -/

namespace Sys2Proof.Machine

open Sys2Proof

/-! ## An open item ends Failed (R64, R67, R387) -/

theorem State.sends_unqueue (s : State) (tags : List Nat) : s.Sends (s.unqueue tags) := by
  unfold State.unqueue; split <;> rfl

section
variable {s : State} {core id : Nat} {x : Xfer} {cause : Cause} (hx : s.findXfer core id = some x)
include hx

/-- An item that ends has left the open items before its counter takes the end. -/
theorem State.endOpen_leaves (cause : Cause) : ∃ z : State, s.endOpen core id cause = z.endXfer core x.counter x.increment cause ∧
    (z.core core).xf.open_ = (s.core core).xf.open_.filter (fun y => y.id != id) ∧ (z.core core).counters = (s.core core).counters ∧
    z.tiers = s.tiers ∧ Safety.OnlyCore core s z := by
  rw [State.endOpen, hx]
  dsimp only
  generalize hu : State.when s _ _ = u
  generalize hv : State.modXf _ core _ = v
  have hsends : s.Sends u := hu ▸ State.sends_when (s.sends_unqueue _)
  have hopen : (v.core core).xf.open_ = (s.core core).xf.open_.filter (fun y => y.id != id) := by
    rw [← hv, State.modXf_xf, hsends]; rfl
  have hcounters : (v.core core).counters = (s.core core).counters := by
    rw [← hv, State.modXf, State.core_modCore_self, hsends]; rfl
  have htiers : v.tiers = s.tiers := by rw [← hv, hsends]; rfl
  have honly : Safety.OnlyCore core s v := by
    have hu : Safety.OnlyCore core s u := by rw [hsends]; exact ⟨fun _ _ => rfl, rfl⟩
    rw [← hv]
    exact OnlyCore.trans hu (OnlyCore.modCore core (State.modTorus u _) _)
  refine ⟨_, rfl, ?_⟩
  rw [State.when]
  split
  · rw [State.core_modCore_self]
    exact ⟨hopen, hcounters, htiers, OnlyCore.trans honly (OnlyCore.modCore core v _)⟩
  · exact ⟨hopen, hcounters, htiers, honly⟩

/-- An item that ends Failed is gone, its cause is shown and latched, and no counter moves. -/
theorem State.endOpen_failed_spec (hc : cause ≠ 0) : (s.endOpen core id cause).findXfer core id = none ∧
    ((s.endOpen core id cause).core core).xf.lastFail = cause ∧ (s.endOpen core id cause).HoldsCause core x.counter ∧
    (∀ n, (((s.endOpen core id cause).core core).counters.at n).value = ((s.core core).counters.at n).value) ∧
    (s.endOpen core id cause).tiers = s.tiers ∧ Safety.OnlyCore core s (s.endOpen core id cause) := by
  obtain ⟨z, hz, hopen, hcounters, htiers, honly⟩ := State.endOpen_leaves hx cause
  obtain ⟨hfail, hlatched, hkept, hframe, -⟩ := z.endXfer_failed core x.counter x.increment hc
  rw [hz]
  refine ⟨?_, hfail, hlatched, fun n => ?_, ?_, OnlyCore.trans honly hframe⟩
  · rw [State.findXfer, hkept, hopen]
    refine List.find?_eq_none.2 fun y hy => ?_
    simpa using (List.mem_filter.1 hy).2
  · rw [State.endXfer, if_neg hc, State.endItem, if_neg hc, State.latch_value, State.xferFailed, State.modXf, State.core_modCore_self]
    exact congrArg (fun t : Tab Counter => (t.at n).value) hcounters
  · rw [← htiers, State.endXfer, if_neg hc, State.endItem, if_neg hc]; rfl

/-- A pool item that ends Failed takes its hold with it. -/
theorem State.endPool_failed_spec (hid : x.id = id) (hc : cause ≠ 0) : (s.endPool core x cause).findXfer core id = none ∧
    ((s.endPool core x cause).core core).xf.lastFail = cause ∧ (s.endPool core x cause).HoldsCause core x.counter ∧
    (∀ n, (((s.endPool core x cause).core core).counters.at n).value = ((s.core core).counters.at n).value) ∧
    (s.endPool core x cause).tiers = s.tiers ∧ Safety.OnlyCore core s (s.endPool core x cause) := by
  subst hid
  unfold State.endPool State.when
  split
  · exact State.endOpen_failed_spec (s := s.dropHold x.shard holdStage) hx hc
  · exact State.endOpen_failed_spec hx hc

end

/-! ## A line is answered (R384) -/

/-- An item with a line answered. -/
def Xfer.answered (x : Xfer) (line : Nat) (bytes : List Byte) : Xfer :=
  { x with outstanding := x.outstanding.erase line, got := if x.writing then x.got else x.got ++ [(line, bytes)] }

/-- An item of a core changed. -/
def State.putItem (s : State) (core : Nat) (x : Xfer) : State :=
  s.modXf core (fun t => { t with open_ := t.open_.map (fun y => if y.id = x.id then x else y) })

/-- The mark of a STAGE item's hold follows the lines that are still missing (10_parameter R335). -/
def State.raiseMark (s : State) (x : Xfer) : State :=
  match x.kind, s.shardCfg x.shard with
  | .stage, some c => s.raiseHold x.shard holdStage (c.readUpTo (c.slotAddr (s.shardSt x.shard).slot) x.outstanding)
  | _, _ => s

/-- The window entry of a line is marked UNBOUND (R383). -/
def State.markLine (s : State) (line : Nat) : State :=
  match s.poolEntry (addrOff line) with
  | some e => s.markUnbound e
  | none => s

theorem State.raiseMark_eq (s : State) (x : Xfer) : s.raiseMark x = { s with commit := (s.raiseMark x).commit } := by
  unfold State.raiseMark; split <;> rfl

theorem State.putItem_findXfer {s : State} {core : Nat} {x y : Xfer} (hx : s.findXfer core x.id = some x) (hid : y.id = x.id) :
    (s.putItem core y).findXfer core x.id = some y := by
  have hsame : (fun z : Xfer => z.id == x.id) ∘ (fun z => if z.id = x.id then y else z) = fun z => z.id == x.id := by
    funext z
    dsimp only [Function.comp]
    split
    · next hz => rw [hid, hz]
    · rfl
  rw [State.findXfer, State.putItem, State.modXf_xf, hid, List.find?_map, hsame, show List.find? _ _ = some x from hx, Option.map_some, if_pos rfl]

theorem State.putItem_counters (s : State) (core : Nat) (x : Xfer) : ((s.putItem core x).core core).counters = (s.core core).counters := by
  rw [State.putItem, State.modXf, State.core_modCore_self]

theorem OnlyCore.putItem (s : State) (core : Nat) (x : Xfer) : Safety.OnlyCore core s (s.putItem core x) := OnlyCore.modCore core s _

theorem State.markLine_eq (s : State) (line : Nat) : s.markLine line = { s with tiers := (s.markLine line).tiers } := by
  unfold State.markLine; split <;> rfl

theorem State.markLine_unbound {s : State} {line n : Nat} (h : s.poolEntry (addrOff line) = some n) :
    bitOf (s.markLine line).tiers.poolUnbound n = true := by
  rw [State.markLine, h]
  change (s.tiers.poolUnbound ||| 2 ^ n).testBit n = true
  rw [Nat.testBit_or, Nat.testBit_two_pow_self, Bool.or_true]

/-! ## POOL_COMPLETION and POOL_TIMEOUT (R384) -/

section
variable {s : State} {tag line core : Nat} {x : Xfer}

theorem exec_pool_none (h : s.poolItem tag = none) (line : Nat) (st : PoolStatus) (bytes : List Byte) :
    exec (.poolCompletion tag line st bytes) s = .next s ∧ exec (.poolTimeout tag) s = .next s := by
  change execPoolCompletion tag line st bytes s = _ ∧ execPoolTimeout tag s = _
  rw [execPoolCompletion, execPoolTimeout, h]
  exact ⟨rfl, rfl⟩

variable (h : s.poolItem tag = some (core, x))
include h

theorem exec_poolCompletion_stray (hline : line ∉ x.outstanding) (st : PoolStatus) (bytes : List Byte) :
    exec (.poolCompletion tag line st bytes) s = .next s := by
  change execPoolCompletion tag line st bytes s = _
  rw [execPoolCompletion, h]
  exact congrArg _ (if_pos (by simpa using hline))

theorem exec_poolTimeout_ends (hlate : x.started + s.img.poolTimeout < s.now) : exec (.poolTimeout tag) s =
    .next ((s.modTiers (fun t => { t with poolTimeouts := t.poolTimeouts + 1 })).endPool core x Cause.timeout) := by
  change execPoolTimeout tag s = _
  rw [execPoolTimeout, h]
  exact congrArg _ (if_pos hlate)

theorem exec_poolTimeout_early (hearly : s.now ≤ x.started + s.img.poolTimeout) : exec (.poolTimeout tag) s = .next s := by
  change execPoolTimeout tag s = _
  rw [execPoolTimeout, h]
  exact congrArg _ (if_neg (Nat.not_lt.2 hearly))

variable (hline : line ∈ x.outstanding) (bytes : List Byte)
include hline

theorem exec_poolCompletion_poisoned :
    exec (.poolCompletion tag line .poisoned bytes) s = .next (s.endPool core x Cause.memUncorrectable) := by
  change execPoolCompletion tag line .poisoned bytes s = _
  rw [execPoolCompletion, h]
  exact congrArg _ (if_neg (by simpa using hline))

theorem exec_poolCompletion_unsupported :
    exec (.poolCompletion tag line .unsupported bytes) s = .next ((s.markLine line).endPool core x Cause.planReject) := by
  change execPoolCompletion tag line .unsupported bytes s = _
  rw [execPoolCompletion, h]
  exact congrArg _ (if_neg (by simpa using hline))

theorem exec_poolCompletion_more (hrest : x.outstanding.erase line ≠ []) : exec (.poolCompletion tag line .success bytes) s =
    .next ((s.putItem core (x.answered line bytes)).raiseMark (x.answered line bytes)) := by
  change execPoolCompletion tag line .success bytes s = _
  rw [execPoolCompletion, h]
  refine congrArg _ ((if_neg (by simpa using hline)).trans ?_)
  exact if_neg (by simpa using hrest)

/-- With more lines outstanding an answer changes its item and, of a STAGE, the mark of its hold. -/
theorem poolCompletion_more_spec (hx : s.findXfer core x.id = some x) (hrest : x.outstanding.erase line ≠ []) :
    ∃ u, exec (.poolCompletion tag line .success bytes) s = .next u ∧ u.findXfer core x.id = some (x.answered line bytes) ∧
      (u.core core).counters = (s.core core).counters ∧ Safety.OnlyCore core s u := by
  refine ⟨_, exec_poolCompletion_more h hline bytes hrest, ?_⟩
  rw [State.raiseMark_eq]
  exact ⟨State.putItem_findXfer hx rfl, s.putItem_counters core (x.answered line bytes), OnlyCore.putItem s core (x.answered line bytes)⟩

end

/-- Settles O23: what waits for nothing changes nothing, an answered line changes its item, and every other answer ends it Failed. -/
theorem poolRequestsEnd : Obligations.PoolRequestsEnd := by
  refine ⟨fun s tag line st bytes h => exec_pool_none h line st bytes, fun s tag line core bytes x h hx =>
    ⟨fun hline st => exec_poolCompletion_stray h hline st bytes, fun hline hrest => ?_, fun hline => ?_, fun hline => ?_, fun hlate => ?_,
      exec_poolTimeout_early h⟩⟩
  · obtain ⟨u, hu, hfound, hcounters, honly⟩ := poolCompletion_more_spec h hline bytes hx hrest
    exact ⟨u, _, hu, hfound, rfl, rfl, hcounters, honly⟩
  · obtain ⟨hgone, hfail, hlatched, hvalue, -, honly⟩ := State.endPool_failed_spec hx rfl (cause := Cause.memUncorrectable) (by decide)
    exact ⟨_, exec_poolCompletion_poisoned h hline bytes, hgone, hfail, hlatched, hvalue, honly⟩
  · have hx' : (s.markLine line).findXfer core x.id = some x := by rw [State.markLine_eq]; exact hx
    obtain ⟨hgone, hfail, -, -, htiers, honly⟩ := State.endPool_failed_spec hx' rfl (cause := Cause.planReject) (by decide)
    refine ⟨_, exec_poolCompletion_unsupported h hline bytes, hgone, hfail, fun n hn => ?_, OnlyCore.trans ?_ honly⟩
    · rw [htiers]; exact State.markLine_unbound hn
    · rw [State.markLine_eq]; exact ⟨fun _ _ => rfl, rfl⟩
  · obtain ⟨hgone, hfail, -, -, htiers, honly⟩ := State.endPool_failed_spec
      (s := s.modTiers (fun t => { t with poolTimeouts := t.poolTimeouts + 1 })) hx rfl (cause := Cause.timeout) (by decide)
    exact ⟨_, exec_poolTimeout_ends h hlate, hgone, hfail, congrArg MemUnit.poolTimeouts htiers, honly⟩

end Sys2Proof.Machine
end

section
/-! PROOFS. COPY within the module (O21): the bytes that stores without errors read and write, and the item that a COPY opens and ends. -/

namespace Sys2Proof.Machine

open Sys2Proof

/-! ## The bytes of a region (R364, R373) -/

/-- A run of cells that rise and begin at or after its address lists the bytes of its region. -/
theorem cellRun_getD {m : Memory} {a n i : Nat} (hm : Tab.wf m) (hge : ∀ c ∈ m, a ≤ c.1) (hi : i < n) :
    (cellRun m a n).getD i 0 = m.byte (a + i) := by
  induction n generalizing m a i with
  | zero => omega
  | succ n ih =>
    match m with
    | [] => simp [cellRun, zeros, hi, Memory.byte, show (default : Byte) = 0 from rfl]
    | (k, b) :: m =>
      obtain ⟨hlt, hwf⟩ := List.pairwise_cons.1 hm
      have hrest : ∀ c ∈ m, k < c.1 := fun c hc => hlt c.1 (List.mem_map_of_mem hc)
      have hk : a ≤ k := hge (k, b) (by simp)
      unfold cellRun Memory.byte Tab.at
      rw [Tab.find?_cons]
      split
      · next hka =>
        subst hka
        cases i with
        | zero => simp
        | succ i =>
          rw [List.getD_cons_succ, ih hwf hrest (Nat.lt_of_succ_lt_succ hi), if_neg (by omega), Memory.byte, Tab.at]
          congr 2
          omega
      · next hka =>
        cases i with
        | zero =>
          have hnone : Tab.find? m a = none := by
            cases hf : Tab.find? m a with
            | none => rfl
            | some v => exact absurd (hrest _ (Tab.mem_of_find? hf)) (Nat.not_lt.2 hk)
          rw [if_neg (by omega)]
          change _ = (Tab.find? m a).getD default
          rw [hnone]
          rfl
        | succ i =>
          have hafter : ∀ c ∈ (k, b) :: m, a + 1 ≤ c.1 := by
            refine List.forall_mem_cons.2 ⟨by omega, fun c hc => ?_⟩
            have := hrest c hc
            omega
          rw [List.getD_cons_succ, ih hm hafter (Nat.lt_of_succ_lt_succ hi), Memory.byte, Tab.at, Tab.find?_cons]
          congr 3 <;> omega

theorem dropWhile_lt_eq_filter {m : Memory} (hm : Tab.wf m) (a : Nat) : m.dropWhile (fun c => c.1 < a) = m.filter (fun c => a ≤ c.1) := by
  induction m with
  | nil => rfl
  | cons c m ih =>
    obtain ⟨hlt, hwf⟩ := List.pairwise_cons.1 hm
    by_cases hc : c.1 < a
    · rw [List.dropWhile_cons_of_pos (by simpa using hc), List.filter_cons_of_neg (by simpa using hc), ih hwf]
    · rw [List.dropWhile_cons_of_neg (by simpa using hc), eq_comm, List.filter_eq_self]
      refine List.forall_mem_cons.2 ⟨by simpa using hc, fun e he => ?_⟩
      have := hlt e.1 (List.mem_map_of_mem he)
      simp only [decide_eq_true_eq]
      omega

/-- A read of memory in its canonical form gives its bytes. -/
theorem Memory.read_getD {m : Memory} (hm : Memory.wf m) {a n i : Nat} (hi : i < n) : (m.read a n).getD i 0 = m.byte (a + i) := by
  have hge : ∀ c ∈ m.filter (fun c => a ≤ c.1), a ≤ c.1 := fun c hc => by simpa using (List.mem_filter.1 hc).2
  rw [Memory.read, dropWhile_lt_eq_filter hm.1, cellRun_getD (Tab.wf_filter _ hm.1) hge hi, Memory.byte, Memory.byte, Tab.at, Tab.at,
    Tab.find?_filter m _ (fun j => decide (a ≤ j)) (fun _ => rfl), if_pos (by simp)]

/-- With no error in any store a write stores its bytes and changes nothing else. -/
theorem State.writeMem_of_clean {s : State} (h : Safety.Clean s) (a : Nat) (bs : List Byte) : s.writeMem a bs = (s.store (a, bs), 0) := by
  obtain ⟨hwords, hlines, -⟩ := id h
  unfold State.store State.when State.writeMem
  cases bs.isEmpty with
  | true => rfl
  | false =>
    dsimp only
    rw [if_neg (by decide), Bool.not_false, if_pos rfl]
    split
    · have hkept (lo hi : Nat) : (s.poke a bs).modTiers (fun t => { t with lineErrs := t.lineErrs.clearRange lo hi }) = s.poke a bs := by
        change { s.poke a bs with tiers := { s.tiers with lineErrs := s.tiers.lineErrs.clearRange lo hi } } = _
        rw [show s.tiers.lineErrs.clearRange lo hi = s.tiers.lineErrs by rw [hlines]; rfl]
        rfl
      rw [State.writeLines, if_neg (by rw [State.channelFailed_of_clean h]; decide), hlines]
      exact Prod.ext (hkept _ _) rfl
    · exact s.writeWords_clean a bs hwords

theorem State.store_byte {s : State} (a : Nat) (bs : List Byte) (k : Nat) :
    (s.store (a, bs)).mem.byte k = if a ≤ k ∧ k < a + bs.length then bs.getD (k - a) 0 else s.mem.byte k := by
  unfold State.store State.when
  cases bs with
  | nil => simp
  | cons b bs => exact Memory.byte_write _ _ _ _

theorem State.store_core (s : State) (w : Nat × List Byte) (k : Nat) : (s.store w).core k = s.core k := s.stores_core [w] k

/-! ## The item of a COPY (R387, R389, R391) -/

/-- The item that a COPY opens. -/
def State.copyItem (s : State) (core q w : Nat) (d : XDesc) : Xfer :=
  { id := (s.core core).xf.nextId, kind := .remote, op := 1, queue := q, entry := (s.queue core q).pos - 1, counter := d.counter,
    increment := d.increment, desc := BitVec.ofNat 256 w, started := s.now }

/-- An item with bytes that it writes counted. -/
def Xfer.wrote (x : Xfer) (n : Nat) : Xfer := { x with bytes := x.bytes + n }

/-- The bytes of a COPY are stored, and its item counts them. -/
def State.copyStored (s : State) (core : Nat) (x : Xfer) (a : Nat) (bs : List Byte) : State :=
  ((s.openItem core x).addXferBytes core x.id bs.length).store (a, bs)

/-- With DCTR_EN the destination counter advances before the item ends. -/
def State.countDest (s : State) (d : XDesc) : State := s.when d.dctrEn (fun s => s.advance (addrCore d.dst) d.dctr d.increment)

section
variable (s : State) (core : Nat) (x : Xfer) (a : Nat) (bs : List Byte)

theorem State.copyStored_byte (k : Nat) : (s.copyStored core x a bs).mem.byte k =
    if a ≤ k ∧ k < a + bs.length then bs.getD (k - a) 0 else s.mem.byte k := State.store_byte a bs k

theorem State.copyStored_core_ne {k : Nat} (hk : k ≠ core) : (s.copyStored core x a bs).core k = s.core k := by
  rw [State.copyStored, State.store_core, State.addXferBytes, State.openItem, State.modXf, State.modXf, State.core_modCore_ne _ _ hk,
    State.core_modCore_ne _ _ hk]

theorem State.copyStored_core : (s.copyStored core x a bs).core core = { s.core core with xf := { (s.core core).xf with
    open_ := ((s.core core).xf.open_ ++ [x]).map (fun y => if y.id = x.id then y.wrote bs.length else y),
    nextId := (s.core core).xf.nextId + 1 } } := by
  rw [State.copyStored, State.store_core, State.addXferBytes, State.openItem, State.modXf, State.modXf, State.core_modCore_self,
    State.core_modCore_self]
  rfl

theorem State.copyStored_counters (k : Nat) : ((s.copyStored core x a bs).core k).counters = (s.core k).counters := by
  by_cases hk : k = core
  · rw [hk, State.copyStored_core]
  · rw [State.copyStored_core_ne _ _ _ _ _ hk]

theorem State.copyStored_queue (q : Nat) : (s.copyStored core x a bs).queue core q = s.queue core q := by
  rw [State.queue, State.copyStored_core]; rfl

/-- The item of a COPY stands behind the older ones. -/
theorem State.copyStored_open (hids : ∀ y ∈ (s.core core).xf.open_, y.id ≠ x.id) :
    ((s.copyStored core x a bs).core core).xf.open_ = (s.core core).xf.open_ ++ [x.wrote bs.length] := by
  have hold : (s.core core).xf.open_.map (fun y => if y.id = x.id then y.wrote bs.length else y) = (s.core core).xf.open_ :=
    (List.map_congr_left fun y hy => if_neg (hids y hy)).trans (List.map_id _)
  rw [State.copyStored_core]
  dsimp only
  rw [List.map_append, hold, List.map_singleton, if_pos rfl]

end

theorem State.countDest_mem (s : State) (d : XDesc) : (s.countDest d).mem = s.mem := by
  unfold State.countDest State.when; split <;> rfl

@[simp] theorem State.advance_xf (s : State) (c n inc k : Nat) : ((s.advance c n inc).core k).xf = (s.core k).xf := by
  by_cases hk : k = c
  · rw [hk, State.advance, State.core_modCore_self]; rfl
  · rw [State.advance, State.core_modCore_ne _ _ hk]

theorem State.countDest_off {d : XDesc} (h : d.dctrEn = false) (s : State) : s.countDest d = s := by
  rw [State.countDest, h]; rfl

/-- With DCTR_EN the destination counter advances. -/
theorem State.countDest_value (s : State) (d : XDesc) (c n : Nat) : (((s.countDest d).core c).counters.at n).value =
    ((s.core c).counters.at n).value + if d.dctrEn = true ∧ (c, n) = (addrCore d.dst, d.dctr) then BitVec.ofNat 32 d.increment else 0 := by
  cases he : d.dctrEn with
  | false => rw [State.countDest_off he]; simp
  | true => rw [State.countDest, he]; simp [State.when, State.advance_value]

theorem State.countDest_xf (s : State) (d : XDesc) (k : Nat) : ((s.countDest d).core k).xf = (s.core k).xf := by
  unfold State.countDest State.when; split
  · exact s.advance_xf _ _ _ k
  · rfl

theorem State.countDest_queue (s : State) (d : XDesc) (k j : Nat) : (s.countDest d).queue k j = s.queue k j := by
  unfold State.countDest State.when; split
  · exact s.advance_queue _ _ _ k j
  · rfl

/-- An item that ends Done leaves the queues of its core, and every counter but its own. -/
theorem State.endOpen_done_frame {s : State} {core id : Nat} {x : Xfer} (hx : s.findXfer core id = some x) :
    (∀ q, (s.endOpen core id 0).queue core q = s.queue core q) ∧
    ((s.endOpen core id 0).core core).xf.open_ = (s.core core).xf.open_.filter (fun y => y.id != id) ∧
    ∀ c n, (c, n) ≠ (core, x.counter) → ((s.endOpen core id 0).core c).counters.at n = (s.core c).counters.at n := by
  obtain ⟨hcore, honly⟩ := State.endOpen_done hx
  obtain ⟨-, -, hrest, -⟩ := State.endOpen_done_spec hx
  refine ⟨fun q => ?_, ?_, fun c n hcn => ?_⟩
  · rw [State.queue, hcore]; rfl
  · rw [hcore]; rfl
  · by_cases hc : c = core
    · subst hc
      exact hrest n (fun hn => hcn (by rw [hn]))
    · rw [honly.1 c hc]

/-- The state in which a COPY's item has ended Done. -/
def State.copyDone (s : State) (core : Nat) (x : Xfer) (d : XDesc) (bs : List Byte) : State :=
  ((s.copyStored core x d.dst bs).countDest d).endOpen core x.id 0

section
variable {s : State} {core : Nat} {x : Xfer} (hids : ∀ y ∈ (s.core core).xf.open_, y.id ≠ x.id) (d : XDesc) (bs : List Byte)
include hids

theorem State.countDest_findXfer : ((s.copyStored core x d.dst bs).countDest d).findXfer core x.id = some (x.wrote bs.length) := by
  rw [State.findXfer, State.countDest_xf, s.copyStored_open core x d.dst bs hids, List.find?_append,
    List.find?_eq_none.2 (fun y hy => by simpa using hids y hy)]
  simp [Xfer.wrote]

theorem State.copyDone_byte (k : Nat) : (s.copyDone core x d bs).mem.byte k =
    if d.dst ≤ k ∧ k < d.dst + bs.length then bs.getD (k - d.dst) 0 else s.mem.byte k := by
  obtain ⟨-, honly⟩ := State.endOpen_done (State.countDest_findXfer hids d bs)
  rw [State.copyDone, honly.2, State.countDest_mem, State.copyStored_byte]

/-- The older items stay open. -/
theorem State.copyDone_open : ((s.copyDone core x d bs).core core).xf.open_ = (s.core core).xf.open_ := by
  obtain ⟨-, hopen, -⟩ := State.endOpen_done_frame (State.countDest_findXfer hids d bs)
  rw [State.copyDone, hopen, State.countDest_xf, s.copyStored_open core x d.dst bs hids, List.filter_append,
    List.filter_eq_self.2 (fun y hy => by simpa using hids y hy)]
  simp [Xfer.wrote]

theorem State.copyDone_queue (q : Nat) : (s.copyDone core x d bs).queue core q = s.queue core q := by
  obtain ⟨hqueue, -, -⟩ := State.endOpen_done_frame (State.countDest_findXfer hids d bs)
  rw [State.copyDone, hqueue, State.countDest_queue, State.copyStored_queue]

theorem State.copyDone_counter_ne {c n : Nat} (hcn : (c, n) ≠ (core, x.counter)) :
    ((s.copyDone core x d bs).core c).counters.at n = (((s.copyStored core x d.dst bs).countDest d).core c).counters.at n := by
  obtain ⟨-, -, hrest⟩ := State.endOpen_done_frame (State.countDest_findXfer hids d bs)
  exact hrest c n hcn

/-- The item's counter advances, unless it is the destination counter as well. -/
theorem State.copyDone_counter (hne : d.dctrEn = true → (core, x.counter) ≠ (addrCore d.dst, d.dctr)) :
    (((s.copyDone core x d bs).core core).counters.at x.counter).value =
      ((s.core core).counters.at x.counter).value + BitVec.ofNat 32 x.increment := by
  obtain ⟨-, hvalue, -⟩ := State.endOpen_done_spec (State.countDest_findXfer hids d bs)
  refine hvalue.trans ?_
  rw [State.countDest_value, if_neg (fun h => hne h.1 h.2), add_zero, State.copyStored_counters]
  rfl

end

/-! ## COPY issues (R389, R391) -/

section
variable {s : State} {core q : Nat} {d : XDesc} (hfmt : d.srcFmt = d.dstFmt) (herr : d.errEn = false) (hnode : d.node = 0xFFFF)
  (hdst : addrSpace d.dst ≤ 2) (hclean : Safety.Clean s) (hrun : s.destResetting d.dst = false)
include hfmt herr hnode hdst hclean hrun

/-- Bytes that need no conversion are stored at the destination, and the item ends Done. -/
theorem State.copyOut_plain (id : Nat) (bs : List Byte) :
    s.copyOut core id d bs = (((s.addXferBytes core id bs.length).store (d.dst, bs)).countDest d).endOpen core id 0 := by
  have hlocal (z : State) : ¬ d.remote z = true := by rw [XDesc.remote, hnode]; exact Bool.false_ne_true
  have hgate : inGateArea d.dst 1 = false := by simp [inGateArea, show addrSpace d.dst ≠ 5 by omega]
  have hrun' : ¬ (s.addXferBytes core id bs.length).destResetting d.dst = true := by
    rw [show (s.addXferBytes core id bs.length).destResetting d.dst = s.destResetting d.dst from rfl, hrun]; decide
  have hwrites : (s.addXferBytes core id bs.length).writeAll [(d.dst, bs)] = ((s.addXferBytes core id bs.length).store (d.dst, bs), 0) := by
    rw [State.writeAll, State.writeMem_of_clean (s := s.addXferBytes core id bs.length) hclean]
    rfl
  have herrs (z : State) : z.writeErrors core d [] = (z, 0) := by rw [State.writeErrors, herr]; rfl
  rw [State.copyOut, State.produce, if_pos hfmt]
  simp only [List.map_cons, List.map_nil, List.sum_cons, List.sum_nil, Nat.add_zero, herrs]
  refine (if_neg (hlocal _)).trans ((if_neg (by omega)).trans ((if_neg hrun').trans ?_))
  rw [hwrites]
  simp only [if_true]
  unfold State.finishLocal
  rw [hgate]
  rfl

/-- A COPY that passes its checks and converts nothing stores its source's bytes and ends Done. -/
theorem State.actCopy_plain {w : Nat} (hd : d = XDesc.ofNat w) (hok : s.copyOk core d = true) (hsrc : addrSpace d.src ≤ 2)
    (hsrcRun : s.destResetting d.src = false) :
    s.actCopy core q w = s.copyDone core (s.copyItem core q w d) d (s.peek d.src (64 * d.len)) := by
  have hkind : (if (addrSpace d.src = 3 || addrSpace d.dst = 3) = true then XferKind.pool else .remote) = .remote :=
    if_neg (by simp only [Bool.or_eq_true, decide_eq_true_eq]; omega)
  have hread : (s.openItem core (s.copyItem core q w d)).readMem d.src (64 * d.len) =
      (s.openItem core (s.copyItem core q w d), .ok (s.peek d.src (64 * d.len))) :=
    State.readMem_of_clean (s := s.openItem core (s.copyItem core q w d)) hclean _ _
  have hlens (z : State) : ((z.copyLens core d).map (·.1)).getD 0 = 64 * d.len := by rw [State.copyLens, if_pos hfmt]; rfl
  have hpool (z : State) (n : Nat) : ¬ z.poolBlocked d.src n = true := by simp [State.poolBlocked, show addrSpace d.src ≠ 3 by omega]
  have hlocal : ¬ (!d.remote (s.openItem core (s.copyItem core q w d)) && ((s.openItem core (s.copyItem core q w d)).destResetting d.dst ||
      (s.openItem core (s.copyItem core q w d)).destResetting d.src)) = true := by
    rw [show (s.openItem core (s.copyItem core q w d)).destResetting = s.destResetting from rfl, hrun, hsrcRun]
    simp
  have hup : ¬ (s.openItem core (s.copyItem core q w d)).destResetting d.src = true := by
    rw [show (s.openItem core (s.copyItem core q w d)).destResetting = s.destResetting from rfl, hsrcRun]
    decide
  have hout := State.copyOut_plain (s := s.openItem core (s.copyItem core q w d)) (core := core) hfmt herr hnode hdst hclean hrun
    (s.copyItem core q w d).id (s.peek d.src (64 * d.len))
  have hopen : s.openXfer core { kind := .remote, op := 1, queue := q, entry := (s.queue core q).pos - 1, counter := d.counter,
                                 increment := d.increment, desc := BitVec.ofNat 256 w } =
      (s.openItem core (s.copyItem core q w d), (s.copyItem core q w d).id) := rfl
  rw [State.actCopy, ← hd]
  dsimp only
  rw [hkind, hok, if_neg (by decide), hopen]
  dsimp only
  rw [if_neg hlocal, if_neg hup, if_neg (hpool _ _), if_neg (by omega), hlens, hread]
  exact hout

end

theorem exec_copy {s t u : State} {core q : Nat} {e : Entry} {bs : List Byte} {d : XDesc} (h : Safety.Ready s core q t e) (hk : e.kind = 4)
    (hread : t.readOwn core e.addr 32 1 = (u, .ok bs)) (hd : d = XDesc.ofNat (leNat bs)) (ho : d.op = 0x01) :
    exec (.copy core q) s = .next ((u.goNext core q).actCopy core q (leNat bs)) := by
  change Host.Outcome.next (s.issueXfer core q 0x01 _) = _
  rw [State.issueXfer_read h hk hread hd ho]

/-- Settles O21: the entry acts as one store of the source's bytes, then DCTR and the end of its item. -/
theorem copyMovesBytes : Obligations.CopyMovesBytes := by
  intro s t core q e bs d hinv h hk hread hd ho hok hfmt herr hnode hsrc hdst hw hl hch hsrcRun hrun hids
  have hmem : (t.goNext core q).mem = s.mem := (OnlyCore.issued h hread).2
  have hsame (c : Nat) : ((t.goNext core q).core c).counters = (t.core c).counters := by
    by_cases hc : c = core
    · rw [hc, State.goNext_counters]
    · rw [(OnlyCore.goNext core q t).1 c hc]
  have hids' : ∀ y ∈ ((t.goNext core q).core core).xf.open_, y.id ≠ ((t.goNext core q).copyItem core q (leNat bs) d).id := by
    rw [State.copyItem, State.goNext_xf]
    exact fun y hy => Nat.ne_of_lt (hids y hy)
  have hact := State.actCopy_plain (s := t.goNext core q) (core := core) (q := q) hfmt herr hnode hdst ⟨hw, hl, hch⟩ hrun hd hok hsrc hsrcRun
  refine ⟨_, (exec_copy h hk hread hd ho).trans (congrArg _ hact), fun a => ?_, ?_, ?_, fun hoff => ⟨?_, fun c n hcn => ?_⟩,
    fun hon hne => ⟨?_, ?_⟩⟩
  · rw [State.copyDone_byte hids', State.peek_length, hmem]
    split
    · rw [State.peek, Memory.read_getD (by rw [hmem]; exact hinv) (by omega), hmem]
    · rfl
  · rw [State.copyDone_open hids', State.goNext_xf]
  · rw [State.copyDone_queue hids', State.goNext_pos]
  · rw [← hsame core]
    exact State.copyDone_counter hids' d _ (fun h => absurd h (by rw [hoff]; decide))
  · rw [State.copyDone_counter_ne hids' d _ hcn, State.countDest_off hoff, State.copyStored_counters, hsame]
  · rw [← hsame core]
    exact State.copyDone_counter hids' d _ (fun _ => hne)
  · rw [State.copyDone_counter_ne hids' d _ hne.symm, State.countDest_value, if_pos ⟨hon, rfl⟩, State.copyStored_counters, hsame]

end Sys2Proof.Machine
end

section
/-! PROOFS. Packets that arrive (O29): what packets that leave keep of those received, and a WRITE at its destination. -/

namespace Sys2Proof.Machine

open Sys2Proof

/-! ## Packets that leave keep those received (R410 to R418) -/

/-- What no packet that leaves changes: the open transfers, the newest epochs accepted, and the packets received at each port. -/
def Torus.arrivals (t : Torus) : List OpenIn × Tab Nat × (Nat → List Packet) := (t.openIn, t.rxEpoch, fun p => (t.port p).inbox)

theorem Torus.port_modPort_self (t : Torus) (p : Nat) (f : Port → Port) : (t.modPort p f).port p = f (t.port p) := Tab.at_upd_self _ _ _
theorem Torus.port_modPort_ne (t : Torus) {p k : Nat} (f : Port → Port) (h : k ≠ p) : (t.modPort p f).port k = t.port k := Tab.at_upd_ne _ _ h

theorem Torus.modPort_arrivals (t : Torus) (p : Nat) {f : Port → Port} (h : (f (t.port p)).inbox = (t.port p).inbox) :
    (t.modPort p f).arrivals = t.arrivals := by
  refine congrArg (fun g => (t.openIn, t.rxEpoch, g)) (funext fun k => ?_)
  by_cases hk : k = p
  · rw [hk, Torus.port_modPort_self, h]
  · rw [t.port_modPort_ne f hk]

theorem Torus.emit_arrivals (t : Torus) (p : Nat) (bytes : List Byte) : (t.emit p bytes).arrivals = t.arrivals :=
  (Torus.modPort_arrivals _ p rfl).trans rfl

theorem Port.told_inbox (x : Port) : x.told.inbox = x.inbox := by rw [Port.told]

theorem Torus.sendIdle_arrivals (t : Torus) (p : Nat) : (t.sendIdle p).arrivals = t.arrivals := by
  unfold Torus.sendIdle
  rw [Torus.emit_arrivals]
  exact t.modPort_arrivals p (Port.told_inbox _)

theorem Torus.sendFrame_arrivals (t : Torus) (p : Nat) (tc0 : Bool) (payload : List Byte) :
    (t.sendFrame p tc0 payload).arrivals = t.arrivals := by
  unfold Torus.sendFrame
  dsimp only
  rw [Torus.emit_arrivals]
  exact t.modPort_arrivals p (by dsimp only; exact Port.told_inbox _)

theorem Torus.sendPacket_arrivals (t : Torus) (p : Nat) (k : Packet) : (t.sendPacket p k).arrivals = t.arrivals :=
  (foldl_keeps Torus.arrivals _ (fun u _ => u.sendFrame_arrivals p _ _) _ _).trans (t.modPort_arrivals p rfl)

theorem Torus.launch_arrivals (t : Torus) (c : TxCtx) (port : Nat) (k : Packet) : (t.launch c port k).arrivals = t.arrivals :=
  (show (t.launch c port k).arrivals = (t.sendPacket port k).arrivals from rfl).trans (t.sendPacket_arrivals port k)

/-- A turn of the output queue leaves what the port has received. -/
theorem pickPacket_inbox {quantum : Nat → Nat} {turns : Nat} {x y : Port} {p : Packet} (h : pickPacket quantum turns x = some (p, y)) :
    y.inbox = x.inbox := by
  induction turns generalizing x with
  | zero => cases h
  | succ turns ih =>
    rw [pickPacket] at h
    split at h
    · cases h; rfl
    · dsimp only at h
      split at h
      · split at h
        · cases h; rfl
        · exact (ih h).trans rfl
      · exact (ih h).trans rfl

theorem Torus.drain_arrivals (c : TxCtx) (port fuel : Nat) (t : Torus) : (Torus.drain c port fuel t).arrivals = t.arrivals := by
  induction fuel generalizing t with
  | zero => rfl
  | succ fuel ih =>
    rw [Torus.drain]; split
    · rfl
    · split
      · rfl
      · next hpick => exact (ih _).trans ((Torus.launch_arrivals _ _ _ _).trans (t.modPort_arrivals port (by dsimp only; exact pickPacket_inbox hpick)))

theorem Torus.run_arrivals (t : Torus) (c : TxCtx) (port : Nat) : (t.run c port).arrivals = t.arrivals := by
  have hdrain := Torus.drain_arrivals c port ((t.port port).waiting.length + 1) t
  unfold Torus.run
  generalize Torus.drain _ _ _ _ = u at hdrain ⊢
  dsimp only; split
  · exact (u.sendIdle_arrivals port).trans hdrain
  · exact hdrain

theorem Torus.tx_arrivals (t : Torus) (c : TxCtx) (port : Nat) (k : Packet) : (t.tx c port k).arrivals = t.arrivals := by
  unfold Torus.tx; split
  · exact t.modPort_arrivals port rfl
  · exact (Torus.run_arrivals _ _ _).trans (t.modPort_arrivals port rfl)

theorem State.forward_arrivals (s : State) (arrived : Option Nat) (p : Packet) : (s.forward arrived p).torus.arrivals = s.torus.arrivals := by
  unfold State.forward; split
  · rfl
  · exact Torus.tx_arrivals _ _ _ _

theorem State.openIn_of_arrivals {s t : State} (h : t.torus.arrivals = s.torus.arrivals) : t.torus.openIn = s.torus.openIn :=
  (congrArg Prod.fst h :)
theorem State.inbox_of_arrivals {s t : State} (h : t.torus.arrivals = s.torus.arrivals) (k : Nat) : (t.port k).inbox = (s.port k).inbox :=
  (congrFun (congrArg (fun a => a.2.2) h) k :)

/-! ## Answers to a packet (R424, R429) -/

section
variable (s : State)

theorem State.knowPath_keeps (dst : Nat) : s.Sends (s.knowPath dst) ∧ (s.knowPath dst).torus.arrivals = s.torus.arrivals := by
  unfold State.knowPath; split <;> exact ⟨rfl, rfl⟩

theorem State.sendProtocol_keeps (p : Packet) : s.Sends (s.sendProtocol p) ∧ (s.sendProtocol p).torus.arrivals = s.torus.arrivals := by
  obtain ⟨hsends, harrivals⟩ := s.knowPath_keeps p.dst
  unfold State.sendProtocol
  generalize s.knowPath p.dst = t at hsends harrivals ⊢
  dsimp only
  split
  · exact ⟨hsends, harrivals⟩
  · split
    · exact ⟨hsends.trans rfl, harrivals⟩
    · exact ⟨hsends.trans (t.sends_forward none _), (t.forward_arrivals none _).trans harrivals⟩

theorem State.reply_keeps (p : Packet) (kind : Nat) (cause : Cause) :
    s.Sends (s.reply p kind cause) ∧ (s.reply p kind cause).torus.arrivals = s.torus.arrivals := s.sendProtocol_keeps _

theorem State.sends_failIn (o : OpenIn) (p : Packet) (cause : Cause) : s.Sends (s.failIn o p cause) := by
  unfold State.failIn
  refine State.Sends.trans ?_ (State.reply_keeps _ _ _ _).1
  split <;> rfl

end

/-! ## A packet leaves its inbox (R416, R436) -/

/-- The state in which a packet that has left its inbox acts. -/
def State.taken (s : State) (port : Nat) (p : Packet) : State := (s.popPacket port p).noteEpoch p

section
variable (s : State) (port : Nat) (p : Packet)

theorem State.popPacket_arrivals : (s.popPacket port p).torus.arrivals =
    (s.torus.openIn, s.torus.rxEpoch, fun k => if k = port then (s.port port).inbox.erase p else (s.port k).inbox) := by
  unfold State.popPacket State.runPort
  dsimp only
  rw [Torus.run_arrivals]
  refine congrArg (fun g => (s.torus.openIn, s.torus.rxEpoch, g)) (funext fun k => ?_)
  split
  · next hk => rw [hk, State.modPort, Torus.port_modPort_self]; rfl
  · next hk => rw [State.modPort, Torus.port_modPort_ne _ _ hk]; rfl

theorem State.popPacket_rxEpoch : (s.popPacket port p).torus.rxEpoch = s.torus.rxEpoch := congrArg (fun a => a.2.1) (s.popPacket_arrivals port p)

theorem State.sends_runPort : s.Sends (s.runPort port) := by
  unfold State.Sends State.runPort
  dsimp only

theorem State.sends_popPacket : s.Sends (s.popPacket port p) := by
  have hmod (f : Port → Port) : s.Sends (s.modPort port f) := rfl
  unfold State.popPacket
  exact (hmod _).trans (State.sends_runPort _ port)

theorem State.sends_noteEpoch : s.Sends (s.noteEpoch p) := by
  unfold State.noteEpoch; split <;> rfl

theorem State.noteEpoch_openIn : (s.noteEpoch p).torus.openIn = s.torus.openIn := by
  unfold State.noteEpoch; split <;> rfl

theorem State.noteEpoch_port (k : Nat) : (s.noteEpoch p).port k = s.port k := by
  unfold State.noteEpoch; split <;> rfl

theorem State.sends_taken : s.Sends (s.taken port p) := (s.sends_popPacket port p).trans (State.sends_noteEpoch _ p)

theorem State.taken_openIn : (s.taken port p).torus.openIn = s.torus.openIn := by
  rw [State.taken, State.noteEpoch_openIn]
  exact (congrArg Prod.fst (s.popPacket_arrivals port p) :)

theorem State.taken_inbox : ((s.taken port p).port port).inbox = (s.port port).inbox.erase p := by
  rw [State.taken, State.noteEpoch_port]
  exact ((congrFun (congrArg (fun a => a.2.2) (s.popPacket_arrivals port p)) port :).trans (if_pos rfl) :)

end

/-! ## WRITE (R391, R424) -/

theorem destCores_sram {a : Nat} (h : addrSpace a = 0) : destCores a 0 = [addrCore a] := by
  rw [destCores, if_pos h]; rfl

/-- The entry of a transfer whose first packet holds bytes. -/
def State.firstEntry (s : State) (edge : Nat) (p : Packet) : OpenIn :=
  { edge := edge, src := p.src, tag := p.tag, epoch := p.epoch, got := p.data.length, lastAt := s.now }

section
variable {s : State} {port edge : Nat} {p : Packet}

theorem exec_write (hfirst : firstOf 1 [] (s.port port).inbox = some p) (hroom : s.entryRoom (portEdge port) p = true)
    (hepoch : s.torus.rxEpoch.at p.src = 0) : exec (.write port) s = .next ((s.taken port p).takeWrite (portEdge port) p) := by
  have hnewest : (s.popPacket port p).olderEpoch p = false := by
    rw [State.olderEpoch, State.popPacket_rxEpoch, hepoch]
    simp
  change execWrite port s = _
  rw [execWrite, hfirst]
  dsimp only
  rw [if_pos hroom, State.takePacket, hfirst]
  dsimp only
  rw [hnewest]
  rfl

variable (hnone : ∀ o ∈ s.torus.openIn, o.src ≠ p.src)
include hnone

theorem State.dropEntry_fresh {o : OpenIn} (ho : o.src = p.src) : s.dropEntry o = s := by
  have hkept : s.torus.openIn.filter (fun x => !(x.edge == o.edge && x.src == o.src && x.tag == o.tag)) = s.torus.openIn := by
    refine List.filter_eq_self.2 fun x hx => ?_
    simp [ho, hnone x hx]
  change { s with torus := { s.torus with openIn := _ } } = s
  rw [hkept]

theorem State.openEntry_fresh : s.openEntry edge p = { edge := edge, src := p.src, tag := p.tag, epoch := p.epoch } := by
  rw [State.openEntry, List.find?_eq_none.2 (fun o ho => by simp [hnone o ho])]
  rfl

variable (hcopies : p.copiesM1 = 0) (hspace : addrSpace p.dstAddr = 0)
include hcopies

theorem State.takeWrite_rejected (hdest : s.destOk p.dstAddr 0 p.data.length = false) :
    ∃ o, s.takeWrite edge p = s.failIn o p Cause.planReject := by
  refine ⟨s.firstEntry edge p, ?_⟩
  rw [State.takeWrite, State.openEntry_fresh hnone, hcopies]
  dsimp only
  rw [if_neg (by decide), if_pos (by rw [hdest]; rfl), Nat.zero_add]
  rfl

include hspace

theorem State.takeWrite_whole (hdest : s.destOk p.dstAddr 0 p.data.length = true) (hrun : s.dieRunning (coreDie (addrCore p.dstAddr)) = true)
    (hwhole : p.total ≤ p.data.length) (hwords : s.tiers.wordErrs = []) (haddr : sramAddr (addrCore p.dstAddr) (sramOff p.dstAddr) = p.dstAddr) :
    s.takeWrite edge p = (s.store (p.dstAddr, p.data)).completeIn (s.firstEntry edge p) p := by
  have hcores := destCores_sram hspace
  have haddrs : destAddrs p.dstAddr 0 = [p.dstAddr] := by
    rw [destAddrs, if_pos hspace, hcores, List.map_singleton, haddr]
  have hwrites : s.writeAll [(p.dstAddr, p.data)] = (s.store (p.dstAddr, p.data), 0) :=
    State.writeAll_stores hwords (by simpa using hspace)
  rw [State.takeWrite, State.openEntry_fresh hnone, hcopies]
  dsimp only
  rw [if_neg (by decide), if_neg (by rw [hdest]; decide), hcores, if_neg (by simp [hrun]), haddrs, List.map_singleton, hwrites, Nat.zero_add]
  exact if_pos hwhole

end

/-- With DCTR_EN the destination counter of a core advances, and a bundle is counted (08_experts R287). -/
def State.countIn (s : State) (p : Packet) (core : Nat) : State :=
  (s.when p.dctrEn (·.advance core p.dctr p.increment)).when (p.dctrEn && p.tc = 1) (·.bundleIn core)

section
variable (s : State) (p : Packet) (core : Nat)

theorem State.onlyCores_countIn : s.OnlyCores (s.countIn p core) := by
  unfold State.countIn State.when
  split <;> split <;> rfl

theorem State.countIn_off (h : p.dctrEn = false) : s.countIn p core = s := by
  rw [State.countIn, h]; rfl

theorem State.bundleIn_counters : ((s.bundleIn core).core core).counters = (s.core core).counters := by
  rw [State.bundleIn, State.core_modCore_self]

theorem State.countIn_value (h : p.dctrEn = true) : (((s.countIn p core).core core).counters.at p.dctr).value =
    ((s.core core).counters.at p.dctr).value + BitVec.ofNat 32 p.increment := by
  have hadv := s.advance_value core p.dctr p.increment core p.dctr
  rw [if_pos rfl] at hadv
  rw [State.countIn, h]
  unfold State.when
  rw [if_pos rfl]
  split
  · rw [State.bundleIn_counters, hadv]
  · exact hadv

end

/-- What a core counts depends on the cores alone. -/
theorem State.countIn_cores {s t : State} (h : t.cores = s.cores) (p : Packet) (core : Nat) : (t.countIn p core).cores = (s.countIn p core).cores := by
  have hmod {s t : State} (h : t.cores = s.cores) (f : CoreSt → CoreSt) : (t.modCore core f).cores = (s.modCore core f).cores := by
    rw [State.modCore, State.modCore, State.setCore, State.setCore, State.core, State.core, h]
  unfold State.countIn State.when
  split <;> split
  · exact hmod (hmod h _) _
  · exact hmod h _
  · exact hmod h _
  · exact h

/-- A transfer into the SRAM of one core is complete: the core counts it and an answer leaves. -/
theorem State.completeIn_spec {s : State} {o : OpenIn} {p : Packet} (hnone : ∀ x ∈ s.torus.openIn, x.src ≠ p.src) (ho : o.src = p.src)
    (hcopies : p.copiesM1 = 0) (hspace : addrSpace p.dstAddr = 0) :
    (s.completeIn o p).cores = (s.countIn p (addrCore p.dstAddr)).cores ∧ (s.completeIn o p).mem = s.mem ∧
      (s.completeIn o p).torus.arrivals = s.torus.arrivals := by
  have hcount := s.onlyCores_countIn p (addrCore p.dstAddr)
  have htorus : (s.countIn p (addrCore p.dstAddr)).torus = s.torus := (congrArg State.torus hcount :)
  have hmem : (s.countIn p (addrCore p.dstAddr)).mem = s.mem := (congrArg State.mem hcount :)
  have hend : s.completeIn o p = (s.countIn p (addrCore p.dstAddr)).reply p 2 0 := by
    rw [State.completeIn, hcopies, destCores_sram hspace]
    change ((s.countIn p (addrCore p.dstAddr)).dropEntry o).reply p 2 0 = _
    rw [State.dropEntry_fresh (by rw [htorus]; exact hnone) ho]
  obtain ⟨hsends, harrivals⟩ := (s.countIn p (addrCore p.dstAddr)).reply_keeps p 2 0
  rw [hend]
  exact ⟨(congrArg State.cores hsends :), (congrArg State.mem hsends :).trans hmem, harrivals.trans (by rw [htorus])⟩

/-! ## OPEN_TRANSFER_TIMEOUT (R425) -/

theorem exec_openTransferTimeout {s : State} {edge src tag : Nat} {o : OpenIn}
    (h : s.torus.openIn.find? (fun o => o.edge == edge && o.src == src && o.tag == tag) = some o) (hlate : o.lastAt + s.img.fabricTimeout < s.now) :
    exec (.openTransferTimeout edge src tag) s = .next (s.dropEntry o) := by
  change execOpenTransferTimeout edge src tag s = _
  rw [execOpenTransferTimeout, h]
  exact congrArg _ (if_pos hlate)

/-- An entry dropped is the one of its edge, source and tag. -/
theorem State.mem_dropEntry {s : State} {o x : OpenIn} :
    x ∈ (s.dropEntry o).torus.openIn ↔ x ∈ s.torus.openIn ∧ (x.edge, x.src, x.tag) ≠ (o.edge, o.src, o.tag) := by
  change x ∈ s.torus.openIn.filter _ ↔ _
  rw [List.mem_filter]
  refine and_congr_right fun _ => ?_
  rw [Bool.not_eq_true', Bool.eq_false_iff]
  refine not_congr ?_
  simp [and_assoc]

section
variable {s z : State} {p : Packet} (htaken : s.Sends z) (hnone : ∀ o ∈ z.torus.openIn, o.src ≠ p.src) (hcopies : p.copiesM1 = 0)
  (hspace : addrSpace p.dstAddr = 0)
include htaken hnone hcopies hspace

/-- What a whole WRITE into the SRAM of a running core leaves. -/
theorem takeWrite_whole_spec (hdest : s.destOk p.dstAddr 0 p.data.length = true) (hrun : s.dieRunning (coreDie (addrCore p.dstAddr)) = true)
    (hwhole : p.total ≤ p.data.length) (hwords : s.tiers.wordErrs = []) (haddr : sramAddr (addrCore p.dstAddr) (sramOff p.dstAddr) = p.dstAddr)
    (edge : Nat) :
    (∀ a, (z.takeWrite edge p).mem.byte a = if p.dstAddr ≤ a ∧ a < p.dstAddr + p.data.length then p.data.getD (a - p.dstAddr) 0 else s.mem.byte a) ∧
      (z.takeWrite edge p).torus.arrivals = z.torus.arrivals ∧
      (z.takeWrite edge p).cores = (s.countIn p (addrCore p.dstAddr)).cores := by
  have hdest' : z.destOk p.dstAddr 0 p.data.length = true := by rw [htaken]; exact hdest
  have hrun' : z.dieRunning (coreDie (addrCore p.dstAddr)) = true := by rw [htaken]; exact hrun
  have hwords' : z.tiers.wordErrs = [] := by rw [htaken]; exact hwords
  have hmem : z.mem = s.mem := (congrArg State.mem htaken :)
  have hstore := z.store_eq (p.dstAddr, p.data)
  have htorus : (z.store (p.dstAddr, p.data)).torus = z.torus := (congrArg State.torus hstore :)
  have hcores : (z.store (p.dstAddr, p.data)).cores = s.cores := (congrArg State.cores hstore :).trans (congrArg State.cores htaken :)
  obtain ⟨hcount, hkept, harrivals⟩ := State.completeIn_spec (s := z.store (p.dstAddr, p.data)) (o := z.firstEntry edge p)
    (by rw [htorus]; exact hnone) rfl hcopies hspace
  rw [State.takeWrite_whole hnone hcopies hspace hdest' hrun' hwhole hwords' haddr]
  refine ⟨fun a => ?_, by rw [harrivals, htorus], hcount.trans (State.countIn_cores hcores p _)⟩
  rw [hkept, State.store_byte, hmem]

end

/-- Settles O29: the packet leaves its inbox, and its bytes are stored and counted or refused; what packets leave keeps those received. -/
theorem writesArrive : Obligations.WritesArrive := by
  refine ⟨fun s port p hfirst hroom hepoch hnone hcopies hspace => ?_, fun s edge src tag o hfind hlate => ?_⟩
  · have hexec := exec_write hfirst hroom hepoch
    have htaken := s.sends_taken port p
    have hopen := s.taken_openIn port p
    have hinbox := s.taken_inbox port p
    generalize s.taken port p = z at *
    have hnone' : ∀ o ∈ z.torus.openIn, o.src ≠ p.src := by rw [hopen]; exact hnone
    refine ⟨fun hdest hrun hwhole hwords haddr => ?_, fun hdest => ?_⟩
    · obtain ⟨hbyte, harrivals, hcores⟩ := takeWrite_whole_spec htaken hnone' hcopies hspace hdest hrun hwhole hwords haddr (portEdge port)
      refine ⟨_, hexec, hbyte, (State.openIn_of_arrivals harrivals).trans hopen, fun hon => ?_, fun hoff => ?_,
        (State.inbox_of_arrivals harrivals port).trans hinbox⟩
      · rw [State.core, hcores]
        exact s.countIn_value p _ hon
      · rw [hcores, s.countIn_off p _ hoff]
    · have hrej : z.destOk p.dstAddr 0 p.data.length = false := by rw [htaken]; exact hdest
      obtain ⟨o, ho⟩ := State.takeWrite_rejected (edge := portEdge port) hnone' hcopies hrej
      have hsends := htaken.trans (z.sends_failIn o p Cause.planReject)
      exact ⟨_, hexec.trans (congrArg Host.Outcome.next ho), (congrArg State.mem hsends :), (congrArg State.cores hsends :)⟩
  · have hkey : o.edge = edge ∧ o.src = src ∧ o.tag = tag := by
      have := List.find?_some hfind
      simpa [and_assoc] using this
    obtain ⟨rfl, rfl, rfl⟩ := hkey
    exact ⟨_, exec_openTransferTimeout hfind hlate, fun x => State.mem_dropEntry, rfl, rfl⟩

end Sys2Proof.Machine
end

section
/-! PROOFS. What a port that sends leaves of itself and of the torus (O25 to O28, O30, O31). -/

namespace Sys2Proof.Machine

open Sys2Proof

@[simp] theorem State.port_modPort_self (s : State) (p : Nat) (f : Port → Port) : (s.modPort p f).port p = f (s.port p) :=
  Torus.port_modPort_self _ _ _
theorem State.port_modPort_ne (s : State) {p k : Nat} (f : Port → Port) (h : k ≠ p) : (s.modPort p f).port k = s.port k :=
  Torus.port_modPort_ne _ _ h

/-! ## One port sends (R408 to R418) -/

/-- A port without what sending uses up: frame numbers, replay buffer, credits, its queue and what its link slot tells. -/
def Port.steady (x : Port) : Port :=
  { x with txSeq := 0, replay := [], credits := [], owed := [], laneCmd := none, toldAck := 0, toldNak := false, txBlock := 0, waiting := [],
           deficits := [], turn := 0, badPkt := 0 }

/-- What a steady port shows is the port's. -/
theorem Port.of_steady {α : Type} (g : Port → α) (hg : ∀ x, g x.steady = g x) {x y : Port} (h : y.steady = x.steady) : g y = g x := by
  rw [← hg y, h, hg]

/-- The torus without its ports, its sources and what it has sent. -/
def Torus.rest (t : Torus) : Torus :=
  { t with ports := [], sources := [], sentPackets := [], sentBlocks := [], sentMessages := [] }

/-- Between two tori one port has sent: it is steady and its replay buffer has grown, no other port differs, nor does the rest. -/
structure Torus.Runs (p : Nat) (t u : Torus) : Prop where
  steady : (u.port p).steady = (t.port p).steady
  replay : (t.port p).replay <+: (u.port p).replay
  others : ∀ k, k ≠ p → u.port k = t.port k
  rest : u.rest = t.rest

section
variable {p : Nat} {t u v : Torus}

theorem Torus.Runs.refl (p : Nat) (t : Torus) : t.Runs p t := ⟨rfl, List.prefix_refl _, fun _ _ => rfl, rfl⟩

theorem Torus.Runs.trans (h : t.Runs p u) (g : u.Runs p v) : t.Runs p v :=
  ⟨g.steady.trans h.steady, h.replay.trans g.replay, fun k hk => (g.others k hk).trans (h.others k hk), g.rest.trans h.rest⟩

theorem Torus.runs_modPort {f : Port → Port} (hsteady : (f (t.port p)).steady = (t.port p).steady)
    (hreplay : (t.port p).replay <+: (f (t.port p)).replay) : t.Runs p (t.modPort p f) := by
  refine ⟨?_, ?_, fun k hk => t.port_modPort_ne f hk, rfl⟩
  · rw [Torus.port_modPort_self, hsteady]
  · rw [Torus.port_modPort_self]
    exact hreplay

theorem Torus.runs_emit (t : Torus) (p : Nat) (bytes : List Byte) : t.Runs p (t.emit p bytes) := by
  have hblock : t.Runs p { t with sentBlocks := t.sentBlocks ++ [(p, fecBlock (t.port p).txBlock (leNat bytes))] } :=
    ⟨rfl, List.prefix_refl _, fun _ _ => rfl, rfl⟩
  exact hblock.trans (Torus.runs_modPort rfl (List.prefix_refl _))

theorem Port.told_steady (x : Port) : x.told.steady = x.steady := by rw [Port.told, Port.steady, Port.steady]

theorem Port.told_replay (x : Port) : x.told.replay = x.replay := by rw [Port.told]

theorem Torus.runs_sendIdle (t : Torus) (p : Nat) : t.Runs p (t.sendIdle p) := by
  unfold Torus.sendIdle
  have htold : t.Runs p (t.modPort p Port.told) := Torus.runs_modPort (Port.told_steady _) (by rw [Port.told_replay])
  exact htold.trans (Torus.runs_emit _ _ _)

theorem Torus.runs_sendFrame (t : Torus) (p : Nat) (tc0 : Bool) (payload : List Byte) : t.Runs p (t.sendFrame p tc0 payload) := by
  have hframe (y : Port) (fs : List HeldFrame) (n : Nat) : ({ y with replay := fs, txSeq := n } : Port).steady = y.steady := rfl
  unfold Torus.sendFrame
  dsimp only
  refine Torus.Runs.trans (Torus.runs_modPort ?_ (List.prefix_append _ _)) (Torus.runs_emit _ _ _)
  exact (hframe _ _ _).trans (Port.told_steady _)

theorem Torus.runs_sendPacket (t : Torus) (p : Nat) (k : Packet) : t.Runs p (t.sendPacket p k) :=
  List.foldlRecOn _ _ (motive := t.Runs p) (Torus.runs_modPort rfl (List.prefix_refl _)) fun _ h _ _ => h.trans (Torus.runs_sendFrame _ _ _ _)

theorem Torus.runs_launch (t : Torus) (c : TxCtx) (p : Nat) (k : Packet) : t.Runs p (t.launch c p k) :=
  (t.runs_sendPacket p k).trans ⟨rfl, List.prefix_refl _, fun _ _ => rfl, rfl⟩

/-- A turn of the output queue picks a packet that waits, and changes only whose turn it is. -/
theorem pickPacket_spec {quantum : Nat → Nat} {turns : Nat} {x y : Port} {k : Packet} (h : pickPacket quantum turns x = some (k, y)) :
    y.steady = x.steady ∧ y.replay = x.replay ∧ y.waiting = x.waiting := by
  induction turns generalizing x with
  | zero => cases h
  | succ turns ih =>
    rw [pickPacket] at h
    split at h
    · cases h; exact ⟨rfl, rfl, rfl⟩
    · dsimp only at h
      split at h
      · split at h
        · cases h; exact ⟨rfl, rfl, rfl⟩
        · have hnext := ih h
          exact hnext
      · have hnext := ih h
        exact hnext

theorem Torus.runs_drain (c : TxCtx) (p fuel : Nat) (t : Torus) : t.Runs p (Torus.drain c p fuel t) := by
  induction fuel generalizing t with
  | zero => exact .refl p t
  | succ fuel ih =>
    rw [Torus.drain]; split
    · exact .refl p t
    · split
      · exact .refl p t
      · next hpick =>
        obtain ⟨hsteady, hreplay, -⟩ := pickPacket_spec hpick
        refine Torus.Runs.trans ?_ (ih _)
        refine Torus.Runs.trans ?_ (Torus.runs_launch _ c p _)
        exact Torus.runs_modPort (Eq.trans (by rfl) hsteady) (by rw [hreplay])

theorem Torus.runs_run (t : Torus) (c : TxCtx) (p : Nat) : t.Runs p (t.run c p) := by
  have hdrain := Torus.runs_drain c p ((t.port p).waiting.length + 1) t
  unfold Torus.run
  generalize Torus.drain _ _ _ _ = u at hdrain ⊢
  dsimp only; split
  · exact hdrain.trans (u.runs_sendIdle p)
  · exact hdrain

/-- A port that sends no frames does not run. -/
theorem Torus.run_still (c : TxCtx) (h : (t.port p).sends = false) : t.run c p = t := by
  have hdrain : Torus.drain c p ((t.port p).waiting.length + 1) t = t := by
    rw [Torus.drain]; exact if_pos (by simp [h])
  unfold Torus.run
  rw [hdrain]
  dsimp only
  exact if_neg (by simp [h])

end

end Sys2Proof.Machine
end

section
/-! PROOFS. What packets sent on, ended transfers and new routes leave of the ports (O25 to O27, O31). -/

namespace Sys2Proof.Machine

open Sys2Proof

/-! ## Every port while packets are sent on (R414, R428, R432) -/

/-- A port without its queue and its count of discarded packets. -/
def Port.still (x : Port) : Port := { x with waiting := [], badPkt := 0 }

/-- Between two tori every port is steady; one that sends no frames has at most packets more or fewer in its queue, and one that is not UP
takes none into an empty queue. -/
structure Torus.Keeps (t u : Torus) : Prop where
  steady : ∀ p, (u.port p).steady = (t.port p).steady
  still : ∀ p, (t.port p).sends = false → (u.port p).still = (t.port p).still
  down : ∀ p, (t.port p).state ≠ 6 → (t.port p).waiting = [] → (u.port p).waiting = []

theorem Port.state_of_steady {x y : Port} (h : y.steady = x.steady) : y.state = x.state := (congrArg Port.state h :)
theorem Port.sends_of_steady {x y : Port} (h : y.steady = x.steady) : y.sends = x.sends := (congrArg Port.sends h :)

section
variable {t u v : Torus}

theorem Torus.Keeps.refl (t : Torus) : t.Keeps t := ⟨fun _ => rfl, fun _ _ => rfl, fun _ _ h => h⟩

theorem Torus.Keeps.trans (h : t.Keeps u) (g : u.Keeps v) : t.Keeps v := by
  refine ⟨fun p => (g.steady p).trans (h.steady p), fun p hp => ?_, fun p hp hw => ?_⟩
  · exact (g.still p (by rw [Port.sends_of_steady (h.steady p), hp])).trans (h.still p hp)
  · exact g.down p (by rwa [Port.state_of_steady (h.steady p)]) (h.down p hp hw)

theorem Torus.keeps_of_ports (h : u.ports = t.ports) : t.Keeps u := by
  have hport : u.port = t.port := funext fun p => congrArg (Tab.at · p) h
  exact ⟨fun _ => by rw [hport], fun _ _ => by rw [hport], fun _ _ hw => by rwa [hport]⟩

/-- A change of one port that keeps it steady. -/
theorem Torus.keeps_modPort {p : Nat} {f : Port → Port} (hsteady : (f (t.port p)).steady = (t.port p).steady)
    (hstill : (t.port p).sends = false → (f (t.port p)).still = (t.port p).still)
    (hdown : (t.port p).state ≠ 6 → (t.port p).waiting = [] → (f (t.port p)).waiting = []) : t.Keeps (t.modPort p f) := by
  have hself := t.port_modPort_self p f
  have hne {k : Nat} (hk : k ≠ p) := t.port_modPort_ne f hk
  refine ⟨fun k => ?_, fun k hk => ?_, fun k hk hw => ?_⟩
  · by_cases h : k = p
    · rw [h, hself, hsteady]
    · rw [hne h]
  · by_cases h : k = p
    · subst h
      rw [hself, hstill hk]
    · rw [hne h]
  · by_cases h : k = p
    · subst h
      rw [hself, hdown hk hw]
    · rw [hne h, hw]

theorem Torus.keeps_run (t : Torus) (c : TxCtx) (p : Nat) : t.Keeps (t.run c p) := by
  by_cases hp : (t.port p).sends = false
  · rw [Torus.run_still c hp]
    exact .refl t
  · obtain ⟨hsteady, -, hothers, -⟩ := t.runs_run c p
    refine ⟨fun k => ?_, fun k hk => ?_, fun k hk hw => ?_⟩
    · by_cases h : k = p
      · rw [h, hsteady]
      · rw [hothers k h]
    · rw [hothers k (fun h => hp (h ▸ hk))]
    · rw [hothers k (fun h => hp (by rw [← h, Port.sends]; simp [hk])), hw]

theorem Torus.keeps_badPacket (t : Torus) (p : Nat) : t.Keeps (t.badPacket p) := Torus.keeps_modPort rfl (fun _ => rfl) (fun _ h => h)

theorem Torus.keeps_tx (t : Torus) (c : TxCtx) (p : Nat) (k : Packet) : t.Keeps (t.tx c p k) := by
  unfold Torus.tx; split
  · exact t.keeps_badPacket p
  · next hup => exact (Torus.keeps_modPort rfl (fun _ => rfl) (fun h => absurd h hup)).trans (Torus.keeps_run _ c p)

theorem Torus.tx_rest (t : Torus) (c : TxCtx) (p : Nat) (k : Packet) : (t.tx c p k).rest = t.rest := by
  unfold Torus.tx; split
  · rfl
  · exact (Torus.runs_run _ c p).rest.trans rfl

end

/-! ## Transfers that end and packets sent on (R428, R431) -/

/-- Between two states ports are kept and the site link map stands; what else differs is in the torus, the cores and the checkpoint unit. -/
structure State.Moves (s u : State) : Prop where
  frame : u = { s with torus := u.torus, cores := u.cores, ck := u.ck }
  ports : s.torus.Keeps u.torus
  links : (u.torus.linksDown, u.torus.linkSeq) = (s.torus.linksDown, s.torus.linkSeq)

/-- Moreover no source is added, no epoch is lost, and no hold of a path begins or ends. -/
structure State.Ends (s u : State) : Prop extends State.Moves s u where
  tags : u.torus.sources.map (·.tag) ⊆ s.torus.sources.map (·.tag)
  lost : u.torus.epochsLost = s.torus.epochsLost
  held : ∀ n, (u.torus.paths.at n).held = (s.torus.paths.at n).held

section
variable {s u v : State}

theorem State.Moves.refl (s : State) : s.Moves s := ⟨rfl, .refl _, rfl⟩

theorem State.Moves.trans (h : s.Moves u) (g : u.Moves v) : s.Moves v :=
  ⟨by rw [g.frame, h.frame], h.ports.trans g.ports, g.links.trans h.links⟩

theorem State.Ends.refl (s : State) : s.Ends s := ⟨.refl s, fun _ h => h, rfl, fun _ => rfl⟩

theorem State.Ends.trans (h : s.Ends u) (g : u.Ends v) : s.Ends v :=
  ⟨h.toMoves.trans g.toMoves, fun _ hn => h.tags (g.tags hn), g.lost.trans h.lost, fun n => (g.held n).trans (h.held n)⟩

theorem State.ends_each {α : Type} {f : State → α → State} (h : ∀ (s : State) (x : α), s.Ends (f s x)) (xs : List α) (s : State) :
    s.Ends (s.each xs f) :=
  List.foldlRecOn _ _ (motive := s.Ends) (.refl s) fun u hu x _ => hu.trans (h u x)

theorem State.moves_each {α : Type} {f : State → α → State} (h : ∀ (s : State) (x : α), s.Moves (f s x)) (xs : List α) (s : State) :
    s.Moves (s.each xs f) :=
  List.foldlRecOn _ _ (motive := s.Moves) (.refl s) fun u hu x _ => hu.trans (h u x)

theorem State.Moves.mem (h : s.Moves u) : u.mem = s.mem := by rw [h.frame]

theorem Torus.tags_of_standing {t u : Torus} (h : u.standing = t.standing) : u.sources.map (·.tag) = t.sources.map (·.tag) := by
  have hmarked (v : Torus) : v.standing.2.2.map (·.tag) = v.sources.map (·.tag) := by
    rw [Torus.standing, List.map_map]
    rfl
  rw [← hmarked, h, hmarked]

/-- A packet comes to a port's output queue. -/
theorem State.ends_tx (s : State) (c : TxCtx) (p : Nat) (k : Packet) : s.Ends { s with torus := s.torus.tx c p k } := by
  have hrest := s.torus.tx_rest c p k
  exact ⟨⟨rfl, s.torus.keeps_tx c p k, (congrArg (fun r => (r.linksDown, r.linkSeq)) hrest :)⟩,
    fun _ hn => Torus.tags_of_standing (s.torus.tx_standing c p k) ▸ hn,
    (congrArg Torus.epochsLost hrest :), fun n => (congrArg (fun r => (r.paths.at n).held) hrest :)⟩

theorem State.ends_forward (s : State) (arrived : Option Nat) (k : Packet) : s.Ends (s.forward arrived k) := by
  unfold State.forward; split
  · exact .refl s
  · exact s.ends_tx _ _ _

theorem State.ends_sendMsg (s : State) (p : Nat) (m : Message) : s.Ends (s.sendMsg p m) := by
  have hsaid (t : Torus) : s.Ends { s with torus := { s.torus with sentMessages := s.torus.sentMessages ++ [(p, m)] } } :=
    ⟨⟨rfl, Torus.keeps_of_ports rfl, rfl⟩, fun _ h => h, rfl, fun _ => rfl⟩
  unfold State.sendMsg; dsimp only; split
  · exact hsaid s.torus
  · exact (hsaid s.torus).trans (State.ends_tx _ _ _ _)

theorem State.ends_flood (s : State) (but : Option Nat) (m : Message) : s.Ends (s.flood but m) :=
  State.ends_each (fun u p => u.ends_sendMsg p m) _ s

/-! ## Paths and sources (R429, R433, R437) -/

theorem State.moves_modPath (s : State) (n : Nat) (f : Path → Path) : s.Moves (s.modPath n f) := ⟨rfl, Torus.keeps_of_ports rfl, rfl⟩

theorem State.ends_modPath {f : Path → Path} (hf : ∀ x, (f x).held = x.held) (s : State) (n : Nat) : s.Ends (s.modPath n f) := by
  refine ⟨s.moves_modPath n f, fun _ h => h, rfl, fun k => ?_⟩
  change ((s.torus.paths.upd n f).at k).held = _
  by_cases hk : k = n
  · rw [hk, Tab.at_upd_self, hf]
  · rw [Tab.at_upd_ne _ f hk]

theorem State.ends_knowPath (s : State) (n : Nat) : s.Ends (s.knowPath n) := by
  unfold State.knowPath; split
  · exact .refl s
  · refine State.ends_modPath ?_ s n
    exact fun _ => rfl

theorem State.ends_sendProtocol (s : State) (k : Packet) : s.Ends (s.sendProtocol k) := by
  have hknow := s.ends_knowPath k.dst
  unfold State.sendProtocol
  generalize s.knowPath k.dst = t at hknow ⊢
  dsimp only
  split
  · exact hknow
  · split
    · refine hknow.trans (State.ends_modPath ?_ t k.dst)
      exact fun _ => rfl
    · exact hknow.trans (t.ends_forward none _)

/-- A table whose values are all changed alike. -/
theorem Tab.at_map {α : Type} [Inhabited α] {f : α → α} (hf : f default = default) (t : Tab α) (k : Nat) :
    Tab.at (t.map (fun e => (e.1, f e.2))) k = f (Tab.at t k) := by
  induction t with
  | nil => exact hf.symm
  | cons e t ih =>
    obtain ⟨j, v⟩ := e
    unfold Tab.at at ih ⊢
    rw [List.map_cons, Tab.find?_cons, Tab.find?_cons]
    split
    · rfl
    · exact ih

/-- A port whose queue a test has gone through. -/
def Port.sift (q : Packet → Bool) (x : Port) : Port := { x with waiting := x.waiting.filter q }

theorem State.ends_unqueue (s : State) (tags : List Nat) : s.Ends (s.unqueue tags) := by
  unfold State.unqueue; split
  · exact .refl s
  · refine ⟨⟨rfl, ?_, rfl⟩, fun _ h => h, rfl, fun _ => rfl⟩
    have hport (p : Nat) := Tab.at_map (f := Port.sift (fun k => !(k.kind == 1 && k.src == s.img.node && tags.contains k.tag))) rfl s.torus.ports p
    refine ⟨fun p => ?_, fun p _ => ?_, fun p _ hw => ?_⟩
    · exact (congrArg Port.steady (hport p)).trans rfl
    · exact (congrArg Port.still (hport p)).trans rfl
    · refine (congrArg Port.waiting (hport p)).trans ?_
      change (s.torus.port p).waiting.filter _ = []
      rw [hw, List.filter_nil]

/-- Sources leave the table. -/
theorem State.ends_dropSources (s : State) (q : Source → Bool) :
    s.Ends (s.modTorus (fun t => { t with sources := t.sources.filter q })) :=
  ⟨⟨rfl, Torus.keeps_of_ports rfl, rfl⟩, List.map_subset _ (List.filter_subset_self _), rfl, fun _ => rfl⟩

theorem State.ends_of_torus (h : u = { s with torus := u.torus, cores := u.cores, ck := u.ck }) (ht : u.torus = s.torus) : s.Ends u :=
  ⟨⟨h, by rw [ht]; exact .refl _, by rw [ht]⟩, by rw [ht]; exact List.Subset.refl _, by rw [ht], fun n => by rw [ht]⟩

theorem State.ends_when {p : Bool} {f : State → State} (h : s.Ends (f s)) : s.Ends (s.when p f) := by
  unfold State.when; split
  · exact h
  · exact .refl s

theorem State.ends_endXfer (s : State) (core ctr inc : Nat) (cause : Cause) : s.Ends (s.endXfer core ctr inc cause) := by
  unfold State.endXfer State.endItem
  split <;> exact State.ends_of_torus rfl rfl

theorem State.ends_endOpen (s : State) (core id : Nat) (cause : Cause) : s.Ends (s.endOpen core id cause) := by
  unfold State.endOpen; split
  · exact .refl s
  · refine State.Ends.trans ?_ (State.ends_endXfer _ _ _ _ _)
    refine State.Ends.trans ?_ (State.ends_when (State.ends_of_torus rfl rfl))
    refine State.Ends.trans ?_ (State.ends_of_torus (u := State.modXf _ core _) rfl rfl)
    exact (State.ends_when (s.ends_unqueue _)).trans (State.ends_dropSources _ _)

theorem State.ends_sourceFail (s : State) (y : Source) (cause : Cause) : s.Ends (s.sourceFail y cause) := by
  unfold State.sourceFail
  refine State.Ends.trans ?_ (State.ends_endOpen _ _ _ _)
  refine State.Ends.trans ?_ (State.ends_dropSources _ _)
  exact (State.ends_when (State.ends_of_torus rfl rfl)).trans (State.ends_unqueue _ _)

theorem State.ends_sendSource (s : State) (tag : Nat) : s.Ends (s.sendSource tag) := by
  unfold State.sendSource; split
  · exact .refl s
  · next y _ =>
    dsimp only; split
    · exact s.ends_sourceFail _ _
    · split
      · exact .refl s
      · refine State.Ends.trans ?_ (State.ends_each (fun u k => u.ends_forward none (u.stamp k)) _ _)
        refine ⟨⟨rfl, Torus.keeps_of_ports rfl, rfl⟩, ?_, rfl, fun _ => rfl⟩
        have htags : (s.torus.sources.map (fun z => if z.tag = tag
            then { z with sent := true, epoch := (s.torus.paths.at y.dst).epoch, lastSent := s.now } else z)).map (·.tag) =
              s.torus.sources.map (·.tag) := by
          rw [List.map_map]
          refine List.map_congr_left fun z _ => ?_
          dsimp only [Function.comp_apply]
          split <;> rfl
        exact fun _ hn => htags ▸ hn

/-! ## New routes (R431, R434) -/

/-- The path whose hold ends. -/
def Path.released (x : Path) : Path := { x with held := false, awaiting := [], draining := [], holdQ := [] }

theorem State.ends_releasePath (s : State) (n : Nat) : (s.modPath n Path.released).Ends (s.releasePath n) :=
  (State.ends_each State.ends_sendProtocol _ _).trans (State.ends_each State.ends_sendSource _ _)

theorem State.moves_releasePath (s : State) (n : Nat) : s.Moves (s.releasePath n) :=
  (s.moves_modPath n _).trans (s.ends_releasePath n).toMoves

theorem State.moves_reroute (s : State) (n : Nat) : s.Moves (s.reroute n) := by
  unfold State.reroute
  dsimp only
  split
  · exact .refl s
  · split
    · exact s.moves_modPath n _
    · have hdrained (u : State) (h : s.Moves u) : s.Moves (if (u.torus.paths.at n).awaiting.isEmpty then u.releasePath n else u) := by
        split
        · exact h.trans (u.moves_releasePath n)
        · exact h
      refine hdrained _ (State.Moves.trans ?_ (State.moves_each (fun u tc => (u.ends_forward none _).toMoves) _ _))
      exact s.moves_modPath n _

theorem State.moves_rerouteAll (s : State) : s.Moves s.rerouteAll := by
  refine (State.moves_each State.moves_reroute _ s).trans (State.moves_each (fun u n => ?_) _ _)
  split
  · exact .refl u
  · exact (u.ends_knowPath n).toMoves

/-- A port that enters or leaves service changes routes alone. -/
theorem State.moves_portServiceChanged (s : State) (p : Nat) : s.Moves (s.portServiceChanged p) := by
  have hcounted : s.Moves (s.modTorus (fun t => { t with ownLinkSeq := t.ownLinkSeq + 1 })) := ⟨rfl, Torus.keeps_of_ports rfl, rfl⟩
  exact (hcounted.trans (State.ends_flood _ _ _).toMoves).trans (State.moves_rerouteAll _)

end

/-! ## A job that starts (18_configuration R630) -/

section
variable (s : State)

theorem State.torus_of_aside {s t : State} (h : t.aside = s.aside) : t.torus = s.torus := (congrArg State.torus h :)
theorem State.Reports.torus {s t : State} (h : s.Reports t) : t.torus = s.torus := by rw [h]

theorem State.readCommit_torus (d : ShardCfg) : (s.readCommit d).1.torus = s.torus := by
  have hget (u : State) (i : Nat) : (match u.readMem (d.commitBase + 64 * i) 64 with
      | (v, .ok bs) => (v, CommitRec.parse d.tid bs)
      | (v, .error _) => (v, none) : State × Option CommitRec).1.torus = u.torus := by
    have hread := State.torus_of_aside (u.readMem_aside (d.commitBase + 64 * i) 64)
    split <;> (rename_i heq; rwa [heq] at hread)
  exact (hget _ 1).trans (hget s 0)

theorem State.loadShard_torus (n : Nat) : (s.loadShard n).torus = s.torus := by
  unfold State.loadShard; split
  · rfl
  · next d _ =>
    have hread := s.readCommit_torus d
    split <;> (rename_i heq; rw [heq] at hread; exact hread)

theorem State.startCommit_torus (n : Nat) : (s.startCommit n).torus = s.torus := by
  refine (foldl_keeps State.torus _ (fun u i => ?_) _ _).trans rfl
  exact (State.loadShard_torus _ i).trans rfl

theorem State.reportAnchor_torus (p : Bool) (e : Cause) (n : Nat) : (s.when p (fun s => s.freynEvent e n 0)).torus = s.torus := by
  unfold State.when; split <;> rfl

theorem State.writeMem_torus (a : Nat) (bs : List Byte) : (s.writeMem a bs).1.torus = s.torus := State.torus_of_aside (s.writeMem_aside a bs)

theorem State.firstAnchor_torus (n : Nat) : (s.firstAnchor n).torus = s.torus := by
  unfold State.firstAnchor; split
  · rfl
  · next c _ =>
    have hzeroed := s.writeMem_torus c.omBase (zeros (omSize c))
    dsimp only
    generalize s.writeMem c.omBase (zeros (omSize c)) = w at hzeroed ⊢
    have hsaid := (w.1.reportAnchor_torus (decide (w.2 ≠ 0)) w.2 n).trans hzeroed
    generalize State.when w.1 _ _ = u at hsaid ⊢
    split
    · have hread := State.torus_of_aside (u.readMem_aside (c.heldBase (u.shardSt n).staged (u.shardSt n).slot) (2 * c.count))
      split
      · next heq => rw [heq] at hread; exact Eq.trans (by rfl) (hread.trans hsaid)
      · next heq =>
        rw [heq] at hread
        exact (State.reportAnchor_torus _ _ _ _).trans ((State.writeMem_torus _ _ _).trans (hread.trans hsaid))
    · exact hsaid

theorem State.firstRound_torus : s.firstRound.torus = s.torus := by
  unfold State.firstRound; split
  · rfl
  · have hsites (u : State) : u.startSites.torus = u.torus := by
      refine foldl_keeps State.torus _ ?_ _ _
      exact fun _ _ => rfl
    refine (hsites _).trans ?_
    refine (foldl_keeps State.torus _ State.firstAnchor_torus _ _).trans ?_
    exact (State.writeMem_torus _ _ _).trans (State.writeMem_torus _ _ _)

theorem State.startPlan_torus (mbBase : Nat) (p : PlanRingCfg) : (State.startPlan mbBase s p).torus = s.torus :=
  (State.reports_issuePlan _ p _).torus.trans rfl

theorem State.beginJob_torus : s.beginJob.torus = s.torus := by
  have hcores (u : State) (cs : List CoreCfg) : (u.each cs (State.startCore 0)).torus = u.torus := by
    refine foldl_keeps State.torus _ ?_ _ _
    exact fun _ _ => rfl
  unfold State.beginJob
  dsimp only
  refine (State.reports_setJob _ _ _).torus.trans ?_
  refine (State.reports_jobRecord _ _ _).torus.trans ?_
  refine (foldl_keeps State.torus _ (fun u p => (State.startPlan_torus (u.freePlan p) 0 p).trans rfl) _ _).trans ?_
  refine (foldl_keeps State.torus _ (fun u e => (u.reports_startRing 0 e).torus) _ _).trans ?_
  exact (State.firstRound_torus _).trans ((hcores _ _).trans ((State.startCommit_torus _ _).trans rfl))

theorem State.keeps_claimFrom (i : Nat) : s.torus.Keeps (s.claimFrom i).1.torus := by
  unfold State.claimFrom; dsimp only; split
  · exact (State.ends_sendMsg (s.modCk _) _ _).ports
  · split <;> exact .refl _

theorem State.keeps_selectPartner : s.torus.Keeps s.selectPartner.1.torus := by
  unfold State.selectPartner; dsimp only; split
  · exact State.keeps_claimFrom (s.modCk _) 0
  · exact .refl _

/-- A start that goes on sends at most its claim of a partner. -/
theorem State.keeps_continueStart : s.torus.Keeps s.continueStart.torus := by
  have hselect := s.keeps_selectPartner
  unfold State.continueStart; split
  · exact .refl _
  · split
    · rw [(State.reports_setJob _ _ _).torus]
      exact .refl _
    · split <;> (rename_i heq; rw [heq] at hselect)
      · exact hselect
      · rwa [State.beginJob_torus]
      · rw [State.startFailed, (State.reports_jobRecord _ _ _).torus]
        exact hselect

end

end Sys2Proof.Machine
end

section
/-! PROOFS. A torus port trains (O25): each command of an attempt changes its port alone, and an identity decides between UP and MISCABLED. -/

namespace Sys2Proof.Machine

open Sys2Proof

/-! ## States and attempts of a port (R401) -/

/-- A port that enters a state. -/
def Port.entered (x : Port) (now st : Nat) : Port :=
  let x := { x with state := st, since := now, failing := false }
  if st ≤ 1 then { x with width := 0, good := 0, belowFloor := false, nbrId := none, ownSent := false, bothAt := none } else x

/-- A port whose attempt has failed. -/
def Port.failed (x : Port) (now reason : Nat) : Port :=
  { x with failing := true, retryAt := now + 100000000, downReason := if reason = 0 then x.downReason else reason, width := 0, good := 0,
           belowFloor := false, nbrId := none, ownSent := false, bothAt := none }

/-- A port that has taken a lane mask. -/
def Port.laned (x : Port) (mask floor : Nat) : Port :=
  { x with good := mask, width := widthOf (lanesOf mask).length, belowFloor := decide (widthOf (lanesOf mask).length < floor) }

/-- A port that goes on to ALIGN has the lanes it took. -/
theorem Port.laned_entered (x : Port) (mask floor now : Nat) :
    ((x.laned mask floor).entered now 4).good = mask ∧ ((x.laned mask floor).entered now 4).width = widthOf (lanesOf mask).length := ⟨rfl, rfl⟩

section
variable {s : State} {p : Nat}

theorem State.portState_eq (s : State) (p st : Nat) : s.portState p st = s.modPort p (·.entered s.now st) := rfl
theorem State.attemptFails_eq (s : State) (p reason : Nat) : s.attemptFails p reason = s.modPort p (·.failed s.now reason) := rfl

theorem State.sends_modPort (s : State) (p : Nat) (f : Port → Port) : s.Sends (s.modPort p f) := rfl

theorem State.inState_acts {st : Nat} (hst : (s.port p).state = st) (hok : (s.port p).failing = false) (f : State → State) :
    s.inState p st f = f s := if_pos (by simp [hst, hok])

/-- A port that is not UP takes a lane mask. -/
theorem State.setLanes_down (h : (s.port p).state ≠ 6) (mask : Nat) : s.setLanes p mask = s.modPort p (·.laned mask (s.floor p)) := by
  unfold State.setLanes State.when
  simp only [h, beq_eq_false_iff_ne.2 h, Bool.and_false, Bool.false_eq_true, if_false, decide_false, Bool.false_and]
  rfl

/-- An attempt that may begin begins in DETECT. -/
theorem State.retryPort_spec (h : (s.port p).state = 1 ∧ (s.port p).failing = false ∨ (s.port p).failing = true ∧ (s.port p).retryAt ≤ s.now) :
    s.Sends (s.retryPort p) ∧ ((s.retryPort p).port p).state = 1 ∧ ((s.retryPort p).port p).failing = false ∧
      ∀ k, k ≠ p → (s.retryPort p).port k = s.port k := by
  unfold State.retryPort
  obtain ⟨hst, hok⟩ | ⟨hfail, hdue⟩ := h
  · rw [if_neg (by simp [hok])]
    exact ⟨s.sends_refl, hst, hok, fun _ _ => rfl⟩
  · rw [if_pos (by simp [hfail, hdue]), State.portState_eq]
    refine ⟨rfl, ?_, ?_, fun k hk => s.port_modPort_ne _ hk⟩ <;> rw [State.port_modPort_self] <;> rfl

theorem exec_detect (lanes : Nat)
    (h : (s.port p).state = 1 ∧ (s.port p).failing = false ∨ (s.port p).failing = true ∧ (s.port p).retryAt ≤ s.now) :
    exec (.detect p lanes) s = .next ((s.retryPort p).modPort p
      (fun x => if 8 ≤ (lanesOf lanes).length then x.entered s.now 2 else x.failed s.now 0)) := by
  obtain ⟨hsends, hst, hok, -⟩ := State.retryPort_spec h
  have hnow : (s.retryPort p).now = s.now := by rw [hsends]; rfl
  refine congrArg Host.Outcome.next ((State.inState_acts hst hok _).trans ?_)
  rw [State.portState_eq, State.attemptFails_eq, hnow]
  split <;> rfl

variable (hok : (s.port p).failing = false)
include hok

theorem exec_equalize (hst : (s.port p).state = 2) (ok : Bool) :
    exec (.equalize p ok) s = .next (s.modPort p (fun x => if ok then x.entered s.now 3 else x.failed s.now 0)) := by
  refine congrArg Host.Outcome.next ((State.inState_acts hst hok _).trans ?_)
  cases ok <;> rfl

theorem exec_laneMap_passes (hst : (s.port p).state = 3) {tests : List LaneTest} {goodOut : Nat}
    (h : 8 ≤ (lanesOf (s.fusedLanes p (passMask tests &&& goodOut))).length) :
    exec (.laneMap p tests goodOut) s =
      .next ((s.modPort p (·.laned (s.fusedLanes p (passMask tests &&& goodOut)) (s.floor p))).modPort p (·.entered s.now 4)) := by
  refine congrArg Host.Outcome.next ((State.inState_acts hst hok _).trans ?_)
  dsimp only
  rw [if_pos h, State.setLanes_down (by rw [hst]; decide)]
  rfl

theorem exec_laneMap_fails (hst : (s.port p).state = 3) {tests : List LaneTest} {goodOut : Nat}
    (h : (lanesOf (s.fusedLanes p (passMask tests &&& goodOut))).length < 8) :
    exec (.laneMap p tests goodOut) s = .next (s.modPort p (·.failed s.now 3)) :=
  congrArg Host.Outcome.next ((State.inState_acts hst hok _).trans (if_neg (Nat.not_le.2 h)))

theorem exec_align_fails (hst : (s.port p).state = 4) : exec (.align p false) s = .next (s.modPort p (·.failed s.now 0)) :=
  congrArg Host.Outcome.next ((State.inState_acts hst hok _).trans rfl)

omit hok in
/-- Tests of no lane leave no lane. -/
theorem State.fusedLanes_none (goodOut : Nat) : (lanesOf (s.fusedLanes p (passMask [] &&& goodOut))).length < 8 := by
  have hnone : passMask [] = 0 := rfl
  have hlanes : lanesOf 0 = [] := by decide
  rw [hnone, Nat.zero_and, State.fusedLanes, hlanes, List.filter_nil, List.foldl_nil, hlanes]
  decide

end

/-! ## Identities (R404, R406) -/

section
variable {s : State} {p : Nat}

/-- The identity of a port that both ends have not sent is not judged. -/
theorem State.checkIdentity_waits (h : ∀ id, (s.port p).nbrId = some id → (s.port p).ownSent = false ∨ id.job = 0) : s.checkIdentity p = s := by
  unfold State.checkIdentity; split
  · rfl
  · next id hid => exact if_pos (by obtain hno | hno := h id hid <;> simp [hno])

/-- The state of a port that has sent its identity. -/
def State.saidIdentity (s : State) (p : Nat) : State :=
  (s.sendMsg p (.identity (s.identity p))).modPort p (fun x => { x with idSentAt := s.now, ownSent := s.configured })

/-- An identity is sent, and one that waits for the neighbour's is not judged yet. -/
theorem State.sendIdentity_waits (h : ∀ id, (s.port p).nbrId = some id → id.job = 0) : s.sendIdentity p = s.saidIdentity p := by
  refine State.checkIdentity_waits fun id hid => .inr (h id ?_)
  rw [State.port_modPort_self] at hid
  exact hid

theorem State.saidIdentity_port (s : State) (p : Nat) :
    (s.saidIdentity p).port p = { s.port p with idSentAt := s.now, ownSent := s.configured } := State.port_modPort_self _ _ _

theorem State.saidIdentity_cores (s : State) (p : Nat) : (s.saidIdentity p).cores = s.cores := by
  rw [State.saidIdentity, State.modPort_cores, State.sendMsg_cores]

theorem State.saidIdentity_mem (s : State) (p : Nat) : (s.saidIdentity p).mem = s.mem := by
  rw [State.saidIdentity, State.modPort_mem, State.sendMsg_mem]

theorem State.saidIdentity_said (s : State) (p : Nat) :
    (s.saidIdentity p).torus.sentMessages = s.torus.sentMessages ++ [(p, .identity (s.identity p))] := rfl

theorem State.saidIdentity_ne (s : State) {p k : Nat} (h : k ≠ p) : (s.saidIdentity p).port k = s.port k := State.port_modPort_ne _ _ h

/-- A port that frames have begun on. -/
def Port.unsaid (x : Port) : Port := { x with nbrId := none, ownSent := false, bothAt := none }

theorem exec_align (hst : (s.port p).state = 4) (hok : (s.port p).failing = false) :
    exec (.align p true) s = .next (((s.modPort p (·.entered s.now 5)).modPort p Port.unsaid).saidIdentity p) := by
  have hunsaid : ∀ id, (((s.modPort p (·.entered s.now 5)).modPort p Port.unsaid).port p).nbrId = some id → id.job = 0 := by
    rw [State.port_modPort_self]
    exact fun id hid => absurd hid (by rw [Port.unsaid]; exact nofun)
  rw [← State.sendIdentity_waits hunsaid]
  exact congrArg Host.Outcome.next ((State.inState_acts hst hok _).trans (if_pos rfl))

variable (hst : (s.port p).state = 5) (hok : (s.port p).failing = false)
include hst hok

theorem exec_identitySend : exec (.identitySend p) s =
    .next (if (s.port p).idSentAt = 0 ∨ (s.port p).idSentAt + 100000 ≤ s.now then s.sendIdentity p else s) := by
  refine congrArg Host.Outcome.next ((State.inState_acts hst hok _).trans ?_)
  simp only [Bool.or_eq_true, decide_eq_true_eq]

variable (id : PortIdentity)

theorem exec_exchange : exec (.exchange p id) s = .next ((s.modPort p (fun x => { x with nbrId := some id })).checkIdentity p) :=
  congrArg Host.Outcome.next (State.inState_acts hst hok _)

theorem exec_exchange_waits (h : id.job = 0 ∨ (s.port p).ownSent = false) :
    exec (.exchange p id) s = .next (s.modPort p (fun x => { x with nbrId := some id })) := by
  refine (exec_exchange hst hok id).trans (congrArg _ (State.checkIdentity_waits fun x hx => ?_))
  rw [State.port_modPort_self] at hx ⊢
  obtain rfl : id = x := Option.some.inj hx
  exact h.symm

/-- The identity that the torus expects at a port (R404). -/
def State.expects (s : State) (p : Nat) (id : PortIdentity) : Bool :=
  id.site = s.img.site && id.job = s.img.job && id.port = p ^^^ 1 && id.node = s.neighbour s.img.node p

omit hst hok in
theorem State.Sends.expects {t : State} {id : PortIdentity} (h : s.Sends t) : t.expects p id = s.expects p id := by rw [h]; rfl

/-- The state of a port that stands MISCABLED by an identity, and says so in a record. -/
def State.miscabled (s : State) (p : Nat) (id : PortIdentity) : State :=
  ((s.portState p 7).modPort p (fun x => { x with downReason := 4, nbrPort := id.port, nbrNode := id.node, nbrFeed := id.feed })).event
    0x0030 0 p 0 0

/-- The state of a port whose neighbour's identity both ends have sent. -/
def State.identified (s : State) (p : Nat) (id : PortIdentity) : State :=
  (s.modPort p (fun x => { x with nbrId := some id })).modPort p (fun x => { x with bothAt := some (x.bothAt.getD s.now) })

omit hst hok in
theorem State.sends_identified : s.Sends (s.identified p id) := (s.sends_modPort p _).trans (State.sends_modPort _ p _)

/-- An identity that both ends have sent is judged. -/
theorem exec_exchange_judged (hown : (s.port p).ownSent = true) (hjob : id.job ≠ 0) : exec (.exchange p id) s = .next
    (if s.expects p id then (s.identified p id).portUp p id else (s.identified p id).miscabled p id) := by
  refine (exec_exchange hst hok id).trans (congrArg _ ?_)
  rw [← (State.sends_identified id).expects]
  unfold State.checkIdentity
  rw [State.port_modPort_self]
  dsimp only
  rw [if_neg (by simp [hst, hok, hown, hjob])]
  rfl

end

section
variable (s : State) (p : Nat) (id : PortIdentity)

/-- A port that comes UP is UP with the neighbour that its identity names, whatever its service then starts. -/
theorem State.portUp_port : ((s.portUp p id).port p).state = 6 ∧ ((s.portUp p id).port p).nbrNode = id.node ∧
    ((s.portUp p id).port p).nbrPort = id.port := by
  unfold State.portUp
  dsimp only
  generalize hu : (s.portState p 6).modPort p _ = u
  have hport : (u.port p).state = 6 ∧ (u.port p).nbrNode = id.node ∧ (u.port p).nbrPort = id.port := by
    rw [← hu, State.port_modPort_self, State.portState_eq, State.port_modPort_self]
    exact ⟨rfl, rfl, rfl⟩
  generalize hv : (if u.portInService p then u.portServiceChanged p else u) = v
  have hkept : u.torus.Keeps v.torus := by
    rw [← hv]; split
    · exact (u.moves_portServiceChanged p).ports
    · exact .refl _
  have hsteady := (hkept.trans v.keeps_continueStart).steady p
  rw [← hport.1, ← hport.2.1, ← hport.2.2]
  exact ⟨(congrArg Port.state hsteady :), (congrArg Port.nbrNode hsteady :), (congrArg Port.nbrPort hsteady :)⟩

end

theorem State.miscabled_spec (s : State) (p : Nat) (id : PortIdentity) : ((s.miscabled p id).port p).state = 7 ∧
    ((s.miscabled p id).port p).nbrNode = id.node ∧ (∀ k, k ≠ p → (s.miscabled p id).port k = s.port k) ∧ (s.miscabled p id).mem = s.mem := by
  rw [State.miscabled, State.portState_eq, State.event_mem, State.modPort_mem, State.modPort_mem]
  unfold State.port
  rw [State.event_torus]
  change ((State.modPort _ p _).port p).state = 7 ∧ ((State.modPort _ p _).port p).nbrNode = id.node ∧
    (∀ k, k ≠ p → (State.modPort _ p _).port k = s.port k) ∧ _
  rw [State.port_modPort_self, State.port_modPort_self]
  exact ⟨rfl, rfl, fun k hk => by rw [State.port_modPort_ne _ _ hk, State.port_modPort_ne _ _ hk], rfl⟩

/-- A lane map or a frame start that fails, and an equalisation that fails, each end their attempt. -/
theorem exec_attempt_fails {s : State} {p : Nat} (goodOut : Nat) (hok : (s.port p).failing = false) :
    ∀ c ∈ [(Instr.equalize p false, 2), (.laneMap p [] goodOut, 3), (.align p false, 4)], (s.port p).state = c.2 →
      ∃ reason, exec c.1 s = .next (s.modPort p (·.failed s.now reason)) := by
  simp only [List.forall_mem_cons, List.not_mem_nil, false_imp_iff, implies_true, and_true]
  exact ⟨fun hst => ⟨0, exec_equalize hok hst false⟩, fun hst => ⟨3, exec_laneMap_fails hok hst (State.fusedLanes_none goodOut)⟩,
    fun hst => ⟨0, exec_align_fails hok hst⟩⟩

/-- Settles O25: each training command by the change of its port, and an identity by what it says of the neighbour. -/
theorem portTrains : Obligations.PortTrains := by
  refine ⟨fun s p lanes goodOut tests => ⟨fun hbegin => ?_, fun hok => ⟨fun hst => ?_, fun hst hlanes => ?_, fun hst => ?_, fun c hc hst => ?_⟩⟩,
    fun s p id hst hok => ⟨fun hown hjob hsite hjob' hport hnode => ?_, fun hown hjob hother => ?_, fun hwait => ?_, fun hnone => ⟨fun hdue => ?_,
      fun hsent hearly => ?_⟩⟩⟩
  · obtain ⟨hsends, hst, -, hne⟩ := State.retryPort_spec hbegin
    have hexec := exec_detect lanes hbegin
    generalize s.retryPort p = z at hsends hst hne hexec
    have hothers (f : Port → Port) (k : Nat) (hk : k ≠ p) : (z.modPort p f).port k = s.port k := (z.port_modPort_ne f hk).trans (hne k hk)
    have hcores : z.cores = s.cores := by rw [hsends]
    have hmem : z.mem = s.mem := by rw [hsends]
    refine ⟨fun h8 => ⟨_, hexec, ?_, ?_, ?_, hothers _, hcores, hmem⟩, fun h8 => ⟨_, hexec, ?_, ?_, ?_, hothers _, hmem⟩⟩
    · rw [State.port_modPort_self, if_pos h8]; rfl
    · rw [State.port_modPort_self, if_pos h8]; rfl
    · rw [State.port_modPort_self, if_pos h8]; rfl
    · rw [State.port_modPort_self, if_neg (Nat.not_le.2 h8)]
      exact hst
    · rw [State.port_modPort_self, if_neg (Nat.not_le.2 h8)]; rfl
    · rw [State.port_modPort_self, if_neg (Nat.not_le.2 h8)]; rfl
  · refine ⟨_, exec_equalize hok hst true, ?_, fun k hk => s.port_modPort_ne _ hk, rfl, rfl⟩
    rw [State.port_modPort_self]; rfl
  · obtain ⟨hgood, hwidth⟩ := (s.port p).laned_entered (s.fusedLanes p (passMask tests &&& goodOut)) (s.floor p) s.now
    refine ⟨_, exec_laneMap_passes hok hst hlanes, ?_, ?_, ?_, fun k hk => ?_, rfl, rfl⟩
    · rw [State.port_modPort_self]; rfl
    · rw [State.port_modPort_self, State.port_modPort_self, hgood]
    · rw [State.port_modPort_self, State.port_modPort_self, hgood, hwidth]
    · rw [State.port_modPort_ne _ _ hk, State.port_modPort_ne _ _ hk]
  · refine ⟨_, exec_align hst hok, ?_, ?_, State.saidIdentity_said _ p, ?_, fun k hk => ?_, State.saidIdentity_cores _ p, State.saidIdentity_mem _ p⟩
    · rw [State.saidIdentity_port, State.port_modPort_self, State.port_modPort_self]; rfl
    · rw [State.saidIdentity_port, State.port_modPort_self]; rfl
    · rw [State.saidIdentity_port]; rfl
    · rw [State.saidIdentity_ne _ hk, State.port_modPort_ne _ _ hk, State.port_modPort_ne _ _ hk]
  · obtain ⟨reason, hexec⟩ := exec_attempt_fails goodOut hok c hc hst
    refine ⟨_, hexec, ?_, ?_, ?_, fun k hk => s.port_modPort_ne _ hk, rfl, rfl⟩ <;> rw [State.port_modPort_self] <;> rfl
  · have hexpects : s.expects p id = true := by simp [State.expects, hsite, hjob', hport, hnode]
    exact ⟨_, (exec_exchange_judged hst hok id hown hjob).trans (congrArg _ (if_pos hexpects)), State.portUp_port _ p id⟩
  · have hexpects : ¬ s.expects p id = true := by
      simp only [State.expects, Bool.and_eq_true, decide_eq_true_eq]
      rintro ⟨⟨⟨h1, h2⟩, h3⟩, h4⟩
      simp [h1, h2, h3, h4] at hother
    obtain ⟨hstate, hnode, hothers, hmem⟩ := (s.identified p id).miscabled_spec p id
    refine ⟨_, (exec_exchange_judged hst hok id hown hjob).trans (congrArg _ (if_neg hexpects)), hstate, hnode, fun k hk => ?_, ?_⟩
    · rw [hothers k hk, State.identified, State.port_modPort_ne _ _ hk, State.port_modPort_ne _ _ hk]
    · rw [hmem, State.sends_identified]
  · refine ⟨_, exec_exchange_waits hst hok id hwait, ?_, ?_, fun k hk => s.port_modPort_ne _ hk, rfl⟩ <;> rw [State.port_modPort_self]
    exact hst
  · refine ⟨_, (exec_identitySend hst hok).trans (congrArg _ ((if_pos hdue).trans (State.sendIdentity_waits hnone))), s.saidIdentity_said p, ?_, ?_, ?_,
      s.saidIdentity_mem p⟩ <;> rw [State.saidIdentity_port]
    exact hst
  · refine (exec_identitySend hst hok).trans (congrArg _ (if_neg ?_))
    omega

end Sys2Proof.Machine
end

section
/-! PROOFS. Ports that fail, wait too long or go down (O26), and frames sent again after a retrain (R413). -/

namespace Sys2Proof.Machine

open Sys2Proof

/-! ## Going down (R407) -/

/-- What a port that has gone down holds. -/
def Port.isDown (x : Port) : Prop := x.state = 1 ∧ x.replay = [] ∧ x.waiting = [] ∧ x.credits = [] ∧ x.width = 0

/-- A port that has gone down stays so while its packets and those of others find new routes. -/
theorem Torus.Keeps.isDown {t u : Torus} (h : t.Keeps u) {p : Nat} (hdown : (t.port p).isDown) : (u.port p).isDown := by
  obtain ⟨hstate, hreplay, hwaiting, hcredits, hwidth⟩ := hdown
  have hsteady := h.steady p
  have hstill := h.still p (by rw [Port.sends, hstate]; rfl)
  exact ⟨(Port.state_of_steady hsteady).trans hstate, (congrArg Port.replay hstill :).trans hreplay,
    h.down p (by rw [hstate]; decide) hwaiting, (congrArg Port.credits hstill :).trans hcredits, (congrArg Port.width hsteady :).trans hwidth⟩

section
variable {s : State} {p : Nat}

/-- A port that goes down counts the fall and holds nothing. -/
theorem State.portDown_spec (h : (s.port p).state = 6) (reason : Nat) : ((s.portDown p reason).port p).isDown ∧
    ((s.portDown p reason).port p).downs = (s.port p).downs + 1 ∧ (s.portDown p reason).mem = s.mem := by
  unfold State.portDown
  dsimp only
  rw [if_neg (not_not.2 h)]
  generalize hu : State.event _ _ _ _ _ _ = u
  have hmem : u.mem = s.mem := by
    rw [← hu, State.event_mem, State.modPort_mem, State.portState_eq, State.modPort_mem]
  have hport : (u.port p).isDown ∧ (u.port p).downs = (s.port p).downs + 1 := by
    rw [← hu, State.port, State.event_torus]
    change (State.port (State.modPort _ p _) p).isDown ∧ (State.port (State.modPort _ p _) p).downs = _
    rw [State.port_modPort_self, State.portState_eq, State.port_modPort_self]
    exact ⟨⟨rfl, rfl, rfl, rfl, rfl⟩, rfl⟩
  split
  · have hmoves := u.moves_portServiceChanged p
    have hdowns : ((u.portServiceChanged p).port p).downs = (u.port p).downs :=
      Port.of_steady Port.downs (fun _ => rfl) (hmoves.ports.steady p)
    exact ⟨hmoves.ports.isDown hport.1, hdowns.trans hport.2, hmoves.mem.trans hmem⟩
  · exact ⟨hport.1, hport.2, hmem⟩

/-- The three ways in which an UP port is found not to carry frames. -/
theorem exec_portDown {c : Instr} (hst : (s.port p).state = 6)
    (h : c = .noValidFrame p ∧ (s.port p).switching = false ∧ (s.port p).retraining = false ∧ (s.port p).lastFrameAt + 1000 < s.now ∨
      c = .laneSwitchTimeout p ∧ (s.port p).switching = true ∧ (s.port p).since + 10000 < s.now ∨
      c = .inServiceRetrain p false ∧ (s.port p).retraining = true) : ∃ reason, exec c s = .next (s.portDown p reason) := by
  obtain ⟨rfl, hswitching, hretraining, hlate⟩ | ⟨rfl, hswitching, hlate⟩ | ⟨rfl, hretraining⟩ := h
  · exact ⟨1, congrArg Host.Outcome.next (if_pos (by simp [hst, hswitching, hretraining, hlate]))⟩
  · exact ⟨1, congrArg Host.Outcome.next (if_pos (by simp [hst, hswitching, hlate]))⟩
  · exact ⟨2, congrArg Host.Outcome.next ((if_neg (by simp [hst, hretraining])).trans (if_neg (by simp)))⟩

theorem exec_configuredWaitLimit (hst : (s.port p).state = 5) (hok : (s.port p).failing = false)
    (hnone : ∀ id, (s.port p).nbrId = some id → id.job = 0) (hlate : (s.port p).since + 600000000000 ≤ s.now) :
    exec (.configuredWaitLimit p) s = .next ((s.portState p 1).event 0x0030 Cause.timeout p 0 0) := by
  refine congrArg Host.Outcome.next ((State.inState_acts hst hok _).trans (if_pos ?_))
  have hall : (s.port p).nbrId.all (fun id => id.job == 0) = true := by
    cases hid : (s.port p).nbrId with
    | none => rfl
    | some id => simp [hnone id hid]
  rw [Bool.and_eq_true, decide_eq_true_eq]
  exact ⟨hall, hlate⟩

theorem exec_miscabledRetry (hst : (s.port p).state = 7) (hlate : (s.port p).since + 1000000000 ≤ s.now) :
    exec (.miscabledRetry p) s = .next (s.portState p 1) := by
  change execMiscabledRetry p s = _
  rw [execMiscabledRetry, if_pos (by simp [hst, hlate])]

theorem exec_attemptTimeout (hok : (s.port p).failing = false)
    (h : 1 ≤ (s.port p).state ∧ (s.port p).state ≤ 4 ∧ (s.port p).since + attemptBound (s.port p).state < s.now ∨
      (s.port p).state = 5 ∧ ∃ t, (s.port p).bothAt = some t ∧ t + 1000000 < s.now) :
    exec (.attemptTimeout p) s = .next (s.attemptFails p 5) := by
  change execAttemptTimeout p s = _
  rw [execAttemptTimeout]
  dsimp only
  rw [hok]
  obtain ⟨hlo, hhi, hlate⟩ | ⟨hst, t, hboth, hlate⟩ := h
  · have hst : (s.port p).state ≠ 5 := by omega
    have hin : (decide (1 ≤ (s.port p).state) && decide ((s.port p).state ≤ 4)) = true := by simp [hlo, hhi]
    rw [if_neg hst, if_pos hin, Option.any_some, decide_eq_true hlate]
    rfl
  · have hbound : attemptBound 5 = 1000000 := rfl
    rw [hst, if_pos rfl, hboth, Option.any_some, hbound, decide_eq_true hlate]
    rfl

/-- An EXCHANGE in which no configured identity of both ends has passed has no bound (R406). -/
theorem exec_attemptTimeout_unbound (hst : (s.port p).state = 5) (hboth : (s.port p).bothAt = none) : exec (.attemptTimeout p) s = .next s :=
  congrArg Host.Outcome.next (if_neg (by simp [hst, hboth]))

end

/-! ## Frames sent again (R412, R420) -/

/-- A port whose replay buffer has been sent again; `block` numbers its next block. -/
def Port.replayed (x : Port) (block : Nat) : Port :=
  { x with txBlock := block, replays := x.replays + BitVec.ofNat 32 x.replay.length,
           tc0Late := x.tc0Late + BitVec.ofNat 32 (x.replay.filter (fun f => f.tc0 && f.times == 1)).length,
           replay := x.replay.map (fun f => { f with replays := f.replays + 1, times := f.times + 1 }) }

/-- Frames that leave again number blocks and nothing else of the port. -/
theorem Torus.emits_port (p : Nat) (fs : List HeldFrame) (t : Torus) :
    ∃ b, (fs.foldl (fun t f => t.emit p f.bytes) t).port p = { t.port p with txBlock := b } := by
  induction fs generalizing t with
  | nil => exact ⟨_, rfl⟩
  | cons f fs ih =>
    obtain ⟨b, hb⟩ := ih (t.emit p f.bytes)
    refine ⟨b, hb.trans ?_⟩
    rw [Torus.emit, Torus.port_modPort_self]
    rfl

theorem Torus.runs_emits (p : Nat) (fs : List HeldFrame) (t : Torus) : t.Runs p (fs.foldl (fun t f => t.emit p f.bytes) t) :=
  List.foldlRecOn _ _ (motive := t.Runs p) (.refl p t) fun u h f _ => h.trans (u.runs_emit p f.bytes)

section
variable (s : State) (p : Nat)

theorem State.replayFrames_spec : s.Sends (s.replayFrames p) ∧ (∀ k, k ≠ p → (s.replayFrames p).port k = s.port k) ∧
    ∃ b, (s.replayFrames p).port p = (s.port p).replayed b := by
  obtain ⟨b, hb⟩ := s.torus.emits_port p (s.port p).replay
  have hothers := (s.torus.runs_emits p (s.port p).replay).others
  unfold State.replayFrames
  dsimp only
  generalize List.foldl _ _ _ = t at hb hothers ⊢
  refine ⟨rfl, fun k hk => ?_, b, ?_⟩
  · rw [State.port_modPort_ne _ _ hk]
    exact hothers k hk
  · rw [State.port_modPort_self]
    have hport : ({ s with torus := t } : State).port p = { s.port p with txBlock := b } := hb
    rw [hport]
    rfl

/-- A port that is back from a retrain. -/
def Port.retrained (x : Port) (now : Nat) : Port :=
  { x with retraining := false, lastFrameAt := now, replay := x.replay.map (fun f => { f with replays := 0 }) }

variable {s p}

theorem exec_inServiceRetrain (hst : (s.port p).state = 6) (hretraining : (s.port p).retraining = true)
    (htime : s.now ≤ (s.port p).since + 50000000) :
    exec (.inServiceRetrain p true) s = .next (((s.modPort p (·.retrained s.now)).replayFrames p).runPort p) :=
  congrArg Host.Outcome.next ((if_neg (by simp [hst, hretraining])).trans (if_pos (by simp [htime])))

end

/-- Settles O26: each limit by the change of its port, a fall by what the port then holds, and a retrain by the frames sent again. -/
theorem portsGoDown : Obligations.PortsGoDown := by
  refine ⟨fun s p hok hlate => ?_, fun s p hst hboth => exec_attemptTimeout_unbound hst hboth, fun s p hst hok hnone hlate => ?_,
    fun s p hst hlate => ?_, fun s p c hst hc => ?_, fun s p hst hretraining htime => ?_⟩
  · refine ⟨_, exec_attemptTimeout hok hlate, ?_, ?_, ?_, fun k hk => s.port_modPort_ne _ hk, rfl⟩ <;>
      rw [State.attemptFails_eq, State.port_modPort_self] <;> rfl
  · refine ⟨_, exec_configuredWaitLimit hst hok hnone hlate, ?_, fun k hk => ?_, ?_⟩
    · rw [State.port, State.event_torus, State.portState_eq]
      exact congrArg Port.state (s.port_modPort_self p _)
    · rw [State.port, State.event_torus, State.portState_eq]
      exact s.port_modPort_ne _ hk
    · rw [State.event_mem, State.portState_eq, State.modPort_mem]
  · refine ⟨_, exec_miscabledRetry hst hlate, ?_, fun k hk => s.port_modPort_ne _ hk, rfl⟩
    rw [State.portState_eq, State.port_modPort_self]; rfl
  · obtain ⟨reason, hexec⟩ := exec_portDown hst hc
    obtain ⟨⟨hstate, hreplay, hwaiting, hcredits, hwidth⟩, hdowns, hmem⟩ := State.portDown_spec hst reason
    exact ⟨_, hexec, hstate, hdowns, hreplay, hwaiting, hcredits, hwidth, hmem⟩
  · obtain ⟨hsends, hothers, b, hport⟩ := (s.modPort p (·.retrained s.now)).replayFrames_spec p
    have hexec := exec_inServiceRetrain hst hretraining htime
    rw [State.port_modPort_self] at hport
    generalize (s.modPort p (·.retrained s.now)).replayFrames p = z at *
    obtain ⟨hsteady, ⟨more, hmore⟩, hrest, -⟩ := z.torus.runs_run z.txCtx p
    have hrun {α : Type} (g : Port → α) (hg : ∀ x, g x.steady = g x) : g ((z.runPort p).port p) = g (z.port p) := Port.of_steady g hg hsteady
    refine ⟨_, more.map (·.bytes), hexec, ?_, ?_, ?_, ?_, ?_, fun k hk => ?_, ?_⟩
    · rw [hrun Port.state (fun _ => rfl), hport]
      exact hst
    · rw [hrun Port.retraining (fun _ => rfl), hport]; rfl
    · rw [hrun Port.lastFrameAt (fun _ => rfl), hport]; rfl
    · have hbytes : (z.port p).replay.map (·.bytes) = (s.port p).replay.map (·.bytes) := by
        rw [hport, Port.replayed, Port.retrained, List.map_map, List.map_map]
        exact List.map_congr_left fun _ _ => rfl
      refine (congrArg (List.map HeldFrame.bytes) hmore.symm).trans ?_
      rw [List.map_append]
      exact congrArg (· ++ _) hbytes
    · rw [hrun Port.replays (fun _ => rfl), hport, Port.replayed, Port.retrained, List.length_map]
    · exact (hrest k hk).trans ((hothers k hk).trans (s.port_modPort_ne _ hk))
    · exact (congrArg State.mem (z.sends_runPort p) :).trans (congrArg State.mem hsends :)

end Sys2Proof.Machine
end

section
/-! PROOFS. Lane switches (O27): a lane command leaves in the next frame, and the agreed mask is taken with the frames in flight sent again. -/

namespace Sys2Proof.Machine

open Sys2Proof

/-! ## Lane commands (R408, R410) -/

section
variable {t : Torus} {p : Nat}

/-- A port with an empty queue and something to tell sends an idle frame. -/
theorem Torus.run_idle {c : TxCtx} (hsends : (t.port p).sends = true) (hwaiting : (t.port p).waiting = []) (htell : (t.port p).mustTell = true)
    (hmay : c.may = true) : t.run c p = t.sendIdle p := by
  have hdrain : Torus.drain c p ((t.port p).waiting.length + 1) t = t := by
    rw [Torus.drain]; exact if_pos (by simp [hwaiting])
  unfold Torus.run
  rw [hdrain]
  exact if_pos (by rw [hsends, htell, hmay]; rfl)

theorem Torus.sendIdle_sentBlocks (t : Torus) (p : Nat) :
    (t.sendIdle p).sentBlocks = t.sentBlocks ++ [(p, fecBlock (t.port p).txBlock (leNat (frameBytes [] (t.port p).slot)))] := by
  have htold : ((t.modPort p Port.told).port p).txBlock = (t.port p).txBlock := by
    rw [Torus.port_modPort_self, Port.told]
  have hemit (u : Torus) (bytes : List Byte) : (u.emit p bytes).sentBlocks = u.sentBlocks ++ [(p, fecBlock (u.port p).txBlock (leNat bytes))] := rfl
  rw [Torus.sendIdle, hemit, htold]
  rfl

end

section
variable (s : State) (p cmd mask seq : Nat)

/-- A lane command changes what its port sends, and nothing else. -/
theorem State.sendLaneCmd_spec : s.Sends (s.sendLaneCmd p cmd mask seq) ∧ (∀ k, k ≠ p → (s.sendLaneCmd p cmd mask seq).port k = s.port k) ∧
    ((s.sendLaneCmd p cmd mask seq).port p).steady = (s.port p).steady := by
  unfold State.sendLaneCmd
  have hcmd := s.sends_modPort p (fun x => { x with laneCmd := some (cmd, mask, seq) })
  have hself := s.port_modPort_self p (fun x => { x with laneCmd := some (cmd, mask, seq) })
  have hne {k : Nat} (hk : k ≠ p) := s.port_modPort_ne (p := p) (fun x => { x with laneCmd := some (cmd, mask, seq) }) hk
  generalize s.modPort p _ = z at hcmd hself hne ⊢
  obtain ⟨hsteady, -, hothers, -⟩ := z.torus.runs_run z.txCtx p
  refine ⟨hcmd.trans (z.sends_runPort p), fun k hk => (hothers k hk).trans (hne hk), hsteady.trans ?_⟩
  exact (congrArg Port.steady hself).trans rfl

/-- The command leaves in the link slot of an idle frame where nothing waits to be sent before it. -/
theorem State.sendLaneCmd_sentBlocks (hsends : (s.port p).sends = true) (hwaiting : (s.port p).waiting = []) (hup : s.power.holdup = 0) :
    (s.sendLaneCmd p cmd mask seq).torus.sentBlocks = s.torus.sentBlocks ++
      [(p, fecBlock (s.port p).txBlock (leNat (frameBytes [] ({ s.port p with laneCmd := some (cmd, mask, seq) } : Port).slot)))] := by
  have hself := s.port_modPort_self p (fun x => { x with laneCmd := some (cmd, mask, seq) })
  have hblocks : (s.modPort p (fun x => { x with laneCmd := some (cmd, mask, seq) })).torus.sentBlocks = s.torus.sentBlocks := rfl
  have hmay : (s.modPort p (fun x => { x with laneCmd := some (cmd, mask, seq) })).txCtx.may = true := by
    change (s.power.holdup == 0) = true
    rw [hup]; rfl
  unfold State.sendLaneCmd State.runPort
  generalize s.modPort p _ = z at hself hblocks hmay ⊢
  have hport : z.torus.port p = { s.port p with laneCmd := some (cmd, mask, seq) } := hself
  dsimp only
  rw [Torus.run_idle (by rw [hport]; exact hsends) (by rw [hport]; exact hwaiting) (by rw [hport]; rfl) hmay, Torus.sendIdle_sentBlocks, hport,
    hblocks]

/-- What a lane command leaves where its switch has been noted. -/
theorem State.noteSwitch_spec (w : Option (Nat × Nat × Bool)) :
    let u := (s.modPort p (fun x => { x with switch := w })).sendLaneCmd p cmd mask seq
    s.Sends u ∧ (∀ k, k ≠ p → u.port k = s.port k) ∧ (u.port p).switch = w ∧ (u.port p).good = (s.port p).good ∧
      (u.port p).lastRetest = (s.port p).lastRetest := by
  intro u
  obtain ⟨hsends, hothers, hsteady⟩ := State.sendLaneCmd_spec (s.modPort p (fun x => { x with switch := w })) p cmd mask seq
  rw [State.port_modPort_self] at hsteady
  refine ⟨(s.sends_modPort p _).trans hsends, fun k hk => (hothers k hk).trans (s.port_modPort_ne _ hk), ?_, ?_, ?_⟩
  · exact Port.of_steady Port.switch (fun _ => rfl) hsteady
  · exact (Port.of_steady Port.good (fun _ => rfl) hsteady).trans rfl
  · exact (Port.of_steady Port.lastRetest (fun _ => rfl) hsteady).trans rfl

theorem State.draw_port (k : Nat) : s.draw.port k = s.port k := rfl

/-- A mask of enough lanes is proposed: the switch is noted, and its command leaves. -/
theorem State.proposeMask_spec (h : 8 ≤ (lanesOf mask).length) : ∃ seq, s.proposeMask p mask =
      ((s.modPort p (fun x => { x with switch := some (mask, seq, false) })).sendLaneCmd p 1 mask seq).draw ∧
    ((s.proposeMask p mask).port p).switch = some (mask, seq, false) ∧ ((s.proposeMask p mask).port p).good = (s.port p).good ∧
    ((s.proposeMask p mask).port p).lastRetest = (s.port p).lastRetest ∧ (∀ k, k ≠ p → (s.proposeMask p mask).port k = s.port k) ∧
    (s.proposeMask p mask).mem = s.mem := by
  obtain ⟨seq, hpropose⟩ : ∃ seq, s.proposeMask p mask =
    ((s.modPort p (fun x => { x with switch := some (mask, seq, false) })).sendLaneCmd p 1 mask seq).draw := ⟨_, if_neg (Nat.not_lt.2 h)⟩
  obtain ⟨hsends, hothers, hswitch, hgood, hretest⟩ := s.noteSwitch_spec p 1 mask seq (some (mask, seq, false))
  refine ⟨seq, hpropose, ?_⟩
  rw [hpropose]
  simp only [State.draw_port, State.draw_mem]
  exact ⟨hswitch, hgood, hretest, hothers, (congrArg State.mem hsends :)⟩

variable {s p mask seq}

theorem exec_laneErrorLimit {lane corrections symbols : Nat} (hst : (s.port p).state = 6) (hlane : bitOf (s.port p).good lane = true)
    (h : symbols < corrections * 10000) :
    exec (.laneErrorLimit p lane corrections symbols) s = .next (s.proposeMask p ((s.port p).good - 2 ^ lane)) := by
  change execLaneErrorLimit p lane corrections symbols s = _
  rw [execLaneErrorLimit]
  exact congrArg _ (if_pos (by simp [hst, hlane, h]))

/-- The state in which a port's lanes have been tested again. -/
def State.retested (s : State) (p : Nat) : State := s.modPort p (fun x => { x with lastRetest := s.now })

theorem exec_laneRetest {r : LaneResults} (hst : (s.port p).state = 6) (hfew : (lanesOf (s.port p).good).length < 17)
    (hdue : (s.port p).lastRetest + 10000000000 ≤ s.now) (hmask : mask = (s.port p).good ||| s.fusedLanes p (passMask r.tests &&& r.goodOut)) :
    exec (.laneRetest p r) s = .next (if mask = (s.port p).good then s.retested p else (s.retested p).proposeMask p mask) := by
  change execLaneRetest p r s = _
  rw [execLaneRetest, hmask]
  refine congrArg _ (if_pos ?_)
  rw [hst, decide_eq_true hfew, decide_eq_true hdue]; rfl

theorem exec_lanePropose (hst : (s.port p).state = 6) (h : 8 ≤ (lanesOf mask).length) : exec (.lanePropose p mask seq) s =
    .next ((s.modPort p (fun x => { x with switch := some (mask, seq, false) })).sendLaneCmd p 2 mask seq) := by
  change execLanePropose p mask seq s = _
  rw [execLanePropose, State.acceptMask, if_pos (by simp [hst, h])]

theorem exec_laneAccept (h : (s.port p).switch = some (mask, seq, false)) : exec (.laneAccept p mask seq) s =
    .next ((s.modPort p (fun x => { x with switch := some (mask, seq, true) })).sendLaneCmd p 3 mask seq) := by
  change execLaneAccept p mask seq s = _
  rw [execLaneAccept, State.maskAccepted, if_pos h]

end

/-! ## The switch (R402, R408, R441) -/

/-- What a still port shows is the port's. -/
theorem Port.of_still {α : Type} (g : Port → α) (hg : ∀ x, g x.still = g x) {x y : Port} (h : y.still = x.still) : g y = g x := by
  rw [← hg y, h, hg]

section
variable (s : State) (p mask : Nat)

/-- A port takes a lane mask; unless it crosses its floor nothing else changes, and else the routes do. -/
theorem State.setLanes_spec : (s.modPort p (·.laned mask (s.floor p))).torus.Keeps (s.setLanes p mask).torus ∧
    ((s.port p).belowFloor = decide (widthOf (lanesOf mask).length < s.floor p) →
      (s.setLanes p mask).torus = (s.modPort p (·.laned mask (s.floor p))).torus ∧ (s.setLanes p mask).mem = s.mem) := by
  unfold State.setLanes
  dsimp only
  generalize hu : State.when _ _ _ = u
  have hsaid : u.torus = (s.modPort p (·.laned mask (s.floor p))).torus ∧ u.mem = s.mem := by
    rw [← hu]; unfold State.when; split <;> exact ⟨rfl, rfl⟩
  rw [← hsaid.1]
  split
  · next hcrossed =>
    refine ⟨(u.moves_portServiceChanged p).ports.trans (State.keeps_continueStart _), fun hsame => absurd hcrossed ?_⟩
    simp [hsame]
  · exact ⟨.refl _, fun _ => ⟨rfl, hsaid.2⟩⟩

/-- A port whose lane mapping changes. -/
def Port.unmapped (x : Port) (now : Nat) : Port := { x with switch := none, switching := true, since := now }

/-- The state in which a port has taken the agreed mask and sent its frames in flight again. -/
def State.mapped (s : State) (p mask : Nat) : State := ((s.modPort p (·.unmapped s.now)).setLanes p mask).replayFrames p

theorem exec_laneSwitch {mask seq : Nat} (hst : (s.port p).state = 6) (hswitch : (s.port p).switch = some (mask, seq, true)) :
    exec (.laneSwitch p) s = .next (if (s.port p).atSwitch seq then { s.mapped p mask with torus := (s.mapped p mask).torus.sendIdle p } else s) := by
  change execLaneSwitch p s = _
  rw [execLaneSwitch, hswitch]
  dsimp only
  rw [hst]
  rfl

/-- The port holds the mask, its width and frames that count as sent again, and no other port differs while it keeps its side of the floor. -/
theorem State.mapped_spec :
    ((s.mapped p mask).port p).good = mask ∧ ((s.mapped p mask).port p).width = widthOf (lanesOf mask).length ∧
      ((s.mapped p mask).port p).switching = true ∧ ((s.mapped p mask).port p).switch = none ∧
      ((s.mapped p mask).port p).replays = (s.port p).replays + BitVec.ofNat 32 (s.port p).replay.length ∧
      ((s.port p).belowFloor = decide (widthOf (lanesOf mask).length < s.floor p) →
        (∀ k, k ≠ p → (s.mapped p mask).port k = s.port k) ∧ (s.mapped p mask).mem = s.mem) := by
  unfold State.mapped
  have hself := s.port_modPort_self p (·.unmapped s.now)
  have hne {k : Nat} (hk : k ≠ p) := s.port_modPort_ne (p := p) (·.unmapped s.now) hk
  have hfloor : (s.modPort p (·.unmapped s.now)).floor p = s.floor p := rfl
  have hmem : (s.modPort p (·.unmapped s.now)).mem = s.mem := rfl
  generalize s.modPort p (·.unmapped s.now) = z at *
  obtain ⟨hkeeps, hsame⟩ := z.setLanes_spec p mask
  generalize z.setLanes p mask = v at *
  obtain ⟨hsends, hothers, b, hport⟩ := v.replayFrames_spec p
  have hlaned : ((z.modPort p (·.laned mask (z.floor p))).port p) = ((s.port p).unmapped s.now).laned mask (s.floor p) := by
    rw [State.port_modPort_self, hself, hfloor]
  have hquiet : (((s.port p).unmapped s.now).laned mask (s.floor p)).sends = false := by
    rw [Port.sends, Port.laned, Port.unmapped, Bool.not_true, Bool.and_false, Bool.false_and]
  have hstill : (v.port p).still = (((s.port p).unmapped s.now).laned mask (s.floor p)).still := by
    rw [← hlaned]
    exact hkeeps.still p ((congrArg Port.sends hlaned).trans hquiet)
  have hshows {α : Type} (g : Port → α) (hg : ∀ x, g x.still = g x) : g (v.port p) = g (((s.port p).unmapped s.now).laned mask (s.floor p)) :=
    Port.of_still g hg hstill
  rw [hport]
  refine ⟨hshows Port.good (fun _ => rfl), hshows Port.width (fun _ => rfl), hshows Port.switching (fun _ => rfl),
    hshows Port.switch (fun _ => rfl), ?_, fun hfloors => ?_⟩
  · exact congrArg₂ (fun n fs => n + BitVec.ofNat 32 (List.length fs)) (hshows Port.replays (fun _ => rfl)) (hshows Port.replay (fun _ => rfl))
  · obtain ⟨htorus, hkept⟩ := hsame (by rw [hself, hfloor]; exact hfloors)
    refine ⟨fun k hk => ?_, (congrArg State.mem hsends :).trans (hkept.trans hmem)⟩
    rw [hothers k hk, ← hne hk]
    exact (congrArg (Torus.port · k) htorus).trans (z.port_modPort_ne _ hk)

end

/-- Settles O27: each lane command by the switch that it notes and the frame that it leaves in, and the switch by the port that takes its mask. -/
theorem laneSwitches : Obligations.LaneSwitches := by
  refine ⟨fun s t p cmd mask seq hst hswitching hretraining hwaiting hup ht => ?_, fun s p lane corrections symbols hst hlane hmany h8 => ?_,
    fun s p r hst hfew hdue h8 => ?_, fun s p mask seq hst h8 => ?_, fun s p mask seq hswitch => ?_,
    fun s p mask seq hst hswitch => ⟨fun hat => ?_, fun hat => ?_⟩⟩
  · have hport : t.port p = { s.port p with switch := some (mask, seq, cmd == 3) } := by rw [ht, State.port_modPort_self]
    have hsends : (t.port p).sends = true := by rw [hport, Port.sends, hst, hswitching, hretraining]; rfl
    have hpower : t.power = s.power := by rw [ht]; rfl
    have hblocks : t.torus.sentBlocks = s.torus.sentBlocks := by rw [ht]; rfl
    rw [t.sendLaneCmd_sentBlocks p cmd mask seq hsends (by rw [hport]; exact hwaiting) (by rw [hpower, hup]), hport, hblocks]
    rfl
  · obtain ⟨seq, hpropose, hswitch, hgood, -, hothers, hmem⟩ := s.proposeMask_spec p _ h8
    exact ⟨_, seq, exec_laneErrorLimit hst hlane hmany, hpropose, hswitch, hgood, hothers, hmem⟩
  · have hexec := exec_laneRetest (r := r) hst hfew hdue rfl
    generalize (s.port p).good ||| s.fusedLanes p (passMask r.tests &&& r.goodOut) = mask at *
    have hself : (s.retested p).port p = { s.port p with lastRetest := s.now } := s.port_modPort_self p _
    have hne {k : Nat} (hk : k ≠ p) : (s.retested p).port k = s.port k := s.port_modPort_ne _ hk
    by_cases hmask : mask = (s.port p).good
    · rw [if_pos hmask] at hexec
      refine ⟨_, hexec, ?_, ?_, fun h => absurd hmask h, fun k hk => hne hk, rfl⟩ <;> rw [hself]
    · rw [if_neg hmask] at hexec
      obtain ⟨seq, -, hswitch, hgood, hretest, hothers, hmem⟩ := (s.retested p).proposeMask_spec p mask h8
      rw [hself] at hgood hretest
      refine ⟨_, hexec, hretest, hgood, fun _ => ?_, fun k hk => (hothers k hk).trans (hne hk), hmem⟩
      rw [hswitch]; rfl
  · obtain ⟨hsends, hothers, hswitch, -⟩ := s.noteSwitch_spec p 2 mask seq (some (mask, seq, false))
    exact ⟨_, exec_lanePropose hst h8, rfl, hswitch, hothers, (congrArg State.mem hsends :)⟩
  · obtain ⟨hsends, hothers, hswitched, -⟩ := s.noteSwitch_spec p 3 mask seq (some (mask, seq, true))
    exact ⟨_, exec_laneAccept hswitch, rfl, hswitched, hothers, (congrArg State.mem hsends :)⟩
  · obtain ⟨hgood, hwidth, hswitching, hnone, hreplays, hsame⟩ := s.mapped_spec p mask
    have hexec := exec_laneSwitch s p hst hswitch
    rw [if_pos hat] at hexec
    generalize s.mapped p mask = v at *
    obtain ⟨hsteady, -, hothers, -⟩ := v.torus.runs_sendIdle p
    refine ⟨_, hexec, ?_, ?_, ?_, ?_, ?_, fun hfloor => ⟨fun k hk => (hothers k hk).trans ((hsame hfloor).1 k hk), (hsame hfloor).2⟩⟩
    · exact (Port.of_steady Port.good (fun _ => rfl) hsteady).trans hgood
    · exact (Port.of_steady Port.width (fun _ => rfl) hsteady).trans hwidth
    · exact (Port.of_steady Port.switching (fun _ => rfl) hsteady).trans hswitching
    · exact (Port.of_steady Port.switch (fun _ => rfl) hsteady).trans hnone
    · exact (Port.of_steady Port.replays (fun _ => rfl) hsteady).trans hreplays
  · rw [exec_laneSwitch s p hst hswitch, hat]; rfl

end Sys2Proof.Machine
end

section
/-! PROOFS. Frames that arrive (O28): what a link slot and the packets of a frame leave of what the port has heard. -/

namespace Sys2Proof.Machine

open Sys2Proof

/-! ## Link slots (R408, R410, R412, R413, R416) -/

/-- What a port has heard: the last frame in order, whether it asks for a replay, and when a valid frame last came. -/
def Port.heard (x : Port) : Nat × Bool × Nat := (x.rxSeq, x.nak, x.lastFrameAt)

/-- Between two states one port differs, not in the packets that it has received. -/
structure State.Hears (p : Nat) (s u : State) : Prop where
  sends : s.Sends u
  others : ∀ k, k ≠ p → u.port k = s.port k
  inbox : (u.port p).inbox = (s.port p).inbox

/-- Moreover the port has heard nothing: it has told its neighbour something at most. -/
structure State.Tells (p : Nat) (s u : State) : Prop extends State.Hears p s u where
  heard : (u.port p).heard = (s.port p).heard

section
variable {p : Nat} {s u v : State}

theorem State.Hears.trans (h : s.Hears p u) (g : u.Hears p v) : s.Hears p v :=
  ⟨h.sends.trans g.sends, fun k hk => (g.others k hk).trans (h.others k hk), g.inbox.trans h.inbox⟩

theorem State.hears_modPort {f : Port → Port} (hinbox : (f (s.port p)).inbox = (s.port p).inbox) : s.Hears p (s.modPort p f) :=
  ⟨s.sends_modPort p f, fun k hk => s.port_modPort_ne f hk, by rw [State.port_modPort_self, hinbox]⟩

theorem State.Tells.refl (p : Nat) (s : State) : s.Tells p s := ⟨⟨s.sends_refl, fun _ _ => rfl, rfl⟩, rfl⟩

theorem State.Tells.trans (h : s.Tells p u) (g : u.Tells p v) : s.Tells p v := ⟨h.toHears.trans g.toHears, g.heard.trans h.heard⟩

theorem State.tells_modPort {f : Port → Port} (hheard : (f (s.port p)).heard = (s.port p).heard) (hinbox : (f (s.port p)).inbox = (s.port p).inbox) :
    s.Tells p (s.modPort p f) := ⟨State.hears_modPort hinbox, by rw [State.port_modPort_self, hheard]⟩

theorem State.tells_of_steady (hsends : s.Sends u) (hothers : ∀ k, k ≠ p → u.port k = s.port k)
    (hsteady : (u.port p).steady = (s.port p).steady) : s.Tells p u :=
  ⟨⟨hsends, hothers, Port.of_steady Port.inbox (fun _ => rfl) hsteady⟩, Port.of_steady Port.heard (fun _ => rfl) hsteady⟩

theorem State.tells_runPort (s : State) (p : Nat) : s.Tells p (s.runPort p) := by
  obtain ⟨hsteady, -, hothers, -⟩ := s.torus.runs_run s.txCtx p
  exact State.tells_of_steady (s.sends_runPort p) hothers hsteady

theorem State.tells_sendLaneCmd (s : State) (p cmd mask seq : Nat) : s.Tells p (s.sendLaneCmd p cmd mask seq) := by
  obtain ⟨hsends, hothers, hsteady⟩ := s.sendLaneCmd_spec p cmd mask seq
  exact State.tells_of_steady hsends hothers hsteady

theorem State.tells_replayFrames (s : State) (p : Nat) : s.Tells p (s.replayFrames p) := by
  obtain ⟨hsends, hothers, b, hport⟩ := s.replayFrames_spec p
  exact ⟨⟨hsends, hothers, by rw [hport]; rfl⟩, by rw [hport]; rfl⟩

theorem State.tells_acceptMask (s : State) (p mask seq : Nat) : s.Tells p (s.acceptMask p mask seq) := by
  unfold State.acceptMask; split
  · exact (State.tells_modPort rfl rfl).trans (State.tells_sendLaneCmd _ p _ _ _)
  · exact .refl p s

theorem State.tells_maskAccepted (s : State) (p mask seq : Nat) : s.Tells p (s.maskAccepted p mask seq) := by
  unfold State.maskAccepted; split
  · exact (State.tells_modPort rfl rfl).trans (State.tells_sendLaneCmd _ p _ _ _)
  · exact .refl p s

theorem State.tells_switchAgreed (s : State) (p mask seq : Nat) : s.Tells p (s.switchAgreed p mask seq) := by
  unfold State.switchAgreed; split
  · exact State.tells_modPort rfl rfl
  · exact .refl p s

/-- A link slot acts on its port, and not on what the port has heard. -/
theorem State.tells_linkSlotIn (s : State) (p slot : Nat) : s.Tells p (s.linkSlotIn p slot) := by
  unfold State.linkSlotIn
  dsimp only
  generalize ht : State.modPort s p _ = t
  have hacked : s.Tells p t := ht ▸ State.tells_modPort rfl rfl
  have hreplayed (c d : Prop) [Decidable c] [Decidable d] :
      s.Tells p (if c then t else if d then t.modPort p (fun x => { x with retraining := true, since := t.now }) else t.replayFrames p) := by
    split
    · exact hacked
    · split
      · exact hacked.trans (State.tells_modPort rfl rfl)
      · exact hacked.trans (t.tells_replayFrames p)
  split
  · exact (hreplayed _ _).trans (State.tells_acceptMask _ p _ _)
  · exact (hreplayed _ _).trans (State.tells_maskAccepted _ p _ _)
  · exact (hreplayed _ _).trans (State.tells_switchAgreed _ p _ _)
  · exact hreplayed _ _

/-! ## Packets of a frame (R414, R423, R428) -/

theorem State.badPacket_heard (s : State) (k : Nat) : ((s.badPacket k).port p).heard = (s.port p).heard :=
  Port.of_steady Port.heard (fun _ => rfl) ((s.torus.keeps_badPacket k).steady p)

theorem State.modPort_heard (s : State) {k : Nat} {f : Port → Port} (h : ∀ x, (f x).heard = x.heard) :
    ((s.modPort k f).port p).heard = (s.port p).heard := by
  by_cases hp : p = k
  · rw [hp, State.port_modPort_self, h]
  · rw [State.port_modPort_ne _ _ hp]

theorem State.deliver_heard (s : State) (k : Nat) (q : Packet) : ((s.deliver k q).port p).heard = (s.port p).heard := by
  have hfree := s.modPort_heard (p := p) (k := k) (f := fun x => { x with owed := x.owed.upd (4 * q.tc + q.vc) (· + q.cost) }) fun _ => rfl
  unfold State.deliver
  dsimp only
  generalize State.modPort s k (fun x => { x with owed := _ }) = t at hfree ⊢
  split
  · exact (Port.of_steady Port.heard (fun _ => rfl) ((t.ends_forward (some k) q).ports.steady p)).trans hfree
  · split
    · exact s.modPort_heard fun _ => rfl
    · split
      · exact (t.badPacket_heard k).trans hfree
      · exact (congrArg Port.heard (t.noteEpoch_port q p)).trans hfree

theorem State.parsePackets_heard (p fuel : Nat) (s : State) (bs : List Byte) :
    ((State.parsePackets p fuel s bs).port p).heard = (s.port p).heard := by
  induction fuel generalizing s bs with
  | zero => exact s.modPort_heard fun _ => rfl
  | succ fuel ih =>
    rw [State.parsePackets]
    dsimp only
    split
    · exact s.modPort_heard fun _ => rfl
    · split
      · exact ih _ _
      · split
        · exact (ih _ _).trans (s.badPacket_heard p)
        · split
          · exact s.modPort_heard fun _ => rfl
          · split
            · exact (ih _ _).trans (s.badPacket_heard p)
            · exact (ih _ _).trans (s.deliver_heard p _)

end

/-! ## Blocks and frames (R409, R412) -/

/-- The state of a port that has counted a block's codewords. -/
def State.decoded (s : State) (p : Nat) (r : FecOut) : State :=
  s.modPort p (fun x => { x with fecFixed := x.fecFixed + BitVec.ofNat 32 r.fixed, fecLost := x.fecLost + BitVec.ofNat 32 r.lost })

/-- The state of a port to which a valid frame has come. -/
def State.resumed (s : State) (p : Nat) : State := s.modPort p (fun x => { x with lastFrameAt := s.now, switching := false })

/-- The state of a port that asks for a replay or no longer does. -/
def State.asks (s : State) (p : Nat) (nak : Bool) : State := s.modPort p (fun x => { x with nak := nak })

/-- The state of a port that has taken a frame in order. -/
def State.inOrder (s : State) (p seq : Nat) : State := s.modPort p (fun x => { x with rxSeq := seq, nak := false, partBytes := [] })

section
variable {s : State} {p count : Nat} {sent bytes : List Byte} {errors : List Nat} {r : FecOut} (hst : (s.port p).state = 6)
  (hretraining : (s.port p).retraining = false) (hr : fecReceive (fecArrive count sent errors) = r)
  (hbytes : bytes = (r.frame.map (leBytes 1280)).getD [])
include hst hretraining hr hbytes

theorem exec_frame : exec (.frame p count sent errors) s = .next (State.runPort
    (if r.frame = none ∨ leNat (bytes.drop 1276) ≠ (crc32 (bytes.take 1276)).toNat then (s.decoded p r).asks p true
      else (s.decoded p r).frameIn p bytes) p) := by
  change execFrame p count sent errors s = _
  rw [execFrame, hr, if_neg (by simp [hst, hretraining])]
  dsimp only
  rw [← hbytes]
  refine congrArg (fun u => Host.Outcome.next (State.runPort u p)) (if_congr ?_ rfl rfl)
  rw [Bool.or_eq_true, decide_eq_true_eq, Option.isNone_iff_eq_none]

end

section
variable (s : State) (p : Nat) (bytes : List Byte)

/-- A valid frame by its number and its payload. -/
theorem State.frameIn_eq {seq : Nat} (hseq : seq = bitsOf (leNat (bytes.drop 1216)) 0 16) : s.frameIn p bytes =
    if seq ≠ ((s.port p).rxSeq + 1) % 65536 then (if seqLe seq (s.port p).rxSeq then s.resumed p else (s.resumed p).asks p true)
    else if (bytes.take 1216).all (· == 0) = true ∧ (s.port p).partBytes = [] then
      ((s.resumed p).asks p false).linkSlotIn p (leNat (bytes.drop 1216))
    else State.parsePackets p 200 (((s.resumed p).inOrder p seq).linkSlotIn p (leNat (bytes.drop 1216))) ((s.port p).partBytes ++ bytes.take 1216) := by
  have hself : ((s.resumed p).port p).rxSeq = (s.port p).rxSeq := by rw [State.resumed, State.port_modPort_self]
  unfold State.frameIn
  dsimp only
  rw [← hseq]
  change (if seq ≠ _ then (if seqLe seq ((s.resumed p).port p).rxSeq then s.resumed p else (s.resumed p).asks p true) else _) = _
  rw [hself]
  refine if_congr Iff.rfl rfl (if_congr ?_ rfl rfl)
  rw [Bool.and_eq_true, List.isEmpty_iff]

variable (seq : Nat) (nak : Bool)

theorem State.hears_decoded (r : FecOut) : s.Hears p (s.decoded p r) := State.hears_modPort rfl
theorem State.hears_resumed : s.Hears p (s.resumed p) := State.hears_modPort rfl
theorem State.hears_asks : s.Hears p (s.asks p nak) := State.hears_modPort rfl

theorem State.decoded_heard (r : FecOut) : ((s.decoded p r).port p).heard = (s.port p).heard := by
  rw [State.decoded, State.port_modPort_self]; rfl
theorem State.resumed_heard : ((s.resumed p).port p).heard = ((s.port p).rxSeq, (s.port p).nak, s.now) := by
  rw [State.resumed, State.port_modPort_self]; rfl
theorem State.asks_heard : ((s.asks p nak).port p).heard = ((s.port p).rxSeq, nak, (s.port p).lastFrameAt) := by
  rw [State.asks, State.port_modPort_self]; rfl
theorem State.inOrder_heard : ((s.inOrder p seq).port p).heard = (seq, false, (s.port p).lastFrameAt) := by
  rw [State.inOrder, State.port_modPort_self]; rfl

end

section
variable {s : State} {p n : Nat} (hst : (s.port p).state = 6)
include hst

theorem exec_tc0Window_over (h : 2 * windowBytes (s.port p).width < 100 * n) :
    exec (.tc0Window p n) s = .next (s.modPort p (fun x => { x with tc0Over := x.tc0Over + 1 })) := by
  change execTc0Window p n s = _
  rw [execTc0Window, if_pos (by simp [hst, h])]

omit hst in
theorem exec_tc0Window_under (h : 100 * n ≤ 2 * windowBytes (s.port p).width) : exec (.tc0Window p n) s = .next s := by
  change execTc0Window p n s = _
  rw [execTc0Window, if_neg (by simp [h])]

end

/-- What a port has heard, in parts. -/
theorem Port.heard_parts {x : Port} {seq now : Nat} {nak : Bool} (h : x.heard = (seq, nak, now)) :
    x.rxSeq = seq ∧ x.nak = nak ∧ x.lastFrameAt = now :=
  ⟨congrArg Prod.fst h, congrArg (fun y => y.2.1) h, congrArg (fun y => y.2.2) h⟩

section
variable (s : State) (p : Nat)

theorem State.runPort_steady : ((s.runPort p).port p).steady = (s.port p).steady := (s.torus.runs_run s.txCtx p).steady

/-- A block that is lost is counted, and a replay asked for. -/
theorem State.lostBlock_spec (r : FecOut) :
    s.Hears p (((s.decoded p r).asks p true).runPort p) ∧ ((((s.decoded p r).asks p true).runPort p).port p).steady = ({ s.port p with
      fecFixed := (s.port p).fecFixed + BitVec.ofNat 32 r.fixed, fecLost := (s.port p).fecLost + BitVec.ofNat 32 r.lost, nak := true } : Port).steady := by
  have hasks := (s.hears_decoded p r).trans (State.hears_asks _ p true)
  refine ⟨hasks.trans (State.tells_runPort _ p).toHears, (State.runPort_steady _ p).trans ?_⟩
  rw [State.asks, State.port_modPort_self, State.decoded, State.port_modPort_self]

variable {s p} {bytes : List Byte} {seq : Nat} (hseq : seq = bitsOf (leNat (bytes.drop 1216)) 0 16)
include hseq

/-- A frame out of sequence: one taken before changes nothing of what the port has heard, and a later one asks for a replay. -/
theorem State.frameIn_out (h : seq ≠ ((s.port p).rxSeq + 1) % 65536) : s.Hears p (s.frameIn p bytes) ∧
    ((s.frameIn p bytes).port p).heard = ((s.port p).rxSeq, (s.port p).nak || !seqLe seq (s.port p).rxSeq, s.now) := by
  have hresumed := Port.heard_parts (s.resumed_heard p)
  rw [s.frameIn_eq p bytes hseq, if_pos h]
  cases hle : seqLe seq (s.port p).rxSeq with
  | true =>
    rw [if_pos rfl, s.resumed_heard p, Bool.not_true, Bool.or_false]
    exact ⟨s.hears_resumed p, rfl⟩
  | false =>
    rw [if_neg Bool.false_ne_true, State.asks_heard, hresumed.1, hresumed.2.2, Bool.not_false, Bool.or_true]
    exact ⟨(s.hears_resumed p).trans (State.hears_asks _ p true), rfl⟩

variable (hnext : seq = ((s.port p).rxSeq + 1) % 65536)
include hnext

/-- An idle frame between packets uses no number. -/
theorem State.frameIn_idle (hzero : (bytes.take 1216).all (· == 0) = true) (hpart : (s.port p).partBytes = []) : s.Hears p (s.frameIn p bytes) ∧
    ((s.frameIn p bytes).port p).heard = ((s.port p).rxSeq, false, s.now) := by
  have hresumed := Port.heard_parts (s.resumed_heard p)
  have htells := State.tells_linkSlotIn ((s.resumed p).asks p false) p (leNat (bytes.drop 1216))
  rw [s.frameIn_eq p bytes hseq, if_neg (not_not.2 hnext), if_pos ⟨hzero, hpart⟩, htells.heard, State.asks_heard, hresumed.1, hresumed.2.2]
  exact ⟨((s.hears_resumed p).trans (State.hears_asks _ p false)).trans htells.toHears, rfl⟩

/-- The next frame is taken. -/
theorem State.frameIn_next (h : ¬ ((bytes.take 1216).all (· == 0) = true ∧ (s.port p).partBytes = [])) :
    ((s.frameIn p bytes).port p).heard = (seq, false, s.now) := by
  have hresumed := Port.heard_parts (s.resumed_heard p)
  have htells := State.tells_linkSlotIn ((s.resumed p).inOrder p seq) p (leNat (bytes.drop 1216))
  rw [s.frameIn_eq p bytes hseq, if_neg (not_not.2 hnext), if_neg h, State.parsePackets_heard, htells.heard, State.inOrder_heard, hresumed.2.2]

end

/-- Settles O28: a bad block by the replay it asks for, a good frame by its number, and the window of TC0 by its bound. -/
theorem framesAreTakenInOrder : Obligations.FramesAreTakenInOrder := by
  refine ⟨fun s p count sent bytes errors symbols hsymbols hst hretraining hbytes hbad => ?_,
    fun s p f seq count sent bytes errors symbols hsymbols hst hretraining hframe hbytes hcrc hseq => ?_, fun s p n hst => ⟨fun hover => ?_, fun hunder => ?_⟩⟩
  · have hexec := exec_frame hst hretraining (congrArg fecReceive hsymbols.symm) hbytes
    rw [if_pos hbad] at hexec
    obtain ⟨hhears, hsteady⟩ := s.lostBlock_spec p (fecReceive symbols)
    refine ⟨_, hexec, ?_, ?_, hhears.inbox, ?_, ?_, hhears.others, (congrArg State.cores hhears.sends :), (congrArg State.mem hhears.sends :)⟩
    · exact Port.of_steady Port.nak (fun _ => rfl) hsteady
    · exact (Port.of_steady Port.rxSeq (fun _ => rfl) hsteady).trans rfl
    · exact Port.of_steady Port.fecLost (fun _ => rfl) hsteady
    · exact Port.of_steady Port.fecFixed (fun _ => rfl) hsteady
  · have hgood : ¬ ((fecReceive symbols).frame = none ∨ leNat (bytes.drop 1276) ≠ (crc32 (bytes.take 1276)).toNat) := by
      rw [hframe, hcrc]
      exact fun h => h.elim nofun (absurd rfl)
    have hexec := exec_frame hst hretraining (bytes := bytes) (congrArg fecReceive hsymbols.symm) (by rw [hframe, hbytes]; rfl)
    rw [if_neg hgood] at hexec
    have hheard := s.decoded_heard p (fecReceive symbols)
    have hpart : ((s.decoded p (fecReceive symbols)).port p).partBytes = (s.port p).partBytes := by rw [State.decoded, State.port_modPort_self]
    have hnow : (s.decoded p (fecReceive symbols)).now = s.now := rfl
    have hdecoded := s.hears_decoded p (fecReceive symbols)
    generalize s.decoded p (fecReceive symbols) = z at *
    obtain ⟨hrx, hnak, -⟩ := Port.heard_parts hheard
    have hran := (z.frameIn p bytes).tells_runPort p
    rw [← hrx, ← hpart, ← hnak]
    refine ⟨fun hnext hfull => ?_, fun hnext hzero hempty => ?_, fun hout => ?_⟩
    · have hidle : ¬ ((bytes.take 1216).all (· == 0) = true ∧ (z.port p).partBytes = []) :=
        fun h => hfull.elim (fun hno => absurd (h.1.symm.trans hno) (by decide)) (absurd h.2)
      obtain ⟨htaken, hasks, hlast⟩ := Port.heard_parts (hran.heard.trans (State.frameIn_next hseq hnext hidle))
      exact ⟨_, hexec, htaken, hasks, hlast.trans hnow⟩
    · obtain ⟨hhears, hidle⟩ := State.frameIn_idle hseq hnext hzero hempty
      have hall := (hdecoded.trans hhears).trans hran.toHears
      obtain ⟨hkept, hasks, -⟩ := Port.heard_parts (hran.heard.trans hidle)
      exact ⟨_, hexec, hkept, hall.inbox, hasks, hall.others, (congrArg State.mem hall.sends :)⟩
    · obtain ⟨hhears, hlate⟩ := State.frameIn_out hseq hout
      have hall := (hdecoded.trans hhears).trans hran.toHears
      obtain ⟨hkept, hasks, -⟩ := Port.heard_parts (hran.heard.trans hlate)
      exact ⟨_, hexec, hkept, hall.inbox, hasks, hall.others, (congrArg State.mem hall.sends :)⟩
  · refine ⟨_, exec_tc0Window_over hst hover, ?_, fun k hk => s.port_modPort_ne _ hk, rfl⟩
    rw [State.port_modPort_self]
  · exact exec_tc0Window_under hunder

end Sys2Proof.Machine
end

section
/-! PROOFS. Transfers at their source (O30): answers taken from an inbox, refusals, and time limits. -/

namespace Sys2Proof.Machine

open Sys2Proof

/-! ## Packets taken (R414, R436) -/

theorem firstOf_kind {kind : Nat} {before ps : List Packet} {p : Packet} (h : firstOf kind before ps = some p) : p.kind = kind := by
  induction ps generalizing before with
  | nil => cases h
  | cons q ps ih =>
    rw [firstOf] at h
    split at h
    · next hq =>
      obtain rfl : q = p := Option.some.inj h
      exact of_decide_eq_true (Bool.and_eq_true_iff.1 hq).1
    · exact ih h

section
variable {s : State} {port kind : Nat} {p : Packet}

/-- A packet that may be taken acts once it has left its inbox, unless its epoch is an older one. -/
theorem State.takePacket_taken (hfirst : firstOf kind [] (s.port port).inbox = some p)
    (h : s.torus.rxEpoch.at p.src = 0 ∨ p.kind = 5 ∨ p.kind = 6) (f : State → Packet → State) :
    s.takePacket port kind f = f (s.taken port p) p := by
  have hnewest : (s.popPacket port p).olderEpoch p = false := by
    rw [State.olderEpoch, State.popPacket_rxEpoch]
    obtain hnone | hkind | hkind := h
    · simp [hnone]
    · simp [hkind]
    · simp [hkind]
  rw [State.takePacket, hfirst]
  dsimp only
  rw [hnewest]
  rfl

theorem State.noteEpoch_standing (s : State) (p : Packet) : (s.noteEpoch p).torus.standing = s.torus.standing := by
  unfold State.noteEpoch; split <;> rfl

theorem State.taken_standing (s : State) (port : Nat) (p : Packet) : (s.taken port p).torus.standing = s.torus.standing := by
  rw [State.taken, State.noteEpoch_standing, State.popPacket, State.runPort]
  exact (Torus.run_standing _ _ _).trans (Torus.modPort_standing _ _ _)

end

/-! ## Sources (R425, R426) -/

section
variable {s u : State} {tag : Nat} {y : Source}

theorem State.sourceOf_eq_none : s.sourceOf tag = none ↔ tag ∉ s.torus.sources.map (·.tag) := by
  simp only [State.sourceOf, List.find?_eq_none, List.mem_map, beq_iff_eq, not_exists, not_and]

theorem State.sourceOf_tag (h : s.sourceOf tag = some y) : y.tag = tag := by
  simpa using List.find?_some h

/-- A source whose entry is changed is found as the entry changed. -/
theorem State.sourceOf_map {f : Source → Source} (hf : ∀ y, (f y).tag = y.tag) :
    (s.modTorus (fun t => { t with sources := t.sources.map f })).sourceOf tag = (s.sourceOf tag).map f := by
  change (s.torus.sources.map f).find? _ = _
  rw [List.find?_map]
  refine congrArg (fun q => (s.torus.sources.find? q).map f) (funext fun y => ?_)
  rw [Function.comp_apply, hf]

/-- A source stands, but for when it sent last, while packets leave. -/
theorem State.sourceOf_standing (h : u.torus.standing = s.torus.standing) (hy : s.sourceOf tag = some y) :
    ∃ n, u.sourceOf tag = some { y with lastSent := n } := by
  have hmarks (v : State) : (v.torus.standing.2.2).find? (fun z => z.tag == tag) = (v.sourceOf tag).map (fun z => { z with lastSent := 0 }) :=
    List.find?_map
  have hfound : (u.sourceOf tag).map (fun z => { z with lastSent := 0 }) = some { y with lastSent := 0 } := by
    rw [← hmarks, h, hmarks, hy]; rfl
  obtain ⟨z, hz, heq⟩ := Option.map_eq_some_iff.1 hfound
  refine ⟨z.lastSent, hz.trans (congrArg some ?_)⟩
  exact (congrArg (fun x : Source => { x with lastSent := z.lastSent }) heq :)

/-! ## A transfer that ends (R426, R440) -/

/-- A transfer that ends leaves no source of its tag. -/
theorem State.Ends.sourceOf (h : s.Ends u) (hnone : s.sourceOf tag = none) : u.sourceOf tag = none :=
  State.sourceOf_eq_none.2 fun hin => State.sourceOf_eq_none.1 hnone (h.tags hin)

theorem State.dropSource_sourceOf (s : State) (tag : Nat) :
    (s.modTorus (fun t => { t with sources := t.sources.filter (fun z => z.tag != tag) })).sourceOf tag = none := by
  refine List.find?_eq_none.2 fun z hz => ?_
  simpa using (List.mem_filter.1 hz).2

/-- A transfer that fails is gone with its item, whose cause is shown and latched; no other core and no byte of memory changes. -/
theorem State.sourceFail_spec (s : State) (y : Source) {cause : Cause} (hc : cause ≠ 0) :
    (s.sourceFail y cause).sourceOf y.tag = none ∧ (s.sourceFail y cause).findXfer y.core y.item = none ∧
      (∀ x, s.findXfer y.core y.item = some x →
        ((s.sourceFail y cause).core y.core).xf.lastFail = cause ∧ (s.sourceFail y cause).HoldsCause y.core x.counter) ∧
      Safety.OnlyCore y.core s (s.sourceFail y cause) := by
  unfold State.sourceFail
  dsimp only
  generalize hu : State.unqueue _ _ = u
  have hcores : u.cores = s.cores ∧ u.mem = s.mem := by
    rw [← hu, State.sends_unqueue]
    unfold State.when; split <;> exact ⟨rfl, rfl⟩
  have hnone := u.dropSource_sourceOf y.tag
  have hsame : (u.modTorus (fun t => { t with sources := t.sources.filter (fun z => z.tag != y.tag) })).cores = s.cores ∧
      (u.modTorus (fun t => { t with sources := t.sources.filter (fun z => z.tag != y.tag) })).mem = s.mem := hcores
  generalize State.modTorus u _ = v at hnone hsame ⊢
  have hcore (k : Nat) : v.core k = s.core k := congrArg (Tab.at · k) hsame.1
  have honly : Safety.OnlyCore y.core s v := ⟨fun k _ => hcore k, hsame.2⟩
  have hfind : v.findXfer y.core y.item = s.findXfer y.core y.item := by rw [State.findXfer, hcore]; rfl
  have hended := (v.ends_endOpen y.core y.item cause).sourceOf hnone
  rw [← hfind]
  cases hx : v.findXfer y.core y.item with
  | none =>
    have hend : v.endOpen y.core y.item cause = v := by rw [State.endOpen, hx]
    rw [hend]
    exact ⟨hnone, hx, nofun, honly⟩
  | some x =>
    obtain ⟨hgone, hfail, hlatched, -, -, hframe⟩ := State.endOpen_failed_spec hx hc
    refine ⟨hended, hgone, fun x' hx' => ?_, OnlyCore.trans honly hframe⟩
    obtain rfl : x = x' := Option.some.inj hx'
    exact ⟨hfail, hlatched⟩

/-- The last transfer of a remote item ends it Done: its counter advances. -/
theorem State.sourceDone_spec {core id : Nat} {x : Xfer} (hx : s.findXfer core id = some x) (hkind : x.kind = .remote) (hlast : x.outstanding = [tag]) :
    (s.sourceDone core id tag).findXfer core id = none ∧ (s.sourceDone core id tag).sourceOf tag = none ∧
      (((s.sourceDone core id tag).core core).counters.at x.counter).value =
        ((s.core core).counters.at x.counter).value + BitVec.ofNat 32 x.increment ∧
      Safety.OnlyCore core s (s.sourceDone core id tag) := by
  have hnone := s.dropSource_sourceOf tag
  have hcores : (s.modTorus (fun t => { t with sources := t.sources.filter (fun z => z.tag != tag) })).cores = s.cores := rfl
  have hmem : (s.modTorus (fun t => { t with sources := t.sources.filter (fun z => z.tag != tag) })).mem = s.mem := rfl
  unfold State.sourceDone
  dsimp only
  generalize State.modTorus s _ = u at hnone hcores hmem ⊢
  have hcore (k : Nat) : u.core k = s.core k := congrArg (Tab.at · k) hcores
  have hxu : u.findXfer core id = some x := by rw [State.findXfer, hcore]; exact hx
  rw [hxu, State.when, Option.isSome_some, if_pos rfl]
  generalize hv : State.modXf u core _ = v
  have hxv : v.findXfer core id = some { x with outstanding := [] } := by
    have hid : x.id = id := by simpa using List.find?_some hxu
    have hsame : (fun z : Xfer => z.id == id) ∘ (fun z => if z.id = id then { z with outstanding := z.outstanding.erase tag } else z) =
        fun z => z.id == id := by
      funext z
      dsimp only [Function.comp]
      split <;> rfl
    rw [← hv, State.findXfer, State.modXf_xf, List.find?_map, hsame, show List.find? _ _ = some x from hxu, Option.map_some, if_pos hid, hlast,
      List.erase_cons_head]
  have hcounters : (v.core core).counters = (s.core core).counters := by
    rw [← hv, State.modXf, State.core_modCore_self, ← hcore]
  have honly : Safety.OnlyCore core s v := by
    rw [← hv]
    exact OnlyCore.trans ⟨fun k _ => hcore k, hmem⟩ (OnlyCore.modCore core u _)
  have hnone' : v.sourceOf tag = none := by rw [← hv]; exact hnone
  obtain ⟨hgone, hvalue, -, hframe⟩ := State.endOpen_done_spec hxv
  rw [hxv]
  dsimp only
  rw [if_pos (by rw [hkind]; rfl)]
  exact ⟨hgone, (v.ends_endOpen core id 0).sourceOf hnone', by rw [hvalue, hcounters], OnlyCore.trans honly hframe⟩

end

/-! ## The commands -/

section
variable {s : State} {port : Nat} {p : Packet} {y : Source} (hepoch : s.torus.rxEpoch.at p.src = 0) (hdst : y.dst = p.src) (hsent : y.sent = true)
include hepoch hdst hsent

theorem exec_completion (hfirst : firstOf 2 [] (s.port port).inbox = some p) (hy : (s.taken port p).sourceOf p.tag = some y) :
    exec (.completion port) s = .next (if p.cause = 0 then (s.taken port p).sourceDone y.core y.item y.tag else (s.taken port p).sourceFail y p.cause) := by
  change execCompletion port s = _
  rw [execCompletion, State.takePacket_taken hfirst (.inl hepoch), hy, Option.filter_some, if_pos (by simp [hdst, hsent])]

/-- The state in which a source has been refused. -/
def State.refusedAt (s : State) (tag at0 : Nat) : State :=
  s.modTorus (fun t => { t with sources := t.sources.map (fun z => if z.tag = tag then { z with refusedAt := some at0 } else z) })

theorem exec_refused_first (hfirst : firstOf 3 [] (s.port port).inbox = some p) (hy : (s.taken port p).sourceOf p.tag = some y) (hnew : y.refusedAt = none)
    (hwindow : 0 < s.retryWindow y.tc) : exec (.refused port) s = .next ((s.taken port p).refusedAt y.tag s.now) := by
  have hsends := s.sends_taken port p
  have hnow : (s.taken port p).now = s.now := by rw [hsends]; rfl
  have hlimit : (s.taken port p).retryWindow y.tc = s.retryWindow y.tc := by rw [hsends]; rfl
  change execRefused port s = _
  rw [execRefused, State.takePacket_taken hfirst (.inl hepoch), hy, Option.filter_some, if_pos (by simp [hdst, hsent])]
  dsimp only
  rw [hnew, hnow, hlimit, Option.getD_none, if_pos (by omega)]
  rfl

end

section
variable {s : State} {tag at0 : Nat} {y : Source} (hy : s.sourceOf tag = some y)
include hy

/-- The state in which a refused source is sent again. -/
def State.resending (s : State) (tag : Nat) : State :=
  s.modTorus (fun t => { t with sources := t.sources.map (fun z => if z.tag = tag then { z with resentAt := s.now } else z) })

theorem exec_refusedRetry (hrefused : y.refusedAt = some at0) (hwithin : s.now < at0 + s.retryWindow y.tc)
    (hdue : max at0 y.resentAt + 100000 ≤ s.now) : exec (.refusedRetry tag) s = .next ((s.resending tag).sendSource tag) := by
  change execRefusedRetry tag s = _
  rw [execRefusedRetry, hy]
  dsimp only
  rw [hrefused]
  dsimp only
  rw [decide_eq_true hwithin, decide_eq_true hdue]
  rfl

theorem exec_retryWindowEnd (hrefused : y.refusedAt = some at0) (hover : at0 + s.retryWindow y.tc ≤ s.now) :
    exec (.retryWindowEnd tag) s = .next (s.sourceFail y Cause.targetResetting) := by
  change execRetryWindowEnd tag s = _
  rw [execRetryWindowEnd, hy]
  dsimp only
  rw [hrefused, Option.any_some, decide_eq_true hover]
  rfl

theorem exec_sourceTransferTimeout (hsent : y.sent = true) (hleft : s.unsent tag = false) (hnew : y.refusedAt = none)
    (hlate : y.lastSent + s.img.fabricTimeout < s.now) : exec (.sourceTransferTimeout tag) s = .next (s.sourceFail y Cause.timeout) := by
  change execSourceTransferTimeout tag s = _
  rw [execSourceTransferTimeout, hy]
  dsimp only
  rw [hsent, hleft, hnew, decide_eq_true hlate]
  rfl

/-- A source that is sent again stands as it was but for its marks. -/
theorem State.sendSource_sourceOf (hpath : (s.torus.paths.at y.dst).state ≠ 3) :
    s.Sends (s.sendSource tag) ∧ ∃ z, (s.sendSource tag).sourceOf tag = some z ∧ z.resentAt = y.resentAt ∧ z.packets = y.packets := by
  have hsends := (State.sendSource_spec (y := y) (by rw [State.sourceOf_tag hy]; exact hy) hpath).1
  rw [State.sourceOf_tag hy] at hsends
  refine ⟨hsends, ?_⟩
  unfold State.sendSource
  rw [show s.torus.sources.find? _ = some y from hy]
  dsimp only
  rw [if_neg hpath]
  split
  · exact ⟨y, hy, rfl, rfl⟩
  · have hmark := State.sourceOf_map (s := s) (tag := tag) (f := fun z => if z.tag = tag
      then { z with sent := true, epoch := (s.torus.paths.at y.dst).epoch, lastSent := s.now } else z) (fun z => by split <;> rfl)
    rw [hy, Option.map_some, if_pos (State.sourceOf_tag hy)] at hmark
    generalize State.modTorus s _ = m at hmark ⊢
    have hstands : (m.each y.packets (fun u k => u.forward none (u.stamp k))).torus.standing = m.torus.standing :=
      foldl_keeps (fun u : State => u.torus.standing) _ (fun u k => u.forward_standing none (u.stamp k)) _ _
    obtain ⟨n, hn⟩ := State.sourceOf_standing hstands hmark
    exact ⟨_, hn, rfl, rfl⟩

end

section
variable {s z : State} (h : s.Sends z)
include h

theorem OnlyCore.of_sends (core : Nat) : Safety.OnlyCore core s z := by rw [h]; exact ⟨fun _ _ => rfl, rfl⟩
theorem State.Sends.findXfer (core id : Nat) : z.findXfer core id = s.findXfer core id := by rw [h]; rfl
theorem State.Sends.core (k : Nat) : z.core k = s.core k := by rw [h]; rfl

end

/-- Settles O30: an answer by what it does to its source, and each limit by the end of the transfer. -/
theorem sourcesEnd : Obligations.SourcesEnd := by
  refine ⟨fun s port p y x hfirst hepoch hy hdst hsent hx hkind => ?_, fun s port p y hfirst hepoch hy hdst hsent hnew hwindow => ?_,
    fun s tag at0 y hy hrefused => ⟨fun hwithin hdue hpath => ?_, fun hover => ?_⟩, fun s tag y hy hsent hleft hnew hlate => ?_⟩
  · obtain ⟨n, hn⟩ := State.sourceOf_standing (s.taken_standing port p) hy
    have htag := State.sourceOf_tag hy
    have hexec := exec_completion (y := { y with lastSent := n }) hepoch hdst hsent hfirst hn
    have hsends := s.sends_taken port p
    generalize s.taken port p = z at *
    have hxz : z.findXfer y.core y.item = some x := by rw [hsends.findXfer, hx]
    have honly := OnlyCore.of_sends hsends y.core
    refine ⟨fun hcause hlast _ => ?_, fun hcause => ?_⟩
    · rw [if_pos hcause] at hexec
      obtain ⟨hgone, hnone, hvalue, hframe⟩ := State.sourceDone_spec (tag := y.tag) hxz hkind (by rw [hlast, htag])
      exact ⟨_, hexec, hgone, by rw [← htag]; exact hnone, by rw [← hsends.core]; exact hvalue, OnlyCore.trans honly hframe⟩
    · rw [if_neg hcause] at hexec
      obtain ⟨hnone, hgone, hfail, hframe⟩ := z.sourceFail_spec { y with lastSent := n } hcause
      obtain ⟨hshown, hlatched⟩ := hfail x hxz
      exact ⟨_, hexec, hgone, by rw [← htag]; exact hnone, hshown, hlatched, OnlyCore.trans honly hframe⟩
  · obtain ⟨n, hn⟩ := State.sourceOf_standing (s.taken_standing port p) hy
    have hexec := exec_refused_first (y := { y with lastSent := n }) hepoch hdst hsent hfirst hn hnew hwindow
    have hsends := s.sends_taken port p
    have hmark := State.sourceOf_map (s := s.taken port p) (tag := p.tag) (f := fun z => if z.tag = y.tag then { z with refusedAt := some s.now } else z)
      (fun z => by split <;> rfl)
    rw [hn, Option.map_some, if_pos rfl] at hmark
    exact ⟨_, _, hexec, hmark, rfl, rfl, (congrArg State.cores hsends :), (congrArg State.mem hsends :)⟩
  · have hmark := State.sourceOf_map (s := s) (tag := tag) (f := fun z => if z.tag = tag then { z with resentAt := s.now } else z)
      (fun z => by split <;> rfl)
    rw [hy, Option.map_some, if_pos (State.sourceOf_tag hy)] at hmark
    obtain ⟨hsends, z, hz, hresent, hpackets⟩ := State.sendSource_sourceOf (s := s.resending tag) hmark hpath
    exact ⟨_, z, exec_refusedRetry hy hrefused hwithin hdue, hz, hresent, hpackets, (congrArg State.mem hsends :)⟩
  · obtain ⟨hnone, hgone, hfail, hframe⟩ := s.sourceFail_spec y (cause := Cause.targetResetting) (by decide)
    rw [State.sourceOf_tag hy] at hnone
    exact ⟨_, exec_retryWindowEnd hy hrefused hover, hnone, hgone, fun x hx => (hfail x hx).1, hframe⟩
  · obtain ⟨hnone, hgone, hfail, hframe⟩ := s.sourceFail_spec y (cause := Cause.timeout) (by decide)
    rw [State.sourceOf_tag hy] at hnone
    exact ⟨_, exec_sourceTransferTimeout hy hsent hleft hnew hlate, hnone, hgone, fun x hx => (hfail x hx).1, hframe⟩

end Sys2Proof.Machine
end

section
/-! PROOFS. Epochs of a path, and the site link map (O31). -/

namespace Sys2Proof.Machine

open Sys2Proof

/-! ## A packet that comes to an output queue waits or has left (R418, R432) -/

/-- The packet waits at the port or has left by it. -/
def Torus.Queued (t : Torus) (p : Nat) (k : Packet) : Prop := k ∈ (t.port p).waiting ∨ (p, k) ∈ t.sentPackets

/-- What a frame that leaves keeps of a port: the packets that wait there and those sent. -/
def Torus.queue (t : Torus) (p : Nat) : List Packet × List (Nat × Packet) := ((t.port p).waiting, t.sentPackets)

section
variable {t u : Torus} {p : Nat} {k : Packet}

theorem Torus.Queued.of_queue (hk : t.Queued p k) (h : u.queue p = t.queue p) : u.Queued p k := by
  obtain ⟨hwaiting, hsent⟩ := Prod.mk.inj h
  rwa [Torus.Queued, hwaiting, hsent]

theorem Torus.modPort_queue {f : Port → Port} (h : (f (t.port p)).waiting = (t.port p).waiting) : (t.modPort p f).queue p = t.queue p := by
  refine congrArg (·, t.sentPackets) ?_
  rw [Torus.port_modPort_self, h]

theorem Torus.emit_queue (t : Torus) (p : Nat) (bytes : List Byte) : (t.emit p bytes).queue p = t.queue p := (Torus.modPort_queue rfl).trans rfl

theorem Port.told_waiting (x : Port) : x.told.waiting = x.waiting := by rw [Port.told]

theorem Torus.sendIdle_queue (t : Torus) (p : Nat) : (t.sendIdle p).queue p = t.queue p := by
  unfold Torus.sendIdle
  rw [Torus.emit_queue]
  exact Torus.modPort_queue (Port.told_waiting _)

theorem Torus.sendFrame_queue (t : Torus) (p : Nat) (tc0 : Bool) (payload : List Byte) : (t.sendFrame p tc0 payload).queue p = t.queue p := by
  unfold Torus.sendFrame
  dsimp only
  rw [Torus.emit_queue]
  exact Torus.modPort_queue (by dsimp only; exact Port.told_waiting _)

theorem Torus.sendPacket_queue (t : Torus) (p : Nat) (k : Packet) : (t.sendPacket p k).queue p = t.queue p :=
  (foldl_keeps (Torus.queue · p) _ (fun u _ => u.sendFrame_queue p _ _) _ _).trans (Torus.modPort_queue rfl)

/-- A packet that leaves is sent, and those that wait go on waiting. -/
theorem Torus.launch_queue (t : Torus) (c : TxCtx) (p : Nat) (k : Packet) :
    (t.launch c p k).queue p = ((t.port p).waiting, t.sentPackets ++ [(p, k)]) := by
  obtain ⟨hwaiting, hsent⟩ := Prod.mk.inj (t.sendPacket_queue p k)
  exact Prod.ext hwaiting (congrArg (· ++ [(p, k)]) hsent)

theorem Torus.queued_drain (c : TxCtx) (fuel : Nat) (h : t.Queued p k) : (Torus.drain c p fuel t).Queued p k := by
  induction fuel generalizing t with
  | zero => exact h
  | succ fuel ih =>
    rw [Torus.drain]; split
    · exact h
    · split
      · exact h
      · next chosen x hpick =>
        obtain ⟨-, -, hwaiting⟩ := pickPacket_spec hpick
        refine ih ?_
        obtain ⟨hkept, hsent⟩ := Prod.mk.inj (Torus.launch_queue (t.modPort p (fun _ => { x with waiting := x.waiting.erase chosen })) c p chosen)
        rw [Torus.Queued, hkept, hsent, Torus.port_modPort_self]
        obtain hk | hk := h
        · by_cases hchosen : k = chosen
          · exact .inr (by simp [hchosen])
          · exact .inl ((List.mem_erase_of_ne hchosen).2 (hwaiting ▸ hk))
        · exact .inr (List.mem_append_left _ hk)

theorem Torus.queued_run (c : TxCtx) (h : t.Queued p k) : (t.run c p).Queued p k := by
  have hdrain := Torus.queued_drain c ((t.port p).waiting.length + 1) h
  unfold Torus.run
  generalize Torus.drain _ _ _ _ = u at hdrain ⊢
  dsimp only; split
  · exact hdrain.of_queue (u.sendIdle_queue p)
  · exact hdrain

theorem Torus.queued_tx (c : TxCtx) (k : Packet) (hup : (t.port p).state = 6) : (t.tx c p k).Queued p k := by
  unfold Torus.tx
  rw [if_neg (not_not_intro hup)]
  refine Torus.queued_run c (.inl ?_)
  rw [Torus.port_modPort_self]
  exact List.mem_append_right _ (List.mem_singleton_self k)

end

/-- A packet whose next port is UP waits there or has left. -/
theorem State.forward_queued {s : State} {k : Packet} {q : Nat} (hnext : s.nextPort k.route k.src k.dst = some q) (hup : (s.port q).state = 6) :
    ∃ vc, (s.forward none k).torus.Queued q { k with vc := vc } := by
  rw [State.forward, hnext]
  exact ⟨_, Torus.queued_tx s.txCtx _ hup⟩

/-! ## Routes depend on the links in service (R429) -/

section
variable {s : State} {t : Torus}

theorem State.leg_torus (s : State) (t : Torus) (a : Nat) (minus : Bool) (d fuel node : Nat) :
    ({ s with torus := t } : State).leg a minus d fuel node = s.leg a minus d fuel node := by
  induction fuel generalizing node with
  | zero => rfl
  | succ fuel ih =>
    exact congrArg (fun r : List (Nat × Nat) × Nat => if s.coord node a = d then ([], node) else ((node, portOf a minus) :: r.1, r.2))
      (ih (s.neighbour node (portOf a minus)))

variable (h : ({ s with torus := t } : State).linkUp = s.linkUp)
include h

theorem State.legUp_congr : ({ s with torus := t } : State).legUp = s.legUp := by
  funext a minus node dst
  unfold State.legUp
  rw [State.leg_torus, h]; rfl

theorem State.choose_congr : ({ s with torus := t } : State).choose = s.choose := by
  funext detour dst order node
  induction order generalizing node with
  | nil => rfl
  | cons a rest ih => rw [State.choose, State.choose, State.legUp_congr h, ih]; rfl

theorem State.routeTo_congr : ({ s with torus := t } : State).routeTo = s.routeTo := by
  have hbroken : ({ s with torus := t } : State).brokenAxes = s.brokenAxes := by
    funext src dst
    unfold State.brokenAxes
    rw [State.choose_congr h, State.legUp_congr h]; rfl
  have hoffset : ({ s with torus := t } : State).offsetRoute = s.offsetRoute := by
    funext src dst broken
    unfold State.offsetRoute
    rw [State.choose_congr h, h]; rfl
  funext dst
  unfold State.routeTo
  rw [State.choose_congr h, hbroken, hoffset]; rfl

end

/-- While no port enters or leaves service and the site link map stands, every route is the same. -/
theorem State.routeTo_of_service {s z : State} (hsends : s.Sends z) (hservice : z.portInService = s.portInService)
    (hdown : z.torus.linksDown = s.torus.linksDown) : z.routeTo = s.routeTo := by
  have hlinks : z.linkUp = s.linkUp := by
    funext node port
    rw [State.linkUp, State.linkUp, hservice, hdown, hsends]
    rfl
  rw [hsends] at hlinks ⊢
  exact State.routeTo_congr hlinks

theorem State.path_modPath_self (s : State) (n : Nat) (f : Path → Path) : (s.modPath n f).torus.paths.at n = f (s.torus.paths.at n) :=
  Tab.at_upd_self _ _ _

/-- The route of a path is the one it has, or when it is first used the one chosen for it. -/
theorem State.knowPath_route (s : State) (n : Nat) : ((s.knowPath n).torus.paths.at n).route =
    if (s.torus.paths.at n).known then (s.torus.paths.at n).route else (s.routeTo n).1.byte := by
  unfold State.knowPath; split
  · rfl
  · dsimp only
    rw [State.path_modPath_self]

theorem State.Sends.nextPort {s z : State} (h : s.Sends z) : z.nextPort = s.nextPort := by rw [h]; rfl

/-! ## A packet taken leaves paths and ports (R416, R436) -/

/-- A packet leaves the inbox of a port: its buffer is owed back. -/
def Port.popped (p : Packet) (x : Port) : Port :=
  { x with inbox := x.inbox.erase p, owed := x.owed.upd (4 * p.tc + p.vc) (· + p.cost) }

section
variable (s : State) (port : Nat) (p : Packet)

theorem State.runs_popPacket : (s.modPort port (Port.popped p)).torus.Runs port (s.popPacket port p).torus := by
  unfold State.popPacket
  exact Torus.runs_run _ _ _

theorem State.noteEpoch_rest : (s.noteEpoch p).torus.paths = s.torus.paths ∧ (s.noteEpoch p).torus.linksDown = s.torus.linksDown := by
  unfold State.noteEpoch; split <;> exact ⟨rfl, rfl⟩

theorem State.taken_rest : (s.taken port p).torus.paths = s.torus.paths ∧ (s.taken port p).torus.linksDown = s.torus.linksDown := by
  have hrest : (s.popPacket port p).torus.rest = s.torus.rest := (s.runs_popPacket port p).rest
  obtain ⟨hpaths, hdown⟩ := (s.popPacket port p).noteEpoch_rest p
  rw [State.taken]
  generalize s.popPacket port p = z at hrest hpaths hdown ⊢
  exact ⟨hpaths.trans (congrArg Torus.paths hrest :), hdown.trans (congrArg Torus.linksDown hrest :)⟩

/-- What a port shows apart from its inbox and from what sending uses up stands when a packet is taken. -/
theorem State.taken_port {α : Type} (g : Port → α) (hsteady : ∀ x, g x.steady = g x) (hpopped : ∀ x, g (x.popped p) = g x) (k : Nat) :
    g ((s.taken port p).port k) = g (s.port k) := by
  obtain ⟨hself, -, hothers, -⟩ := s.runs_popPacket port p
  rw [State.taken, State.noteEpoch_port]
  by_cases hk : k = port
  · rw [hk]
    refine (Port.of_steady g hsteady hself).trans ?_
    rw [State.modPort, Torus.port_modPort_self]
    exact hpopped _
  · exact congrArg g ((hothers k hk).trans (State.port_modPort_ne s _ hk))

end

/-- The newest epoch accepted from the source of an EPOCH_END is the one it names. -/
theorem State.noteEpoch_rxEpoch {p : Packet} (h : p.kind = 4) (s : State) :
    (s.noteEpoch p).torus.rxEpoch = s.torus.rxEpoch.set p.src (p.epoch + 1) := by
  unfold State.noteEpoch
  rw [if_neg (by simp [h])]
  rfl

theorem State.taken_rxEpoch {p : Packet} (h : p.kind = 4) (s : State) (port : Nat) : (s.taken port p).torus.rxEpoch.at p.src = p.epoch + 1 := by
  rw [State.taken, State.noteEpoch_rxEpoch h, Tab.at_set_self]

/-- A packet taken leaves every route as it was, and which ports are UP. -/
theorem State.taken_routes (s : State) (port : Nat) (p : Packet) :
    (∀ k, ((s.taken port p).port k).state = (s.port k).state) ∧ (s.taken port p).routeTo = s.routeTo := by
  have hservice : (s.taken port p).portInService = s.portInService :=
    funext (s.taken_port port p (fun x => x.state == 6 && !x.belowFloor) (fun _ => rfl) (fun _ => rfl))
  exact ⟨s.taken_port port p Port.state (fun _ => rfl) (fun _ => rfl),
    State.routeTo_of_service (s.sends_taken port p) hservice (s.taken_rest port p).2⟩

/-! ## EPOCH_END (R434) -/

/-- The answer to an EPOCH_END. -/
def State.epochAnswer (s : State) (p : Packet) : Packet :=
  { kind := 5, tc := 0, dst := p.src, src := s.img.node, route := (s.torus.paths.at p.src).route, epoch := p.epoch, cause := BitVec.ofNat 8 p.tc }

/-- The state in which an EPOCH_END has been answered. -/
def State.answerEpoch (s : State) (p : Packet) : State := (s.knowPath p.src).forward none ((s.knowPath p.src).epochAnswer p)

section
variable {s : State} {port : Nat} {p : Packet}

theorem exec_epochEnd (hfirst : firstOf 4 [] (s.port port).inbox = some p) (hepoch : s.torus.rxEpoch.at p.src = 0) :
    exec (.epochEnd port) s = .next ((s.taken port p).answerEpoch p) := by
  change execEpochEnd port s = _
  rw [execEpochEnd, State.takePacket_taken hfirst (.inl hepoch)]
  rfl

theorem State.answerEpoch_keeps (s : State) (p : Packet) :
    s.Sends (s.answerEpoch p) ∧ (s.answerEpoch p).torus.arrivals = s.torus.arrivals := by
  obtain ⟨hknow, harrivals⟩ := s.knowPath_keeps p.src
  exact ⟨hknow.trans (State.sends_forward _ _ _), (State.forward_arrivals _ _ _).trans harrivals⟩

/-- The answer waits at the next port on the path, or has left by it. -/
theorem State.answerEpoch_queued {q : Nat}
    (hnext : (s.knowPath p.src).nextPort ((s.knowPath p.src).torus.paths.at p.src).route s.img.node p.src = some q) (hup : (s.port q).state = 6) :
    ∃ k, (s.answerEpoch p).torus.Queued q k ∧ k.kind = 5 ∧ k.dst = p.src ∧ k.epoch = p.epoch ∧ k.cause = BitVec.ofNat 8 p.tc := by
  obtain ⟨hknow, -⟩ := s.knowPath_keeps p.src
  have hsteady := (s.ends_knowPath p.src).ports.steady q
  have hnode : (s.knowPath p.src).img.node = s.img.node := by rw [hknow]; rfl
  have hstill : ((s.knowPath p.src).port q).state = 6 := (Port.state_of_steady hsteady).trans hup
  rw [← hnode] at hnext
  rw [State.answerEpoch]
  obtain ⟨vc, hqueued⟩ := State.forward_queued (k := (s.knowPath p.src).epochAnswer p) hnext hstill
  exact ⟨_, hqueued, rfl, rfl, rfl, rfl⟩

/-- The next port of the answer is the same once the packet is taken. -/
theorem State.taken_nextPort (s : State) (port : Nat) (p : Packet) (n : Nat) :
    ((s.taken port p).knowPath n).nextPort (((s.taken port p).knowPath n).torus.paths.at n).route (s.taken port p).img.node n =
      (s.knowPath n).nextPort ((s.knowPath n).torus.paths.at n).route s.img.node n := by
  have hsends := s.sends_taken port p
  have hnode : (s.taken port p).img.node = s.img.node := by rw [hsends]; rfl
  have hroute : (((s.taken port p).knowPath n).torus.paths.at n).route = ((s.knowPath n).torus.paths.at n).route := by
    rw [State.knowPath_route, State.knowPath_route, (s.taken_routes port p).2, (s.taken_rest port p).1]
  rw [hroute, hnode, (State.knowPath_keeps _ n).1.nextPort, (s.knowPath_keeps n).1.nextPort, hsends.nextPort]

end

/-! ## EPOCH_ACK and EPOCH_CLOSE (R434, R436) -/

/-- A path that awaits one acknowledgement fewer. -/
def Path.acked (e : Nat × Nat) (x : Path) : Path := { x with awaiting := x.awaiting.erase e }

/-- The state in which an EPOCH_ACK has been taken. -/
def State.ackEpoch (s : State) (n : Nat) (e : Nat × Nat) : State :=
  if (s.torus.paths.at n).awaiting.erase e = [] then (s.modPath n (Path.acked e)).releasePath n else s.modPath n (Path.acked e)

/-- The state in which a lost epoch of a source is closed. -/
def State.closeEpoch (s : State) (p : Packet) : State :=
  s.modTorus (fun t => { t with openIn := t.openIn.filter (fun o => !(o.src == p.src && o.epoch == p.epoch)) })

section
variable {s : State} {port : Nat} {p : Packet}

theorem exec_epochAck (hfirst : firstOf 5 [] (s.port port).inbox = some p) (hheld : (s.torus.paths.at p.src).held = true)
    (hawaits : (p.epoch, p.cause.toNat) ∈ (s.torus.paths.at p.src).awaiting) :
    exec (.epochAck port) s = .next ((s.taken port p).ackEpoch p.src (p.epoch, p.cause.toNat)) := by
  have hpaths := (s.taken_rest port p).1
  change execEpochAck port s = _
  rw [execEpochAck, State.takePacket_taken hfirst (.inr (.inl (firstOf_kind hfirst)))]
  generalize s.taken port p = z at hpaths ⊢
  dsimp only
  rw [hpaths, hheld, List.contains_iff_mem.2 hawaits, Bool.and_self, if_pos rfl, State.path_modPath_self, State.ackEpoch, hpaths]
  simp only [List.isEmpty_iff]
  rfl

theorem exec_epochClose (hfirst : firstOf 6 [] (s.port port).inbox = some p) : exec (.epochClose port) s = .next ((s.taken port p).closeEpoch p) := by
  change execEpochClose port s = _
  rw [execEpochClose, State.takePacket_taken hfirst (.inr (.inr (firstOf_kind hfirst)))]
  rfl

/-- The hold of a path ends. -/
theorem State.releasePath_held (s : State) (n : Nat) : ((s.releasePath n).torus.paths.at n).held = false := by
  rw [(s.ends_releasePath n).held n, State.path_modPath_self, Path.released]

theorem State.ackEpoch_spec (s : State) (n : Nat) (e : Nat × Nat) :
    ((s.torus.paths.at n).awaiting.erase e ≠ [] → (s.ackEpoch n e).torus.paths.at n = (s.torus.paths.at n).acked e) ∧
      ((s.torus.paths.at n).awaiting.erase e = [] → ((s.ackEpoch n e).torus.paths.at n).held = false) ∧ (s.ackEpoch n e).mem = s.mem := by
  unfold State.ackEpoch
  split
  · next hlast => exact ⟨fun h => absurd hlast h, fun _ => State.releasePath_held _ n, (State.moves_releasePath _ n).mem⟩
  · next hmore => exact ⟨fun _ => s.path_modPath_self n _, fun h => absurd h hmore, rfl⟩

end

/-! ## DRAIN_LIMIT (R435) -/

/-- Transfers to a destination that belong to epochs still draining. -/
def State.undrained (s : State) (n : Nat) : List Source :=
  s.torus.sources.filter (fun y => y.dst == n && y.sent && (s.torus.paths.at n).draining.contains y.epoch)

/-- Transfers that fail because their path changed. -/
def State.failSources (s : State) (ys : List Source) : State := s.each ys (fun s y => s.sourceFail y Cause.pathChanged)

/-- Epochs to a destination counted as lost and closed there. -/
def State.loseEpochs (s : State) (n route : Nat) (epochs : List Nat) : State :=
  (s.modTorus (fun t => { t with epochsLost := t.epochsLost + BitVec.ofNat 32 epochs.length })).each epochs
    (fun s e => s.forward none { kind := 6, tc := 0, dst := n, src := s.img.node, route := route, epoch := e })

section
variable {s : State} {n : Nat}

theorem exec_drainLimit (hheld : (s.torus.paths.at n).held = true) (hawaits : (s.torus.paths.at n).awaiting ≠ [])
    (hlate : (s.torus.paths.at n).heldAt + s.img.drainLimit ≤ s.now) :
    exec (.drainLimit n) s =
      .next (((s.failSources (s.undrained n)).loseEpochs n (s.torus.paths.at n).route (s.torus.paths.at n).draining).releasePath n) := by
  change execDrainLimit n s = _
  rw [execDrainLimit]
  dsimp only
  rw [hheld, decide_eq_true hlate, List.isEmpty_eq_false_iff.2 hawaits]
  rfl

theorem State.ends_failSources (s : State) (ys : List Source) : s.Ends (s.failSources ys) := State.ends_each (fun u y => u.ends_sourceFail y _) ys s

/-- Each transfer that fails is gone, and none comes back. -/
theorem State.failSources_sourceOf {ys : List Source} {y : Source} (hy : y ∈ ys) (s : State) : (s.failSources ys).sourceOf y.tag = none := by
  induction ys generalizing s with
  | nil => cases hy
  | cons z ys ih =>
    obtain rfl | hy := List.mem_cons.1 hy
    · exact (State.ends_failSources _ ys).sourceOf (s.sourceFail_spec y (by decide)).1
    · exact ih hy _

/-- Nothing but the count of lost epochs differs before the closed epochs are announced. -/
theorem State.ends_loseEpochs (s : State) (n route : Nat) (epochs : List Nat) :
    (s.modTorus (fun t => { t with epochsLost := t.epochsLost + BitVec.ofNat 32 epochs.length })).Ends (s.loseEpochs n route epochs) :=
  State.ends_each (fun u _ => u.ends_forward none _) _ _

theorem State.loseEpochs_spec (s : State) (n route : Nat) (epochs : List Nat) :
    (s.loseEpochs n route epochs).torus.epochsLost = s.torus.epochsLost + BitVec.ofNat 32 epochs.length ∧
      (s.loseEpochs n route epochs).mem = s.mem ∧
      (∀ tag, s.sourceOf tag = none → (s.loseEpochs n route epochs).sourceOf tag = none) := by
  have hends := s.ends_loseEpochs n route epochs
  exact ⟨hends.lost, hends.toMoves.mem, fun _ hnone => hends.sourceOf hnone⟩

theorem State.releasePath_spec (s : State) (n : Nat) : (s.releasePath n).torus.epochsLost = s.torus.epochsLost ∧ (s.releasePath n).mem = s.mem ∧
    (∀ tag, s.sourceOf tag = none → (s.releasePath n).sourceOf tag = none) :=
  ⟨(s.ends_releasePath n).lost, (s.moves_releasePath n).mem, fun _ hnone => (s.ends_releasePath n).sourceOf hnone⟩

end

/-! ## LINK_STATE (R431) -/

/-- The state in which a link's state is entered in the site link map. -/
def State.mapLink (s : State) (node port : Nat) (up : Bool) (seq : Nat) : State :=
  s.modTorus (fun t => { t with
    linkSeq := t.linkSeq.filter (fun e => !(e.1 == node && e.2.1 == port)) ++ [(node, port, seq)],
    linksDown := t.linksDown.filter (· != (node, port)) ++ (if up then [] else [(node, port)]) })

section
variable {s : State} {arrived node port seq : Nat} {up : Bool}

theorem exec_linkState_stale (h : node = s.img.node ∨
    ∃ q, s.torus.linkSeq.find? (fun e => e.1 == node && e.2.1 == port) = some (node, port, q) ∧ seq ≤ q) :
    exec (.linkState arrived node port up seq) s = .next s := by
  change execLinkState arrived node port up seq s = _
  rw [execLinkState]
  refine congrArg _ (if_pos ?_)
  obtain hown | ⟨q, hfind, hseq⟩ := h
  · simp [hown]
  · simp [hfind, hseq]

theorem exec_linkState_new (hother : node ≠ s.img.node) (hnew : ∀ e ∈ s.torus.linkSeq, (e.1, e.2.1) ≠ (node, port) ∨ e.2.2 < seq) :
    exec (.linkState arrived node port up seq) s =
      .next ((s.flood (some arrived) (.linkState node port up seq)).mapLink node port up seq).rerouteAll := by
  have hlast : (s.torus.linkSeq.find? (fun e => e.1 == node && e.2.1 == port)).any (fun e => seq ≤ e.2.2) = false := by
    cases hfind : s.torus.linkSeq.find? (fun e => e.1 == node && e.2.1 == port) with
    | none => rfl
    | some e =>
      have hkey : e.1 = node ∧ e.2.1 = port := by simpa using List.find?_some hfind
      obtain hne | hlt := hnew e (List.mem_of_find?_eq_some hfind)
      · exact absurd (Prod.ext hkey.1 hkey.2) hne
      · simpa using hlt
  change execLinkState arrived node port up seq s = _
  rw [execLinkState]
  dsimp only
  rw [hlast, if_neg (by simp [hother])]
  rfl

/-- A link's state entered is recorded. -/
theorem State.mapLink_spec (s : State) (node port : Nat) (up : Bool) (seq : Nat) :
    ((node, port) ∈ (s.mapLink node port up seq).torus.linksDown ↔ up = false) ∧ (node, port, seq) ∈ (s.mapLink node port up seq).torus.linkSeq := by
  constructor
  · change (node, port) ∈ s.torus.linksDown.filter _ ++ _ ↔ _
    cases up <;> simp
  · exact List.mem_append_right _ (List.mem_singleton_self _)

end

/-- Settles O31: each packet once it is taken, a drain that ends in lost epochs, and the link map, whose routes and floods leave it alone. -/
theorem epochsAndLinkStates : Obligations.EpochsAndLinkStates := by
  refine ⟨fun s port p hfirst hepoch => ?_, fun s port p hfirst hheld hawaits => ?_, fun s port p hfirst => ?_,
    fun s n hheld hawaits hlate => ?_, fun s arrived node port seq up => ⟨exec_linkState_stale, fun hother hnew => ?_⟩⟩
  · obtain ⟨hsends, harrivals⟩ := (s.taken port p).answerEpoch_keeps p
    have hsends := (s.sends_taken port p).trans hsends
    refine ⟨_, exec_epochEnd hfirst hepoch, (State.inbox_of_arrivals harrivals port).trans (s.taken_inbox port p), ?_,
      (congrArg State.cores hsends :), (congrArg State.mem hsends :), fun q hnext hup => ?_⟩
    · rw [← State.taken_rxEpoch (firstOf_kind hfirst) s port]
      exact (congrArg (fun a => Tab.at a.2.1 p.src) harrivals :)
    · rw [← s.taken_nextPort port p] at hnext
      exact State.answerEpoch_queued hnext (((s.taken_routes port p).1 q).trans hup)
  · have hpaths := (s.taken_rest port p).1
    have hmem : (s.taken port p).mem = s.mem := (congrArg State.mem (s.sends_taken port p) :)
    have hexec := exec_epochAck hfirst hheld hawaits
    generalize s.taken port p = z at hpaths hmem hexec
    obtain ⟨hmore, hlast, hkept⟩ := z.ackEpoch_spec p.src (p.epoch, p.cause.toNat)
    rw [hpaths] at hmore hlast
    refine ⟨_, hexec, fun h => ?_, hlast, hkept.trans hmem⟩
    rw [hmore h]
    exact ⟨hheld, rfl⟩
  · have hsends := s.sends_taken port p
    have hopen := s.taken_openIn port p
    have hexec := exec_epochClose hfirst
    generalize s.taken port p = z at hsends hopen hexec
    refine ⟨_, hexec, fun o => ?_, (congrArg State.cores hsends :), (congrArg State.mem hsends :)⟩
    change o ∈ z.torus.openIn.filter _ ↔ _
    rw [hopen, List.mem_filter]
    simp [imp_iff_not_or]
  · have hfail := s.ends_failSources (s.undrained n)
    refine ⟨_, exec_drainLimit hheld hawaits hlate, ?_, State.releasePath_held _ n, ?_, fun y hy hdst hsent hdrain => ?_⟩
    · rw [(State.releasePath_spec _ n).1, (State.loseEpochs_spec _ n _ _).1, hfail.lost]
    · rw [(State.releasePath_spec _ n).2.1, (State.loseEpochs_spec _ n _ _).2.1, hfail.toMoves.mem]
    · have hlost : y ∈ s.undrained n := List.mem_filter.2 ⟨hy, by simp [hdst, hsent, hdrain]⟩
      exact (State.releasePath_spec _ n).2.2 _ ((State.loseEpochs_spec _ n _ _).2.2 _ (State.failSources_sourceOf hlost s))
  · have hflood := (s.ends_flood (some arrived) (.linkState node port up seq)).toMoves
    have hexec := exec_linkState_new (arrived := arrived) (up := up) hother hnew
    generalize s.flood (some arrived) (.linkState node port up seq) = z at hflood hexec
    obtain ⟨hdown, hseq⟩ := z.mapLink_spec node port up seq
    have hroutes := (z.mapLink node port up seq).moves_rerouteAll
    obtain ⟨hdownKept, hseqKept⟩ := Prod.mk.inj hroutes.links
    refine ⟨_, hexec, ?_, ?_, hroutes.mem.trans hflood.mem⟩
    · rw [hdownKept]; exact hdown
    · rw [hseqKept]; exact hseq

end Sys2Proof.Machine
end

section
/-! PROOFS. What packets that leave by the WAN ports change (O33 to O37): the transport's own queue, bucket, counts and keys, and no more. -/

namespace Sys2Proof.Machine

open Sys2Proof

/-! ## Sites and ports after a change -/

/-- What no change of one entry changes, no table of entries shows. -/
theorem Tab.at_upd_keeps {α β : Type} [Inhabited α] [DecidableEq α] (t : Tab α) (k j : Nat) {f : α → α} {g : α → β} (h : ∀ x, g (f x) = g x) :
    g (Tab.at (t.upd k f) j) = g (Tab.at t j) := by
  by_cases hj : j = k
  · rw [hj, Tab.at_upd_self, h]
  · rw [Tab.at_upd_ne _ _ hj]

@[simp] theorem State.site_modSite_self (s : State) (i : Nat) (f : SiteSt → SiteSt) : (s.modSite i f).site i = f (s.site i) := Tab.at_upd_self _ _ _
theorem State.site_modSite_ne (s : State) {i k : Nat} (f : SiteSt → SiteSt) (h : k ≠ i) : (s.modSite i f).site k = s.site k := Tab.at_upd_ne _ _ h
theorem State.site_modSite_keeps {β : Type} (s : State) (i k : Nat) {f : SiteSt → SiteSt} {g : SiteSt → β} (h : ∀ x, g (f x) = g x) :
    g ((s.modSite i f).site k) = g (s.site k) := Tab.at_upd_keeps _ _ _ h

@[simp] theorem State.round_modRound (s : State) (f : RoundUnit → RoundUnit) : (s.modRound f).round = f s.round := rfl

/-! ## One packet leaves (R449, R452, R487, R488) -/

/-- The round unit without what a packet that leaves changes: the queue, what was sent and answered, the send epoch, and the fetch
that a lost key ends. -/
def RoundUnit.still (u : RoundUnit) : RoundUnit :=
  { u with queue := [], sent := [], answers := [], resends := 0, txEpoch := 0, epochAt := 0, epochStarted := false, rekeyWanted := false,
           exhausted := false, fetch := none }
/-- A site without its streams' packets. -/
def SiteSt.still (x : SiteSt) : SiteSt := { x with out := [] }
/-- A port without its counts of packets sent and its next hops. -/
def WanPort.still (w : WanPort) : WanPort := { w with tx := 0, count := 0, neighbors := [] }

/-- What a packet that leaves does not change. -/
def State.still (s : State) : State × RoundUnit × (Nat → SiteSt) × (Nat → WanPort) :=
  ({ s with wan := [], sites := [], round := {}, engines := [], flash := {}, recorder := {}, free := 0 }, s.round.still,
    fun i => (s.site i).still, fun p => (s.wan.at p).still)

theorem State.still_modRound (s : State) {f : RoundUnit → RoundUnit} (h : (f s.round).still = s.round.still) :
    (s.modRound f).still = s.still := Prod.ext rfl (Prod.ext h rfl)

theorem State.still_modSite (s : State) (i : Nat) {f : SiteSt → SiteSt} (h : ∀ x, (f x).still = x.still) :
    (s.modSite i f).still = s.still :=
  Prod.ext rfl (Prod.ext rfl (Prod.ext (funext fun k => s.site_modSite_keeps i k h) rfl))

theorem State.still_modWan (s : State) (p : Nat) {f : WanPort → WanPort} (h : ∀ w, (f w).still = w.still) :
    (s.modWan p f).still = s.still :=
  Prod.ext rfl (Prod.ext rfl (Prod.ext rfl (funext fun k => Tab.at_upd_keeps s.wan p k h)))

theorem State.still_modEngine (s : State) (p : Nat) (f : Engine → Engine) : (s.modEngine p f).still = s.still := rfl
theorem State.still_freynEvent (s : State) (cause : Cause) (site round : Nat) : (s.freynEvent cause site round).still = s.still := rfl

theorem State.failFreyn_still (s : State) (cause : Cause) : (s.failFreyn cause).still = s.still := by
  unfold State.failFreyn
  extract_lets busy t v
  have ht : t.still = s.still := foldl_keeps State.still _
    (fun s i => ((s.freynEvent cause i s.round.openRound).still_modSite i (fun _ => by rfl)).trans (s.still_freynEvent _ _ _)) _ _
  have hv : v.still = s.still := (t.still_modRound (by rfl)).trans ht
  split
  · split
    · exact hv
    · exact (State.still_modRound _ (by rfl)).trans ((v.still_freynEvent _ _ _).trans hv)
  · exact hv

theorem State.loadSendKeys_still (s : State) : s.loadSendKeys.still = s.still := by
  unfold State.loadSendKeys; split
  · rfl
  · exact foldl_keeps State.still _ (fun s p => s.still_modEngine p _) _ _

theorem State.beginEpoch_still (s : State) (e : Nat) : (s.beginEpoch e).still = s.still := by
  unfold State.beginEpoch
  extract_lets t v
  have hv : v.still = t.still := foldl_keeps State.still _ (fun s p => s.still_modWan p (fun _ => by rfl)) _ _
  exact (State.loadSendKeys_still _).trans ((v.still_modRound (by rfl)).trans (hv.trans rfl))

theorem State.exhaust_still (s : State) : s.exhaust.still = s.still := (State.failFreyn_still _ _).trans (s.still_modRound (by rfl))

theorem State.nextEpoch_still (s : State) : s.nextEpoch.still = s.still := by
  unfold State.nextEpoch; split
  · exact s.exhaust_still
  · exact s.beginEpoch_still _

theorem State.nextHopMac_still (s : State) (r : RouteCfg) : (s.nextHopMac r).1.still = s.still := by
  unfold State.nextHopMac; split
  · rfl
  · split
    · rfl
    · exact (State.still_modWan _ _ (fun _ => by rfl)).trans (s.still_modRound (by rfl))

theorem State.sendNow_still (s : State) (o : WanOut) : (s.sendNow o).still = s.still := by
  conv in State.sendNow => delta State.sendNow
  extract_lets t
  have ht : t.still = s.still := by
    change (if s.epochDue = true then s.nextEpoch else s).still = _
    split
    · exact s.nextEpoch_still
    · rfl
  split
  · exact ht
  · split
    · exact ht
    · next r _ _ =>
      have hhop := t.nextHopMac_still r
      generalize t.nextHopMac r = m at hhop ⊢
      obtain ⟨v, mac⟩ := m
      dsimp only
      generalize v.frameOf o r mac = frame
      refine (State.still_modSite _ _ (fun _ => by rfl)).trans ?_
      refine (State.still_modRound _ (by rfl)).trans ?_
      exact (State.still_modEngine _ _ _).trans ((State.still_modWan _ _ (fun _ => by rfl)).trans (hhop.trans ht))

/-! ## The token bucket (R452) -/

/-- Choosing a packet changes deficits and turn. -/
theorem pickWan_round {bytes : WanOut → Nat} {weight : Nat → Nat} {n : Nat} {u v : RoundUnit} {o : WanOut} (h : pickWan bytes weight n u = some (o, v)) :
    v = { u with deficits := v.deficits, turn := v.turn } := by
  induction n generalizing u with
  | zero => cases h
  | succ n ih =>
    rw [pickWan] at h
    split at h
    · cases h; rfl
    · dsimp only at h
      split at h
      · split at h
        · cases h; rfl
        · rw [ih h]
      · rw [ih h]

/-- The round unit without what sending from the bucket changes. -/
def RoundUnit.unspent (u : RoundUnit) : RoundUnit := { u.still with deficits := [], turn := 0, bucket := 0, bucketAt := 0, rateWaitNs := 0 }

/-- What sending the packets that wait does not change. -/
def State.unspent (s : State) : State × RoundUnit × (Nat → SiteSt) × (Nat → WanPort) := (s.still.1, s.round.unspent, s.still.2.2)

theorem State.unspent_of_still {s t : State} (h : t.still = s.still) : t.unspent = s.unspent :=
  (congrArg (fun v : State × RoundUnit × (Nat → SiteSt) × (Nat → WanPort) => (v.1, v.2.1.unspent, v.2.2)) h :)

theorem State.unspent_round (s : State) {u : RoundUnit} (h : u.unspent = s.round.unspent) : ({ s with round := u } : State).unspent = s.unspent :=
  Prod.ext rfl (Prod.ext h rfl)

theorem State.pump_unspent (fuel : Nat) (s : State) : (State.pump fuel s).unspent = s.unspent := by
  induction fuel generalizing s with
  | zero => rfl
  | succ fuel ih =>
    rw [State.pump]; split
    · rfl
    · next hpick =>
      dsimp only; split
      · refine (ih _).trans ((State.unspent_of_still (State.sendNow_still _ _)).trans (s.unspent_round ?_))
        rw [pickWan_round hpick]
        rfl
      · rfl

theorem State.drainWan_unspent (s : State) : s.drainWan.unspent = s.unspent := by
  unfold State.drainWan; split
  · exact (State.pump_unspent _ _).trans (s.unspent_round rfl)
  · rfl

theorem State.post_unspent (s : State) (o : WanOut) : (s.post o).unspent = s.unspent := by
  unfold State.post; split
  · rfl
  · exact (State.drainWan_unspent _).trans (s.unspent_round rfl)

theorem State.resendAll_unspent (s : State) (i : Nat) (p : FrnOut → Bool) : (s.resendAll i p).unspent = s.unspent := by
  refine foldl_keeps State.unspent _ (fun s e => ?_) _ _
  split
  · rfl
  · exact s.post_unspent _

section
variable {s t : State} (h : t.unspent = s.unspent)
include h

theorem State.mem_of_unspent : t.mem = s.mem := (congrArg (fun v => v.1.mem) h :)
theorem State.cores_of_unspent : t.cores = s.cores := (congrArg (fun v => v.1.cores) h :)
theorem State.round_of_unspent : t.round.unspent = s.round.unspent := (congrArg (fun v => v.2.1) h :)
theorem State.site_of_unspent (i : Nat) : (t.site i).still = (s.site i).still := (congrArg (fun v => v.2.2.1 i) h :)
theorem State.wan_of_unspent (p : Nat) : (t.wan.at p).still = (s.wan.at p).still := (congrArg (fun v => v.2.2.2 p) h :)

end

/-! ## The bucket after sending (R452) -/

theorem State.bucket_of_still {s t : State} (h : t.still = s.still) :
    t.round.bucket = s.round.bucket ∧ t.round.bucketAt = s.round.bucketAt :=
  ⟨(congrArg (fun v => v.2.1.bucket) h :), (congrArg (fun v => v.2.1.bucketAt) h :)⟩

theorem State.pump_bucket (fuel : Nat) (s : State) :
    (State.pump fuel s).round.bucket ≤ s.round.bucket ∧ (State.pump fuel s).round.bucketAt = s.round.bucketAt := by
  induction fuel generalizing s with
  | zero => exact ⟨Nat.le_refl _, rfl⟩
  | succ fuel ih =>
    rw [State.pump]; split
    · exact ⟨Nat.le_refl _, rfl⟩
    · next o u hpick =>
      dsimp only; split
      · have hu := pickWan_round hpick
        generalize hv : ({ s with round := _ } : State) = v
        obtain ⟨hbucket, hat⟩ := State.bucket_of_still (v.sendNow_still o)
        obtain ⟨hle, heq⟩ := ih (v.sendNow o)
        rw [hbucket] at hle
        rw [hat] at heq
        have hb : v.round.bucket ≤ s.round.bucket := by
          rw [← hv, hu]; exact Nat.sub_le _ _
        have ha : v.round.bucketAt = s.round.bucketAt := by rw [← hv, hu]
        exact ⟨hle.trans hb, heq.trans ha⟩
      · exact ⟨Nat.le_refl _, rfl⟩

end Sys2Proof.Machine
end

section
/-! PROOFS. WAN ports and what they answer (O37). -/

namespace Sys2Proof.Machine

open Sys2Proof

/-! ## Ports (R447, R494) -/

@[simp] theorem State.wan_modWan_self (s : State) (p : Nat) (f : WanPort → WanPort) : Tab.at (s.modWan p f).wan p = f (Tab.at s.wan p) :=
  Tab.at_upd_self _ _ _
theorem State.wan_modWan_ne (s : State) {p k : Nat} (f : WanPort → WanPort) (h : k ≠ p) : Tab.at (s.modWan p f).wan k = Tab.at s.wan k :=
  Tab.at_upd_ne _ _ h

/-- Noting which routes are down changes no port and no byte of memory. -/
theorem State.noteRoutes_each_wan (s : State) (is : List Nat) : (s.each is State.noteRoutes).wan = s.wan :=
  foldl_keeps State.wan State.noteRoutes (fun _ _ => rfl) is s
theorem State.noteRoutes_each_mem (s : State) (is : List Nat) : (s.each is State.noteRoutes).mem = s.mem :=
  foldl_keeps State.mem State.noteRoutes (fun _ _ => rfl) is s

/-- A packet discarded at a port is counted there. -/
@[simp] theorem State.dropWan_drop (s : State) (p : Nat) : (Tab.at (s.dropWan p).wan p).drop = (Tab.at s.wan p).drop + 1 :=
  congrArg WanPort.drop (s.wan_modWan_self p _)

section
variable {s : State} {p : Nat} (hport : s.wanExists p = true) (hedge : s.edgePowered = true)
include hport hedge

theorem exec_wanPortDown (lf rf : Bool) : exec (.wanPortDown p lf rf) s =
    .next ((s.modWan p (fun w => { w with state := 0, localFault := lf, remoteFault := rf })).each s.otherSites State.noteRoutes) := by
  change execWanPortDown p lf rf s = _
  simp only [execWanPortDown, hport, hedge, Bool.not_true, Bool.or_self, Bool.false_eq_true, if_false]
  rfl

theorem exec_wanPortUp : exec (.wanPortUp p) s =
    .next ((s.modWan p (fun w => { w with state := 2, localFault := false, remoteFault := false })).each s.otherSites State.noteRoutes).drainWan := by
  change execWanPortUp p s = _
  simp only [execWanPortUp, hport, hedge, Bool.not_true, Bool.or_self, Bool.false_eq_true, if_false]
  rfl

theorem exec_wanPortDown_spec (lf rf : Bool) : ∃ u, exec (.wanPortDown p lf rf) s = .next u ∧ (u.wan.at p).state = 0 ∧
    (u.wan.at p).localFault = lf ∧ (u.wan.at p).remoteFault = rf ∧ (∀ k, k ≠ p → u.wan.at k = s.wan.at k) ∧ u.mem = s.mem := by
  refine ⟨_, exec_wanPortDown hport hedge lf rf, ?_⟩
  rw [State.noteRoutes_each_wan, State.noteRoutes_each_mem, State.wan_modWan_self]
  exact ⟨rfl, rfl, rfl, fun k hk => s.wan_modWan_ne _ hk, rfl⟩

theorem exec_wanPortUp_spec : ∃ u, exec (.wanPortUp p) s = .next u ∧ (u.wan.at p).state = 2 ∧ (u.wan.at p).localFault = false ∧
    (u.wan.at p).remoteFault = false ∧ (∀ k, k ≠ p → (u.wan.at k).state = (s.wan.at k).state) ∧ u.mem = s.mem := by
  refine ⟨_, exec_wanPortUp hport hedge, ?_⟩
  generalize hv : (s.modWan p _).each _ _ = v
  have hwan : v.wan = (s.modWan p _).wan := hv ▸ State.noteRoutes_each_wan _ _
  have hmem : v.mem = s.mem := hv ▸ State.noteRoutes_each_mem _ _
  have hkept (k : Nat) := State.wan_of_unspent v.drainWan_unspent k
  have hself := hkept p
  rw [hwan, State.wan_modWan_self] at hself
  refine ⟨(congrArg WanPort.state hself :), (congrArg WanPort.localFault hself :), (congrArg WanPort.remoteFault hself :), fun k hk => ?_,
    (State.mem_of_unspent v.drainWan_unspent).trans hmem⟩
  have hother := hkept k
  rw [hwan, s.wan_modWan_ne _ hk] at hother
  exact (congrArg WanPort.state hother :)

end

/-! ## Requests to an UP port (R449) -/

section
variable {s : State} {p : Nat} (hup : s.wanUp p = true)
include hup

theorem exec_neighborSolicitation (target sender : List Byte) : exec (.neighborSolicitation p target sender) s =
    .next (if target.length = 16 ∧ s.ownAddress p target = true then s.answer p 1 (target ++ sender ++ s.fuses.wanMac.getD p []) else s.dropWan p) := by
  change execNeighborSolicitation p target sender s = _
  simp [execNeighborSolicitation, hup]

theorem exec_arpRequest (target sender : List Byte) : exec (.arpRequest p target sender) s =
    .next (if target.length = 4 ∧ s.ownAddress p target = true then s.answer p 2 (target ++ sender ++ s.fuses.wanMac.getD p []) else s.dropWan p) := by
  change execArpRequest p target sender s = _
  simp [execArpRequest, hup]

/-- Echo requests that a port has answered in the present second. -/
def WanPort.echoed (w : WanPort) (now : Nat) : Nat := if w.echoAt + 1000000000 ≤ now then 0 else w.echoes

omit hup in
theorem WanPort.echoed_lt {w : WanPort} {now : Nat} (h : w.echoes < 10 ∨ w.echoAt + 1000000000 ≤ now) : w.echoed now < 10 := by
  unfold WanPort.echoed
  split <;> omega

theorem exec_echoRequest_answered (h : (s.wan.at p).echoed s.now < 10) (sender payload : List Byte) :
    ∃ at_ : WanPort → Nat, exec (.echoRequest p sender payload) s =
      .next ((s.modWan p (fun w => { w with echoes := (s.wan.at p).echoed s.now + 1, echoAt := at_ w })).answer p 3 (sender ++ payload)) := by
  refine ⟨fun w => if (s.wan.at p).echoAt + 1000000000 ≤ s.now then s.now else w.echoAt, ?_⟩
  change execEchoRequest p sender payload s = _
  unfold execEchoRequest
  simp only [hup, Bool.not_true, Bool.false_eq_true, if_false]
  exact congrArg _ (if_pos h)

theorem exec_echoRequest_refused (h : 10 ≤ (s.wan.at p).echoes) (hlate : s.now < (s.wan.at p).echoAt + 1000000000) (sender payload : List Byte) :
    exec (.echoRequest p sender payload) s = .next (s.dropWan p) := by
  change execEchoRequest p sender payload s = _
  simp [execEchoRequest, hup, Nat.not_le.2 hlate, Nat.not_lt.2 h]

theorem exec_packetTooBig (mtu : Nat) : exec (.packetTooBig p mtu) s = .next (s.event 0x0031 0 p mtu 0) := by
  change execPacketTooBig p mtu s = _
  simp [execPacketTooBig, hup]

end

/-- Settles O37: ports go down and up, and each request to an UP port is answered or counted. -/
theorem wanPortsAnswer : Obligations.WanPortsAnswer := by
  refine ⟨fun s p lf rf hport hedge => ⟨exec_wanPortDown_spec hport hedge lf rf, exec_wanPortUp_spec hport hedge⟩,
    fun s p mtu target sender payload hup => ⟨fun hown => ⟨fun hlen => ?_, fun hlen => ?_⟩, fun hown c hc => ?_, fun hfew => ?_,
      fun hmany hlate => ?_, ?_⟩⟩
  · exact ⟨_, exec_neighborSolicitation hup target sender, by rw [if_pos ⟨hlen, hown⟩]; exact ⟨rfl, rfl, rfl⟩⟩
  · exact ⟨_, exec_arpRequest hup target sender, by rw [if_pos ⟨hlen, hown⟩]; exact ⟨rfl, rfl, rfl⟩⟩
  · have hother (n : Nat) : ¬(target.length = n ∧ s.ownAddress p target = true) := by simp [hown]
    refine ⟨s.dropWan p, ?_, s.dropWan_drop p, rfl, rfl⟩
    rcases List.mem_pair.1 hc with rfl | rfl
    · rw [exec_neighborSolicitation hup, if_neg (hother 16)]
    · rw [exec_arpRequest hup, if_neg (hother 4)]
  · have hused := WanPort.echoed_lt hfew
    obtain ⟨at_, hexec⟩ := exec_echoRequest_answered hup hused sender payload
    have hport := s.wan_modWan_self p (fun w => { w with echoes := (s.wan.at p).echoed s.now + 1, echoAt := at_ w })
    refine ⟨_, hexec, rfl, (congrArg WanPort.drop hport :), ?_, rfl⟩
    exact (congrArg WanPort.echoes hport :).trans_le hused
  · exact ⟨_, exec_echoRequest_refused hup hmany hlate sender payload, rfl, s.dropWan_drop p, rfl⟩
  · exact ⟨_, exec_packetTooBig hup mtu, rfl, rfl, rfl, rfl⟩

end Sys2Proof.Machine
end

section
/-! PROOFS. What a Freyn packet must pass (O32): the checks of its arrival, and that none passes them twice. -/

namespace Sys2Proof.Machine

open Sys2Proof

/-! ## Arrival (R448, R453, R489, R490) -/

section
variable {s : State} {h : FrnHeader} {type : Nat} {p : List Byte}

theorem State.receive_down (hdown : s.wanUp h.wanPort = false) : s.receive h type p = (s, false) := by
  simp [State.receive, hdown]

/-- The packet breaks a rule that is checked before its tag. -/
theorem State.receive_dropped (hup : s.wanUp h.wanPort = true) (hpower : s.power.holdup = 0)
    (hbad : s.netOk h = false ∨ s.headerOk h type = false ∨ s.sec.km = none ∨ s.epochOk h = false ∨ (s.windowOf h).ok h.ctr = false) :
    s.receive h type p = (s.dropWan h.wanPort, false) := by
  have hany : (!s.netOk h || !s.headerOk h type || s.sec.km.isNone || !s.epochOk h || !(s.windowOf h).ok h.ctr) = true := by
    rcases hbad with hb | hb | hb | hb | hb <;> simp [hb]
  unfold State.receive
  rw [if_neg (by simp [hup, hpower]), if_pos hany]

theorem State.receive_untagged (hup : s.wanUp h.wanPort = true) (hpower : s.power.holdup = 0) (hnet : s.netOk h = true)
    (hhdr : s.headerOk h type = true) (hkm : s.sec.km ≠ none) (hepoch : s.epochOk h = true) (hcount : (s.windowOf h).ok h.ctr = true)
    (htag : s.tagOk h s.sec.km p = false) (hwindow : s.inWindow = false) : s.receive h type p = (s.tagDrop h, false) := by
  unfold State.receive
  rw [if_neg (by simp [hup, hpower]), if_neg (by simp [hnet, hhdr, hkm, hepoch, hcount]), if_pos (by simp [htag, hwindow])]

/-- An accepted packet leaves its epoch known and its count in the window. -/
theorem State.receive_accepted {t : State} (hrec : s.receive h type p = (t, true)) : ∃ v : State, t = (v.newEpoch h).noteCount h := by
  unfold State.receive at hrec
  split at hrec
  · cases hrec
  · split at hrec
    · cases hrec
    · split at hrec
      · cases hrec
      · exact ⟨_, (Prod.mk.inj hrec).1.symm⟩

theorem State.receive_counted (hcount : (s.windowOf h).ok h.ctr = false) : (s.receive h type p).2 = false := by
  unfold State.receive
  split
  · rfl
  · rw [if_pos (by simp [hcount])]

end

/-! ## The window of counts (R490) -/

/-- A count that has entered a window is not taken again. -/
theorem RxWindow.take_ok (w : RxWindow) (c : Nat) : (w.take c).ok c = false := by
  have hbelow : ¬ max w.highest c < c := Nat.not_lt.2 (Nat.le_max_right _ _)
  by_cases hin : max w.highest c ≤ c + 4096
  · have hseen : c ∈ (w.take c).seen := List.mem_filter.2 ⟨List.mem_cons_self, decide_eq_true hin⟩
    simp [RxWindow.ok, show (w.take c).highest = max w.highest c from rfl, show (w.take c).any = true from rfl, hbelow, hseen]
  · simp [RxWindow.ok, RxWindow.take, hbelow, hin]

theorem State.loadRecvKey_sites (s : State) (i epoch : Nat) : (s.loadRecvKey i epoch).sites = s.sites := by
  unfold State.loadRecvKey; split
  · rfl
  · exact foldl_keeps State.sites _ (fun _ _ => by rfl) _ _

/-- A packet's epoch is its sender's present or previous one once it is accepted. -/
theorem State.newEpoch_known (s : State) (h : FrnHeader) :
    ((s.newEpoch h).site h.src).rxEpoch = some h.keyEpoch ∨ ((s.newEpoch h).site h.src).prevEpoch = some h.keyEpoch := by
  unfold State.newEpoch; split
  · next hknown => simpa using hknown
  · left
    rw [State.site, State.loadRecvKey_sites, ← State.site, State.site_modSite_self]

theorem State.noteCount_ok (s : State) (h : FrnHeader)
    (hknown : (s.site h.src).rxEpoch = some h.keyEpoch ∨ (s.site h.src).prevEpoch = some h.keyEpoch) :
    ((s.noteCount h).windowOf h).ok h.ctr = false := by
  unfold State.windowOf State.noteCount
  rw [State.site_modSite_self]
  by_cases hrx : (s.site h.src).rxEpoch = some h.keyEpoch
  · simp only [hrx, if_true, Tab.at_upd_self, RxWindow.take_ok]
  · have hprev := hknown.resolve_left hrx
    simp only [hrx, hprev, if_false, if_true, Tab.at_upd_self, RxWindow.take_ok]

/-- No packet is accepted twice, whatever its payload. -/
theorem State.receive_once {s t : State} {h : FrnHeader} {type : Nat} {p : List Byte} (q : List Byte) (hrec : s.receive h type p = (t, true)) :
    (t.receive h type q).2 = false := by
  obtain ⟨v, rfl⟩ := State.receive_accepted hrec
  exact State.receive_counted (State.noteCount_ok _ h (v.newEpoch_known h))

/-! ## A tag that fails (R494; 15_security R556) -/

/-- What an alarm leaves of the counts of discarded packets, and memory. -/
def State.dropView (p : Nat) (s : State) : Word × Word × Memory := ((s.wan.at p).drop, s.round.authFails, s.mem)

theorem State.raiseAlarm_dropView (s : State) (p bit : Nat) : (s.raiseAlarm bit).dropView p = s.dropView p := by
  unfold State.raiseAlarm
  extract_lets t u
  have ht : (t.reportDetail 0x8060 Cause.keyErased (BitVec.ofNat 8 bit) 0 0 0).dropView p = s.dropView p := rfl
  have hu : u.dropView p = s.dropView p :=
    (congrArg (fun v => ((v.2.2.2 p).drop, v.2.1.authFails, v.1.mem)) (State.failFreyn_still _ _) :).trans ht
  split <;> exact hu

theorem State.tagFailed_dropView (s : State) (p port : Nat) (tag : Bool) : (s.tagFailed port tag).dropView p = s.dropView p := by
  unfold State.tagFailed
  extract_lets t u
  split
  · rfl
  · split
    · exact (u.raiseAlarm_dropView p 2).trans rfl
    · rfl

theorem State.tagDrop_dropView (s : State) (h : FrnHeader) :
    (s.tagDrop h).dropView h.wanPort = ((s.wan.at h.wanPort).drop + 1, s.round.authFails + 1, s.mem) := by
  unfold State.tagDrop
  extract_lets t u
  have ht : t.dropView h.wanPort = ((s.wan.at h.wanPort).drop + 1, s.round.authFails + 1, s.mem) :=
    (congrArg (fun d => (d, s.round.authFails + 1, s.mem)) (s.dropWan_drop h.wanPort) :)
  have hu : u.dropView h.wanPort = _ := (t.tagFailed_dropView h.wanPort h.wanPort true).trans ht
  split
  · split
    · exact hu
    · split <;> exact hu
  · exact hu

/-! ## The ten commands that a packet gives -/

section
variable {s t : State} {h : FrnHeader} {type : Nat} {p : List Byte} {fits : State → Bool} {f : State → State}

theorem State.allow_refused (hrec : s.receive h type p = (t, false)) : s.allow h type p fits f = .next t := by
  rw [State.allow, hrec]

theorem State.allow_held (hrec : s.receive h type p = (t, true)) (hheld : h.seq ∈ (t.site h.src).heldSeqs) :
    s.allow h type p fits f = .next (t.noteSeq h) := by
  rw [State.allow, hrec]
  simp [hheld]

theorem State.allow_taken (hrec : s.receive h type p = (t, true)) (hnew : h.seq ∉ (t.site h.src).heldSeqs) (hfits : fits t = true) :
    s.allow h type p fits f = .next (f (t.noteSeq h)) := by
  rw [State.allow, hrec]
  simp [hnew, hfits]

end

/-- Settles O32: each of the ten commands admits its packet by the same checks, and a packet's count bars it from passing them again. -/
theorem freynPacketsAreFiltered : Obligations.FreynPacketsAreFiltered := by
  refine ⟨fun s t h hb fr bs rs pb r w cb fb db jb c hc => ?_, fun s t h type p q => State.receive_once q⟩
  obtain ⟨fits, f, hallow⟩ : ∃ fits f, exec c.1 s = s.allow h c.2.1 c.2.2 fits f := by
    simp only [List.mem_cons, List.not_mem_nil, or_false] at hc
    rcases hc with rfl | rfl | rfl | rfl | rfl | rfl | rfl | rfl | rfl | rfl
    · exact ⟨_, _, show execHeartbeat h hb s = _ from rfl⟩
    · exact ⟨_, _, show execDelta h fr bs s = _ from rfl⟩
    · exact ⟨_, _, show execAck h rs s = _ from rfl⟩
    · exact ⟨_, _, show execPropose h pb s = _ from rfl⟩
    · exact ⟨_, _, show execAccept h r w s = _ from rfl⟩
    · exact ⟨_, _, show execClose h cb s = _ from rfl⟩
    · exact ⟨_, _, show execFetch h fb s = _ from rfl⟩
    · exact ⟨_, _, show execData h db s = _ from rfl⟩
    · exact ⟨_, _, show execDigest h r w s = _ from rfl⟩
    · exact ⟨_, _, show execJoin h jb s = _ from rfl⟩
  rw [hallow]
  refine ⟨fun hdown => ?_, fun hup hpower hbad => ?_, fun hup hpower hnet hhdr hkm hepoch hcount htag hwindow => ?_, State.allow_held⟩
  · exact State.allow_refused (State.receive_down hdown)
  · exact ⟨_, State.allow_refused (State.receive_dropped hup hpower hbad), s.dropWan_drop _, rfl, rfl, rfl, rfl⟩
  · obtain ⟨hdrop, hrest⟩ := Prod.mk.inj (s.tagDrop_dropView h)
    obtain ⟨hauth, hmem⟩ := Prod.mk.inj hrest
    exact ⟨_, State.allow_refused (State.receive_untagged hup hpower hnet hhdr hkm hepoch hcount htag hwindow), hdrop, hauth, hmem⟩

end Sys2Proof.Machine
end

section
/-! PROOFS. Freyn messages that are accepted (O33): what the steps of a round leave, then what each message does. -/

namespace Sys2Proof.Machine

open Sys2Proof

/-! ## Messages sent (R454, R455) -/

section
variable (s : State) (i type : Nat) (payload : List Byte)

theorem State.control_mem : (s.control i type payload).mem = s.mem := (State.mem_of_unspent (s.post_unspent _) :)
theorem State.control_round : (s.control i type payload).round.unspent = s.round.unspent := (State.round_of_unspent (s.post_unspent _) :)
theorem State.control_site {β : Type} {g : SiteSt → β} (hmsg : ∀ x n, g { x with msgCount := n } = g x) (hout : ∀ x, g x.still = g x) (k : Nat) :
    g ((s.control i type payload).site k) = g (s.site k) := by
  have hpost := congrArg g (State.site_of_unspent (s.post_unspent { cls := 0, site := i, type := type, seq := s.nextSeq i, payload := payload }) k)
  rw [hout, hout] at hpost
  exact (State.site_modSite_keeps _ i k (fun x => hmsg x _)).trans hpost

/-- A message is counted at its destination. -/
theorem State.control_msgCount : ((s.control i type payload).site i).msgCount = (s.site i).msgCount + 1 := by
  have hpost := State.site_of_unspent (s.post_unspent { cls := 0, site := i, type := type, seq := s.nextSeq i, payload := payload }) i
  exact (congrArg SiteSt.msgCount (State.site_modSite_self _ i _)).trans (congrArg (·.msgCount + 1) hpost :)

end

/-! ## The holds of DELTA_FORM (R463) -/

/-- A state without the shards' holds and the slots on which DELTA_FORM's stand. -/
def State.unheld (s : State) : State := { s with commit := {}, round := { s.round with formSlots := [] } }

theorem State.holdSlots_unheld (s : State) : s.holdSlots.unheld = s.unheld := by
  refine foldl_keeps State.unheld _ (fun s n => ?_) _ _
  dsimp only; split
  · rfl
  · split <;> rfl

theorem State.holdForm_unheld (s : State) : s.holdForm.unheld = s.unheld := by
  unfold State.holdForm; split
  · exact s.holdSlots_unheld
  · rfl

theorem State.dropRoundHold_unheld (s : State) (n : Nat) : (s.dropRoundHold n).unheld = s.unheld := by
  unfold State.dropRoundHold; split <;> rfl

theorem State.dropRoundHolds_unheld (s : State) : s.dropRoundHolds.unheld = s.unheld :=
  foldl_keeps State.unheld _ State.dropRoundHold_unheld _ _

theorem State.openRound_of_unheld {s t : State} (h : t.unheld = s.unheld) : t.round.openRound = s.round.openRound :=
  (congrArg (·.round.openRound) h :)
theorem RoundUnit.openRound_of_unspent {u v : RoundUnit} (h : v.unspent = u.unspent) : v.openRound = u.openRound :=
  (congrArg RoundUnit.openRound h :)

/-! ## What the steps of a round leave (R467 to R482) -/

/-- When a site was heard last, and by which routes. -/
def SiteSt.heard (x : SiteSt) : Option Nat × Bool × Bool × Bool := (x.lastHeartbeat, x.reachable, x.primaryUp, x.secondUp)

theorem State.noteRoutes_site_ne (s : State) {i k : Nat} (h : k ≠ i) : (s.noteRoutes i).site k = s.site k := s.site_modSite_ne _ h
theorem State.noteRoutes_heard (s : State) (i k : Nat) : ((s.noteRoutes i).site k).heard = (s.site k).heard :=
  s.site_modSite_keeps i k (fun _ => by rfl)

/-- What a proposal does not change: memory, the deltas held, the own anchor digest and when each site was heard. -/
def State.roundKept (s : State) : Memory × List HeldDelta × Option (Nat × Word64) × (Nat → Option Nat × Bool × Bool × Bool) :=
  (s.mem, s.round.deltas, s.round.ownDigest, fun i => (s.site i).heard)

/-- What a close, a rebase and messages do not change either: the sites that accept, and the round last proposed. -/
def State.voteKept (s : State) : (Memory × List HeldDelta × Option (Nat × Word64) × (Nat → Option Nat × Bool × Bool × Bool)) × Nat × Option Nat :=
  (s.roundKept, s.round.accepts, s.round.proposedRound)

section
variable {s t : State}

theorem State.voteKept_of_unspent (h : t.unspent = s.unspent) : t.voteKept = s.voteKept :=
  (congrArg (fun v => ((v.1.mem, v.2.1.deltas, v.2.1.ownDigest, fun i => (v.2.2.1 i).heard), v.2.1.accepts, v.2.1.proposedRound)) h :)
theorem State.voteKept_of_unheld (h : t.unheld = s.unheld) : t.voteKept = s.voteKept := (congrArg State.voteKept h :)

end

section
variable (s : State)

theorem State.voteKept_modSite (i : Nat) {f : SiteSt → SiteSt} (h : ∀ x, (f x).heard = x.heard) : (s.modSite i f).voteKept = s.voteKept := by
  have hsite (k : Nat) := s.site_modSite_keeps i k h
  simp only [State.voteKept, State.roundKept, hsite]
  rfl

theorem State.control_voteKept (i type : Nat) (payload : List Byte) : (s.control i type payload).voteKept = s.voteKept :=
  (State.voteKept_modSite _ i (fun _ => by rfl)).trans (State.voteKept_of_unspent (s.post_unspent _))

theorem State.controlAll_voteKept (type : Nat) (payload : List Byte) : (s.controlAll type payload).voteKept = s.voteKept :=
  foldl_keeps State.voteKept _ (fun s i => s.control_voteKept i type payload) _ _

theorem State.dropRoundHolds_voteKept : s.dropRoundHolds.voteKept = s.voteKept := State.voteKept_of_unheld s.dropRoundHolds_unheld

theorem State.startRebase_voteKept (i : Nat) : (s.startRebase i).voteKept = s.voteKept := by
  unfold State.startRebase; split
  · rfl
  · exact s.dropRoundHolds_voteKept

theorem State.fallBehind_voteKept : s.fallBehind.voteKept = s.voteKept := by
  unfold State.fallBehind; split
  · rfl
  · split
    · exact s.dropRoundHolds_voteKept
    · exact s.startRebase_voteKept _

theorem State.rebase_voteKept : s.rebase.voteKept = s.voteKept := by
  unfold State.rebase; split
  · rfl
  · exact s.startRebase_voteKept _

theorem State.endCopies_unspent (cause : Cause) : (s.endCopies cause).unspent = s.unspent := by
  refine foldl_keeps State.unspent _ (fun s i => ?_) _ _
  extract_lets open_ t
  have ht : t.unspent = s.unspent := by
    change (if _ then s.freynEvent cause i s.round.openRound else s).unspent = _
    split <;> rfl
  refine (State.unspent_of_still ?_).trans ht
  exact (State.still_modRound _ rfl).trans (t.still_modSite i (fun _ => by rfl))

theorem State.closeStates_voteKept (next : Nat) : (s.closeStates next).voteKept = s.voteKept := by
  refine foldl_keeps State.voteKept _ (fun s i => ?_) _ _
  split
  · exact (State.voteKept_modSite _ i (fun _ => by rfl)).trans (s.voteKept_modSite i (fun _ => by rfl))
  · split
    · exact s.voteKept_modSite i (fun _ => by rfl)
    · rfl

theorem State.closeStates_round (next : Nat) : (s.closeStates next).round = s.round := by
  refine foldl_keeps State.round _ (fun s i => ?_) _ _
  split
  · rfl
  · split <;> rfl

/-- The round unit without what the checks of streams note. -/
def RoundUnit.unchecked (u : RoundUnit) : RoundUnit := { u with checked := [], failed := [] }

theorem State.checkStreams_spec : s.checkStreams.voteKept = s.voteKept ∧ s.checkStreams.round.unchecked = s.round.unchecked := by
  suffices h : (s.checkStreams.voteKept, s.checkStreams.round.unchecked) = (s.voteKept, s.round.unchecked) from Prod.mk.inj h
  refine foldl_keeps (fun u : State => (u.voteKept, u.round.unchecked)) _ (fun s i => ?_) _ s
  split
  · rfl
  · split
    · next t bs hread =>
      have hsame := congrArg (fun u : State => (u.voteKept, u.round.unchecked)) (State.uncounted_of_readMem hread)
      by_cases hcrc : crc64 bs = i.crc
      · simp only [if_pos hcrc]
        exact hsame
      · simp only [if_neg hcrc]
        exact hsame
    · next hread => exact (congrArg (fun u : State => (u.voteKept, u.round.unchecked)) (State.uncounted_of_readMem hread) :)

theorem State.takeClose_voteKept (src : Nat) (b : CloseBody) : (s.takeClose src b).voteKept = s.voteKept := by
  unfold State.takeClose
  extract_lets mask full own t
  have ht : t.voteKept = s.voteKept := (State.closeStates_voteKept _ _).trans
    ((State.voteKept_of_unspent (State.endCopies_unspent _ _)).trans s.dropRoundHolds_voteKept)
  exact (State.checkStreams_spec _).1.trans ht

/-- A close that takes effect is the one in progress, with its sender, its ACTIVE set and its mask. -/
theorem State.takeClose_spec (src : Nat) (b : CloseBody) :
    (s.takeClose src b).round.closing = some b ∧ (s.takeClose src b).round.closeFrom = src ∧ (s.takeClose src b).round.active = b.nextActive ∧
      (s.takeClose src b).round.lastMask = b.proposal.mask ∧ (s.takeClose src b).round.openRound = s.round.openRound := by
  unfold State.takeClose
  extract_lets mask full own t
  have ht : t.round.openRound = s.round.openRound := by
    rw [State.closeStates_round]
    exact (RoundUnit.openRound_of_unspent (State.round_of_unspent (State.endCopies_unspent _ _))).trans
      (State.openRound_of_unheld s.dropRoundHolds_unheld)
  generalize hv : t.modRound _ = v
  have hcheck := v.checkStreams_spec.2
  refine ⟨(congrArg RoundUnit.closing hcheck :).trans ?_, (congrArg RoundUnit.closeFrom hcheck :).trans ?_,
    (congrArg RoundUnit.active hcheck :).trans ?_, (congrArg RoundUnit.lastMask hcheck :).trans ?_,
    (congrArg RoundUnit.openRound hcheck :).trans (Eq.trans ?_ ht)⟩ <;> rw [← hv] <;> rfl

theorem State.applyClose_voteKept (src : Nat) (b : CloseBody) : (s.applyClose src b).voteKept = s.voteKept := by
  unfold State.applyClose
  extract_lets r t
  split
  · rfl
  · split
    · exact t.takeClose_voteKept src b
    · split
      · exact State.fallBehind_voteKept _
      · rfl

theorem State.tryClose_voteKept : s.tryClose.voteKept = s.voteKept := by
  unfold State.tryClose; split
  · split
    · exact (State.applyClose_voteKept _ _ _).trans (s.controlAll_voteKept _ _)
    · rfl
  · rfl

theorem State.propose_roundKept : s.propose.roundKept = s.roundKept := by
  unfold State.propose; split
  · rfl
  · exact (congrArg Prod.fst ((State.tryClose_voteKept _).trans (State.controlAll_voteKept _ _ _)) :)

/-- A coordinator that proposes has proposed the open round. -/
theorem State.propose_proposedRound (h : s.round.closing = none) : s.propose.round.proposedRound = some s.round.openRound := by
  unfold State.propose; split
  · next hdone => simpa [h] using hdone
  · exact (congrArg (·.2.2) ((State.tryClose_voteKept _).trans (State.controlAll_voteKept _ _ _)) :)

theorem State.tryPropose_roundKept : s.tryPropose.roundKept = s.roundKept := by
  unfold State.tryPropose; split
  · exact s.propose_roundKept
  · rfl

theorem State.siteReport_voteKept (i : Nat) (b : HeartbeatBody) : (s.siteReport i b).voteKept = s.voteKept := by
  unfold State.siteReport
  extract_lets t
  have ht : t.voteKept = s.voteKept := s.voteKept_modSite i (fun _ => by rfl)
  split
  · split
    · exact (State.fallBehind_voteKept _).trans ht
    · exact ht
  · exact ht

theorem State.compareAnchors_voteKept (r : Nat) : (s.compareAnchors r).voteKept = s.voteKept := by
  unfold State.compareAnchors; split
  · rfl
  · dsimp only; split
    · rfl
    · split
      · split
        · rfl
        · split
          · rfl
          · exact State.rebase_voteKept _
      · rfl

end

/-! ## What a held SEQ leaves (R457) -/

section
variable (s : State) (h : FrnHeader)

theorem State.noteSeq_site_ne {k : Nat} (hk : k ≠ h.src) : (s.noteSeq h).site k = s.site k := s.site_modSite_ne _ hk
theorem State.noteSeq_out : ((s.noteSeq h).site h.src).out = (s.site h.src).out := s.site_modSite_keeps h.src h.src (g := SiteSt.out) (fun _ => by rfl)
theorem State.noteSeq_msgCount : ((s.noteSeq h).site h.src).msgCount = (s.site h.src).msgCount :=
  s.site_modSite_keeps h.src h.src (g := SiteSt.msgCount) (fun _ => by rfl)

/-- What a JOIN says of its sender (R475, R479, R481). -/
def State.noteJoin (s : State) (i : Nat) (jb : JoinBody) : State :=
  match jb with
  | .rebasing => s.setSiteState i 3
  | .request => s.setSiteState i 4
  | .complete => (s.setSiteState i 4).modSite i (fun x => { x with join := true })

omit h in
theorem State.noteJoin_spec (i : Nat) (jb : JoinBody) : ((s.noteJoin i jb).site i).state = (if jb = .rebasing then 3 else 4) ∧
    (jb = .complete → ((s.noteJoin i jb).site i).join = true) ∧ (∀ k, k ≠ i → (s.noteJoin i jb).site k = s.site k) ∧
    (s.noteJoin i jb).round = s.round ∧ (s.noteJoin i jb).mem = s.mem := by
  cases jb with
  | rebasing | request => simp +contextual [State.noteJoin, State.setSiteState, State.site_modSite_ne, State.modSite_round]
  | complete => simp +contextual [State.noteJoin, State.setSiteState, State.site_modSite_ne, State.modSite_round]

/-- The sender of a HEARTBEAT is reachable, and the route that it came by is up (R467, R483). -/
def State.noteHeartbeat (s : State) (h : FrnHeader) : State :=
  ((s.modSite h.src (fun x => { x with
    lastHeartbeat := some s.now, reachable := true, paused := false, lastAck := if x.paused then s.now else x.lastAck,
    primaryUp := x.primaryUp || !h.second, primaryAt := if h.second then x.primaryAt else s.now,
    secondUp := x.secondUp || h.second, secondAt := if h.second then s.now else x.secondAt })).noteRoutes h.src).modRound (fun u =>
      { u with rekeyWanted := u.rekeyWanted || h.rekey })

theorem State.noteHeartbeat_mem : (s.noteHeartbeat h).mem = s.mem := by
  unfold State.noteHeartbeat
  rfl

theorem State.noteHeartbeat_heard : ((s.noteHeartbeat h).site h.src).heard =
    (some s.now, true, (s.site h.src).primaryUp || !h.second, (s.site h.src).secondUp || h.second) := by
  refine (State.noteRoutes_heard _ h.src h.src).trans ?_
  rw [State.site_modSite_self]
  rfl

end

/-! ## The messages -/

section
variable {s t : State} {h : FrnHeader} (hnew : h.seq ∉ (t.site h.src).heldSeqs)
include hnew

theorem exec_heartbeat {hb : HeartbeatBody} (hrec : s.receive h 1 hb.bytes = (t, true)) :
    ∃ u, exec (.heartbeat h hb) s = .next u ∧ u.roundKept = ((t.noteSeq h).noteHeartbeat h).roundKept := by
  refine ⟨_, (show execHeartbeat h hb s = _ from State.allow_taken hrec hnew (by rfl)), ?_⟩
  extract_lets i paused v w x
  have hx : x.voteKept = w.voteKept := by
    change (if _ then w.resendAll i (fun _ => true) else w).voteKept = _
    split
    · exact State.voteKept_of_unspent (w.resendAll_unspent _ _)
    · rfl
  have hreport := (State.tryPropose_roundKept _).trans (congrArg Prod.fst ((x.siteReport_voteKept i hb).trans hx) :)
  exact (congrArg Prod.fst (State.voteKept_of_unspent (State.drainWan_unspent _)) :).trans hreport

theorem exec_ack {rs : List SeqRange} (hrec : s.receive h 3 (ackBytes rs) = (t, true)) (hlen : rs.length ≤ 64) :
    ∃ u, exec (.ack h rs) s = .next u ∧
      (u.site h.src).out = (t.site h.src).out.filter (fun e => !(rs.any (fun r => r.first ≤ e.seq && e.seq < r.first + r.count))) ∧
      (∀ i, i ≠ h.src → u.site i = t.site i) ∧ u.mem = t.mem := by
  refine ⟨_, (show execAck h rs s = _ from State.allow_taken hrec hnew (decide_eq_true hlen)), ?_, fun i hi => ?_, rfl⟩
  · refine (congrArg SiteSt.out (State.site_modSite_self _ h.src _)).trans ?_
    exact congrArg (List.filter _) (t.noteSeq_out h)
  · exact (State.site_modSite_ne _ _ hi).trans (t.noteSeq_site_ne h hi)

theorem exec_join {jb : JoinBody} (hrec : s.receive h 10 jb.bytes = (t, true)) : exec (.join h jb) s = .next ((t.noteSeq h).noteJoin h.src jb) :=
  (show execJoin h jb s = _ from State.allow_taken hrec hnew (by rfl))

theorem exec_propose {pb : ProposeBody} (hrec : s.receive h 4 pb.bytes = (t, true)) :
    exec (.propose h pb) s = .next (if t.round.openRound ≤ pb.round ∧ ∀ a ∈ t.round.accepted, a.round ≠ pb.round then
      ((t.noteSeq h).modRound (fun u => { u with accepted := u.accepted ++ [pb] })).control h.src 5 (acceptBytes pb.round (proposeCrc pb))
      else t.noteSeq h) := by
  refine (show execPropose h pb s = _ from State.allow_taken hrec hnew (by rfl)).trans ?_
  have hround : (t.noteSeq h).round = t.round := rfl
  simp only [hround, Bool.and_eq_true, decide_eq_true_eq, List.all_eq_true, bne_iff_ne]

theorem exec_accept {r : Nat} {w : Word64} (hrec : s.receive h 5 (acceptBytes r w) = (t, true)) :
    exec (.accept h r w) s = .next (if ∃ p, t.round.proposal = some p ∧ p.round = r ∧ proposeCrc p = w then
      ((t.noteSeq h).modRound (fun u => { u with accepts := u.accepts ||| 2 ^ h.src })).tryClose else t.noteSeq h) := by
  refine (show execAccept h r w s = _ from State.allow_taken hrec hnew (by rfl)).trans ?_
  have hround : (t.noteSeq h).round = t.round := rfl
  simp only [hround, Option.any_eq_true, Bool.and_eq_true, beq_iff_eq]

theorem exec_close {cb : CloseBody} (hrec : s.receive h 6 cb.bytes = (t, true)) :
    exec (.close h cb) s = .next ((t.noteSeq h).applyClose h.src cb) :=
  (show execClose h cb s = _ from State.allow_taken hrec hnew (by rfl))

theorem exec_digest {r : Nat} {w : Word64} (hrec : s.receive h 9 (digestBytes r w) = (t, true)) :
    exec (.digest h r w) s = .next (((t.noteSeq h).modRound (fun u =>
      { u with digests := u.digests.filter (fun d => !(d.1 == h.src && d.2.1 == r)) ++ [(h.src, r, w)] })).compareAnchors r) :=
  (show execDigest h r w s = _ from State.allow_taken hrec hnew (by rfl))

end

/-- A CLOSE of the open round takes effect where no other is in progress and the module neither rebases nor joins. -/
theorem State.applyClose_open {s : State} {b : CloseBody} (src : Nat) (hround : b.proposal.round = s.round.openRound) (hstate : s.round.ownState ≠ 3)
    (hjoin : s.round.joinStep = 0) (hclosing : s.round.closing = none) :
    s.applyClose src b = (s.modRound (fun u => { u with closeSeen := some b.proposal.round })).takeClose src b := by
  unfold State.applyClose
  simp only [State.round_modRound, hround, hstate, hjoin, hclosing, decide_false, ne_eq, not_true_eq_false, Bool.false_and, Bool.or_self,
    Option.isSome_none, Bool.false_eq_true, if_false, if_true]

/-- Without a digest of its own a module has nothing to compare. -/
theorem State.compareAnchors_none {s : State} (h : s.round.ownDigest = none) (r : Nat) : s.compareAnchors r = s := by
  unfold State.compareAnchors
  rw [h]

section
variable {s t : State} {h : FrnHeader} (hnew : h.seq ∉ (t.site h.src).heldSeqs)
include hnew

theorem exec_heartbeat_spec {hb : HeartbeatBody} (hrec : s.receive h 1 hb.bytes = (t, true)) :
    ∃ u, exec (.heartbeat h hb) s = .next u ∧ (u.site h.src).reachable = true ∧ (u.site h.src).lastHeartbeat = some t.now ∧
      (h.second = false → (u.site h.src).primaryUp = true) ∧ (h.second = true → (u.site h.src).secondUp = true) ∧ u.mem = t.mem := by
  obtain ⟨u, hexec, hkept⟩ := exec_heartbeat hnew hrec
  have hheard := (t.noteSeq h).noteHeartbeat_heard h
  have hmem := (t.noteSeq h).noteHeartbeat_mem h
  generalize (t.noteSeq h).noteHeartbeat h = v at hkept hheard hmem
  rw [show (v.site h.src).heard = (u.site h.src).heard from (congrArg (·.2.2.2 h.src) hkept.symm :)] at hheard
  obtain ⟨hlast, hrest⟩ := Prod.mk.inj hheard
  obtain ⟨hreach, hroutes⟩ := Prod.mk.inj hrest
  obtain ⟨hfirst, hsecond⟩ := Prod.mk.inj hroutes
  exact ⟨u, hexec, hreach, hlast, fun hs => by simp [hfirst, hs], fun hs => by simp [hsecond, hs],
    (congrArg Prod.fst hkept :).trans (hmem.trans rfl)⟩

theorem exec_join_spec {jb : JoinBody} (hrec : s.receive h 10 jb.bytes = (t, true)) :
    ∃ u, exec (.join h jb) s = .next u ∧ (u.site h.src).state = (if jb = .rebasing then 3 else 4) ∧
      (jb = .complete → (u.site h.src).join = true) ∧ (∀ i, i ≠ h.src → u.site i = t.site i) ∧ u.round = t.round ∧ u.mem = t.mem := by
  obtain ⟨hstate, hjoin, hother, hround, hmem⟩ := (t.noteSeq h).noteJoin_spec h.src jb
  exact ⟨_, exec_join hnew hrec, hstate, hjoin, fun i hi => (hother i hi).trans (t.noteSeq_site_ne h hi), hround.trans rfl, hmem.trans rfl⟩

theorem exec_propose_first {pb : ProposeBody} (hrec : s.receive h 4 pb.bytes = (t, true)) (hopen : t.round.openRound ≤ pb.round)
    (hfirst : ∀ a ∈ t.round.accepted, a.round ≠ pb.round) : ∃ u, exec (.propose h pb) s = .next u ∧
      u.round.accepted = t.round.accepted ++ [pb] ∧ (u.site h.src).msgCount = (t.site h.src).msgCount + 1 ∧ u.mem = t.mem := by
  have hexec := exec_propose hnew hrec
  rw [if_pos ⟨hopen, hfirst⟩] at hexec
  generalize hv : (t.noteSeq h).modRound _ = v at hexec
  have haccepted : v.round.accepted = t.round.accepted ++ [pb] := by rw [← hv]; rfl
  have hmsg : (v.site h.src).msgCount = (t.site h.src).msgCount := by rw [← hv]; exact t.noteSeq_msgCount h
  have hmem : v.mem = t.mem := by rw [← hv]; rfl
  have hround := v.control_round h.src 5 (acceptBytes pb.round (proposeCrc pb))
  have hcount := v.control_msgCount h.src 5 (acceptBytes pb.round (proposeCrc pb))
  have hkept := v.control_mem h.src 5 (acceptBytes pb.round (proposeCrc pb))
  generalize v.control _ _ _ = u at hexec hround hcount hkept
  exact ⟨u, hexec, (congrArg RoundUnit.accepted hround :).trans haccepted, hcount.trans (congrArg (· + 1) hmsg), hkept.trans hmem⟩

theorem exec_propose_again {pb : ProposeBody} (hrec : s.receive h 4 pb.bytes = (t, true))
    (hlate : pb.round < t.round.openRound ∨ ∃ a ∈ t.round.accepted, a.round = pb.round) : exec (.propose h pb) s = .next (t.noteSeq h) := by
  rw [exec_propose hnew hrec, if_neg]
  rintro ⟨hopen, hfirst⟩
  rcases hlate with hbehind | ⟨a, ha, hr⟩
  · exact absurd hopen (Nat.not_le.2 hbehind)
  · exact hfirst a ha hr

theorem exec_accept_counted {r : Nat} {w : Word64} (hrec : s.receive h 5 (acceptBytes r w) = (t, true))
    (hp : ∃ p, t.round.proposal = some p ∧ p.round = r ∧ proposeCrc p = w) :
    ∃ u, exec (.accept h r w) s = .next u ∧ bitOf u.round.accepts h.src = true ∧ u.mem = t.mem := by
  have hexec := exec_accept hnew hrec
  rw [if_pos hp] at hexec
  generalize hv : (t.noteSeq h).modRound _ = v at hexec
  have hbit : bitOf v.round.accepts h.src = true := by
    rw [← hv]
    simp [bitOf]
  have hmem : v.mem = t.mem := by rw [← hv]; rfl
  have hkept := v.tryClose_voteKept
  generalize v.tryClose = u at hexec hkept
  exact ⟨u, hexec, (congrArg (fun k => bitOf k.2.1 h.src) hkept :).trans hbit, (congrArg (·.1.1) hkept :).trans hmem⟩

theorem exec_close_open {cb : CloseBody} (hrec : s.receive h 6 cb.bytes = (t, true)) (hround : cb.proposal.round = t.round.openRound)
    (hstate : t.round.ownState ≠ 3) (hjoin : t.round.joinStep = 0) (hclosing : t.round.closing = none) :
    ∃ u, exec (.close h cb) s = .next u ∧ u.round.closing = some cb ∧ u.round.closeFrom = h.src ∧ u.round.active = cb.nextActive ∧
      u.round.lastMask = cb.proposal.mask ∧ u.round.openRound = t.round.openRound ∧ u.mem = t.mem := by
  have hexec := exec_close hnew hrec
  rw [State.applyClose_open (s := t.noteSeq h) h.src hround hstate hjoin hclosing] at hexec
  generalize hv : (t.noteSeq h).modRound _ = v at hexec
  have hopen : v.round.openRound = t.round.openRound := by rw [← hv]; rfl
  have hmem : v.mem = t.mem := by rw [← hv]; rfl
  obtain ⟨hclose, hfrom, hactive, hmask, hsame⟩ := v.takeClose_spec h.src cb
  exact ⟨_, hexec, hclose, hfrom, hactive, hmask, hsame.trans hopen, (congrArg (·.1.1) (v.takeClose_voteKept h.src cb)).trans hmem⟩

theorem exec_digest_held {r : Nat} {w : Word64} (hrec : s.receive h 9 (digestBytes r w) = (t, true)) (hown : t.round.ownDigest = none) :
    ∃ u, exec (.digest h r w) s = .next u ∧ (h.src, r, w) ∈ u.round.digests ∧
      (∀ d ∈ t.round.digests, (d.1, d.2.1) ≠ (h.src, r) → d ∈ u.round.digests) ∧ u.mem = t.mem := by
  have hexec := exec_digest hnew hrec
  generalize hv : (t.noteSeq h).modRound _ = v at hexec
  have hround : v.round = { t.round with digests := t.round.digests.filter (fun d => !(d.1 == h.src && d.2.1 == r)) ++ [(h.src, r, w)] } := by
    rw [← hv]; rfl
  have hmem : v.mem = t.mem := by rw [← hv]; rfl
  rw [State.compareAnchors_none ((congrArg RoundUnit.ownDigest hround).trans hown)] at hexec
  refine ⟨v, hexec, ?_, fun d hd hne => ?_, hmem⟩ <;> rw [hround]
  · exact List.mem_append_right _ (List.mem_singleton_self _)
  · refine List.mem_append_left _ (List.mem_filter.2 ⟨hd, ?_⟩)
    simpa [imp_iff_not_or] using fun h1 h2 => hne (Prod.ext h1 h2)

end

/-- Settles O33, message by message. -/
theorem freynMessagesAct : Obligations.FreynMessagesAct := by
  refine fun s t h hnew => ⟨fun hb => exec_heartbeat_spec hnew, fun rs => exec_ack hnew, fun jb => exec_join_spec hnew,
    fun pb hrec => ⟨exec_propose_first hnew hrec, exec_propose_again hnew hrec⟩,
    fun r w hrec => ⟨fun p hp hr hw => exec_accept_counted hnew hrec ⟨p, hp, hr, hw⟩, fun hother => ?_⟩,
    fun cb => exec_close_open hnew, fun r w => exec_digest_held hnew⟩
  rw [exec_accept hnew hrec, if_neg]
  rintro ⟨p, hp, hr, hw⟩
  exact hother p hp (by rw [hr, hw])

end Sys2Proof.Machine
end

section
/-! PROOFS. Reachability, routes, key epochs and heartbeats (O36). -/

namespace Sys2Proof.Machine

open Sys2Proof

/-! ## Reachability and routes (R467, R483, R484) -/

section
variable {s : State} {i : Nat}

theorem exec_reachabilityLapse (hreach : (s.site i).reachable = true) (hold : ∀ t, (s.site i).lastHeartbeat = some t → t + 5000000000 < s.now) :
    exec (.reachabilityLapse i) s = .next (s.modSite i (fun x => { x with reachable := false })) := by
  change execReachabilityLapse i s = _
  have hall : (s.site i).lastHeartbeat.all (fun t => decide (t + 5000000000 < s.now)) = true := by
    rw [Option.all_eq_true]
    exact fun t ht => decide_eq_true (hold t ht)
  simp [execReachabilityLapse, hreach, hall]

/-- A route of a site without a HEARTBEAT for 5 s is down. -/
theorem exec_routeDown {second : Bool} (hup : (s.site i).up second = true)
    (hold : (if second then (s.site i).secondAt else (s.site i).primaryAt) + 5000000000 < s.now) :
    exec (.routeDown i second) s =
      .next ((s.modSite i (fun x => if second then { x with secondUp := false } else { x with primaryUp := false })).noteRoutes i) := by
  change execRouteDown i second s = _
  unfold execRouteDown
  simp only [hup, hold, decide_true, Bool.and_self, if_true]

theorem routeDown_heard (s : State) (i : Nat) (second : Bool) :
    (((s.modSite i (fun x => if second then { x with secondUp := false } else { x with primaryUp := false })).noteRoutes i).site i).heard =
      ((s.site i).lastHeartbeat, (s.site i).reachable, second && (s.site i).primaryUp, !second && (s.site i).secondUp) := by
  rw [State.noteRoutes_heard, State.site_modSite_self]
  cases second <;> rfl

theorem exec_recoveryFailover {r : RouteCfg} (hopen : s.recoveryOpen i = true) (hquiet : (s.site i).recoveryAck + 3000000 < s.now)
    (hroute : s.route i (!(s.site i).recoverySecond) = some r) (hup : s.wanUp r.port = true) :
    exec (.recoveryFailover i) s = .next (((s.modSite i (fun x => { x with recoverySecond := !x.recoverySecond, recoveryAck := s.now })).modRound
      (fun u => { u with failovers := u.failovers + 1 })).resendAll i (fun e => e.service == 2)) := by
  change execRecoveryFailover i s = _
  simp [execRecoveryFailover, hopen, hquiet, hroute, hup]

theorem exec_recoveryFailover_spec {r : RouteCfg} (hopen : s.recoveryOpen i = true) (hquiet : (s.site i).recoveryAck + 3000000 < s.now)
    (hroute : s.route i (!(s.site i).recoverySecond) = some r) (hup : s.wanUp r.port = true) :
    ∃ u, exec (.recoveryFailover i) s = .next u ∧ (u.site i).recoverySecond = !(s.site i).recoverySecond ∧
      u.round.failovers = s.round.failovers + 1 ∧ u.mem = s.mem := by
  have hexec := exec_recoveryFailover hopen hquiet hroute hup
  generalize hv : (s.modSite i _).modRound _ = v at hexec
  have hsecond : (v.site i).recoverySecond = !(s.site i).recoverySecond := by
    rw [← hv]
    exact congrArg SiteSt.recoverySecond (s.site_modSite_self i (fun x => { x with recoverySecond := !x.recoverySecond, recoveryAck := s.now }))
  have hcount : v.round.failovers = s.round.failovers + 1 := by rw [← hv]; rfl
  have hmem : v.mem = s.mem := by rw [← hv]; rfl
  have hkept := v.resendAll_unspent i (fun e => e.service == 2)
  generalize v.resendAll _ _ = u at hexec hkept
  exact ⟨u, hexec, (congrArg SiteSt.recoverySecond (State.site_of_unspent hkept i) :).trans hsecond,
    (congrArg RoundUnit.failovers (State.round_of_unspent hkept) :).trans hcount, (State.mem_of_unspent hkept).trans hmem⟩

/-- The site's RECOVERY streams and a fetch from it have ended. -/
def State.endRecovery (s : State) (i : Nat) : State :=
  let s := (s.freynEvent Cause.linkDown i s.round.openRound).modSite i (fun x => { x with out := x.out.filter (fun e => e.service != 2) })
  if s.round.fetch.any (fun f => f.site == i) then s.modRound (fun u => { u with fetch := none }) else s

theorem exec_recoveryRoutesDown {t : Nat} (hopen : s.recoveryOpen i = true) (hdown : (s.site i).routesDownAt = some t) (hlate : t + 1000000000 ≤ s.now) :
    exec (.recoveryRoutesDown i) s = .next (s.endRecovery i) := by
  have hany : (s.site i).routesDownAt.any (fun t => decide (t + 1000000000 ≤ s.now)) = true := by
    rw [hdown, Option.any_some, decide_eq_true_eq]
    exact hlate
  change execRecoveryRoutesDown i s = _
  unfold execRecoveryRoutesDown
  rw [if_pos (by rw [hopen, hany]; rfl)]
  rfl

theorem State.endRecovery_sites (s : State) (i : Nat) :
    (s.endRecovery i).sites = (s.modSite i (fun x => { x with out := x.out.filter (fun e => e.service != 2) })).sites ∧ (s.endRecovery i).mem = s.mem := by
  unfold State.endRecovery
  extract_lets v
  split <;> exact ⟨rfl, rfl⟩

theorem State.endRecovery_fetch (s : State) (i : Nat) : ∀ f, (s.endRecovery i).round.fetch = some f → f.site ≠ i := by
  unfold State.endRecovery
  extract_lets v
  split
  · exact nofun
  · next hother =>
    intro f hf
    simpa [hf] using hother

theorem exec_recoveryRoutesDown_spec {t : Nat} (hopen : s.recoveryOpen i = true) (hdown : (s.site i).routesDownAt = some t)
    (hlate : t + 1000000000 ≤ s.now) : ∃ u, exec (.recoveryRoutesDown i) s = .next u ∧ (∀ e ∈ (u.site i).out, e.service ≠ 2) ∧
      (∀ f, u.round.fetch = some f → f.site ≠ i) ∧ (∀ k, k ≠ i → u.site k = s.site k) ∧ u.mem = s.mem := by
  obtain ⟨hsites, hmem⟩ := s.endRecovery_sites i
  have hsite (k : Nat) : (s.endRecovery i).site k = _ := congrArg (Tab.at · k) hsites
  refine ⟨_, exec_recoveryRoutesDown hopen hdown hlate, fun e he => ?_, s.endRecovery_fetch i, fun k hk => (hsite k).trans (s.site_modSite_ne _ hk), hmem⟩
  rw [(hsite i).trans (s.site_modSite_self i _)] at he
  simpa using (List.mem_filter.1 he).2

end

/-! ## The grace period (R489, R552) -/

/-- A key slot of an engine that holds a key of an epoch is overwritten with zeros. -/
def State.dropKey (n e : Nat) (s : State) (p : Nat) : State := if ((s.engine p).slots.at n).epoch = e then s.setSlot p n {} else s

section
variable {n e : Nat}

theorem State.dropKey_self (s : State) (p : Nat) :
    (((s.dropKey n e p).engine p).slots.at n) = if ((s.engine p).slots.at n).epoch = e then {} else (s.engine p).slots.at n := by
  unfold State.dropKey; split
  · rw [State.engine, State.setSlot, State.modEngine]
    simp only [Tab.at_upd_self, Tab.at_set_self]
  · rfl

theorem State.dropKey_ne (s : State) {p q : Nat} (h : q ≠ p) : (s.dropKey n e p).engine q = s.engine q := by
  unfold State.dropKey; split
  · exact Tab.at_upd_ne s.engines (fun e => { e with slots := e.slots.set n {} }) h
  · rfl

/-- A slot that is empty stays empty. -/
theorem State.each_dropKey_empty (ps : List Nat) (q : Nat) (s : State) (h : (s.engine q).slots.at n = {}) :
    ((s.each ps (State.dropKey n e)).engine q).slots.at n = {} := by
  unfold State.each
  induction ps generalizing s with
  | nil => exact h
  | cons p ps ih =>
    refine ih _ ?_
    by_cases hq : q = p
    · rw [hq] at h ⊢
      rw [State.dropKey_self, h]
      split <;> rfl
    · rw [State.dropKey_ne _ hq, h]

/-- Every slot of the epoch is empty at the end. -/
theorem State.each_dropKey (ps : List Nat) {q : Nat} (hq : q ∈ ps) (s : State) (h : ((s.engine q).slots.at n).epoch = e) :
    ((s.each ps (State.dropKey n e)).engine q).slots.at n = {} := by
  induction ps generalizing s with
  | nil => cases hq
  | cons p ps ih =>
    by_cases hp : q = p
    · refine State.each_dropKey_empty ps q (s.dropKey n e p) ?_
      rw [hp] at h ⊢
      rw [State.dropKey_self, if_pos h]
    · refine ih ((List.mem_cons.1 hq).resolve_left hp) (s.dropKey n e p) ?_
      rwa [State.dropKey_ne _ hp]

theorem State.each_dropKey_sites (ps : List Nat) (s : State) :
    (s.each ps (State.dropKey n e)).sites = s.sites ∧ (s.each ps (State.dropKey n e)).mem = s.mem := by
  have hkeep := foldl_keeps (fun u : State => (u.sites, u.mem)) (State.dropKey n e) (fun u p => by unfold State.dropKey; split <;> rfl) ps s
  exact Prod.mk.inj hkeep

end

theorem exec_gracePeriodEnd {s : State} {i e : Nat} (h : (s.site i).prevEpoch = some e) :
    exec (.gracePeriodEnd i) s = .next (if s.now < (s.site i).epochAt + 2000000000 then s else
      (s.modSite i (fun x => { x with prevEpoch := none, prevWindows := [] })).each (s.sitePorts i) (State.dropKey (recvSlot i e) e)) := by
  change execGracePeriodEnd i s = _
  unfold execGracePeriodEnd
  dsimp only
  rw [h]
  rfl

theorem exec_gracePeriodEnd_late {s : State} {i e : Nat} (h : (s.site i).prevEpoch = some e) (hlate : (s.site i).epochAt + 2000000000 ≤ s.now) :
    ∃ u, exec (.gracePeriodEnd i) s = .next u ∧ (u.site i).prevEpoch = none ∧
      (∀ p ∈ s.sitePorts i, ((s.engine p).slots.at (recvSlot i e)).epoch = e → (u.engine p).slots.at (recvSlot i e) = {}) ∧ u.mem = s.mem := by
  have hexec := exec_gracePeriodEnd h
  rw [if_neg (Nat.not_lt.2 hlate)] at hexec
  generalize hv : s.modSite i _ = v at hexec
  have hprev : (v.site i).prevEpoch = none := by rw [← hv, State.site_modSite_self]
  have hengine (p : Nat) : v.engine p = s.engine p := by rw [← hv]; rfl
  have hsame : v.mem = s.mem := by rw [← hv]; rfl
  obtain ⟨hsites, hmem⟩ := State.each_dropKey_sites (n := recvSlot i e) (e := e) (s.sitePorts i) v
  refine ⟨_, hexec, (congrArg (fun t => (Tab.at t i).prevEpoch) hsites).trans hprev, fun p hp hepoch => ?_, hmem.trans hsame⟩
  exact State.each_dropKey _ hp v (by rwa [hengine])

/-! ## Send epochs (R487, R488) -/

theorem exec_keyEpochStart {s : State} (hsend : s.maySend = true) (hrekey : s.rekeyDue = false) (hdue : s.epochDue = true) :
    exec .keyEpochStart s = .next s.nextEpoch := by
  change execKeyEpochStart s = _
  simp [execKeyEpochStart, hsend, hrekey, hdue]

/-- Keys lost leave the round unit but for the queue and the fetch. -/
theorem State.failFreyn_round (s : State) (cause : Cause) :
    (s.failFreyn cause).round = { s.round with queue := [], fetch := (s.failFreyn cause).round.fetch } := by
  unfold State.failFreyn
  extract_lets busy t v
  have ht : t.round = s.round := foldl_keeps State.round _ (fun _ _ => by rfl) _ _
  have hv : v.round = { s.round with queue := [] } := congrArg (fun u : RoundUnit => { u with queue := [] }) ht
  have hround (f : Option FetchSt) : { v.round with fetch := f } = { s.round with queue := [], fetch := f } := by rw [hv]
  split
  · split
    · exact hround _
    · exact hround none
  · exact hround _

theorem State.exhaust_round (s : State) : s.exhaust.round.exhausted = true ∧ s.exhaust.round.txEpoch = s.round.txEpoch := by
  unfold State.exhaust
  rw [State.failFreyn_round]
  exact ⟨rfl, rfl⟩

theorem State.loadSendKeys_rest (s : State) : (s.loadSendKeys.round, s.loadSendKeys.flash, s.loadSendKeys.wan) = (s.round, s.flash, s.wan) := by
  unfold State.loadSendKeys; split
  · rfl
  · exact foldl_keeps (fun u : State => (u.round, u.flash, u.wan)) _ (fun _ _ => by rfl) _ _

/-- The send counts of ports are set to 0. -/
theorem State.each_count_zero (ps : List Nat) {p : Nat} (s : State) (h : p ∈ ps ∨ (s.wan.at p).count = 0) :
    ((s.each ps (fun s p => s.modWan p (fun w => { w with count := 0 }))).wan.at p).count = 0 := by
  unfold State.each
  induction ps generalizing s with
  | nil => exact h.resolve_left List.not_mem_nil
  | cons q ps ih =>
    refine ih _ ?_
    by_cases hq : p = q
    · right
      rw [hq, State.wan_modWan_self]
    · rw [State.wan_modWan_ne _ _ hq]
      exact h.imp_left (fun hm => (List.mem_cons.1 hm).resolve_left hq)

theorem State.beginEpoch_spec (s : State) (e : Nat) : (s.beginEpoch e).round.txEpoch = e ∧ (s.beginEpoch e).flash.security.sendEpoch = e ∧
    ∀ p, p < 4 → ((s.beginEpoch e).wan.at p).count = 0 := by
  unfold State.beginEpoch
  extract_lets t v
  have hflash : v.flash.security.sendEpoch = e := congrArg (·.security.sendEpoch) (foldl_keeps State.flash _ (fun _ _ => by rfl) _ t : v.flash = t.flash)
  have hcount (p : Nat) (hp : p < 4) : (v.wan.at p).count = 0 := by
    refine State.each_count_zero [0, 1, 2, 3] t (.inl ?_)
    interval_cases p <;> decide
  clear_value v
  generalize hw : v.modRound _ = w
  have htx : w.round.txEpoch = e := by rw [← hw]; rfl
  obtain ⟨hround, hrest⟩ := Prod.mk.inj w.loadSendKeys_rest
  obtain ⟨hflash', hwan⟩ := Prod.mk.inj hrest
  rw [hround, hflash', hwan, htx, ← hw]
  exact ⟨rfl, hflash, hcount⟩

/-! ## HEARTBEATs (R467) -/

/-- A HEARTBEAT is queued on a route to a site, and counted. -/
def State.sendHeartbeat (s : State) (e : Nat × Bool) : State :=
  (s.post { cls := 0, site := e.1, type := 1, seq := s.nextSeq e.1, payload := s.ownReport.bytes, second := e.2 }).countMsg e.1

theorem exec_heartbeatSend {s : State} (himg : s.img.assoc ≠ none) (hsend : s.maySend = true) :
    exec .heartbeatSend s = .next ((s.modRound (fun u => { u with lastHeartbeatAt := s.now })).each
      (s.otherSites.flatMap (fun i => [(i, false), (i, true)])) State.sendHeartbeat) := by
  change execHeartbeatSend s = _
  unfold execHeartbeatSend
  rw [if_neg (by simp [himg, hsend])]
  rfl

theorem State.lastHeartbeatAt_of_unspent {s t : State} (h : t.unspent = s.unspent) : t.round.lastHeartbeatAt = s.round.lastHeartbeatAt :=
  (congrArg RoundUnit.lastHeartbeatAt (State.round_of_unspent h) :)

theorem State.each_sendHeartbeat_keeps (es : List (Nat × Bool)) (s : State) :
    (s.each es State.sendHeartbeat).mem = s.mem ∧ (s.each es State.sendHeartbeat).round.lastHeartbeatAt = s.round.lastHeartbeatAt := by
  refine Prod.mk.inj (foldl_keeps (fun u : State => (u.mem, u.round.lastHeartbeatAt)) State.sendHeartbeat (fun u e => ?_) es s)
  have hkept := u.post_unspent { cls := 0, site := e.1, type := 1, seq := u.nextSeq e.1, payload := u.ownReport.bytes, second := e.2 }
  exact Prod.ext (State.mem_of_unspent hkept :) (State.lastHeartbeatAt_of_unspent hkept :)

theorem State.sendHeartbeat_msgCount (s : State) (e : Nat × Bool) (i : Nat) :
    ((s.sendHeartbeat e).site i).msgCount = (s.site i).msgCount + if e.1 == i then 1 else 0 := by
  have hpost := (congrArg SiteSt.msgCount (State.site_of_unspent (s.post_unspent
    { cls := 0, site := e.1, type := 1, seq := s.nextSeq e.1, payload := s.ownReport.bytes, second := e.2 }) i) :)
  by_cases hi : e.1 = i
  · subst hi
    simp only [beq_self_eq_true, if_true]
    exact (congrArg SiteSt.msgCount (State.site_modSite_self _ e.1 _)).trans (congrArg (· + 1) hpost)
  · rw [if_neg (by simpa using hi)]
    exact (congrArg SiteSt.msgCount (State.site_modSite_ne _ _ (Ne.symm hi))).trans hpost

/-- Messages are counted once for each HEARTBEAT to a site. -/
theorem State.each_sendHeartbeat_msgCount (es : List (Nat × Bool)) (s : State) (i : Nat) :
    ((s.each es State.sendHeartbeat).site i).msgCount = (s.site i).msgCount + es.countP (fun e => e.1 == i) := by
  unfold State.each
  induction es generalizing s with
  | nil => rfl
  | cons e es ih => rw [List.foldl_cons, ih, State.sendHeartbeat_msgCount, List.countP_cons, Nat.add_assoc, Nat.add_comm (ite _ _ _)]

theorem countP_both_routes (is : List Nat) (i : Nat) :
    (is.flatMap (fun i => [(i, false), (i, true)])).countP (fun e => e.1 == i) = 2 * is.count i := by
  induction is with
  | nil => rfl
  | cons j is ih =>
    rw [List.flatMap_cons, List.countP_append, ih, List.count_cons]
    by_cases hj : j = i
    · simp [hj, Nat.mul_add, Nat.add_comm]
    · simp [hj]

theorem State.otherSites_nodup (s : State) : s.otherSites.Nodup := (List.nodup_range.filter _).filter _

theorem exec_heartbeatSend_spec {s : State} (himg : s.img.assoc ≠ none) (hsend : s.maySend = true) :
    ∃ u, exec .heartbeatSend s = .next u ∧ u.round.lastHeartbeatAt = s.now ∧ (∀ i ∈ s.otherSites, (u.site i).msgCount = (s.site i).msgCount + 2) ∧
      u.mem = s.mem := by
  have hexec := exec_heartbeatSend himg hsend
  generalize hv : s.modRound _ = v at hexec
  have hat : v.round.lastHeartbeatAt = s.now := by rw [← hv]; rfl
  have hcount (i : Nat) : (v.site i).msgCount = (s.site i).msgCount := by rw [← hv]; rfl
  have hsame : v.mem = s.mem := by rw [← hv]; rfl
  obtain ⟨hmem, hbeat⟩ := State.each_sendHeartbeat_keeps (s.otherSites.flatMap (fun i => [(i, false), (i, true)])) v
  refine ⟨_, hexec, hbeat.trans hat, fun i hi => ?_, hmem.trans hsame⟩
  rw [State.each_sendHeartbeat_msgCount, countP_both_routes, List.count_eq_one_of_mem s.otherSites_nodup hi, hcount]

/-! ## The obligation -/

/-- Settles O36, timer by timer. -/
theorem routesAndKeyEpochs : Obligations.RoutesAndKeyEpochs := by
  refine ⟨fun s i hreach hold => ?_, fun s i => ⟨fun hup hold => ?_, fun hup hold => ?_⟩, fun s i r hopen hquiet hroute hup => ?_,
    fun s i t hopen hdown hlate => ?_, fun s i e hprev => ⟨fun hlate => ?_, fun hearly => ?_⟩, fun s => ⟨fun hsend => ?_,
      fun hsend hrekey hdue hlast => ?_, fun hsend hrekey hdue hlast => ?_⟩, fun s himg hsend => ?_, fun s hpower hsend => ?_⟩
  · exact ⟨_, exec_reachabilityLapse hreach hold, congrArg SiteSt.reachable (s.site_modSite_self i _), fun k hk => s.site_modSite_ne _ hk, rfl, rfl⟩
  · have hheard := routeDown_heard s i false
    exact ⟨_, exec_routeDown hup hold, (congrArg (·.2.2.1) hheard :), (congrArg (·.2.2.2) hheard :), fun k hk =>
      (State.noteRoutes_site_ne _ hk).trans (s.site_modSite_ne _ hk)⟩
  · have hheard := routeDown_heard s i true
    exact ⟨_, exec_routeDown hup hold, (congrArg (·.2.2.2) hheard :), (congrArg (·.2.2.1) hheard :), fun k hk =>
      (State.noteRoutes_site_ne _ hk).trans (s.site_modSite_ne _ hk)⟩
  · exact exec_recoveryFailover_spec hopen hquiet hroute hup
  · exact exec_recoveryRoutesDown_spec hopen hdown hlate
  · exact exec_gracePeriodEnd_late hprev hlate
  · rw [exec_gracePeriodEnd hprev, if_pos hearly]
  · change execKeyEpochStart s = _
    simp [execKeyEpochStart, hsend]
  · have hnext : s.nextEpoch = s.beginEpoch (s.round.txEpoch + 1) := if_neg hlast
    obtain ⟨htx, hflash, hcount⟩ := s.beginEpoch_spec (s.round.txEpoch + 1)
    exact ⟨_, exec_keyEpochStart hsend hrekey hdue, by rw [hnext, htx], by rw [hnext, hflash], by rw [hnext]; exact hcount,
      (congrArg (·.1.mem) s.nextEpoch_still :)⟩
  · have hnext : s.nextEpoch = s.exhaust := if_pos hlast
    obtain ⟨hex, htx⟩ := s.exhaust_round
    exact ⟨_, exec_keyEpochStart hsend hrekey hdue, by rw [hnext, hex], by rw [hnext, htx], (congrArg (·.1.mem) s.nextEpoch_still :)⟩
  · exact exec_heartbeatSend_spec himg hsend
  · have hdrain : s.drainWan = s.refill.pump (s.round.queue.length + 1) := if_pos (by simp [hpower, hsend])
    obtain ⟨hbucket, hat⟩ := State.pump_bucket (s.round.queue.length + 1) s.refill
    rw [← hdrain] at hbucket hat
    exact ⟨_, rfl, hat, hbucket.trans (Nat.min_le_left _ _), State.cores_of_unspent s.drainWan_unspent, State.mem_of_unspent s.drainWan_unspent⟩

end Sys2Proof.Machine
end

section
/-! PROOFS. Deltas are received, formed, sent and sent again (O34). -/

namespace Sys2Proof.Machine

open Sys2Proof

/-! ## A DELTA fragment (R456) -/

/-- What a site's first fragment of a round's stream gives. -/
def HeldDelta.first (site : Nat) (f : DeltaFragment) : HeldDelta :=
  { site := site, round := f.round, baseRound := f.baseRound, pending := f.pending, total := f.totalBlocks, crc := f.streamCrc,
    got := [(f.firstBlock, f.blocks)] }

theorem exec_delta {s t v : State} {h : FrnHeader} {f : DeltaFragment} {bs : List Byte} (hrec : s.receive h 2 (f.bytes ++ bs) = (t, true))
    (hnew : h.seq ∉ (t.site h.src).heldSeqs) (hfrag : t.fragOk h.src f bs = true) (hpending : f.pending = false) (hweight : t.staleWeight 0 ≠ none)
    (hnone : t.heldDelta h.src f.round = none)
    (hwrite : (t.noteSeq h).writeMem (t.deltaBase h.src + 8 * t.assoc.rate * f.firstBlock) bs = (v, 0)) :
    exec (.delta h f bs) s = .next ((v.modRound (fun u =>
      { u with deltas := u.deltas.filter (fun e => e.site != h.src) ++ [.first h.src f] })).tryPropose) := by
  have haside := (t.noteSeq h).writeMem_aside (t.deltaBase h.src + 8 * t.assoc.rate * f.firstBlock) bs
  rw [hwrite] at haside
  have hround : v.fragRound f = f.round := by simp [State.fragRound, hpending]
  have hheld : v.heldDelta h.src f.round = none := (congrArg (·.heldDelta h.src f.round) haside :).trans hnone
  have hstale : v.staleWeight (HeldDelta.first h.src f).staleness = t.staleWeight 0 := by
    have hzero : (HeldDelta.first h.src f).staleness = 0 := by simp [HeldDelta.staleness, HeldDelta.first, hpending]
    rw [hzero]
    exact (congrArg (·.staleWeight 0) haside :)
  refine (show execDelta h f bs s = _ from State.allow_taken hrec hnew hfrag).trans ?_
  change Host.Outcome.next (match (t.noteSeq h).writeMem (t.deltaBase h.src + 8 * t.assoc.rate * f.firstBlock) bs with | (s, 0) => _ | (s, _) => s) = _
  rw [hwrite]
  refine congrArg Host.Outcome.next ((show _ = @ite State _ _ _ _ from rfl).trans ?_)
  rw [hround, hheld, if_neg]
  · rfl
  · rw [Bool.and_eq_true]
    rintro ⟨-, hno⟩
    exact hweight (hstale.symm.trans (Option.isNone_iff_eq_none.1 hno))

/-! ## DELTA_FORM (R463, R464) -/

/-- Writes change the stores, and what accesses count and report. -/
theorem State.writeAll_aside (ws : List (Nat × List Byte)) (s : State) : (s.writeAll ws).1.aside = s.aside := by
  induction ws generalizing s with
  | nil => rfl
  | cons w ws ih =>
    obtain ⟨a, bs⟩ := w
    have hwrite := s.writeMem_aside a bs
    rw [State.writeAll]
    split
    · next heq =>
      rw [heq] at hwrite
      exact (ih _).trans hwrite
    · next heq =>
      rw [heq] at hwrite
      exact hwrite

/-- The shard's hold has ended and DELTA_FORM of it is noted. -/
def State.noteFormed (s : State) (shard : Nat) : State := (s.dropRoundHold shard).modRound (fun u => { u with formed := u.formed ++ [shard] })

theorem State.noteFormed_spec (s : State) (shard : Nat) : (s.noteFormed shard).round.formed = s.round.formed ++ [shard] ∧
    (∀ e ∈ (s.noteFormed shard).round.formSlots, e.1 ≠ shard) ∧ (s.noteFormed shard).mem = s.mem ∧ (s.noteFormed shard).cores = s.cores := by
  have hunheld := s.dropRoundHold_unheld shard
  refine ⟨congrArg (· ++ [shard]) (congrArg (·.round.formed) hunheld :), fun e he => ?_, (congrArg State.mem hunheld :), (congrArg State.cores hunheld :)⟩
  change e ∈ (s.dropRoundHold shard).round.formSlots at he
  unfold State.dropRoundHold at he
  split at he
  · simpa using (List.mem_filter.1 he).2
  · next hnone => exact fun heq => hnone (List.any_eq_true.2 ⟨e, he, beq_iff_eq.2 heq⟩)

theorem exec_deltaForm_waits {s : State} {shard core : Nat} (h : s.holdForm.mayForm shard core = false) :
    exec (.deltaForm shard core) s = .next s.holdForm := by
  change execDeltaForm shard core s = _
  simp [execDeltaForm, h]

section
variable {s t v : State} {shard core : Nat} {c : ShardCfg} {tab : Table} {xs : List Val} {encs : List KfrEnc}

theorem exec_deltaForm (hmay : s.holdForm.mayForm shard core = true) (hcfg : s.shardCfg shard = some c) (htab : s.holdForm.deltaTable core = some tab)
    (hvals : s.holdForm.deltaValues shard c = (t, .ok xs)) (hencs : encs = (pieces 64 (xs.length / 64) xs).map (kfrEncode tab t.assoc.cslot))
    (hnan : ∀ e ∈ encs, e.nan = false)
    (hwrite : (t.countEncoded core encs).writeAll
      [(t.formBase + t.streamOff shard / 64 * (8 * tab.rate), encs.flatMap (·.bytes)),
       (t.offcutBase (!t.round.cur) + 4 * t.streamOff shard, fp32Bytes ((xs.zip (encs.flatMap (·.decoded))).map (fun x => toFp32 (x.1.sub x.2))))] = (v, 0)) :
    exec (.deltaForm shard core) s = .next ((v.noteFormed shard).formedAll tab.rate) := by
  have hcfg' : s.holdForm.shardCfg shard = some c := (congrArg (·.shardCfg shard) s.holdForm_unheld :).trans hcfg
  have hany : encs.any (·.nan) = false := List.any_eq_false.2 (fun e he => by simp [hnan e he])
  change execDeltaForm shard core s = _
  unfold execDeltaForm
  dsimp only
  rw [if_neg (by simp [hmay]), hcfg', htab]
  dsimp only
  rw [hvals]
  dsimp only
  rw [← hencs, if_neg (by simp [hany])]
  change Host.Outcome.next (match (t.countEncoded core encs).writeAll
      [(t.formBase + t.streamOff shard / 64 * (8 * tab.rate), encs.flatMap (·.bytes)),
       (t.offcutBase (!t.round.cur) + 4 * t.streamOff shard, fp32Bytes ((xs.zip (encs.flatMap (·.decoded))).map (fun x => toFp32 (x.1.sub x.2))))] with
    | (s, 0) => _ | (s, e) => _) = _
  rw [hwrite]
  rfl

end

/-! ## WAN_SEND (R465) -/

theorem exec_wanSend_waits {s : State} {i : Nat} (hpending : s.round.pendingSend = false)
    (h : s.ownHeld = false ∨ (s.site i).sentRound = some s.round.openRound) : exec (.wanSend i) s = .next s := by
  change execWanSend i s = _
  rcases h with h | h <;> simp [execWanSend, hpending, h]

/-- A packet of the module's own stream of a round: index, first block and blocks. -/
def State.deltaPacket (s : State) (round : Nat) (bs : List Byte) (rate : Nat) (k : Nat × Nat × Nat) : FrnOut :=
  FrnOut.mk 2 (deltaSeq round k.1) 1 ((s.fragment round k.2.1 k.2.2 false).bytes ++
    (bs.drop (8 * rate * k.2.1)).take (8 * rate * k.2.2)) none 0 false false

theorem exec_wanSend {s t : State} {i : Nat} {bs : List Byte} (hother : s.isOther i = true) (hpending : s.round.pendingSend = false)
    (hheld : s.ownHeld = true) (hclosing : s.round.closing = none) (hsent : (s.site i).sentRound ≠ some s.round.openRound)
    (hkm : s.sec.km ≠ none) (hex : s.round.exhausted = false) (hread : s.readMem s.assoc.sendBase (8 * s.assoc.rate * s.streamBlocks) = (t, .ok bs)) :
    exec (.wanSend i) s = .next ((t.modSite i (fun x => { x with sentRound := some s.round.openRound })).stream i
      ((streamPackets s.streamBlocks).map (t.deltaPacket s.round.openRound bs s.assoc.rate))) := by
  have hsame := State.uncounted_of_readMem hread
  have hblocks : t.streamBlocks = s.streamBlocks := (congrArg State.streamBlocks hsame :)
  change execWanSend i s = _
  unfold execWanSend
  simp only [hother, hpending, hheld, hclosing, hkm, hex, Bool.false_and, Bool.not_true, Bool.false_or, Option.isNone_none, Bool.true_and,
    bne_iff_ne.2 hsent, Bool.or_self, Bool.false_eq_true, if_false, Option.isNone_iff_eq_none, hread, hblocks]
  rfl

/-! ## Packets sent again, and acknowledgements (R457) -/

section
variable {s : State} {i seq : Nat} {e : FrnOut} (hfind : (s.site i).out.find? (fun e => e.seq == seq) = some e)
include hfind

theorem exec_packetResend (hpaused : (s.site i).paused = false) (hsent : e.sent = true) (hacked : e.acked = false)
    (hlate : e.sentAt + max (4 * (s.site i).rtt) 20000000 ≤ s.now) (hqueue : ∀ o ∈ s.round.queue, (o.site, o.seq) ≠ (i, seq)) :
    exec (.packetResend i seq) s =
      .next (s.post { cls := e.service, site := i, type := e.type, seq := e.seq, payload := e.payload, resend := true }) := by
  have hany : s.round.queue.any (fun o => o.site == i && o.seq == seq) = false :=
    List.any_eq_false.2 (fun o ho => by simpa using hqueue o ho)
  change execPacketResend i seq s = _
  unfold execPacketResend
  dsimp only
  rw [hfind]
  dsimp only
  rw [if_neg (by simp [hpaused, hsent, hacked, Nat.not_lt.2 hlate, hany])]
  rfl

theorem exec_packetResend_early (hearly : s.now < e.sentAt + max (4 * (s.site i).rtt) 20000000) : exec (.packetResend i seq) s = .next s := by
  change execPacketResend i seq s = _
  unfold execPacketResend
  dsimp only
  rw [hfind]
  dsimp only
  rw [if_pos (by simp [hearly])]

end

/-- A number is in a range of an ACK. -/
def Covers (r : SeqRange) (q : Nat) : Prop := r.first ≤ q ∧ q < r.first + r.count

/-- Runs are no more than the numbers, and every number is in a run. -/
theorem seqRuns_length (qs : List Nat) : (seqRuns qs).length ≤ qs.length := by
  induction qs with
  | nil => exact Nat.le_refl 0
  | cons a qs ih =>
    rw [seqRuns]; split
    · simp
    · next hruns =>
      rw [hruns] at ih
      simp only [List.length_cons] at ih
      split <;> simp only [List.length_cons] <;> omega

theorem seqRuns_covers (qs : List Nat) {q : Nat} (hq : q ∈ qs) : ∃ r ∈ seqRuns qs, Covers r q := by
  induction qs with
  | nil => cases hq
  | cons a qs ih =>
    have hhead {n : Nat} : Covers { first := a, count := n + 1 } a := ⟨Nat.le_refl a, by simp⟩
    have htail (h : q ≠ a) := ih ((List.mem_cons.1 hq).resolve_left h)
    rw [seqRuns]; split
    · next hruns =>
      rw [hruns] at htail
      by_cases h : q = a
      · exact ⟨_, List.mem_singleton_self _, h ▸ hhead⟩
      · obtain ⟨r, hr, -⟩ := htail h
        cases hr
    · next r rs hruns =>
      rw [hruns] at htail
      split
      · next hjoin =>
        by_cases h : q = a
        · exact ⟨_, List.mem_cons_self, h ▸ hhead⟩
        · obtain ⟨x, hx, hcover⟩ := htail h
          rcases List.mem_cons.1 hx with rfl | hx
          · refine ⟨_, List.mem_cons_self, ?_⟩
            obtain ⟨hlow, hhigh⟩ := hcover
            exact ⟨by simp only; omega, by simp only; omega⟩
          · exact ⟨x, List.mem_cons_of_mem _ hx, hcover⟩
      · by_cases h : q = a
        · exact ⟨_, List.mem_cons_self, h ▸ hhead⟩
        · obtain ⟨x, hx, hcover⟩ := htail h
          exact ⟨x, List.mem_cons_of_mem _ hx, hcover⟩

theorem insertBy_perm {α : Type} (key : α → Nat) (x : α) (xs : List α) : (insertBy key x xs).Perm (x :: xs) := by
  induction xs with
  | nil => exact .refl _
  | cons y xs ih =>
    rw [insertBy]; split
    · exact .refl _
    · exact (ih.cons y).trans (.swap x y xs)

theorem sortBy_perm {α : Type} (key : α → Nat) (xs : List α) : (sortBy key xs).Perm xs := by
  induction xs with
  | nil => exact .refl _
  | cons x xs ih => exact (insertBy_perm key x _).trans (ih.cons x)

/-- The ranges of an ACK: at most 64 (R454). -/
def SiteSt.ackRuns (x : SiteSt) : List SeqRange := (seqRuns (sortBy id x.rxSeqs.dedup)).take 64
/-- The SEQs that an ACK does not take. -/
def SiteSt.unacked (x : SiteSt) : List Nat :=
  x.rxSeqs.filter (fun q => !(x.ackRuns.any (fun r => r.first ≤ q && q < r.first + r.count)))

/-- An ACK takes all SEQs where they are at most 64. -/
theorem SiteSt.unacked_nil {x : SiteSt} (h : x.rxSeqs.length ≤ 64) : x.unacked = [] := by
  have hperm := sortBy_perm id x.rxSeqs.dedup
  have hruns : x.ackRuns = seqRuns (sortBy id x.rxSeqs.dedup) := by
    refine List.take_of_length_le ((seqRuns_length _).trans ?_)
    rw [hperm.length_eq]
    exact (List.dedup_sublist _).length_le.trans h
  refine List.filter_eq_nil_iff.2 (fun q hq => ?_)
  obtain ⟨r, hr, hlow, hhigh⟩ := seqRuns_covers _ (hperm.mem_iff.2 (List.mem_dedup.2 hq))
  rw [hruns, Bool.not_eq_true, Bool.not_eq_false', List.any_eq_true]
  exact ⟨r, hr, by simp [hlow, hhigh]⟩

theorem exec_ackSend {s : State} {i : Nat} (hother : s.isOther i = true) (hseqs : (s.site i).rxSeqs ≠ []) (hmany : 256 ≤ (s.site i).rxSinceAck) :
    exec (.ackSend i) s = .next ((s.modSite i (fun x => { x with
      rxSeqs := (s.site i).unacked, rxSinceAck := (s.site i).unacked.length, rxFirstAt := s.now,
      rxRecovery := x.rxRecovery && !(s.site i).unacked.isEmpty })).control i 3 (ackBytes (s.site i).ackRuns)) := by
  change execAckSend i s = _
  unfold execAckSend
  have hdue : ¬((s.site i).rxSinceAck < (if (s.site i).rxRecovery = true then ((64, 1000000) : Nat × Nat) else (256, 10000000)).1) := by
    split <;> dsimp only <;> omega
  dsimp only
  rw [if_neg (by simpa [hother, hseqs] using fun h => absurd h hdue)]
  rfl

theorem exec_streamPause {s : State} {i : Nat} (hout : ∃ e ∈ (s.site i).out, e.acked = false) (hquiet : (s.site i).lastAck + 1000000000 < s.now) :
    exec (.streamPause i) s = .next ((s.modSite i (fun x => { x with paused := true })).modRound (fun u =>
      { u with queue := u.queue.filter (fun o => o.site != i || o.cls == 0) })) := by
  change execStreamPause i s = _
  have hany : (s.site i).out.any (fun e => !e.acked) = true := by simpa using hout
  simp [execStreamPause, hany, hquiet]

/-- Settles O34, step by step of a delta's way. -/
theorem deltasTravel : Obligations.DeltasTravel := by
  refine ⟨fun s t v h f bs hrec hnew hfrag hpending hweight hnone hwrite => ?_,
    fun s t v shard core c tab xs encs hmay hcfg htab hvals hencs hnan hwrite => ?_, fun s shard core => exec_deltaForm_waits,
    fun s t i bs hother hpending => ⟨exec_wanSend hother hpending, exec_wanSend_waits hpending⟩,
    fun s i seq e hfind => ⟨exec_packetResend hfind, exec_packetResend_early hfind⟩,
    fun s i hother hseqs hmany => ?_, fun s i hout hquiet => ?_⟩
  · have hexec := exec_delta hrec hnew hfrag hpending hweight hnone hwrite
    generalize hw : v.modRound _ = w at hexec
    have hdelta : .first h.src f ∈ w.round.deltas := by
      rw [← hw]
      exact List.mem_append_right _ (List.mem_singleton_self _)
    have hmem : w.mem = v.mem := by rw [← hw]; rfl
    have hkept := w.tryPropose_roundKept
    generalize w.tryPropose = u at hexec hkept
    have hdeltas : u.round.deltas = w.round.deltas := (congrArg (·.2.1) hkept :)
    exact ⟨u, hexec, (congrArg (·.1) hkept :).trans hmem, .first h.src f, hdeltas ▸ hdelta, rfl, rfl, rfl, rfl, rfl⟩
  · obtain ⟨hformed, hslots, hmem, hcores⟩ := v.noteFormed_spec shard
    have haside : v.aside = (t.countEncoded core encs).aside := (congrArg (·.1.aside) hwrite).symm.trans (State.writeAll_aside _ _)
    refine ⟨v.noteFormed shard, hformed.trans ?_, hslots, hmem, hcores, exec_deltaForm hmay hcfg htab hvals hencs hnan hwrite⟩
    exact congrArg (· ++ [shard]) (congrArg (·.round.formed) haside :)
  · have hsite {β : Type} (g : SiteSt → β) (hmsg : ∀ x n, g { x with msgCount := n } = g x) (hout : ∀ x, g x.still = g x) :=
      (State.control_site (s.modSite i (fun x => { x with
        rxSeqs := (s.site i).unacked, rxSinceAck := (s.site i).unacked.length, rxFirstAt := s.now,
        rxRecovery := x.rxRecovery && !(s.site i).unacked.isEmpty })) i 3 (ackBytes (s.site i).ackRuns) hmsg hout i).trans
        (congrArg g (s.site_modSite_self i _))
    have hseqs' := hsite SiteSt.rxSeqs (fun _ _ => by rfl) (fun _ => by rfl)
    refine ⟨_, exec_ackSend hother hseqs hmany, hsite SiteSt.rxFirstAt (fun _ _ => by rfl) (fun _ => by rfl), fun q hq => ?_, fun hfew => ?_, ?_,
      State.control_mem _ _ _ _⟩
    · rw [hseqs'] at hq
      exact (List.mem_filter.1 hq).1
    · rw [hseqs']
      exact SiteSt.unacked_nil hfew
    · rw [State.control_msgCount]
      exact congrArg (·.msgCount + 1) (s.site_modSite_self i _)
  · have hexec := exec_streamPause hout hquiet
    generalize hv : s.modSite i _ = v at hexec
    have hpaused : (v.site i).paused = true := by rw [← hv, State.site_modSite_self]
    have hother (k : Nat) (hk : k ≠ i) : v.site k = s.site k := by rw [← hv, State.site_modSite_ne _ _ hk]
    have hmem : v.mem = s.mem := by rw [← hv]; rfl
    refine ⟨_, hexec, hpaused, fun o ho hsite => ?_, hother, hmem⟩
    simpa [hsite] using (List.mem_filter.1 ho).2

end Sys2Proof.Machine
end

section
/-! PROOFS. Rounds: deadlines, orphans, fetches, anchor digests and OUTER segments (O35). -/

namespace Sys2Proof.Machine

open Sys2Proof

/-! ## ROUND_DEADLINE (R468) -/

theorem exec_roundDeadline {s : State} {at_ : Nat} (hcoord : s.isCoordinator = true) (hat : s.boundaryAt = some at_)
    (hlate : at_ + s.assoc.deadline * 1000000000 ≤ s.now) (hquorum : s.assoc.q ≤ s.heldSites.length) :
    exec .roundDeadline s = .next s.propose := by
  have hdue : s.boundaryAt.any (fun t => decide (t + s.assoc.deadline * 1000000000 ≤ s.now)) = true := by
    rw [hat, Option.any_some, decide_eq_true_eq]
    exact hlate
  change execRoundDeadline s = _
  unfold execRoundDeadline
  rw [if_pos (by rw [hcoord, hdue, decide_eq_true hquorum]; rfl)]

theorem exec_roundDeadline_spec {s : State} {at_ : Nat} (hcoord : s.isCoordinator = true) (hat : s.boundaryAt = some at_)
    (hlate : at_ + s.assoc.deadline * 1000000000 ≤ s.now) (hquorum : s.assoc.q ≤ s.heldSites.length) (hclosing : s.round.closing = none) :
    ∃ u, exec .roundDeadline s = .next u ∧ u.round.proposedRound = some s.round.openRound ∧ u.mem = s.mem := by
  have hexec := exec_roundDeadline hcoord hat hlate hquorum
  have hround := s.propose_proposedRound hclosing
  have hkept := s.propose_roundKept
  generalize s.propose = u at hexec hround hkept
  exact ⟨u, hexec, hround, (congrArg Prod.fst hkept :)⟩

/-! ## ROUND_ORPHAN (R470, R477) -/

/-- A round's delta copies and its holds end without a CLOSE, but for a pending delta's. -/
def State.leaveRound (s : State) : State :=
  let t := (s.endCopies Cause.quorumLost).freynEvent Cause.quorumLost s.assoc.site s.round.openRound
  if t.formsPending then t else t.dropRoundHolds.modRound (fun u => { u with formed := [] })

/-- The round unit past a round that it orphans. -/
def RoundUnit.orphan (u : RoundUnit) (r : Nat) : RoundUnit :=
  { u with orphans := u.orphans ++ [r], lastKind := 2, lastCause := Cause.quorumLost, lastMask := 0, openRound := r + 1, sentDelta := false,
           proposal := none, accepts := 0, accepted := u.accepted.filter (fun p => r < p.round), deltas := u.deltas.filter (fun d => r < d.round) }

theorem exec_roundOrphan {s : State} {at_ : Nat} (hclosing : s.round.closing = none) (hseen : s.round.closeSeen ≠ some s.round.openRound)
    (hat : s.boundaryAt = some at_) (hlate : at_ + (s.assoc.deadline + s.assoc.closeWait) * 1000000000 ≤ s.now) :
    exec .roundOrphan s = .next (s.leaveRound.modRound (fun u => u.orphan s.round.openRound)).holdForm := by
  have hdue : s.boundaryAt.any (fun t => decide (t + (s.assoc.deadline + s.assoc.closeWait) * 1000000000 ≤ s.now)) = true := by
    rw [hat, Option.any_some, decide_eq_true_eq]
    exact hlate
  change execRoundOrphan s = _
  unfold execRoundOrphan
  rw [if_pos (by rw [hclosing, hdue, decide_eq_true hseen]; rfl)]
  rfl

theorem exec_roundOrphan_closed {s : State} (h : s.round.closing ≠ none ∨ s.round.closeSeen = some s.round.openRound) :
    exec .roundOrphan s = .next s := by
  change execRoundOrphan s = _
  unfold execRoundOrphan
  rw [if_neg]
  rcases h with h | h <;> simp [h]

theorem State.leaveRound_keeps (s : State) :
    s.leaveRound.round.orphans = s.round.orphans ∧ s.leaveRound.cores = s.cores ∧ s.leaveRound.mem = s.mem := by
  have hcopies := s.endCopies_unspent Cause.quorumLost
  unfold State.leaveRound
  generalize s.endCopies Cause.quorumLost = v at hcopies
  have hv : v.round.orphans = s.round.orphans ∧ v.cores = s.cores ∧ v.mem = s.mem :=
    ⟨(congrArg RoundUnit.orphans (State.round_of_unspent hcopies) :), State.cores_of_unspent hcopies, State.mem_of_unspent hcopies⟩
  extract_lets t
  have ht : t.round.orphans = s.round.orphans ∧ t.cores = s.cores ∧ t.mem = s.mem := hv
  clear_value t
  split
  · exact ht
  · have hunheld := t.dropRoundHolds_unheld
    exact ⟨(congrArg (·.round.orphans) hunheld :).trans ht.1, (congrArg State.cores hunheld :).trans ht.2.1, (congrArg State.mem hunheld :).trans ht.2.2⟩

theorem exec_roundOrphan_spec {s : State} {at_ : Nat} (hclosing : s.round.closing = none) (hseen : s.round.closeSeen ≠ some s.round.openRound)
    (hat : s.boundaryAt = some at_) (hlate : at_ + (s.assoc.deadline + s.assoc.closeWait) * 1000000000 ≤ s.now) :
    ∃ u, exec .roundOrphan s = .next u ∧ u.round.openRound = s.round.openRound + 1 ∧ u.round.orphans = s.round.orphans ++ [s.round.openRound] ∧
      u.round.lastKind = 2 ∧ u.round.lastCause = Cause.quorumLost ∧ u.round.proposal = none ∧ u.cores = s.cores ∧ u.mem = s.mem := by
  have hexec := exec_roundOrphan hclosing hseen hat hlate
  obtain ⟨horphans, hcores, hmem⟩ := s.leaveRound_keeps
  generalize s.leaveRound = v at hexec horphans hcores hmem
  generalize hw : v.modRound _ = w at hexec
  have hround : w.round = v.round.orphan s.round.openRound := by rw [← hw]; rfl
  have hrest : w.cores = v.cores ∧ w.mem = v.mem := by rw [← hw]; exact ⟨rfl, rfl⟩
  have hunheld := w.holdForm_unheld
  generalize w.holdForm = u at hexec hunheld
  have hheld : { u.round with formSlots := [] } = { w.round with formSlots := [] } := (congrArg State.round hunheld :)
  rw [hround] at hheld
  exact ⟨u, hexec, (congrArg RoundUnit.openRound hheld :), (congrArg RoundUnit.orphans hheld :).trans (congrArg (· ++ [s.round.openRound]) horphans),
    (congrArg RoundUnit.lastKind hheld :), (congrArg RoundUnit.lastCause hheld :), (congrArg RoundUnit.proposal hheld :),
    (congrArg State.cores hunheld :).trans (hrest.1.trans hcores), (congrArg State.mem hunheld :).trans (hrest.2.trans hmem)⟩

/-! ## Fetches (R471, R493) -/

theorem exec_fetchLimit {s : State} {f : FetchSt} (hfetch : s.round.fetch = some f) (hopen : f.done = false)
    (hlate : f.started + s.assoc.fetchLimit * 1000000000 < s.now) :
    exec .fetchLimit s = .next ((s.freynEvent Cause.timeout f.site f.round).modRound (fun u => { u with fetch := none })) := by
  change execFetchLimit s = _
  unfold execFetchLimit
  rw [hfetch]
  dsimp only
  rw [if_pos (by simp [hopen, hlate])]

/-- A fetch of an object from a site, as it begins. -/
def State.newFetch (s : State) (o : FetchObject) (site round : Nat) : FetchSt :=
  { object := o, site := site, round := round, total := s.objectSize o, started := s.now
    crc := match o with | .deltaOf i => ((s.closeIncluded.find? (fun x => x.site == i)).map (·.crc)).getD 0 | _ => 0
    tries := b2n (match o with | .deltaOf i => s.round.failed.contains i | _ => false) }

section
variable {s : State} {i src round : Nat} {o : FetchObject} (hnext : s.nextFetch = some (o, src, round))
include hnext

theorem exec_wanFetch_other (h : src ≠ i) : exec (.wanFetch i) s = .next s := by
  change execWanFetch i s = _
  unfold execWanFetch
  rw [hnext]
  dsimp only
  rw [if_neg (by simpa using fun _ => h.symm), if_pos (by simp [h])]

theorem exec_wanFetch (h : src = i) (hother : s.isOther i = true) (hkm : s.sec.km ≠ none) (hex : s.round.exhausted = false)
    (hrebase : s.round.rebaseStep ≠ 1) (hjoin : s.round.joinStep ≠ 1) (hsize : s.objectSize o ≠ 0) :
    exec (.wanFetch i) s = .next (s.beginFetch (s.newFetch o i round)) := by
  subst h
  have hsite : src ≠ s.assoc.site := by
    simp only [State.isOther, Bool.and_eq_true, bne_iff_ne] at hother
    exact hother.2
  have hbegin : (s.round.rebaseStep == 1 || s.round.joinStep == 1) = false := by simp [hrebase, hjoin]
  change execWanFetch src s = _
  unfold execWanFetch
  rw [hnext]
  simp only [hbegin, hsite, hother, hkm, hex, ne_eq, not_true_eq_false, decide_false, Bool.false_and, Bool.false_or, Bool.not_true,
    Bool.false_eq_true, if_false, Option.isNone_iff_eq_none]
  exact congrArg _ (if_neg hsize)

end

/-! ## FETCH (R454, R481) -/

theorem State.readAll_mem (rs : List (Nat × Nat)) (s : State) : (s.readAll rs).1.mem = s.mem := by
  induction rs generalizing s with
  | nil => rfl
  | cons r rs ih =>
    obtain ⟨a, n⟩ := r
    have hread := s.readMem_mem a n
    unfold State.readAll
    generalize s.readMem a n = x at hread ⊢
    obtain ⟨t, e | bs⟩ := x
    · exact hread
    · have hrest := ih t
      dsimp only
      generalize t.readAll rs = y at hrest ⊢
      obtain ⟨u, e | more⟩ := y <;> exact hrest.trans hread

theorem State.objectBytes_mem {s v : State} {o : FetchObject} {r : Except Cause (List Byte)} (h : s.objectBytes o = some (v, r)) : v.mem = s.mem := by
  unfold State.objectBytes at h
  split at h
  · cases h; rfl
  · obtain ⟨rs, -, hrs⟩ := Option.map_eq_some_iff.1 h
    have hread := State.readAll_mem rs s
    rwa [hrs] at hread

/-- Groups of bytes join to the bytes that they hold. -/
theorem byteGroups_flatten (n k : Nat) (bs : List Byte) (h : bs.length ≤ n * k) : (byteGroups n k bs).flatten = bs := by
  induction k generalizing bs with
  | zero => rw [List.length_eq_zero_iff.1 (Nat.le_zero.1 h)]; rfl
  | succ k ih =>
    have hrest : (bs.drop n).length ≤ n * k := by
      rw [List.length_drop]
      rw [Nat.mul_succ] at h
      omega
    rw [byteGroups, List.flatten_cons, ih _ hrest, List.take_append_drop]

theorem FetchObject.bytes_length (o : FetchObject) : o.bytes.length = 2 := by
  cases o <;> simp [FetchObject.bytes]

/-- The bytes of a DATA packet follow its 64-byte header. -/
theorem DataBody.bytes_drop (b : DataBody) : b.bytes.drop 64 = b.data := by
  have hlen : (b.object.bytes ++ zeros 6 ++ leBytes 8 b.round ++ leBytes 8 b.offset ++ zeros 40).length = 64 := by
    simp [FetchObject.bytes_length, zeros]
  unfold DataBody.bytes
  rw [← hlen, List.drop_left]

/-- The bytes that a FETCH names. -/
def fetchPart (b : FetchBody) (bs : List Byte) : List Byte := (bs.drop b.first).take b.length
/-- The packets that answer a FETCH, from a SEQ on. -/
def fetchAnswer (b : FetchBody) (seq : Nat) (bs : List Byte) : List FrnOut :=
  (byteGroups 8192 (((fetchPart b bs).length + 8191) / 8192) (fetchPart b bs)).zipIdx.map (fun (d, k) =>
    { type := 8, seq := seq + k, service := 2,
      payload := DataBody.bytes { object := b.object, round := b.round, offset := b.first + 8192 * k, data := d } })

theorem fetchAnswer_bytes (b : FetchBody) (seq : Nat) (bs : List Byte) :
    ((fetchAnswer b seq bs).map (fun e => e.payload.drop 64)).flatten = fetchPart b bs := by
  unfold fetchAnswer
  rw [List.map_map, List.map_congr_left (g := Prod.fst) (fun d _ => DataBody.bytes_drop _), List.zipIdx_map_fst]
  exact byteGroups_flatten _ _ _ (by omega)

theorem fetchAnswer_class (b : FetchBody) (seq : Nat) (bs : List Byte) : ∀ e ∈ fetchAnswer b seq bs, e.type = 8 ∧ e.service = 2 := by
  intro e he
  obtain ⟨d, -, rfl⟩ := List.mem_map.1 he
  exact ⟨rfl, rfl⟩

section
variable {s t : State} {h : FrnHeader} {b : FetchBody} (hrec : s.receive h 7 b.bytes = (t, true)) (hnew : h.seq ∉ (t.site h.src).heldSeqs)
include hrec hnew

theorem exec_fetch_none (hbytes : (t.noteSeq h).objectBytes b.object = none) : exec (.fetch h b) s = .next (t.noteSeq h) := by
  refine (show execFetch h b s = _ from State.allow_taken hrec hnew (by rfl)).trans ?_
  rw [hbytes]

theorem exec_fetch_error {v : State} {e : Cause} (hbytes : (t.noteSeq h).objectBytes b.object = some (v, .error e)) :
    exec (.fetch h b) s = .next (v.freynEvent e h.src b.round) := by
  refine (show execFetch h b s = _ from State.allow_taken hrec hnew (by rfl)).trans ?_
  rw [hbytes]

theorem exec_fetch {v : State} {bs : List Byte} (hbytes : (t.noteSeq h).objectBytes b.object = some (v, .ok bs)) :
    exec (.fetch h b) s = .next ((v.modSite h.src (fun x =>
      { x with msgCount := x.msgCount + (fetchAnswer b (v.nextSeq h.src) bs).length })).stream h.src (fetchAnswer b (v.nextSeq h.src) bs)) := by
  refine (show execFetch h b s = _ from State.allow_taken hrec hnew (by rfl)).trans ?_
  rw [hbytes]
  rfl

end

/-! ## DATA (R471) -/

/-- The fetch with DATA held. -/
def FetchSt.keep (f : FetchSt) (b : DataBody) : FetchSt := { f with got := f.got ++ [(b.offset, b.data)] }

section
variable {s t : State} {h : FrnHeader} {b : DataBody} {f : FetchSt} (hrec : s.receive h 8 b.bytes = (t, true)) (hnew : h.seq ∉ (t.site h.src).heldSeqs)
  (hlen : b.data.length ≤ 8192) (hfetch : t.round.fetch = some f) (hobject : ∀ k, b.object ≠ .checkpoint k)
include hrec hnew hlen hfetch hobject

/-- What DATA does while a fetch is in progress. -/
theorem exec_data : exec (.data h b) s = .next (
    if f.done || f.object ≠ b.object || f.site ≠ h.src || f.round ≠ b.round || f.total < b.offset + b.data.length then t.noteSeq h
    else if ((f.keep b).got.map (·.2.length)).sum = (f.keep b).total then
      ((t.noteSeq h).modRound (fun u => { u with fetch := some (f.keep b) })).fetchDone (f.keep b)
    else (t.noteSeq h).modRound (fun u => { u with fetch := some (f.keep b) })) := by
  refine (show execData h b s = _ from State.allow_taken hrec hnew (decide_eq_true hlen)).trans ?_
  have hfetch' : (t.noteSeq h).round.fetch = some f := hfetch
  rw [hfetch']
  obtain ⟨o, round, offset, data⟩ := b
  cases o with
  | checkpoint k => exact absurd rfl (hobject k)
  | _ => rfl

theorem exec_data_foreign
    (h' : f.done = true ∨ f.object ≠ b.object ∨ f.site ≠ h.src ∨ f.round ≠ b.round ∨ f.total < b.offset + b.data.length) :
    exec (.data h b) s = .next (t.noteSeq h) := by
  rw [exec_data hrec hnew hlen hfetch hobject, if_pos]
  rcases h' with h' | h' | h' | h' | h' <;> simp [h']

theorem exec_data_kept (hopen : f.done = false) (hobj : f.object = b.object) (hsite : f.site = h.src) (hround : f.round = b.round)
    (hend : b.offset + b.data.length ≤ f.total) (hmore : ((f.got ++ [(b.offset, b.data)]).map (fun g => g.2.length)).sum ≠ f.total) :
    exec (.data h b) s = .next ((t.noteSeq h).modRound (fun u => { u with fetch := some (f.keep b) })) := by
  rw [exec_data hrec hnew hlen hfetch hobject, if_neg (by simp [hopen, hobj, hsite, hround, Nat.not_lt.2 hend])]
  exact congrArg _ (if_neg hmore)

end

/-! ## ANCHOR_DIGEST (R482) -/

theorem State.anchorInput_uncounted (r : Nat) (ns : List Nat) (s : State) : (s.anchorInput r ns).1.uncounted = s.uncounted := by
  induction ns generalizing s with
  | nil => rfl
  | cons n ns ih =>
    unfold State.anchorInput
    split
    · exact ih s
    · next c _ =>
      have hread := s.readMem_uncounted c.anchorBase (2 * c.count)
      generalize s.readMem c.anchorBase (2 * c.count) = x at hread ⊢
      obtain ⟨t, e | bs⟩ := x
      · exact hread
      · have hrest := ih t
        dsimp only
        generalize t.anchorInput r ns = y at hrest ⊢
        obtain ⟨u, e | more⟩ := y <;> exact hrest.trans hread

section
variable {s t : State} {r : Nat} {bs : List Byte} (hlast : s.round.lastApplied = some r)
include hlast

theorem exec_anchorDigest (hkind : s.round.lastKind = 0) (hclosing : s.round.closing = none) (hround : r + 1 = s.round.openRound)
    (hlag : s.round.ownState ≠ 3) (hjoin : s.round.ownState ≠ 4) (hown : s.round.ownDigest = none)
    (hinput : s.anchorInput r s.roundShards = (t, .ok bs)) : exec .anchorDigest s =
      .next (((t.modRound (fun u => { u with ownDigest := some (r, crc64 bs) })).controlAll 9 (digestBytes r (crc64 bs))).compareAnchors r) := by
  change execAnchorDigest s = _
  unfold execAnchorDigest
  rw [hlast]
  dsimp only
  rw [if_neg (by simp [hkind, hclosing, hround, hlag, hjoin, hown]), hinput]

theorem exec_anchorDigest_once {w : Word64} (hown : s.round.ownDigest = some (r, w)) : exec .anchorDigest s = .next s := by
  change execAnchorDigest s = _
  unfold execAnchorDigest
  rw [hlast]
  dsimp only
  rw [if_pos (by simp [hown])]

theorem exec_anchorDigest_spec (hkind : s.round.lastKind = 0) (hclosing : s.round.closing = none) (hround : r + 1 = s.round.openRound)
    (hlag : s.round.ownState ≠ 3) (hjoin : s.round.ownState ≠ 4) (hown : s.round.ownDigest = none)
    (hinput : s.anchorInput r s.roundShards = (t, .ok bs)) :
    ∃ u, exec .anchorDigest s = .next u ∧ u.round.ownDigest = some (r, crc64 bs) ∧ u.mem = s.mem := by
  have hexec := exec_anchorDigest hlast hkind hclosing hround hlag hjoin hown hinput
  have hread := State.anchorInput_uncounted r s.roundShards s
  rw [hinput] at hread
  generalize hv : t.modRound _ = v at hexec
  have hdigest : v.round.ownDigest = some (r, crc64 bs) := by rw [← hv]; rfl
  have hmem : v.mem = t.mem := by rw [← hv]; rfl
  have hkept := (State.compareAnchors_voteKept _ r).trans (v.controlAll_voteKept 9 (digestBytes r (crc64 bs)))
  generalize State.compareAnchors _ r = u at hexec hkept
  exact ⟨u, hexec, (congrArg (·.1.2.2.1) hkept :).trans hdigest, (congrArg (·.1.1) hkept :).trans (hmem.trans (congrArg State.mem hread :))⟩

end

/-! ## OUTER segments (R471, R479) -/

/-- The OUTER segment that goes over the elements of an INNER segment. -/
def State.outerSeg (s : State) (g : Segment) : Segment :=
  { g with
    desc := BitVec.ofNat 256 (g.desc.toNat - fld g.desc.toNat 231 16 * 2 ^ 231 - fld g.desc.toNat 0 8 +
      (if s.assoc.outerRule = .custom then s.assoc.outerKernel else 0) % 2 ^ 16 * 2 ^ 231 + 2)
    phase := .queued, chunk := 0, issues := 0, advanced := false }

theorem State.outerSeg_op (s : State) (g : Segment) : (s.outerSeg g).udesc.op = 2 := by
  have hfield : fld g.desc.toNat 231 16 * 2 ^ 231 ≤ g.desc.toNat := by
    unfold fld bitsOf
    rw [Nat.shiftRight_eq_div_pow]
    exact (Nat.mul_le_mul_right _ (Nat.mod_le _ _)).trans (Nat.div_mul_le_self _ _)
  have hdvd : 256 ∣ 2 ^ 231 := ⟨2 ^ 223, by norm_num⟩
  obtain ⟨x, hx⟩ : 256 ∣ fld g.desc.toNat 231 16 * 2 ^ 231 := hdvd.mul_left _
  obtain ⟨y, hy⟩ : 256 ∣ (if s.assoc.outerRule = .custom then s.assoc.outerKernel else 0) % 2 ^ 16 * 2 ^ 231 := hdvd.mul_left _
  have hlow : fld g.desc.toNat 0 8 = g.desc.toNat % 256 := by simp [fld, bitsOf]
  change fld (s.outerSeg g).desc.toNat 0 8 = 2
  rw [State.outerSeg, BitVec.toNat_ofNat, hlow, hy]
  rw [hx] at hfield ⊢
  generalize g.desc.toNat = w at hfield
  simp only [fld, bitsOf, Nat.shiftRight_zero]
  rw [Nat.mod_mod_of_dvd _ (by norm_num : (2 : Nat) ^ 8 ∣ 2 ^ 256)]
  omega

/-- The OUTER segments that a shard gets on a core. -/
def State.outerSegs (s : State) (n core : Nat) : List Segment :=
  ((s.core core).up.kept.filter (fun g => g.udesc.shard == n && g.udesc.op == 1)).map s.outerSeg

theorem State.outerSegs_mem {s : State} {n core : Nat} : ∀ g ∈ s.outerSegs n core,
    g.phase = .queued ∧ g.chunk = 0 ∧ g.advanced = false ∧ g.udesc.op = 2 := by
  intro g hg
  obtain ⟨k, -, rfl⟩ := List.mem_map.1 hg
  exact ⟨rfl, rfl, rfl, s.outerSeg_op k⟩

/-- The OUTER segments of a shard are issued on a core. -/
def State.issueOuter (s : State) (n core : Nat) : State :=
  (s.modRound (fun u => { u with outerIssued := u.outerIssued ++ [(n, core)] })).modUp core (fun u => { u with segs := u.segs ++ s.outerSegs n core })

section
variable {s : State} {n core : Nat}

theorem exec_outerSegment_waits
    (h : s.roundShards.contains n = false ∨ s.round.outerIssued.contains (n, core) = true ∨ (s.shardSt n).reports ≠ 0 ∨ (s.shardSt n).hasState = false) :
    exec (.outerSegment n core) s = .next s := by
  change execOuterSegment n core s = _
  unfold execOuterSegment
  rw [if_pos]
  rcases h with h | h | h | h <;> simp only [h, Bool.not_false, Bool.true_or, Bool.or_true, decide_true, ne_eq, not_false_eq_true]

theorem exec_outerSegment (hshard : s.roundShards.contains n = true) (hdone : s.round.outerDone.contains n = false)
    (hissued : s.round.outerIssued.contains (n, core) = false) (hinputs : s.outerInputs = true) (hreports : (s.shardSt n).reports = 0)
    (hbusy : s.shardBusy n 1 = false) (hcommit : (s.shardSt n).uncommitted = false) (hstate : (s.shardSt n).hasState = true)
    (hsegs : ∀ g ∈ (s.core core).up.segs, g.udesc.shard ≠ n) (hkept : s.outerSegs n core ≠ []) (hdie : s.dieRunning (coreDie core) = true) :
    exec (.outerSegment n core) s = .next (State.runSegs 8 core (s.issueOuter n core)) := by
  have hany : (s.core core).up.segs.any (fun g => g.udesc.shard == n) = false :=
    List.any_eq_false.2 (fun g hg => by simpa using hsegs g hg)
  have hmine : ((s.core core).up.kept.filter (fun g => g.udesc.shard == n && g.udesc.op == 1)).isEmpty = false := by
    rw [Bool.eq_false_iff, ne_eq, List.isEmpty_iff]
    exact fun h => hkept (congrArg (List.map s.outerSeg) h)
  change execOuterSegment n core s = _
  unfold execOuterSegment
  dsimp only
  rw [if_neg]
  · rfl
  · simp only [hshard, hdone, hissued, hinputs, hreports, hbusy, hcommit, hstate, hany, hmine, hdie, Bool.not_true, Bool.or_self, ne_eq, not_true_eq_false,
      decide_false, Bool.false_eq_true, not_false_eq_true]

theorem State.issueOuter_segs : ((s.issueOuter n core).core core).up.segs = (s.core core).up.segs ++ s.outerSegs n core :=
  congrArg UpdateEngine.segs (State.modUp_up _ core _)

end

/-- Settles O35, step by step of a round. -/
theorem roundsAdvance : Obligations.RoundsAdvance := by
  refine ⟨fun s at_ => exec_roundDeadline_spec, fun s => exec_roundOrphan_closed, fun s at_ => exec_roundOrphan_spec,
    fun s f hfetch hopen hlate => ⟨_, exec_fetchLimit hfetch hopen hlate, rfl, rfl, rfl⟩,
    fun s i src round o hnext => ⟨exec_wanFetch_other hnext, fun h hother hkm hex hrebase hjoin hsize =>
      ⟨s.newFetch o i round, exec_wanFetch hnext h hother hkm hex hrebase hjoin hsize, rfl, rfl, rfl, rfl, rfl⟩⟩,
    fun s t h b hrec hnew => ⟨exec_fetch_none hrec hnew, fun v bs hbytes => ?_, fun v e => exec_fetch_error hrec hnew⟩,
    fun s t h b f hrec hnew hlen hfetch hobject => ⟨exec_data_foreign hrec hnew hlen hfetch hobject, fun hopen hobj hsite hround hend hmore =>
      ⟨_, exec_data_kept hrec hnew hlen hfetch hobject hopen hobj hsite hround hend hmore, rfl, rfl⟩⟩,
    fun s t r bs hlast hkind hclosing hround hlag hjoin => ⟨exec_anchorDigest_spec hlast hkind hclosing hround hlag hjoin,
      fun w => exec_anchorDigest_once hlast⟩,
    fun s n core => ⟨exec_outerSegment_waits, fun hshard hdone hissued hinputs hreports hbusy hcommit hstate hsegs hkept hdie => ?_⟩⟩
  · exact ⟨_, exec_fetch hrec hnew hbytes, fetchAnswer_bytes b _ bs, fetchAnswer_class b _ bs, (State.objectBytes_mem hbytes).trans rfl⟩
  · obtain ⟨g, hg, hshape⟩ := hkept
    have hmore : s.outerSegs n core ≠ [] :=
      List.ne_nil_of_mem (List.mem_map_of_mem (List.mem_filter.2 ⟨hg, by simp [hshape]⟩))
    exact ⟨_, _, exec_outerSegment hshard hdone hissued hinputs hreports hbusy hcommit hstate hsegs hmore hdie, State.issueOuter_segs, hmore,
      State.outerSegs_mem, OnlyCore.modUp core (s.modRound _) _⟩

end Sys2Proof.Machine
end
